-- ==== Sys2Proof/Word.lean ====
section
/-! DEFINITION. The words the device handles: bytes, byte strings, and the few plain shapes of data
that several files share. -/

namespace Sys2Proof

/-- One byte (00, R2). -/
abbrev Byte := BitVec 8

/-- A byte string in stored order (00, R3). -/
abbrev Bytes := List (BitVec 8)

/-- A sparse table: key and value pairs, keys strictly rising, no pair whose value is the table's default.
Memories are sparse tables of bytes (Host.Cell). -/
abbrev Sparse (α : Type) := List (Nat × α)

end Sys2Proof
end

