-- ==== Sys2Proof/Syntax.lean ====
section
/-! DEFINITION. The commands of the block: one constructor of Instr for each row of spec/opcode_table.json,
and the plain data they carry. A request carries its datagram, an op its op record and parameter record, a cell
its header and payload, an event the reading that it reports. -/

namespace Sys2Proof

/-- Who makes a dictionary access: a host, inside a session or not (16, R339), or the UART monitor (15, R324). -/
inductive Agent where
  | host (session : Bool)
  | monitor
deriving DecidableEq, Repr

/-- The value of a dictionary write: the type code of Table 16.11 that the writer gives, the offset into a
DOMAIN entry, and the value's bytes, least significant first (17, R346). -/
structure DictValue where
  typ : BitVec 8
  offset : Nat
  bytes : Bytes
deriving DecidableEq, Repr

/-- An IP endpoint. An IPv4 address stands in the low 32 bits. -/
structure Endpoint where
  v6 : Bool
  ip : BitVec 128
  port : BitVec 16
deriving DecidableEq, Repr, Inhabited

/-- What the port sees of a received frame before any protocol reads it (16, R327 to R329). -/
structure Frame where
  length : Nat
  fcsOk : Bool
  vlan : Option (BitVec 12)
  pcp : BitVec 3
  fragmentOrOptions : Bool
  checksumOk : Bool
deriving DecidableEq, Repr, Inhabited

/-- One Ilutrisil datagram (16, R333, Table 16.6). The row names its TYPE. The body and tag are bytes on the
wire, most significant byte first. -/
structure Msg where
  frame : Frame
  src : Endpoint
  dstPort : BitVec 16
  magic : BitVec 16
  version : BitVec 8
  session : BitVec 32
  seq : BitVec 32
  length : BitVec 16
  flags : BitVec 8
  reserved : BitVec 8
  udpLength : Nat
  body : Bytes
  tag : Bytes
deriving DecidableEq, Repr, Inhabited

/-- A received PTP message as the ordinary clock reads it (16, R331): times in ns. -/
inductive Ptp where
  | announce (domain : BitVec 8) (ptpTimescale : Bool)
  | sync (domain : BitVec 8) (twoStep : Bool) (origin rx : Nat)
  | followUp (domain : BitVec 8) (origin : Nat)
  | delayResp (domain : BitVec 8) (requestTx requestRx : Nat)
  | management
  | unicast
deriving DecidableEq, Repr

/-- The status a mailbox receiver writes (15, Table 15.5). -/
inductive MailStatus where
  | taken | completed | rejected
deriving DecidableEq, Repr

/-- The reset classes that the monitor's RESET names (15, Table 15.7). -/
inductive ResetClass where
  | cold | warm | job
deriving DecidableEq, Repr

/-- The two switched supply groups (19, R381). -/
inductive RailGroup where
  | a | b
deriving DecidableEq, Repr

/-- Where a trip comparator sits (14, R296). -/
inductive TripUnit where
  | computeDie (d : Fin 8)
  | linkDie (d : Fin 4)
  | bridgeDie (d : Fin 4)
  | spineDie (d : Fin 2)
  | managementDie
  | nearStack (s : Fin 8)
  | farStack (s : Fin 8)
deriving DecidableEq, Repr

/-- What a hardware unit reports to the fault collector (14, R289): the source code, the location of Table 14.2,
and for a memory error the ROLE of the region that holds the burst (09, R399). -/
structure Occ where
  source : BitVec 16
  kind : BitVec 4
  channel : BitVec 8
  number : BitVec 16
  role : Option (BitVec 8)
deriving DecidableEq, Repr, Inhabited

/-- The unit whose work is late (07, R138). -/
inductive MissUnit where
  | hearth (h : Fin 1152)
  | flue (h : Fin 1152)
  | cell (k : Fin 64)
  | spine (d : Fin 2)
deriving DecidableEq, Repr

/-- One 4,096 ns sensor evaluation (07, R140): unit 0 to 7 is a compute die with its near stack, unit 8 the
management processor with the bridge dies and the far stacks. Temperatures are in 1/16 degree C. -/
structure Damper where
  unit : Fin 9
  dieTemp : Int
  stackTemps : List Int
deriving DecidableEq, Repr

/-- The readings that Assay notes at an instant (18, R374, R376). -/
structure Metering where
  assayTime : BitVec 64
  energy : List (BitVec 64)
  powerNow : List (BitVec 32)
  lowPower : Bool
deriving DecidableEq, Repr, Inhabited

/-- What the end of a boot reports (13, R276; 18, R362): its length in microseconds, whether the PUF reproduced its
key, and the hearths that failed self-test or known-answer test in a warm boot. -/
structure BootReport where
  micros : BitVec 32
  pufOk : Bool
  selftestFailed : List (Fin 1152)
  katFailed : List (Fin 1152)
deriving DecidableEq, Repr

/-- One cell frame: 16-byte header and 256-byte payload (11, R223), and, of a received one, whether it overlaps a codeword
that the decoder found uncorrectable (11, R222, R225). -/
structure Cell where
  hdr : BitVec 128
  payload : Bytes
  struck : Bool := false
deriving DecidableEq, Repr, Inhabited

/-- A received time-code block (11, Table 11.4), with the period of its marker and this device's own receive time
of that marker in 1/16 ns. -/
structure TimeCode where
  markerTime : BitVec 64
  rxTime : BitVec 64
  rxMarkerTime : BitVec 64
  hops : BitVec 8
  flags : BitVec 8
  link : BitVec 8
  width : BitVec 8
  coord : BitVec 32
  crc : BitVec 32
  localRx : BitVec 64
deriving DecidableEq, Repr, Inhabited

/-- What a receiving link end has counted (11, R228): consecutive periods in which an active lane had no valid
marker, uncorrectable codewords in one period, consecutive periods without a valid time-code block; or the link has
trained below width 4 (R229). -/
structure LossReport where
  markerPeriods : Nat
  badWords : Nat
  codePeriods : Nat
  degraded : Bool
deriving DecidableEq, Repr

/-- The end of a training phase (11, Table 11.6): the phase, the physical lanes that passed it, and what T4 and T6
measured. -/
structure PhaseReport where
  phase : Nat
  lanes : BitVec 4
  peerCoord : BitVec 32
  peerLink : BitVec 6
  delay : Int
deriving DecidableEq, Repr

/-- The end of a channel's retraining (12, R252, R254): whether it passed, how many channels of the stack use a spare
lane, and how many logical channels a whole retraining of the stack found working. -/
structure ChannelReport where
  passed : Bool
  laneRepairs : BitVec 8
  working : Nat
deriving DecidableEq, Repr

/-- What the norm slot brings beside Q (09, R184; 05, R98): the master's CRC-32 of the hyperparameter sets and its
step seed, and whether another device differed from them. -/
structure NormReport where
  masterCrc : BitVec 32
  othersDiffer : Bool
  masterSeed : BitVec 64
  othersSeedDiffer : Bool
deriving DecidableEq, Repr

/-- Eight 64-bit counters: one statistics record (04, Table 4.4; 06, Table 6.4). -/
structure Stat8 where
  c0 : BitVec 64 := 0
  c1 : BitVec 64 := 0
  c2 : BitVec 64 := 0
  c3 : BitVec 64 := 0
  c4 : BitVec 64 := 0
  c5 : BitVec 64 := 0
  c6 : BitVec 64 := 0
  c7 : BitVec 64 := 0
deriving DecidableEq, Repr, Inhabited

/-- The totals that come down the tree in the statistics slot (10, Tables 10.3 and 10.4). -/
structure Totals where
  masterNextSeed : BitVec 64
  flags : BitVec 64
  conv : Sparse Stat8
  vec : Sparse Stat8
  prod : Sparse Stat8
  thresholds : BitVec 32
  nanLimit : BitVec 32
  silence : BitVec 32
  norms : List (BitVec 48 × BitVec 48 × BitVec 48)
deriving DecidableEq, Repr

/-- A data-path op: the physical hearth, its op record (07, Tables 7.14 to 7.16) and its parameter record (Table
7.17; zero where the op has none). -/
structure OpCmd where
  hearth : Fin 1152
  op : BitVec 256
  par : BitVec 512
deriving DecidableEq, Repr, Inhabited

/-- The commands of the block, in the order of spec/opcode_table.json. -/
inductive Instr where
  /-- POWER_UP (R267). Command that powers the logic dies, starts link training, trains memory and moves STANDBY toward IDLE. -/
  | powerUp (a : Agent) (arg : BitVec 16)
  /-- POWER_DOWN (R383). Command that isolates and unpowers all but the management die and Assay, moving IDLE to STANDBY. -/
  | powerDown (a : Agent) (arg : BitVec 16)
  /-- LOAD (R144). Command that starts verification of the image in the image store (a relay image only in BANKED). -/
  | load (a : Agent) (arg : BitVec 16)
  /-- RESTORE (R285). Command that starts reading a context image from the open context channel in LOADED. -/
  | restoreContext (a : Agent) (arg : BitVec 16)
  /-- EXPORT (R283). Command that starts writing a context image to the open device-to-host context channel. -/
  | exportContext (a : Agent) (arg : BitVec 16)
  /-- ARM (R269). Command that checks the start conditions and enters ARMED, or sets ARM_PENDING on a non-master. -/
  | arm (a : Agent) (arg : BitVec 16)
  /-- HOLD (R271). Command that sets HOLD_REQUESTED for the next statistics slot. -/
  | hold (a : Agent) (arg : BitVec 16)
  /-- RESUME (R272). Command on the fabric master that floods a REPLAY_START to return HELD devices to RUNNING. -/
  | resume (a : Agent) (arg : BitVec 16)
  /-- JOB_RESET (R274). Command that unloads the job, closes channels, discards the job key and starts zeroisation of private memory. -/
  | jobReset (a : Agent) (arg : BitVec 16)
  /-- HEARTH_RESET (R277). Command that fences a hearth, resets it and starts its self-test. -/
  | hearthReset (a : Agent) (arg : BitVec 16)
  /-- UNFENCE_HEARTH (R277). Command that clears the fence bit of a hearth whose last self-test passed. -/
  | unfenceHearth (a : Agent) (arg : BitVec 16)
  /-- BANK (R305). Command that takes the device to BANKED, halting first if RUNNING. -/
  | bank (a : Agent) (arg : BitVec 16)
  /-- WARM_RESET (R275). Command that puts stacks in self-refresh, records the job and reboots to IDLE. -/
  | warmReset (a : Agent) (arg : BitVec 16)
  /-- COLD_RESET (R273). Command that performs a cold reset and reboots to STANDBY. -/
  | coldReset (a : Agent) (arg : BitVec 16)
  /-- READ (R339). Ilutrisil request that reads one dictionary entry or a piece of a DOMAIN or STRING entry. -/
  | readEntry (m : Msg)
  /-- WRITE (R339). Ilutrisil request that writes one dictionary entry. -/
  | writeEntry (m : Msg)
  /-- READ_BLOCK (R339). Ilutrisil request that reads up to 64 entries at one instant. -/
  | readBlock (m : Msg)
  /-- WRITE_BLOCK (R339). Ilutrisil request that applies up to 64 entry writes in order, stopping at the first refusal. -/
  | writeBlock (m : Msg)
  /-- SESSION_NONCE (R336). Ilutrisil request that returns a fresh 32-byte nonce for opening a session. -/
  | sessionNonce (m : Msg)
  /-- SESSION_OPEN (R336). Ilutrisil request that checks nonce, owner and signature, unwraps the session key and opens a session. -/
  | sessionOpen (m : Msg)
  /-- SESSION_CLOSE (R338). Ilutrisil request that closes a session, its bulk channels and its mailbox locks. -/
  | sessionClose (m : Msg)
  /-- BULK_OPEN (R340). Ilutrisil request that opens a bulk channel of a given kind, direction and target. -/
  | bulkOpen (m : Msg)
  /-- BULK_DATA (R341). Bulk message carrying up to 8 units of a window, stored or acted on by the receiver. -/
  | bulkData (m : Msg)
  /-- BULK_ACK (R342). Bulk message acknowledging the units of a window, prompting resends or completion. -/
  | bulkAck (m : Msg)
  /-- BULK_CLOSE (R343). Bulk message that ends a channel for both ends with a reason. -/
  | bulkClose (m : Msg)
  /-- SESSION_TIMEOUT (R338). Expiry of SESSION_TIMEOUT without a valid message, closing the session. -/
  | sessionTimeout (session : BitVec 32)
  /-- NONCE_EXPIRY (R336). Expiry of a held session nonce after 10 s. -/
  | nonceExpiry (nonce : Bytes)
  /-- ACK_DELAY_EXPIRY (R342). Expiry of ACK_DELAY after a window's first unit, sending a BULK_ACK. -/
  | ackDelayExpiry (channel : BitVec 16) (window : Nat)
  /-- RETX_TIMEOUT (R342). Expiry of RETX_TIMEOUT without a BULK_ACK, resending with ACK_NOW or closing at the retry limit. -/
  | retxTimeout (channel : BitVec 16) (window : Nat)
  /-- ARP_REQUEST (R328). Received ARP request for the device's IPv4 address, answered. -/
  | arpRequest (f : Frame) (senderMac : BitVec 48) (senderIp : BitVec 32) (targetIp : BitVec 32)
  /-- NEIGHBOR_SOLICITATION (R328). Received IPv6 Neighbor Solicitation for one of the device's addresses, answered. -/
  | neighborSolicitation (f : Frame) (senderMac : BitVec 48) (senderIp : BitVec 128) (targetIp : BitVec 128)
  /-- ICMP_ECHO_REQUEST (R328). Received ICMPv4 or ICMPv6 echo request, answered. -/
  | icmpEchoRequest (f : Frame) (src : Endpoint) (dst : BitVec 128) (ident : BitVec 32) (payload : Bytes)
  /-- PFC_FRAME (R330). Received IEEE 802.1Qbb priority flow control frame, honoured for PFC_PRIORITIES. -/
  | pfcFrame (f : Frame) (enables : BitVec 8) (quanta : List (BitVec 16))
  /-- PFC_REPEAT (R330). 200 us timer that repeats the pause of BULK_PCP while the receive buffer stays at 24 MiB or more. -/
  | pfcRepeat
  /-- PFC_RESUME (R330). Receive buffer drains below 16 MiB and a PFC frame with quanta 0 is sent. -/
  | pfcResume (drained : Nat)
  /-- PTP_MESSAGE (R331). Received PTP message handled by the time-receiver-only ordinary clock. -/
  | ptpMessage (f : Frame) (p : Ptp)
  /-- RD (R324). Monitor command that reads a dictionary entry. -/
  | monRd (index : BitVec 16) (sub : BitVec 8) (offset : Nat) (count : Nat)
  /-- WR (R324). Monitor command that writes a dictionary entry. -/
  | monWr (index : BitVec 16) (sub : BitVec 8) (value : Nat)
  /-- MB_LOCK (R314). Monitor command that reads a mailbox LOCK, possibly acquiring it. -/
  | monMbLock (m : Fin 32)
  /-- MB_SEND (R316). Monitor command that writes data words and sends a mailbox message. -/
  | monMbSend (m : Fin 32) (code : BitVec 8) (words : List (BitVec 32))
  /-- MB_SHOW (R312). Monitor command that returns a mailbox's CONTROL and DATA words. -/
  | monMbShow (m : Fin 32)
  /-- MB_STATUS (R316). Monitor command that writes a mailbox STATUS as receiver. -/
  | monMbStatus (m : Fin 32) (st : MailStatus) (len : BitVec 5)
  /-- MB_FREE (R314). Monitor command that releases a mailbox lock. -/
  | monMbFree (m : Fin 32)
  /-- LOG (R299). Monitor command that returns a fault log record. -/
  | monLog (n : Nat)
  /-- PEEK (R325). Monitor command that reads corrected bytes of a region of the loaded image in DEBUG. -/
  | monPeek (tier : BitVec 2) (region : BitVec 16) (offset : Nat) (len : Nat)
  /-- RESET (R324). Monitor command that issues a cold, warm or job reset. -/
  | monReset (cls : ResetClass)
  /-- BAUD (R323). Monitor command that selects a new UART rate. -/
  | monBaud (rate : Nat)
  /-- LOCK (R314). Read of a mailbox LOCK that acquires a free lock or returns the owner. -/
  | mailLock (m : Fin 32) (agent : Fin 64)
  /-- LOCK_RELEASE (R314). Write of 0 to a mailbox LOCK that clears the mailbox and frees the lock. -/
  | mailRelease (m : Fin 32) (agent : Fin 64)
  /-- GO (R316). CONTROL write with GO = 1 that sends a mailbox message, or aborts it if the receiver is absent. -/
  | mailGo (m : Fin 32) (agent : Fin 64) (len : BitVec 5) (code : BitVec 8)
  /-- MAILBOX_WITHDRAW (R318). CONTROL write with GO = 0 that withdraws a PENDING message. -/
  | mailboxWithdraw (m : Fin 32) (agent : Fin 64)
  /-- TAKEN (R316). Receiver's STATUS write that takes a PENDING message. -/
  | mailTaken (m : Fin 32) (agent : Fin 64)
  /-- DONE (R316). Receiver's STATUS write that completes a message with a reply. -/
  | mailDone (m : Fin 32) (agent : Fin 64) (len : BitVec 5)
  /-- REJECTED (R316). Receiver's STATUS write that rejects a message. -/
  | mailRejected (m : Fin 32) (agent : Fin 64)
  /-- ECHO (R322). Mailbox message whose receiver returns the same words. -/
  | mailEcho (m : Fin 32)
  /-- JOB_START (R376). Mailbox message to Assay that opens a job record, closing any open one as SUPERSEDED. -/
  | jobStart (m : Metering)
  /-- JOB_END (R376). Mailbox message to Assay that closes the open record with its reason, signs it and stores it. -/
  | jobEnd (m : Metering)
  /-- RECORD_READY (R376). Assay's notice of a closed record, sent once the previous notice has been answered. -/
  | recordReady
  /-- DICTIONARY_WRITE (R349). Write to an entry that has no behaviour of its own, applied field by field under the access rules. -/
  | dictionaryWrite (a : Agent) (index : BitVec 16) (sub : BitVec 8) (v : DictValue)
  /-- TAI_SET (R128). Write that sets fabric time at once under FREE or pends it for the next accepted TIME_PPS edge. -/
  | taiSet (a : Agent) (t : BitVec 64)
  /-- START_TIME_WRITE (R134). Write of START_TIME on the master, which then floods it to every device. -/
  | startTimeWrite (a : Agent) (t : BitVec 64)
  /-- FABRIC_ID (R218). Write of torus shape and coordinate, releasing links held for a wiring error. -/
  | fabricIdWrite (a : Agent) (id : BitVec 64)
  /-- FENCE (R230). LINK_CONTROL write that fences a link permanently. -/
  | fenceLink (a : Agent) (k : Fin 64)
  /-- RETRAIN (R226). LINK_CONTROL write that retrains a link from T1. -/
  | retrainLink (a : Agent) (k : Fin 64)
  /-- FORCE_DOWN (R238). LINK_CONTROL write that holds a link in DOWN or releases it. -/
  | forceDownLink (a : Agent) (k : Fin 64) (on : Bool)
  /-- STAT_READ_SELECT (R214). SELECT write that latches a statistics record of the last completed step. -/
  | statReadSelect (a : Agent) (sel : BitVec 32)
  /-- FAULT_LOG_SELECT (R302). SELECT write that latches a fault log record. -/
  | faultLogSelect (a : Agent) (sel : BitVec 32)
  /-- CLEAR (R302). Write that empties the fault log ring. -/
  | clearLog (a : Agent) (v : BitVec 8)
  /-- SOURCE_SELECT (R302). SELECT write that chooses a fault source and latches its COUNT. -/
  | sourceSelect (a : Agent) (code : BitVec 16)
  /-- FORCE (R302). CONTROL write with FORCE = 1 that schedules an injected fault occurrence. -/
  | forceFault (a : Agent) (ctl : BitVec 32)
  /-- ERR_HELD (R295). Write of 1 to ERR_HELD that releases ERR_N. -/
  | errHeldRelease (a : Agent)
  /-- ROTATE_REQUEST (R252). Write that queues a repair rotation of a logical channel. -/
  | rotateRequest (a : Agent) (stack : Fin 16) (ch : BitVec 8)
  /-- VERIFY (R261). Write that starts hashing a STAGING retained region. -/
  | verifyRetained (a : Agent) (r : Fin 16) (v : BitVec 8)
  /-- WRAPPED_JOB_KEY (R357). Write that unwraps and installs a job key. -/
  | wrappedJobKey (a : Agent) (offset : Nat) (key : Bytes)
  /-- NONCE (R371). Write of a host nonce that starts an attestation quote. -/
  | attestNonce (a : Agent) (nonce : Bytes)
  /-- LOAD_DONE (R144). End of image verification, entering LOADED or recording the failure code. -/
  | loadDone
  /-- RESTORE_DONE (R285). End of a restore, writing the state and RESULT and closing the context channel. -/
  | restoreDone
  /-- ZEROISATION_DONE (R260). End of zeroisation after POWER_UP or a job reset, leading to IDLE. -/
  | zeroisationDone (micros : BitVec 32)
  /-- SELFTEST_DONE (R277). End of a hearth self-test, recording its result. -/
  | selftestDone (h : Fin 1152) (passed : Bool) (katPassed : Bool)
  /-- HASH_DONE (R261). End of a retained-region hash, making the record INTACT or setting HASH_FAIL. -/
  | hashDone (r : Fin 16)
  /-- QUOTE_DONE (R371). End of quote signing, making QUOTE_STATUS ready. -/
  | quoteDone
  /-- POWER_ON (R268). Supplies reach their limits with RST_N high, entering BOOT. -/
  | powerOn
  /-- RST_N_LOW (R388). Qualified low on RST_N, a cold reset; Assay closes the open record with RESET. -/
  | rstNLow (width : Nat) (m : Metering)
  /-- RST_N_RISE (R276). RST_N rises and boot begins. -/
  | rstNRise
  /-- BOOT_END (R276). End of boot, entering STANDBY, IDLE or FAULTED. -/
  | bootEnd (b : BootReport)
  /-- RAIL_GOOD_RISE (R382). A RAIL_GOOD input rises, letting the power-up sequence continue. -/
  | railGoodRise (g : RailGroup)
  /-- RAIL_GOOD_FALL (R382). A RAIL_GOOD input falls while its enable is high, raising source 0x0504. -/
  | railGoodFall (g : RailGroup)
  /-- RAIL_GOOD_TIMEOUT (R382). A RAIL_GOOD has not risen 10 ms after its enable, raising source 0x0504. -/
  | railGoodTimeout (g : RailGroup)
  /-- PWRCAP_ASSERT (R158). PWRCAP_N qualified low, gating all hearth clocks. -/
  | pwrcapAssert (width : Nat)
  /-- PWRCAP_RELEASE (R158). PWRCAP_N rises and hearth clocks resume. -/
  | pwrcapRelease
  /-- THERMAL_TRIP (R296). A die or stack trip comparator trips, driving THERMTRIP_N and entering FAULTED. -/
  | thermalTrip (u : TripUnit)
  /-- TIME_PPS_EDGE (R388). Rising edge on TIME_PPS, timestamped and applied to the master's time base and any pending TAI_SET. -/
  | timePpsEdge (early : Int)
  /-- PPS_TIMEOUT (R133). Three seconds without an accepted TIME_PPS edge; the master enters holdover with REF_LOST. -/
  | ppsTimeout
  /-- ASSAY_UPDATE_REQUEST (R377). ASSAY_UPDATE_N is held low, requesting an Assay firmware update. -/
  | assayUpdateRequest
  /-- ASSAY_FIRMWARE_INSTALL (R377). Installation of Assay firmware once no record is open. -/
  | assayFirmwareInstall
  /-- VASSAY_RETURN (R376). VASSAY returns after a loss and the open record closes with POWER_LOSS. -/
  | vassayReturn (m : Metering)
  /-- ASSAY_CHECKPOINT (R376). One-second timer storing the open record's running values in Assay MRAM. -/
  | assayCheckpoint (m : Metering)
  /-- WORK_COUNT_DELIVERY (R375). Delivery of hearth work counts over the counter network, added to the record and WORK_TOTAL. -/
  | workCountDelivery
  /-- MGMT_WATCHDOG_EXPIRY (R298). Expiry of the management processor watchdog, starting its restart. -/
  | mgmtWatchdogExpiry
  /-- MGMT_RESTART_DONE (R298). End of the management processor's restart, logging 0x0609 and entering FAULTED. -/
  | mgmtRestartDone
  /-- HEARTBEAT_TIMEOUT (R298). Link dies see no control-ring heartbeat for 10 ms and relay on their own. -/
  | heartbeatTimeout
  /-- FAULT_OCCURRENCE (R289). The collector classifies, counts and logs a detected occurrence and carries out its reaction. -/
  | faultOccurrence (o : Option Occ)
  /-- FORCED_OCCURRENCE (R304). A pending forced occurrence is classified at its slot boundary. -/
  | forcedOccurrence
  /-- ERR_PULSE_END (R295). End of the 10 us ERR_N minimum, letting ERR_N rise if released. -/
  | errPulseEnd
  /-- SLOT_BOUNDARY (R134). A slot begins: ops and transfers start, maintenance window work, halts stop, spine lockstep compares. -/
  | slotBoundary (lockstepOk : Bool)
  /-- FRAME_BOUNDARY (R134). A frame begins: rate, link tables, step start, replay start, remaps and step-boundary changes apply. -/
  | frameBoundary
  /-- START_TIME_REACHED (R270). START_TIME arrives: ARMED devices enter RUNNING, others set START_MISSED. -/
  | startTimeReached
  /-- SLOT_MISS (R138). An allotment, transfer duration or cell deadline expires with work incomplete. -/
  | slotMiss (m : MissUnit)
  /-- DAMPER_EVALUATION (R140). 4,096 ns sensor evaluation forming the rate request and the local emergency gate. -/
  | damperEvaluation (d : Damper)
  /-- MATMUL (R49). Matrix op forming exact block sums, group windows, tree nodes and the output stage. -/
  | matmul (c : OpCmd)
  /-- CONVERT (R68). Converter op producing a narrow tensor with scales, outliers, tag and statistics. -/
  | convert (c : OpCmd)
  /-- VCOPY (R102). Vector op copying a stream. -/
  | vcopy (c : OpCmd)
  /-- VCVT (R102). Vector op converting a stream to the output format. -/
  | vcvt (c : OpCmd)
  /-- VADD (R104). Vector op adding two streams. -/
  | vadd (c : OpCmd)
  /-- VSUB (R104). Vector op subtracting two streams. -/
  | vsub (c : OpCmd)
  /-- VMUL (R104). Vector op multiplying two streams. -/
  | vmul (c : OpCmd)
  /-- VFMA (R104). Vector fused multiply-add with one rounding. -/
  | vfma (c : OpCmd)
  /-- VMIN (R104). Vector minimum. -/
  | vmin (c : OpCmd)
  /-- VMAX (R104). Vector maximum. -/
  | vmax (c : OpCmd)
  /-- VRELU (R104). Vector ReLU as VMAX with +0. -/
  | vrelu (c : OpCmd)
  /-- VABS (R102). Vector op clearing the sign bit. -/
  | vabs (c : OpCmd)
  /-- VNEG (R102). Vector op inverting the sign bit. -/
  | vneg (c : OpCmd)
  /-- VSCALE2 (R104). Vector op multiplying by 2^k. -/
  | vscale2 (c : OpCmd)
  /-- VCMP (R104). Vector compare writing a mask bit per predicate. -/
  | vcmp (c : OpCmd)
  /-- VSEL (R102). Vector select by mask plane. -/
  | vsel (c : OpCmd)
  /-- VRCP (R105). Correctly rounded reciprocal. -/
  | vrcp (c : OpCmd)
  /-- VRSQRT (R105). Correctly rounded reciprocal square root. -/
  | vrsqrt (c : OpCmd)
  /-- VEXP (R105). Correctly rounded exponential. -/
  | vexp (c : OpCmd)
  /-- VEXP2 (R105). Correctly rounded base-2 exponential. -/
  | vexp2 (c : OpCmd)
  /-- VTANH (R105). Correctly rounded tanh. -/
  | vtanh (c : OpCmd)
  /-- VSIGMOID (R105). Correctly rounded sigmoid. -/
  | vsigmoid (c : OpCmd)
  /-- VSILU (R106). Fused SiLU defined by its roundings. -/
  | vsilu (c : OpCmd)
  /-- VDIV (R105). Correctly rounded division. -/
  | vdiv (c : OpCmd)
  /-- VSQRT (R105). Correctly rounded square root. -/
  | vsqrt (c : OpCmd)
  /-- VLOG (R105). Correctly rounded natural logarithm. -/
  | vlog (c : OpCmd)
  /-- VLOG2 (R105). Correctly rounded base-2 logarithm. -/
  | vlog2 (c : OpCmd)
  /-- VERF (R105). Correctly rounded error function. -/
  | verf (c : OpCmd)
  /-- VGELU (R106). Fused GELU defined by its roundings. -/
  | vgelu (c : OpCmd)
  /-- VDROP (R111). Coordinate-keyed drop-out. -/
  | vdrop (c : OpCmd)
  /-- VINITU (R112). Uniform initialisation from class 0x3 bits. -/
  | vinitu (c : OpCmd)
  /-- VINITN (R112). Inverse-CDF normal initialisation from class 0x3 bits. -/
  | vinitn (c : OpCmd)
  /-- VRAND (R113). Raw 32-bit draws from class 0x5 bits. -/
  | vrand (c : OpCmd)
  /-- VCSUM (R87). Compensated sum writing ingot and filings. -/
  | vcsum (c : OpCmd)
  /-- SOFTMAX (R121). Row softmax in three reads with special-row handling. -/
  | softmax (c : OpCmd)
  /-- SAMPLE (R125). Token sampling with temperature, top-k, top-p and a keyed draw. -/
  | sample (c : OpCmd)
  /-- UPD_SGDM (R188). SGD-with-momentum update of whole update tiles. -/
  | updSgdm (c : OpCmd)
  /-- UPD_ADAM (R188). Adam or AdamW update of whole update tiles. -/
  | updAdam (c : OpCmd)
  /-- UPD_SIGN (R188). Sign-momentum update of whole update tiles. -/
  | updSign (c : OpCmd)
  /-- BMAX (R116). Bellows maximum per row. -/
  | bmax (c : OpCmd)
  /-- BMIN (R116). Bellows minimum per row. -/
  | bmin (c : OpCmd)
  /-- BAMAX (R69). Bellows amax over finite elements. -/
  | bamax (c : OpCmd)
  /-- BARGMAX (R116). Bellows index and value of the largest element. -/
  | bargmax (c : OpCmd)
  /-- BSUM (R117). Bellows canonical sum. -/
  | bsum (c : OpCmd)
  /-- BSUMSQ (R117). Bellows canonical sum of squares. -/
  | bsumsq (c : OpCmd)
  /-- BPREFIX (R118). Bellows inclusive prefix sums with carry in and out. -/
  | bprefix (c : OpCmd)
  /-- BTOPK (R119). Bellows k largest values with indices. -/
  | btopk (c : OpCmd)
  /-- BNODE (R64). Bellows W48 addition of two sibling tree nodes. -/
  | bnode (c : OpCmd)
  /-- BMERGE (R119). Bellows merge of top-k lists. -/
  | bmerge (c : OpCmd)
  /-- FLUE_TRANSFER (R149). Flue transfer entry moving data between tiers, scratchpads and link buffers. -/
  | flueTransfer (h : Fin 1152) (e : BitVec 256)
  /-- FLUE_ATOMIC (R258). KIND 0x6 transfer applying a region's atomic op in the shared cache. -/
  | flueAtomic (h : Fin 1152) (e : BitVec 256)
  /-- SPINE_COMBINATION (R151). Spine combination entry forming a maximum, node sum, integer sum or OR. -/
  | spineCombination (e : BitVec 128)
  /-- DATA_CELL (R224). Received data cell matched to a receive entry, relayed or discarded as failed. -/
  | dataCell (k : Fin 64) (cell : Cell)
  /-- RETRY (R232). Received retry cell repeating a failed DEADLINE = 1 cell. -/
  | retryCell (k : Fin 64) (cell : Cell)
  /-- RETRY_REQUEST (R232). Received retry request cell; the requested cells are resent in the make-up window. -/
  | retryRequest (k : Fin 64) (cell : Cell)
  /-- IDLE (R223). Received idle cell used for equaliser adaptation. -/
  | idleCell (k : Fin 64) (cell : Cell)
  /-- HALT (R233). Received HALT cell handled by epoch, forwarded and stopping the device. -/
  | haltCell (k : Fin 64) (cell : Cell)
  /-- RATE_REQUEST (R140). Control cell from a child carrying its combined rate request. -/
  | rateRequest (k : Fin 64) (cell : Cell)
  /-- RATE_ANNOUNCE (R139). Flooded control cell giving N and the frame from which it applies. -/
  | rateAnnounce (k : Fin 64) (cell : Cell)
  /-- START_TIME (R134). Flooded control cell delivering START_TIME, completing a pending ARM. -/
  | startTimeCell (k : Fin 64) (cell : Cell)
  /-- REPLAY_START (R196). Flooded control cell naming the replay frame, restart entry, frontier and epoch; commits or restores chunks. -/
  | replayStart (k : Fin 64) (cell : Cell)
  /-- LINK_DOWN (R229). One-hop control cell notifying the peer that a link is lost. -/
  | linkDown (k : Fin 64) (cell : Cell)
  /-- LINK_UP (R230). One-hop control cell announcing a link retrained at width 4. -/
  | linkUp (k : Fin 64) (cell : Cell)
  /-- COMMIT_TOKEN (R194). Commit-class cell carrying a child's chunk token and COUNT up the tree. -/
  | commitToken (k : Fin 64) (cell : Cell)
  /-- COMMIT (R195). Commit-class cell marking chunk k COMMITTED and freeing its ring slot. -/
  | commitCell (k : Fin 64) (cell : Cell)
  /-- TIME_CODE (R235). Received time-code block giving delay and offset and steering the time base. -/
  | timeCode (k : Fin 64) (tc : TimeCode)
  /-- LOCK_ACQUIRED (R133). Offset to the parent held within 2 ns for 4,096 time codes; LOCK becomes locked. -/
  | lockAcquired
  /-- LINK_LOST (R228). Missing markers, uncorrectable codewords or time codes over the counted periods declare a link lost. -/
  | linkLost (k : Fin 64) (r : LossReport)
  /-- FEC_ALARM (R222). Corrected symbols over 16 frames exceed 2^-13, raising the FEC alarm. -/
  | fecAlarm (k : Fin 64) (words : Nat) (symbols : Nat) (received : Nat)
  /-- TRAINING_PHASE_DONE (R226). A link training phase passes or fails, advancing, dropping lanes or ending training. -/
  | trainingPhaseDone (k : Fin 64) (r : PhaseReport)
  /-- TRAINING_PHASE_TIMEOUT (R226). A training phase reaches its limit without passing. -/
  | trainingPhaseTimeout (k : Fin 64)
  /-- TRAINING_RETRY_TIMER (R226). Expiry of the wait before a DOWN link tries training again. -/
  | trainingRetryTimer (k : Fin 64)
  /-- ROTATE_INTERVAL_EXPIRY (R252). ROTATE_INTERVAL elapses and a routine rotation is queued. -/
  | rotateIntervalExpiry (stack : Fin 16)
  /-- ROTATION_START (R252). A queued rotation starts at a frame boundary once a spare is free, mirroring writes. -/
  | rotationStart (stack : Fin 16)
  /-- ROTATION_SWITCH (R252). Copy ends at a window's end and the logical channel moves to the spare. -/
  | rotationSwitch (stack : Fin 16)
  /-- CHANNEL_RETRAIN_DONE (R254). A rotated-out channel finishes retraining, becoming the spare or being retired. -/
  | channelRetrainDone (stack : Fin 16) (r : ChannelReport)
  /-- REFRESH_NORMAL (R250). Stack sensors below 82 C for 4,096 frames; refresh returns to normal. -/
  | refreshNormal (stack : Fin 16)
  /-- NEXT_SEED_DELIVERY (R97). The management processor delivers the next step seed to every RNG bank. -/
  | nextSeedDelivery
  /-- CLIP_FACTOR (R170). Q arrives and the spine computes the norm and clip factor, or skips the update. -/
  | clipFactor (q : BitVec 48) (r : NormReport)
  /-- FALLBACK_DECISION (R206). With totals held, levels, storm, silence, hold and the next segment list are decided. -/
  | fallbackDecision (t : Option Totals)
  /-- LINK_PERIOD (R220). Start of each 256 ns link period, when every trained link sends its lane markers and its time-code block. -/
  | linkPeriod
  /-- HALT_POSITION (R136). A cell position whose number is a multiple of 16 begins and carries a pending HALT cell, a pending control cell or idle. -/
  | haltPosition (k : Fin 64) (pos : Nat)
  /-- PORT_LINK_CHANGE (R327). The Ethernet port's link comes up or goes down, changing LINK_UP and ALIGNED in PORT_STATUS. -/
  | portLinkChange (up : Bool) (aligned : Bool)
  /-- PTP_SOURCE_LOSS (R133). The fabric master under SOURCE PTP or PTP_PPS stops receiving its PTP time transmitter, enters holdover and sets REF_LOST. -/
  | ptpSourceLoss
  /-- SUPPLY_REMOVAL (R383). The board removes the standby supplies VMGMT and VAUX and the device enters OFF. -/
  | supplyRemoval
  /-- VASSAY_LOSS (R376). VASSAY leaves tolerance, Assay stops, and its open record keeps the running values last stored. -/
  | vassayLoss (m : Metering)
  /-- CHUNK_RESTORE_DONE (R196). The far-tier controllers finish copying the open chunks back from the undo ring, and the ring slots leave the restoring state. -/
  | chunkRestoreDone
  /-- ASSAY_RESTART_DONE (R377). The Assay core finishes its restart after a firmware installation and runs the new firmware. -/
  | assayRestartDone
  /-- PFC_PAUSE_EXPIRY (R330). The pause time given in a received PFC frame's quanta runs out, and the device resumes sending on that priority. -/
  | pfcPauseExpiry (priority : Fin 8)
deriving DecidableEq, Repr

end Sys2Proof
end

