-- ==== Sys2Proof/Decode.lean ====
section
/-! DEFINITION. Decoding a word of spec/opcode_table.json. The table gives none of its 198 rows any bits (the block
has no instruction words), so no word spells a command. -/

namespace Sys2Proof

/-- The command that a word of the opcode table spells: none, since no row of the table has bits. -/
def decodeTableWord (nbits w : Nat) : Option Instr :=
  match nbits, w with
  | _, _ => none

end Sys2Proof
end

