-- ==== Sys2Proof/Config.lean ====
section
/-! DEFINITION. What the spec leaves to the implementation, the manufacture or the rest of the fabric: constants
without a body, so that no proof can see a value. A function of a Nat is applied to State's counter of free values
(log 6). -/

namespace Sys2Proof

/-- What the other shares of a split softmax or sampling row bring to its combination (06, R123): the OR-flags, the
number of +inf entries, the maximum as an FP32 code, the sibling tree nodes as W48 codes up to the root, and the
candidates of BTOPK as pairs of index and FP32 code. -/
structure SoftRest where
  nan : Bool := false
  live : Bool := false
  infs : Nat := 0
  max : BitVec 32 := 0xFF800000
  siblings : List (BitVec 48) := []
  cands : List (BitVec 32 × BitVec 32) := []
deriving DecidableEq, Repr, Inhabited

/-- Free: what the other shares of row r bring (06, R123; log 30). -/
opaque Config.softRest (fresh r : Nat) : SoftRest

/-- Free: byte i of what a read of an uncorrectable codeword or LAST line delivers (12, R248, R257; log 37). -/
opaque Config.lostByte (fresh i : Nat) : BitVec 8

/-- Free: the verdict of the rules on the PROGRAMS, FLUE, LINKS and SPINE sections of an image that join records with what
the image does not record, such as the operand roles of Table 2.11: the code, section index and record of the first
record at fault, taken where a code is not 0 (02, R38; 07, R144; log 9). -/
opaque Config.tableVerdict (image : Bytes) : Nat × Nat × Nat

/-- Where a record of the PROGRAMS, FLUE, LINKS or SPINE section belongs: the offset at which its variant's tables start,
its logical hearth, and the lost link of a one-link-down table. -/
structure RecordPlace where
  tables : Nat := 0
  hearth : Nat := 0
  down : Option Nat := none
deriving DecidableEq, Repr, Inhabited

/-- Free: the place of record i of a section: the spec gives the records of these sections and not their grouping (07, R142,
R150, R152; log 9). -/
opaque Config.recordPlace (sect : Bytes) (i : Nat) : RecordPlace

/-- Free: the nodes, as W48 codes, that complete the root of output element e of a MATMUL whose share is not the whole
reduction axis: they come in link slots, and no field names where they lie (08, R165, R166; log 153). -/
opaque Config.otherNodes (fresh e : Nat) : List (BitVec 48)

/-- Free: the word of a hearth's scratchpad, or the codeword of a DRAM channel, in which an uncorrectable error is found (06,
R110; 12, R248; log 154). -/
opaque Config.struckWord (fresh : Nat) : Nat

/-- Free: watched-layer node i of totals that the device forms alone: the spec does not place the nodes (10, R201, R203; log 53). -/
opaque Config.watchNode (fresh i : Nat) : BitVec 48

/-- Free: the steering of a device's time base leaves an offset of this less 32 sixteenths of a ns, taken modulo 65 (07, R130,
R132; log 107). -/
opaque Config.steerRest (fresh : Nat) : Nat

/-- Free: an odd sum of timestamps is halved upward (11, R235; log 54). -/
opaque Config.roundHalf (x : Int) : Bool

/-- Free: a low on PWRCAP_N between one REFCLK period and 20 ns is recognised (07, R158; log 47). -/
opaque Config.capTaken (fresh : Nat) : Bool

/-- Region and byte offset of trained tensor i's residue in the buffer of a parity, for a job: the spec gives no place
within the RESIDUE regions (08, R161; 13, R280; log 59). -/
opaque Config.residuePlace (job : BitVec 64) (parity i : Nat) : Nat × Nat

/-- Set index of a DRAM line within its home slice (12, R256; log 38). -/
opaque Config.cacheSet (key : Nat) : Nat

/-- Free: a transposed transfer that no narrow tensor covers carries F4 elements (07, R149; log 39). -/
opaque Config.transposeF4 (fresh : Nat) : Bool

/-- Free: what the device draws at random: nonces, salts, NONCE_BASE (13, R279; 16, R336; 18, R361; log 8). -/
opaque Config.random (fresh : Nat) : Bytes

/-- Free: TYPE (byte 0) and VALUE of a refused READ_BLOCK item (16, R339; log 63). -/
opaque Config.itemByte (fresh i : Nat) : BitVec 8

/-- Free: which number a new session or channel gets, and which free mailbox an EVENT takes (15, R322; 16, R336, R340;
log 46, 64). -/
opaque Config.pick (fresh : Nat) : Nat

/-- Free: a low on RST_N between 0.9 us and 1 us is taken as a cold reset (19, R388; log 47). -/
opaque Config.resetTaken (fresh : Nat) : Bool

/-- Device identity key: modulus and private exponent (18, Table 18.1; log 8). -/
opaque Config.identityModulus : Nat
/-- Private exponent of the device identity key (log 8). -/
opaque Config.identitySecret : Nat
/-- Modulus of the Assay key (log 8). -/
opaque Config.assayModulus : Nat
/-- Private exponent of the Assay key (log 8). -/
opaque Config.assaySecret : Nat
/-- SHA-256 of the vendor root public key in the mask ROM (18, Table 18.1; log 3). -/
opaque Config.vendorRoot : Bytes
/-- SHA-256 of the metrology root public key in the Assay ROM (18, Table 18.1; log 3). -/
opaque Config.metrologyRoot : Bytes
/-- The Zalsea-certified device identity key, modulus and exponent, of a SIGNER_ID, if there is one (13, R285;
log 48). -/
opaque Config.certifiedKey (id : Bytes) : Option (Nat × Nat)
/-- SERIAL, set at manufacture (17, Table 17.4; log 3). -/
opaque Config.serial : BitVec 64
/-- STEPPING, set at manufacture (17, Table 17.4; log 3). -/
opaque Config.stepping : BitVec 16
/-- IDENTITY_CERT, set at manufacture (17, Table 17.6; log 3). -/
opaque Config.identityCert : Bytes
/-- METROLOGY_CERT, set at manufacture (18, Table 18.10; log 3). -/
opaque Config.metrologyCert : Bytes
/-- MAC_ADDRESS, set at manufacture (16, Table 16.1; log 3). -/
opaque Config.macAddress : BitVec 48

end Sys2Proof
end

