-- ==== Sys2Proof/Machine/State.lean ====
section
/-! DEFINITION. The state of the block as plain data: every register, buffer, counter, mode and pin that the spec
gives the device, group by group, and the queue of waiting commands. Every field's docstring names the file and rule
of the spec that gives it and its reset value; "log n" is the entry of the assumption log that names a reset value
the spec does not give. State.reset is the state right after a cold reset. -/

namespace Sys2Proof.Machine

/-- The device states (13, Table 13.1). -/
inductive Mode where
  | off | boot | standby | idle | loaded | armed | running | held | banked | faulted
deriving DecidableEq, Repr

/-- Why a step of the block stops with a fault. -/
inductive Fault where
  /-- Raised by a data-path op whose streams run beyond the 2 MiB scratchpad of its hearth (01, R13; 07, R145): the
  address does not exist. Safe: the spec gives no effect. -/
  | scratchpadRange
deriving DecidableEq, Repr

/-- Why a step of the block has no meaning. -/
inductive Refusal where
  /-- Raised by Dispatch.lean only, for a row whose meaning is not written yet. Safe. -/
  | notModelled (mnemonic : String)
deriving DecidableEq, Repr

/-- Levels of the device's contacts (19, Table 19.7): true is high. -/
structure Pins where
  /-- [19 R387] RST_N contact. Reset high, the cold reset has ended (log 2). -/
  rstN : Bool := true
  /-- [14 R294] ERR_N output. Reset high, boot has ended (R294). -/
  errN : Bool := true
  /-- [14 R296] THERMTRIP_N output. Reset high, released (R389). -/
  thermtripN : Bool := true
  /-- [07 R158] PWRCAP_N as qualified. Reset high (pull-up of Table 19.7). -/
  pwrcapN : Bool := true
  /-- [19 R381] RAIL_EN_A output. Reset low (Table 19.2). -/
  railEnA : Bool := false
  /-- [19 R381] RAIL_EN_B output. Reset low (Table 19.2). -/
  railEnB : Bool := false
  /-- [19 R381] RAIL_GOOD_A input. Reset low (pull-down of Table 19.7). -/
  railGoodA : Bool := false
  /-- [19 R381] RAIL_GOOD_B input. Reset low (pull-down of Table 19.7). -/
  railGoodB : Bool := false
  /-- [15 R323] UART_TX output idle level. Reset high. -/
  uartTx : Bool := true
  /-- [18 R377] ASSAY_UPDATE_N input. Reset high (pull-up of Table 19.7). -/
  assayUpdateN : Bool := true
  /-- [19 R383] Standby supplies VMGMT and VAUX present. Reset present (log 2). -/
  standbySupply : Bool := true
  /-- [18 R373] VASSAY present. Reset present (log 2). -/
  vassay : Bool := true
deriving DecidableEq, Repr

/-- Values of one hyperparameter set (09, Table 9.2). -/
structure HyperSet where
  /-- [09 R184] FLAGS, Table 9.3. Reset 0x0000_0007. -/
  flags : BitVec 32 := 0x00000007
  /-- [09 R184] BETA1. Reset 0. -/
  beta1 : BitVec 32 := 0
  /-- [09 R184] BETA2. Reset 0. -/
  beta2 : BitVec 32 := 0
  /-- [09 R184] EPS. Reset 0x3F80_0000. -/
  eps : BitVec 32 := 0x3F800000
  /-- [09 R184] WEIGHT_DECAY. Reset 0. -/
  decay : BitVec 32 := 0
  /-- [09 R184] KNOT_COUNT. Reset 1. -/
  knotCount : BitVec 8 := 1
  /-- [09 R184] KNOT_STEPS, 8 step numbers. Reset all zero. -/
  knotSteps : List (BitVec 64) := [0, 0, 0, 0, 0, 0, 0, 0]
  /-- [09 R184] KNOT_LRS, 8 learning rates. Reset all zero. -/
  knotLrs : List (BitVec 32) := [0, 0, 0, 0, 0, 0, 0, 0]
  /-- [09 R185] LR_NOW. Reset 0. -/
  lrNow : BitVec 32 := 0
  /-- [09 R186] BIAS_CORR, BC1 and BC2. Reset 0x3F80_0000_3F80_0000. -/
  biasCorr : BitVec 64 := 0x3F8000003F800000
deriving DecidableEq, Repr

/-- The level byte of one layer (10, Table 10.12). -/
structure Level where
  /-- [10 R215] LEVEL. Reset 0. -/
  level : BitVec 2 := 0
  /-- [10 R215] RECOMPUTE. Reset 0. -/
  recompute : Bool := false
  /-- [10 R215] ROSE. Reset 0. -/
  rose : Bool := false
  /-- [10 R215] FELL. Reset 0. -/
  fell : Bool := false
  /-- [10 R215] PINNED. Reset 0. -/
  pinned : Bool := false
deriving DecidableEq, Repr

/-- The job record that a warm reset, BANKED and FAULTED leave in MRAM (13, R275). -/
structure JobRecord where
  /-- [13 R275] A record is held. Reset none (log 2). -/
  valid : Bool := false
  /-- [13 R275] Plan entry. Reset 0 (log 5). -/
  planEntry : BitVec 32 := 0
  /-- [13 R275] Step. Reset 0 (log 5). -/
  step : BitVec 64 := 0
  /-- [13 R275] The record was made during UPDATE. Reset false (log 5). -/
  inUpdate : Bool := false
  /-- [13 R275] COMMITTED_CHUNK. Reset -1 (log 5). -/
  committedChunk : Int := -1
  /-- [13 R275] JOB_ID. Reset 0 (log 5). -/
  jobId : BitVec 64 := 0
  /-- [13 R274] COMPLETED_STEP. Reset 0 (log 5). -/
  completedStep : BitVec 64 := 0
  /-- [13 R275] JOB_SEED. Reset zero (log 5). -/
  jobSeed : Bytes := List.replicate 32 0
  /-- [13 R275] Hyperparameter sets. Reset empty, each set at its default (log 5). -/
  sets : Sparse HyperSet := []
  /-- [13 R275] MAX_NORM. Reset its default (log 5). -/
  maxNorm : BitVec 32 := 0x7F800000
  /-- [13 R275] Entry 0x3400:01. Reset its default (log 5). -/
  thresholds : BitVec 32 := 0x8A041000
  /-- [13 R275] NAN_LIMIT. Reset its default (log 5). -/
  nanLimit : BitVec 32 := 0
  /-- [13 R275] SILENCE_CONFIG. Reset its default (log 5). -/
  silenceCfg : BitVec 32 := 0x0040000C
  /-- [13 R275] Levels of the last completed step. Reset all zero (log 5). -/
  levels : Sparse Level := []
  /-- [13 R275] Clean runs. Reset all zero (log 5). -/
  cleanRuns : Sparse (BitVec 8) := []
  /-- [13 R275] Silence counts. Reset all zero (log 5). -/
  silence : Sparse (BitVec 32) := []
deriving DecidableEq, Repr

/-- Entry 0x2000 (DEVICE), the state machine of 13 and the boot in progress. -/
structure Device where
  /-- [13 R265] STATE. Reset STANDBY (Table 13.3: 0x2). -/
  mode : Mode := .standby
  /-- [13 R266] HELD_REASON. Reset 0x0. -/
  heldReason : BitVec 4 := 0
  /-- [13 R266] LAST_RESET. Reset 0x1, cold by RST_N. -/
  lastReset : BitVec 4 := 1
  /-- [13 R270] START_MISSED. Reset 0. -/
  startMissed : Bool := false
  /-- [13 R269] ARM_PENDING. Reset 0. -/
  armPending : Bool := false
  /-- [13 R271] HOLD_REQUESTED. Reset 0. -/
  holdRequested : Bool := false
  /-- [13 R275] JOB_SUSPENDED. Reset 0. -/
  jobSuspended : Bool := false
  /-- [13 R266] ACTIVITY. Reset 0x0. -/
  activity : BitVec 4 := 0
  /-- [13 R266] REFUSED_COMMANDS. Reset 0. -/
  refused : BitVec 32 := 0
  /-- [13 R266] LAST_REFUSED. Reset 0. -/
  lastRefused : BitVec 32 := 0
  /-- [13 R266] BOOT_TIME. Reset 0. -/
  bootTime : BitVec 32 := 0
  /-- [13 R266] JOB_ID. Reset 0. -/
  jobId : BitVec 64 := 0
  /-- [13 R271] HOLD_AFTER. Reset 0. -/
  holdAfter : BitVec 64 := 0
  /-- [17 R353] BOOT_COUNT, held in MRAM. Reset 0. -/
  bootCount : BitVec 32 := 0
  /-- [13 R268] The boot in progress follows a warm reset. Reset false (log 5). -/
  bootWarm : Bool := false
  /-- [14 R308] A class F occurrence was classified during the boot in progress. Reset false (log 5). -/
  bootFatal : Bool := false
  /-- [14 R294] A qualifying occurrence was classified during the boot in progress. Reset false (log 5). -/
  bootQualified : Bool := false
  /-- [14 R309] Code of the state whose cause persists: entered again when boot ends. Reset none (log 5). -/
  causePersists : Option Mode := none
  /-- [16 R335] Refusal code that the last access or command answered. Reset 0x0000 (log 5). -/
  lastCode : BitVec 16 := 0
  /-- [14 R298] The management processor is in the restart of the watchdog. Reset false (log 5). -/
  restarting : Bool := false
  /-- [13 R276] The logic dies of the POWER_UP in progress have their supplies. Reset false (log 5). -/
  poweredUp : Bool := false
  /-- [13 R277] Hearths whose HEARTH_RESET self-test is running. Reset none (log 5). -/
  selftests : List Nat := []
deriving DecidableEq, Repr

/-- Entry 0x2010 (CONTEXT) (13, R287). -/
structure Context where
  /-- [13 R287] RESULT. Reset 0x00. -/
  result : BitVec 8 := 0
  /-- [13 R287] OP. Reset 0b00. -/
  op : BitVec 2 := 0
  /-- [13 R287] IN_PROGRESS. Reset 0. -/
  inProgress : Bool := false
  /-- [13 R287] BYTES_DONE. Reset 0. -/
  bytesDone : BitVec 64 := 0
  /-- [13 R287] BYTES_TOTAL. Reset 0. -/
  bytesTotal : BitVec 64 := 0
  /-- [13 R287] FAIL_SEGMENT. Reset 0. -/
  failSegment : BitVec 32 := 0
  /-- [13 R287] EXPORTED_STEP. Reset 0. -/
  exportedStep : BitVec 64 := 0
  /-- [13 R269] A RESTORE has run since LOAD. Reset false (log 5). -/
  restoreTried : Bool := false
deriving DecidableEq, Repr

/-- Entry 0x2400 (TIME) and the time base (07, R127 to R133). -/
structure TimeBase where
  /-- [07 R127] The time base, ns since the TAI epoch. Reset 0 (Table 7.2, log 2). -/
  now : Nat := 0
  /-- [07 R133] The device has locked at least once: FABRIC_TIME reads 0 before. Reset false. -/
  everLocked : Bool := false
  /-- [07 R134] START_TIME. Reset 0. -/
  startTime : BitVec 64 := 0
  /-- [07 R134] START_TIME is known on this device. Reset false (log 5). -/
  startKnown : Bool := false
  /-- [07 R128] PTP_DOMAIN. Reset 0x00. -/
  ptpDomain : BitVec 8 := 0
  /-- [07 R128] SOURCE. Reset 0b00. -/
  source : BitVec 2 := 0
  /-- [07 R127] MASTER. Reset 0. -/
  master : Bool := false
  /-- [07 R130] PARENT_LINK, none while no link qualifies. Reset none, reads 0. -/
  parent : Option Nat := none
  /-- [07 R130] HOPS. Reset 0. -/
  hops : BitVec 5 := 0
  /-- [07 R133] REF_LOST. Reset 0. -/
  refLost : Bool := false
  /-- [07 R133] EXCURSION. Reset 0. -/
  excursion : Bool := false
  /-- [11 R228] PARENT_SWITCH. Reset 0. -/
  parentSwitch : Bool := false
  /-- [07 R131] LONG_LINK. Reset 0. -/
  longLink : Bool := false
  /-- [07 R133] LOCK. Reset 0b00. -/
  lock : BitVec 2 := 0
  /-- [07 R128] TAI_SET. Reset 0. -/
  taiSet : BitVec 64 := 0
  /-- [07 R128] A TAI_SET value pending for the next accepted TIME_PPS edge. Reset none (log 5). -/
  taiPending : Option (BitVec 64) := none
  /-- [07 R133] PARENT_OFFSET, 1/16 ns. Reset 0. -/
  parentOffset : BitVec 32 := 0
  /-- [07 R133] Consecutive time codes with the offset within 2 ns. Reset 0 (log 5). -/
  lockRun : Nat := 0
  /-- [07 R128] Fabric time of the last accepted TIME_PPS edge. Reset none (log 5). -/
  lastPps : Option Nat := none
  /-- [07 R133] The master's source is present. Reset false (log 5). -/
  sourcePresent : Bool := false
  /-- [16 R331] The PTP clock follows a transmitter that announces the PTP timescale. Reset false (log 5). -/
  ptpTimescale : Bool := false
  /-- [16 R331] Origin and receive time of the last Sync. Reset none (log 5). -/
  ptpSync : Option (Nat × Nat) := none
  /-- [16 R331] Receive time of a two-step Sync whose Follow_Up is awaited. Reset none (log 5). -/
  ptpAwait : Option Nat := none
  /-- [09 R403] Depth in the time-parent tree, none without a path to the master. Reset none (log 5). -/
  depth : Option Nat := none
deriving DecidableEq, Repr

/-- Entry 0x2410 (RATE) and the evaluators (07, R139 to R141). -/
structure Rate where
  /-- [07 R139] RATE_N. Reset 0x10. -/
  n : Nat := 16
  /-- [07 R140] RATE_CAP. Reset 0x10. -/
  cap : Nat := 16
  /-- [07 R140] REQ_LOCAL. Reset 0x0. -/
  reqLocal : BitVec 4 := 0
  /-- [07 R140] REQ_FABRIC. Reset 0x0. -/
  reqFabric : BitVec 4 := 0
  /-- [07 R141] RATE_CHANGES. Reset 0. -/
  changes : BitVec 32 := 0
  /-- [07 R139] The announced N and the frame from which it applies. Reset none (log 5). -/
  announced : Option (Nat × Nat) := none
  /-- [07 R140] Frames for which every evaluator still holds 0x0. Reset 0 (log 5). -/
  holdFrames : Nat := 0
  /-- [07 R140] Request of each evaluator, unit 0 to 8. Reset all 0x0. -/
  requests : Sparse (BitVec 4) := []
  /-- [07 R140] Frame since which every sensor of an evaluator is below 90 C. Reset none (log 5). -/
  coolSince : Sparse (Option Nat) := []
  /-- [07 R140] Latest request received from each device whose time parent this one is, by link. Reset none. -/
  children : Sparse (Option (BitVec 4)) := []
  /-- [07 R140] A request cell is due in this frame. Reset false (log 5). -/
  requestDue : Bool := false
  /-- [07 R141] Local emergency gate of each compute die. Reset open. -/
  dieGate : Sparse Bool := []
deriving DecidableEq, Repr

/-- A step plan entry (07, R152). -/
structure PlanEntry where
  kind : Nat
  layer : Nat
  segment : Nat
deriving DecidableEq, Repr, Inhabited

/-- A variant directory entry (07, R152). -/
structure Variant where
  segment : Nat
  level : Nat
  recompute : Nat
  frames : Nat
  stash : Nat
  tables : Nat
deriving DecidableEq, Repr, Inhabited

/-- A region entry (12, Table 12.3). -/
structure Region where
  role : Nat
  tier : Nat
  localSpace : Bool
  stack : Nat
  atomic : Nat
  hashIndex : Nat
  base : Nat
  length : Nat
deriving DecidableEq, Repr, Inhabited

/-- A tensor entry (12, Table 12.5). -/
structure Tensor where
  region : Nat
  offset : Nat
  tag : Nat
  layer : Nat
  normIndex : Nat
  stateSlots : Nat
deriving DecidableEq, Repr, Inhabited

/-- A layer table entry (10, Table 10.1). -/
structure Layer where
  ceil : Nat
  floor : Nat
  initial : Nat
deriving DecidableEq, Repr, Inhabited

/-- A statistics map entry with its STAT_ID (10, Table 10.2). -/
structure StatMap where
  stat : Nat
  layer : Nat
  kind : Nat
  silence : Bool
deriving DecidableEq, Repr, Inhabited

/-- One tier of the interleave (12, Table 12.2). -/
structure TierMap where
  localBursts : Nat := 0
  entries : List (Nat × Nat) := []
deriving DecidableEq, Repr, Inhabited

/-- What the device holds of a verified image (07, R142 to R156; 12, R243 to R246). -/
structure Image where
  jobId : BitVec 64 := 0
  jobSeed : Bytes := []
  torus : BitVec 32 := 0
  coord : BitVec 32 := 0
  masterCoord : BitVec 32 := 0
  stepFramesMax : Nat := 0
  stashBudget : Nat := 0
  evalInterval : Nat := 0
  layers : List Layer := []
  plan : List PlanEntry := []
  statMap : List StatMap := []
  watch : List Nat := []
  variants : List Variant := []
  regions : List Region := []
  tensors : List Tensor := []
  digests : List Bytes := []
  cacheWays : Nat := 0
  lastWays : Nat := 0
  nearMap : TierMap := {}
  farMap : TierMap := {}
  remap : List Nat := []
  sets : List HyperSet := []
  programs : Bytes := []
  params : Bytes := []
  linkSection : Bytes := []
deriving DecidableEq, Repr

/-- Entry 0x2420 (IMAGE), the image store and the loaded image. -/
structure ImageUnit where
  /-- [07 R398] CODE of IMAGE_STATUS. Reset 0x0000. -/
  code : BitVec 16 := 0
  /-- [07 R398] SECTION of IMAGE_STATUS. Reset 0x00. -/
  failSection : BitVec 8 := 0
  /-- [07 R398] FAIL_RECORD. Reset 0. -/
  failRecord : BitVec 32 := 0
  /-- [07 R144] IMAGE_HASH. Reset all zero. -/
  hash : Bytes := List.replicate 32 0
  /-- [16 R340] The device-reserved image store. Reset zeros, nothing listed. -/
  store : List Host.Cell := []
  /-- [16 R340] LENGTH of the stream last written to the store. Reset 0 (log 5). -/
  storeLen : Nat := 0
  /-- [07 R397] The store holds a complete image. Reset false. -/
  complete : Bool := false
  /-- [13 R268] An image is loaded, or was when the job was suspended. Reset none. -/
  loaded : Option Image := none
deriving DecidableEq, Repr

/-- One segment of an assembled step (07, R153; 08, R163). -/
structure Seg where
  entry : Nat
  kind : Nat
  layer : Nat
  level : Nat
  recompute : Nat
  frames : Nat
  stashBase : Nat
  stashLen : Nat
  tables : Nat
deriving DecidableEq, Repr, Inhabited

/-- A halt in progress (08, R176; 11, R233). -/
structure Halt where
  restart : Nat
  origin : Nat
  source : BitVec 16
  diag : Bool
deriving DecidableEq, Repr

/-- An announced replay start (11, Table 11.5). -/
structure Replay where
  frame : Nat
  entry : Nat
  frontier : Int
  epoch : BitVec 8
deriving DecidableEq, Repr

/-- The step sequencer: schedule position, segment lists, halts and replays (07, R134, R153, R154; 08). -/
structure Sequencer where
  /-- [07 R134] The device holds a frame grid: START_TIME of a job has passed and the job is not reset. Reset false. -/
  grid : Bool := false
  /-- [07 R134] SCHEDULE_FRAME. Reset 0. -/
  frame : Nat := 0
  /-- [07 R134] Slot within the frame, 0 to 4,095. Reset 0. -/
  slot : Nat := 0
  /-- [07 R134] Fabric time at which the frame began. Reset 0. -/
  frameStart : Nat := 0
  /-- [08 R160] Step in progress, 0 when none. Reset 0. -/
  step : Nat := 0
  /-- [07 R153] Segment list of the step in progress, with the EVAL entries due after it. Reset empty. -/
  segs : List Seg := []
  /-- [07 R153] Segment now executing, counted in segs. Reset 0. -/
  pos : Nat := 0
  /-- [07 R153] Frame within the segment. Reset 0. -/
  segFrame : Nat := 0
  /-- [07 R154] Segment list assembled for the next step. Reset empty. -/
  next : List Seg := []
  /-- [07 R154] STEP_FRAMES. Reset 0. -/
  stepFrames : BitVec 32 := 0
  /-- [07 R154] NEXT_STEP_FRAMES. Reset 0. -/
  nextFrames : BitVec 32 := 0
  /-- [07 R154] PLAN_ENTRY. Reset 0. -/
  planEntry : BitVec 32 := 0
  /-- [07 R154] RECOMPUTE_LAYERS. Reset 0. -/
  recomputeLayers : BitVec 32 := 0
  /-- [08 R181] PHASE. Reset 0b000. -/
  phase : BitVec 3 := 0
  /-- [08 R176] The halt that this device originated or received. Reset none. -/
  halt : Option Halt := none
  /-- [07 R157] The device has stopped for the halt. Reset false. -/
  stopped : Bool := false
  /-- [11 R234] The announced replay start. Reset none. -/
  replay : Option Replay := none
  /-- [07 R154] The master is to announce a replay start at its first HALT position after the next frame boundary. Reset false (log 5). -/
  announceDue : Bool := false
  /-- [07 R157] The halt was raised or received in this frame: a frame boundary must follow before the announcement. Reset false (log 5). -/
  haltFresh : Bool := false
  /-- [13 R271] HELD_REASON decided in the statistics slot, taken when the step and its EVAL entries end. Reset 0. -/
  holdReason : BitVec 4 := 0
  /-- [08 R178] Restart entry at which the device stopped with HELD_REASON 0x3. Reset 0 (log 5). -/
  heldRestart : Nat := 0
  /-- [14 R305] Banking is due at the stop of the halt, with its BANK_CAUSE. Reset none (log 5). -/
  bankDue : Option (BitVec 4) := none
  /-- [14 R292] The image stop takes the device to HELD at the replay start. Reset false (log 5). -/
  stopDue : Bool := false
  /-- [13 R271] HOLD flag as frozen at slot 64 of the statistics frame. Reset false (log 5). -/
  holdFrozen : Bool := false
  /-- [08 R180] The diagnostic replay is running. Reset false (log 5). -/
  diagRun : Bool := false
  /-- [11 R230] Frame in which the step or replay in progress began. Reset 0 (log 5). -/
  began : Nat := 0
  /-- [10 R211] Fabric time at the start of slot 1,088 of the last statistics frame. Reset 0 (log 5). -/
  statTime : Nat := 0
deriving DecidableEq, Repr

/-- A W48 node of the canonical tree of squares of a trained tensor, formed on this device (08, R169; 10, R201, R202): of
the casting input (sort 0), of the reduced gradient (1) or of the increments (2); pending with its chunk until the chunk
commits. -/
structure SumNode where
  sort : Nat
  tensor : Nat
  h : Nat
  j : Nat
  value : BitVec 48
  chunk : Option Nat
deriving DecidableEq, Repr

/-- Entry 0x2440 (TRAIN) (08, R181). -/
structure Train where
  /-- [08 R174] STAGED_STEP. Reset 0. -/
  stagedStep : BitVec 64 := 0
  /-- [08 R160] COMPLETED_STEP. Reset 0. -/
  completedStep : BitVec 64 := 0
  /-- [08 R181] REPLAYS. Reset 0. -/
  replays : BitVec 16 := 0
  /-- [08 R178] STEP_REPLAYS. Reset 0. -/
  stepReplays : BitVec 4 := 0
  /-- [08 R181] RESTART_KIND. Reset 0. -/
  restartKind : BitVec 4 := 0
  /-- [08 R180] DIAG_MISMATCH. Reset 0. -/
  diagMismatch : Bool := false
  /-- [08 R170] UPDATE_SKIPPED. Reset 0. -/
  updateSkipped : Bool := false
  /-- [08 R175] BATCH_LATE. Reset 0. -/
  batchLate : Bool := false
  /-- [08 R163] STASH_OVERRUN. Reset 0. -/
  stashOverrun : Bool := false
  /-- [08 R179] FORCED_RECOMPUTE. Reset 0. -/
  forcedRecompute : Bool := false
  /-- [08 R179] The replay to come runs with recompute forced. Reset false (log 5). -/
  forceNext : Bool := false
  /-- [08 R180] DIAG_STEP. Reset 0. -/
  diagStep : BitVec 64 := 0
  /-- [08 R169] NORM_SQ. Reset 0. -/
  normSq : BitVec 48 := 0
  /-- [08 R170] MAX_NORM. Reset 0x7F80_0000. -/
  maxNorm : BitVec 32 := 0x7F800000
  /-- [08 R180] DIGESTS. Reset 0. -/
  digests : BitVec 64 := 0
  /-- [08 R178] REPLAY_LIMIT. Reset 0x4. -/
  replayLimit : BitVec 4 := 4
  /-- [08 R170] The clip factor delivered to the hearths. Reset 1.0, the factor without clipping (log 5). -/
  clip : BitVec 32 := 0x3F800000
  /-- [08 R170] The update of the step in progress is skipped. Reset false (log 5). -/
  skip : Bool := false
  /-- [09 R184] The hyperparameter sets as frozen when the step began. Reset defaults. -/
  frozen : Sparse HyperSet := []
  /-- [08 R169] [10 R201] [10 R202] Nodes of the trees of squares of the step in progress. Reset none. -/
  nodes : List SumNode := []
  /-- [09 R184] The sets differed in the step in progress: HELD after STATS. Reset false (log 5). -/
  setHold : Bool := false
deriving DecidableEq, Repr

/-- The state of one update chunk (09, Table 9.7). -/
inductive ChunkState where
  | free | copying | opened | sent | committed
deriving DecidableEq, Repr

/-- One copy of a pre-image into the undo ring (09, R192). -/
structure UndoCopy where
  chunk : Nat
  region : Nat
  offset : Nat
  ring : Nat
  length : Nat
deriving DecidableEq, Repr

/-- Entry 0x2450 (UPDATE), the chunks and the commit round (09). -/
structure Update where
  /-- [09 R198] COMMITTED_CHUNK. Reset -1. -/
  committed : Int := -1
  /-- [09 R198] CHUNKS. Reset 0. -/
  chunks : BitVec 8 := 0
  /-- [09 R198] LAST_ROLLBACK. Reset 0. -/
  lastRollback : BitVec 8 := 0
  /-- [09 R197] STATE_LOST. Reset 0. -/
  stateLost : Bool := false
  /-- [09 R403] DEPTH_EXCEEDED. Reset 0. -/
  depthExceeded : Bool := false
  /-- [09 R195] COUNT_MISMATCH. Reset 0. -/
  countMismatch : Bool := false
  /-- [09 R184] SET_MISMATCH. Reset 0. -/
  setMismatch : Bool := false
  /-- [09 R198] RING0. Reset 0b00. -/
  ring0 : BitVec 2 := 0
  /-- [09 R198] RING1. Reset 0b00. -/
  ring1 : BitVec 2 := 0
  /-- [09 R198] ROLLBACKS. Reset 0. -/
  rollbacks : BitVec 32 := 0
  /-- [09 R193] State of each chunk. Reset FREE. -/
  states : Sparse ChunkState := []
  /-- [09 R190] Pending update statistics by 1,024 x chunk + VSTAT_ID. Reset none. -/
  pending : Sparse Stat8 := []
  /-- [09 R192] Pre-images held in the undo ring. Reset none. -/
  copies : List UndoCopy := []
  /-- [09 R194] COUNT of the tokens received from children, by chunk. Reset 0. -/
  childCount : Sparse Nat := []
  /-- [09 R195] Last decision that the master recorded in MRAM: the frontier of the step in progress. Reset -1. -/
  frontier : Int := -1
  /-- [09 R399] A data-path read met an uncorrectable error in a GRADIENTS region during UPDATE. Reset false (log 5). -/
  gradientLost : Bool := false
deriving DecidableEq, Repr

/-- Entry 0x3010 (RNG) and the seeds of the banks (05). -/
structure Rng where
  /-- [05 R100] JOB_SEED. Reset all zero. -/
  jobSeed : Bytes := List.replicate 32 0
  /-- [05 R97] STEP_SEED. Reset 0. -/
  stepSeed : BitVec 64 := 0
  /-- [05 R100] STEP_NUMBER. Reset 0. -/
  stepNumber : BitVec 64 := 0
  /-- [05 R97] The next seed that the banks hold. Reset 0 (log 5). -/
  nextSeed : BitVec 64 := 0
  /-- [05 R98] SEED_MISMATCH. Reset 0. -/
  mismatch : Bool := false
  /-- [05 R98] The replay of a seed mismatch is to compute the seeds again. Reset false (log 5). -/
  recompute : Bool := false
deriving DecidableEq, Repr

/-- A decision of the statistics slot that waits for the first frame of the next step (10, R205). -/
structure Decision where
  step : BitVec 64
  levels : Sparse Level
  cleanRuns : Sparse (BitVec 8)
  silence : Sparse (BitVec 32)
  risen : Nat
  fallen : Nat
  pinnedAny : Bool
  silenceIds : List Nat
  stormHit : Bool
  growth : Int
deriving DecidableEq, Repr

/-- Entries 0x3400 to 0x3450: fallback, statistics, chimney (10). -/
structure Telemetry where
  /-- [10 R213] FALLBACK_THRESHOLDS. Reset 0x8A04_1000. -/
  thresholds : BitVec 32 := 0x8A041000
  /-- [10 R213] NAN_LIMIT. Reset 0. -/
  nanLimit : BitVec 32 := 0
  /-- [10 R213] SILENCE_CONFIG. Reset 0x0040_000C. -/
  silenceCfg : BitVec 32 := 0x0040000C
  /-- [10 R203] The three thresholds as frozen at slot 64. Reset as the entries (log 5). -/
  frozenCfg : BitVec 32 × BitVec 32 × BitVec 32 := (0x8A041000, 0, 0x0040000C)
  /-- [10 R213] DECIDED_STEP. Reset 0. -/
  decidedStep : BitVec 64 := 0
  /-- [10 R213] RISEN. Reset 0. -/
  risen : BitVec 13 := 0
  /-- [10 R213] FALLEN. Reset 0. -/
  fallen : BitVec 13 := 0
  /-- [10 R210] SILENCE_ALARM. Reset 0. -/
  silenceAlarm : Bool := false
  /-- [10 R209] STORM. Reset 0. -/
  storm : Bool := false
  /-- [10 R207] PINNED. Reset 0. -/
  pinned : Bool := false
  /-- [10 R213] LEVEL_COUNTS. Reset 0. -/
  levelCounts : BitVec 64 := 0
  /-- [10 R209] STORMS. Reset 0. -/
  storms : BitVec 32 := 0
  /-- [10 R209] STEP_GROWTH. Reset 0. -/
  growth : BitVec 32 := 0
  /-- [10 R215] LEVELS. Reset all zero. -/
  levels : Sparse Level := []
  /-- [10 R215] CLEAN_RUNS. Reset all zero. -/
  cleanRuns : Sparse (BitVec 8) := []
  /-- [10 R215] SILENCE_COUNTS. Reset all zero. -/
  silence : Sparse (BitVec 32) := []
  /-- [10 R215] WATCH_NORMS, F32 words by 3 x watch entry. Reset canonical NaN for unused entries. -/
  watchNorms : Sparse (BitVec 32) := []
  /-- [10 R205] The decision that waits for the next step. Reset none. -/
  decision : Option Decision := none
  /-- [04 R82] Conversion records of the step in progress, by STAT_ID. Reset 0. -/
  conv : Sparse Stat8 := []
  /-- [06 R114] Vector records of the step in progress, by VSTAT_ID. Reset 0. -/
  vec : Sparse Stat8 := []
  /-- [10 R200] Product counters by layer: NAN, INFINITE, SATURATED, FLUSHED in c0 to c3. Reset 0. -/
  prod : Sparse Stat8 := []
  /-- [08 R177] Conversion records as the CAST segments of the step left them. Reset 0. -/
  baseConv : Sparse Stat8 := []
  /-- [08 R177] As baseConv, vector records. Reset 0. -/
  baseVec : Sparse Stat8 := []
  /-- [08 R177] As baseConv, product counters. Reset 0. -/
  baseProd : Sparse Stat8 := []
  /-- [10 R203] Local records of the step as frozen at slot 64. Reset 0. -/
  frozenConv : Sparse Stat8 := []
  /-- [10 R203] As frozenConv, vector records. Reset 0. -/
  frozenVec : Sparse Stat8 := []
  /-- [10 R203] As frozenConv, product counters. Reset 0. -/
  frozenProd : Sparse Stat8 := []
  /-- [10 R203] This device's payload of the statistics slot, formed at slot 64. Reset none. -/
  payload : Option Totals := none
  /-- [10 R203] Bytes that class-2 cells brought in this statistics slot, by link. Reset none. -/
  statIn : Sparse Bytes := []
  /-- [10 R203] Bytes that class-2 cells took in this statistics slot, by link. Reset 0. -/
  statOut : Sparse Nat := []
  /-- [10 R203] The totals of the last statistics slot. Reset none. -/
  totals : Option Totals := none
  /-- [10 R214] Local conversion records of the last completed step. Reset 0. -/
  lastConv : Sparse Stat8 := []
  /-- [10 R214] Local vector records of the last completed step. Reset 0. -/
  lastVec : Sparse Stat8 := []
  /-- [10 R214] Totals of the last completed step. Reset none. -/
  lastTotals : Option Totals := none
  /-- [10 R214] STAT_READ SELECT. Reset 0. -/
  select : BitVec 32 := 0
  /-- [10 R214] STAT_READ STEP, latched. Reset 0. -/
  selStep : BitVec 64 := 0
  /-- [10 R214] STAT_READ counters, latched. Reset 0. -/
  selValue : Stat8 := {}
  /-- [10 R215] CHIMNEY_CONFIG. Reset 0x0001_00FF. -/
  chimneyCfg : BitVec 32 := 0x000100FF
  /-- [10 R212] CHIMNEY_DROPPED. Reset 0. -/
  chimneyDropped : BitVec 32 := 0
  /-- [10 R212] Chimney record in transmission. Reset none. -/
  chimneySending : Option Bytes := none
  /-- [10 R212] Chimney record waiting. Reset none. -/
  chimneyWaiting : Option Bytes := none
  /-- [10 R211] Completed steps since the last chimney record. Reset 0 (log 5). -/
  chimneySteps : Nat := 0
deriving DecidableEq, Repr

/-- One physical hearth (01, R13; 17, R360). Its scratchpad is in Memory. -/
structure Hearth where
  /-- [17 R360] LOGICAL. Reset 0x7FF, none. -/
  logical : Nat := 0x7FF
  /-- [17 R360] KAT_FAILED. Reset 0. -/
  katFailed : Bool := false
  /-- [05 R101] The bank failed the boot known-answer test: counted by KAT_FAILED of RNG_STATUS. Reset false (log 5). -/
  katBoot : Bool := false
  /-- [17 R360] SELFTEST. Reset 0b00. -/
  selftest : BitVec 2 := 0
  /-- [17 R360] SELFTEST_TIME. Reset 0. -/
  selftestTime : BitVec 64 := 0
  /-- [17 R360] SP_CORRECTED. Reset 0. -/
  spCorrected : BitVec 64 := 0
  /-- [17 R360] U_OCCURRENCES. Reset 0. -/
  uOccurrences : BitVec 32 := 0
  /-- [17 R360] STEP_U_COUNT. Reset 0. -/
  stepU : BitVec 8 := 0
  /-- [18 R375] Array clocks counted since the last delivery to Assay. Reset 0. -/
  workClocks : Nat := 0
  /-- [04 R69] The combined amax delivered to the hearth. Reset +0 (log 5). -/
  amax : BitVec 32 := 0
  /-- [08 R180] The running CRC-32 of the bytes its CONVERT ops write. Reset 0xFFFF_FFFF, the initial value. -/
  crc : BitVec 32 := 0xFFFFFFFF
  /-- [07 R148] The 64 KiB program buffer: the op and parameter records streamed into it, newest last. Reset empty, zeroised. -/
  program : List (BitVec 256 × BitVec 512) := []
  /-- [06 R117] Op record of the vector engine or converter op that a bellows op with TAP = 1 reads. Reset 0, zeroised. -/
  progOp : BitVec 256 := 0
  /-- [06 R117] As progOp, its parameter record. Reset 0, zeroised. -/
  progPar : BitVec 512 := 0
deriving DecidableEq, Repr

/-- The fence map (07, Table 7.25), held in MRAM. -/
structure FenceMap where
  /-- [07 R156] Fenced hearths, rising. Reset none, a device with nothing fenced. -/
  hearths : List Nat := []
  /-- [07 R156] Active channels of each near stack. Reset 32. -/
  near : Sparse Nat := []
  /-- [07 R156] Active channels of each far stack. Reset 8. -/
  far : Sparse Nat := []
  /-- [07 R156] Fenced links, rising. Reset none. -/
  links : List Nat := []
deriving DecidableEq, Repr

/-- One fabric link end (11, R238). -/
structure Link where
  /-- [11 R238] STATE. Reset 0x1 DOWN. -/
  state : BitVec 4 := 1
  /-- [11 R238] PEER_LINK. Reset 0. -/
  peerLink : BitVec 6 := 0
  /-- [11 R238] LANES_OK. Reset 0x0. -/
  lanes : BitVec 4 := 0
  /-- [11 R238] WIDTH. Reset 0x0. -/
  width : BitVec 4 := 0
  /-- [11 R238] DATA. Reset 0. -/
  data : Bool := false
  /-- [11 R238] PEER_COORD. Reset 0. -/
  peerCoord : BitVec 32 := 0
  /-- [11 R238] DELAY, 1/16 ns. Reset 0. -/
  delay : BitVec 32 := 0
  /-- [11 R222] FEC_CORRECTED. Reset 0. -/
  fecCorrected : BitVec 64 := 0
  /-- [11 R222] FEC_SYMBOLS. Reset 0. -/
  fecSymbols : BitVec 64 := 0
  /-- [11 R238] FEC_UNCORRECTABLE. Reset 0. -/
  fecBad : BitVec 64 := 0
  /-- [11 R225] CELL_ERRORS. Reset 0. -/
  cellErrors : BitVec 64 := 0
  /-- [11 R238] RETRIES [31:16], cells requested by this receiver. Reset 0. -/
  requested : BitVec 16 := 0
  /-- [11 R238] RETRIES [15:0], retries received intact. Reset 0. -/
  retried : BitVec 16 := 0
  /-- [11 R238] LINK_EVENTS, Table 11.11. Reset 0. -/
  events : BitVec 32 := 0
  /-- [11 R238] RETRAIN reads 1 until training ends. Reset 0. -/
  retrain : Bool := false
  /-- [11 R238] FORCE_DOWN. Reset 0. -/
  forceDown : Bool := false
  /-- [11 R226] The link is held in DOWN for a wiring error. Reset false. -/
  wiringHold : Bool := false
  /-- [11 R230] Consecutive failed training attempts. Reset 0 (log 5). -/
  failures : Nat := 0
  /-- [11 R226] Training phase in progress, 1 to 6; 0 none. Reset 0. -/
  phase : Nat := 0
  /-- [11 R226] Lanes still in the training attempt. Reset 0xF (log 5). -/
  tryLanes : BitVec 4 := 0xF
  /-- [07 R131] The link has measured LONG_LINK. Reset false. -/
  longLink : Bool := false
  /-- [11 R228] The link is lost and has not returned to data. Reset false. -/
  lost : Bool := false
  /-- [11 R230] This end has sent LINK_UP. Reset false (log 5). -/
  upSent : Bool := false
  /-- [11 R230] The peer's LINK_UP has arrived. Reset false (log 5). -/
  upSeen : Bool := false
  /-- [11 R230] Frame in which both ends held each other's LINK_UP. Reset none (log 5). -/
  upFrame : Option Nat := none
  /-- [07 R129] MARKER_TIME of the last marker received. Reset 0 (log 5). -/
  lastMarker : BitVec 64 := 0
  /-- [07 R129] Own receive time of that marker, 1/16 ns. Reset 0 (log 5). -/
  lastRx : BitVec 64 := 0
  /-- [11 R224] The peer sends time-code blocks with BANKED set. Reset false (log 5). -/
  peerBanked : Bool := false
  /-- [07 R130] The peer names this link as its time parent. Reset false (log 5). -/
  child : Bool := false
  /-- [11 R235] HOPS that the peer's last time code carried. Reset 0xFF, no path (log 5). -/
  peerHops : BitVec 8 := 0xFF
  /-- [07 R133] The peer's last time code had LOCKED set. Reset false (log 5). -/
  peerLocked : Bool := false
  /-- [11 R232] Copies of the DEADLINE = 1 cells sent in this frame. Reset none. -/
  kept : List Cell := []
  /-- [11 R232] DEADLINE = 1 cells of this frame that failed or are missing, as (slot, index). Reset none. -/
  missing : List (Nat × Nat) := []
  /-- [07 R138] DEADLINE = 0 cells of this frame that have not arrived, as (slot, index). Reset none. -/
  awaited : List (Nat × Nat) := []
  /-- [11 R233] HALT cells waiting for a position. Reset none. -/
  pendHalt : List Cell := []
  /-- [11 R234] Control cells waiting for a HALT position. Reset none. -/
  pendControl : List Cell := []
  /-- [11 R232] Retry cells waiting for the make-up window. Reset none. -/
  pendData : List Cell := []
  /-- [11 R231] Relay-class cells handed over for the next slot, with the BUFFER of their entry. Reset none. -/
  pendRelay : List (Nat × Cell) := []
  /-- [07 R136] [11 R221] Cells sent, oldest first, each with the number of the position that carries it. Reset none. -/
  sent : List (Nat × Cell) := []
  /-- [11 R220] Marker words of the last period, by logical lane. Reset none (log 5). -/
  markersOut : List (BitVec 128) := []
  /-- [11 R219] [11 R220] PAM4 levels of the last whole period, by logical lane. Reset none (log 5). -/
  lanesOut : List (List (BitVec 2)) := []
  /-- [11 R235] Last time-code block sent. Reset none (log 5). -/
  codeOut : Option TimeCode := none
deriving DecidableEq, Repr

/-- Entry 0x4040 (FABRIC), flooding and relay (11). -/
structure Fabric where
  /-- [11 R218] FABRIC_ID, held in MRAM. Reset 0x0101_0101_0000_0000. -/
  id : BitVec 64 := 0x0101010100000000
  /-- [11 R229] Member whose one-link-down table is in force, by direction 2k + s. Reset 0xFF, none. -/
  downTables : Sparse Nat := []
  /-- [11 R229] Switches due: direction, member, frame. Reset none. -/
  downPending : List (Nat × Nat × Nat) := []
  /-- [11 R239] HALT_STATUS. Reset 0. -/
  haltStatus : BitVec 64 := 0
  /-- [11 R236] RELAY_DROPS. Reset 0. -/
  relayDrops : BitVec 32 := 0
  /-- [11 R230] RETRAIN_LIMIT. Reset 0x3. -/
  retrainLimit : BitVec 4 := 3
  /-- [11 R237] RELAY bytes of the last image loaded; the straight map where unlisted. Reset none. -/
  relay : Sparse (Option Nat) := []
  /-- [11 R233] Halt epoch. Reset 0. -/
  epoch : BitVec 8 := 0
  /-- [11 R233] Lowest RESTART_ENTRY of a HALT sent in this epoch. Reset none. -/
  haltSent : Option Nat := none
  /-- [11 R233] HALT cells of the next epoch, held. Reset none. -/
  haltHeld : List Cell := []
  /-- [11 R234] Highest SEQ forwarded. Reset none. -/
  seqHigh : Option (BitVec 16) := none
  /-- [11 R234] SEQ values among H - 255 to H already forwarded. Reset none. -/
  seqSeen : List (BitVec 16) := []
  /-- [11 R234] SEQ of the next cell that the master originates. Reset 0 (log 5). -/
  seqOut : BitVec 16 := 0
  /-- [11 R236] The link dies relay. Reset false. -/
  relaying : Bool := false
  /-- [07 R150] Link slot table of the variant in progress. Reset none. -/
  table : List (BitVec 128) := []
  /-- [07 R150] One-link-down tables of the variant in progress, by lost link. Reset none. -/
  downEntries : Sparse (List (BitVec 128)) := []
  /-- [11 R224] [07 R151] Link and spine buffers: buffer n holds bytes 16,384 n upward (log 36). Reset zeros. -/
  buffers : List Host.Cell := []
deriving DecidableEq, Repr

/-- One DRAM stack (12, R263). Near stacks are 0 to 7, far stacks 8 to 15 in the table of stacks. -/
structure Stack where
  /-- [12 R263] ROT_LOGICAL. Reset 0. -/
  rotLogical : Nat := 0
  /-- [12 R263] ROT_PHASE: 0 none, 1 mirroring, 2 retraining. Reset 0. -/
  rotPhase : Nat := 0
  /-- [12 R252] Physical channel that the rotation leaves. Reset 0 (log 5). -/
  rotFrom : Nat := 0
  /-- [12 R252] Physical channel that the rotation fills. Reset 0 (log 5). -/
  rotTo : Nat := 0
  /-- [12 R252] Queued repair rotations, oldest first. Reset none. -/
  repairs : List Nat := []
  /-- [12 R252] A routine rotation is queued. Reset false. -/
  routine : Bool := false
  /-- [12 R252] Logical channel that the next routine rotation takes. Reset 0. -/
  nextRoutine : Nat := 0
  /-- [12 R263] LANE_REPAIRS. Reset 0. -/
  laneRepairs : BitVec 8 := 0
  /-- [12 R263] SPARE_OK. Reset 1. -/
  spareOk : Bool := true
  /-- [12 R250] REFRESH_2X. Reset 0. -/
  refresh2x : Bool := false
  /-- [12 R263] TRAINED. Reset 0. -/
  trained : Bool := false
  /-- [12 R263] CHANNEL_MAP where it differs from the default. Reset default. -/
  map : Sparse (Option Nat) := []
  /-- [12 R263] Spare of CHANNEL_MAP byte 32. Reset the default spare. -/
  spare : Option Nat := some 255
  /-- [12 R247] CE_COUNT. Reset 0. -/
  ceCount : BitVec 64 := 0
  /-- [12 R248] UE_COUNT. Reset 0. -/
  ueCount : BitVec 64 := 0
  /-- [12 R263] TEMPERATURE, 1/16 C. Reset 0. -/
  temperature : BitVec 32 := 0
  /-- [12 R263] ROTATIONS. Reset 0. -/
  rotations : BitVec 32 := 0
  /-- [12 R254] Retired physical channels. Reset none (log 2). -/
  retired : List Nat := []
  /-- [12 R254] Consecutive training failures of the channel that retrains. Reset 0 (log 5). -/
  trainFailures : Nat := 0
  /-- [12 R251] Frames of the corrected codewords of the last 1,024 frames, by logical channel. Reset none. -/
  ceWindow : Sparse (List Nat) := []
  /-- [12 R255] The over-temperature fault is raised and not re-armed. Reset false. -/
  hot : Bool := false
  /-- [12 R250] Frame since which every sensor is below 82 C. Reset none (log 5). -/
  coolSince : Option Nat := none
  /-- [13 R275] The stack is in self-refresh. Reset false, contents lost (log 2). -/
  selfRefresh : Bool := false
deriving DecidableEq, Repr

/-- A retained region's record in MRAM (12, R261, Table 12.14). -/
structure Retained where
  /-- [12 R264] STATE: 0 EMPTY, 1 STAGING, 2 HASHING, 3 INTACT. Reset 0. -/
  state : BitVec 8 := 0
  /-- [12 R264] PLACEMENT, the region entry. Reset zero. -/
  placement : Option Region := none
  /-- [12 R264] DIGEST. Reset zero. -/
  digest : Bytes := List.replicate 32 0
  /-- [12 R264] HASH_FAIL bit 0. Reset 0. -/
  hashFail : Bool := false
  /-- [12 R261] Interleave of the region's tier when the record was made. Reset none (log 5). -/
  interleave : TierMap := {}
deriving DecidableEq, Repr

/-- A resident cache line of 256 bytes (12, R256): its tier-wide or stack-local line number. -/
structure Line where
  key : Nat
  last : Bool
deriving DecidableEq, Repr

/-- Memories and entries 0x4800 to 0x484F (12). -/
structure Memory where
  /-- [01 R13] Scratchpads: hearth h holds bytes 2,097,152 h upward. Reset zeros. -/
  spad : List Host.Cell := []
  /-- [06 R110] Scratchpad words of 8 bytes that hold an uncorrectable error, by spad address / 8, rising. Reset none. -/
  spadPoison : List Nat := []
  /-- [12 R240] DRAM by physical stack, channel, channel burst and byte. Reset zeros, zeroised at POWER_UP (R260). -/
  dram : List Host.Cell := []
  /-- [12 R248] Poisoned codewords, by DRAM byte address / 64, rising. Reset none. -/
  poison : List Nat := []
  /-- [12 R258] Cache-tier regions, byte addressed. Reset zeros. -/
  cacheTier : List Host.Cell := []
  /-- [12 R256] Resident KEEP and LAST lines, oldest allocation first. Reset none. -/
  lines : List Line := []
  /-- [12 R256] Contents of LAST lines, by 256 x line number. Reset zeros. -/
  lastData : List Host.Cell := []
  /-- [12 R257] Lines written with LAST and not read since. Reset none. -/
  lastWritten : List Nat := []
  /-- [12 R264] HITS. Reset 0. -/
  hits : BitVec 64 := 0
  /-- [12 R264] MISSES. Reset 0. -/
  misses : BitVec 64 := 0
  /-- [12 R257] LAST_OVERFLOW. Reset 0. -/
  lastOverflow : Bool := false
  /-- [12 R248] UE_LATENT. Reset 0. -/
  ueLatent : Bool := false
  /-- [12 R254] STACK_FENCED. Reset 0. -/
  stackFenced : Bool := false
  /-- [12 R254] CHANNEL_RETIRED. Reset 0. -/
  channelRetired : Bool := false
  /-- [12 R255] FAR_HOT. Reset 0. -/
  farHot : Bool := false
  /-- [12 R262] ZEROISING. Reset 0. -/
  zeroising : Bool := false
  /-- [12 R262] TRAINED. Reset 0. -/
  trained : Bool := false
  /-- [12 R249] SCRUB_PERIOD. Reset 21,600. -/
  scrubPeriod : BitVec 32 := 21600
  /-- [12 R252] ROTATE_INTERVAL. Reset 600. -/
  rotateInterval : BitVec 32 := 600
  /-- [12 R251] CE_THRESHOLD. Reset 64. -/
  ceThreshold : BitVec 32 := 64
  /-- [12 R260] ZEROISE_TIME. Reset 0. -/
  zeroiseTime : BitVec 32 := 0
  /-- [12 R249] Fabric time up to which patrol scrub has run. Reset 0 (log 5). -/
  scrubbed : Nat := 0
  /-- [12 R261] Retained records 0 to 15. Reset EMPTY. -/
  retained : Sparse Retained := []
  /-- [12 R263] Stacks: near 0 to 7, far 8 to 15. Reset defaults. -/
  stackTable : Sparse Stack := []
deriving DecidableEq, Repr

/-- A detected occurrence that the collector has not classified yet (14, R288), with what its log record shows of the
instant of detection (Table 14.4) and the plan KIND of its origin (08, Table 8.5). -/
structure Detected where
  occ : Occ
  forced : Bool
  time : Nat
  step : BitVec 64
  epoch : BitVec 8
  planEntry : BitVec 32
  state : BitVec 8
  kind : Nat
deriving DecidableEq, Repr

/-- The writable state of one fault source (14, R302). -/
structure Source where
  /-- [14 R302] MASK. Reset 0. -/
  mask : Bool := false
  /-- [14 R302] REACTION above the default, none for the default. Reset none. -/
  reaction : Option (BitVec 3) := none
  /-- [14 R302] COUNT. Reset 0. -/
  count : BitVec 64 := 0
  /-- [14 R302] FORCE_UNIT. Reset 0. -/
  unit : BitVec 12 := 0
  /-- [14 R302] FORCE pending, with the FORCE_TIME and FORCE_UNIT that held when it was written. Reset none. -/
  force : Option (BitVec 64 × BitVec 12) := none
deriving DecidableEq, Repr

/-- A fault log record (14, Table 14.4). -/
structure LogRecord where
  time : BitVec 64 := 0
  step : BitVec 64 := 0
  source : BitVec 16 := 0
  disposition : BitVec 8 := 0
  epoch : BitVec 8 := 0
  location : BitVec 32 := 0
  planEntry : BitVec 32 := 0
  state : BitVec 8 := 0
deriving DecidableEq, Repr

/-- Entries 0x5000 to 0x5030: the fault collector (14). -/
structure Faults where
  /-- [14 R300] COUNT_C. Reset 0. -/
  countC : BitVec 64 := 0
  /-- [14 R300] COUNT_U. Reset 0. -/
  countU : BitVec 64 := 0
  /-- [14 R300] COUNT_F. Reset 0. -/
  countF : BitVec 64 := 0
  /-- [14 R300] LAST_FAULT. Reset 0. -/
  lastFault : BitVec 64 := 0
  /-- [14 R305] BANK_CAUSE. Reset 0. -/
  bankCause : BitVec 4 := 0
  /-- [14 R292] IMAGE_STOPPED. Reset 0. -/
  imageStopped : Bool := false
  /-- [14 R296] THERM_TRIPPED, held in MRAM. Reset 0. -/
  thermTripped : Bool := false
  /-- [14 R298] MGMT_WATCHDOG, held in MRAM. Reset 0. -/
  mgmtWatchdog : Bool := false
  /-- [14 R292] HEARTH_LIMIT. Reset 0x2. -/
  hearthLimit : BitVec 4 := 2
  /-- [14 R301] C_ENABLE. Reset 0. -/
  cEnable : Bool := false
  /-- [14 R295] PULSING. Reset 0. -/
  pulsing : Bool := false
  /-- [14 R295] ERR_HELD. Reset 0. -/
  errHeld : Bool := false
  /-- [14 R299] The fault log ring in MRAM, newest first, at most 1,024. Reset empty (log 2). -/
  log : List LogRecord := []
  /-- [14 R302] FAULT_LOG SELECT. Reset 0. -/
  logSelect : BitVec 32 := 0
  /-- [14 R302] FAULT_LOG RECORD, latched. Reset zeros. -/
  logRecord : LogRecord := {}
  /-- [14 R302] SOURCE_CONTROL SELECT. Reset 0x0101. -/
  sourceSelect : BitVec 16 := 0x0101
  /-- [14 R302] SOURCE_CONTROL COUNT, latched. Reset 0. -/
  sourceCount : BitVec 64 := 0
  /-- [14 R302] FORCE_TIME. Reset 0. -/
  forceTime : BitVec 64 := 0
  /-- [14 R302] Fault sources by code. Reset defaults. -/
  sources : Sparse Source := []
  /-- [14 R288] Detected occurrences that wait for the collector, oldest first. Reset none. -/
  detected : List Detected := []
  /-- [14 R292] Spine mismatches in the step in progress. Reset 0. -/
  spineMismatches : Nat := 0
deriving DecidableEq, Repr

/-- One mailbox (15, R312). -/
structure Mailbox where
  /-- [15 R314] LOCK, 0 free. Reset 0. -/
  owner : Nat := 0
  /-- [15 R312] STATUS. Reset 0b000. -/
  status : BitVec 3 := 0
  /-- [15 R312] SENDER. Reset 0. -/
  sender : BitVec 6 := 0
  /-- [15 R312] LENGTH. Reset 0. -/
  length : BitVec 5 := 0
  /-- [15 R312] CODE. Reset 0. -/
  code : BitVec 8 := 0
  /-- [15 R312] DATA words by number. Reset 0. -/
  data : Sparse (BitVec 32) := []
  /-- [15 R320] The owner was reset while the message was TAKEN: the mailbox is freed when the receiver ends it. Reset false. -/
  orphan : Bool := false
deriving DecidableEq, Repr

/-- What leaves the device on the port or the UART. -/
inductive Tx where
  | datagram (dst : Endpoint) (vlan : Option (BitVec 12)) (pcp : BitVec 3) (typ : BitVec 8) (session seq : BitVec 32)
      (flags : BitVec 8) (body tag : Bytes)
  | arpReply (vlan : Option (BitVec 12)) (dstMac : BitVec 48) (dstIp : BitVec 32)
  | neighborAdvertisement (vlan : Option (BitVec 12)) (dstMac : BitVec 48) (dstIp target : BitVec 128)
  | echoReply (vlan : Option (BitVec 12)) (dst : Endpoint) (ident : BitVec 32) (payload : Bytes)
  | pfc (priority : BitVec 3) (quanta : BitVec 16)
  | ptpDelayReq (vlan : Option (BitVec 12)) (pcp : BitVec 3) (time : Nat)
  | uart (line : String) (value : Bytes)
deriving DecidableEq, Repr

/-- Entries 0x1100 and 0x1110: the port (16). Subentries 0x01 to 0x08 of PORT are held in MRAM. -/
structure Port where
  /-- [16 R332] PORT_CONFIG. Reset 0x6EFA_0008. -/
  config : BitVec 32 := 0x6EFA0008
  /-- [16 R332] PFC_CONFIG. Reset 0x00F9_8008. -/
  pfcConfig : BitVec 32 := 0x00F98008
  /-- [16 R332] IPV4_ADDRESS. Reset 0. -/
  ipv4 : BitVec 32 := 0
  /-- [16 R332] IPV4_PREFIX. Reset 0x18. -/
  ipv4Prefix : BitVec 8 := 0x18
  /-- [16 R332] IPV4_GATEWAY. Reset 0. -/
  ipv4Gateway : BitVec 32 := 0
  /-- [16 R332] IPV6_ADDRESS, first stored byte in the top bits. Reset 0. -/
  ipv6 : BitVec 128 := 0
  /-- [16 R332] IPV6_PREFIX. Reset 0x40. -/
  ipv6Prefix : BitVec 8 := 0x40
  /-- [16 R332] IPV6_GATEWAY. Reset 0. -/
  ipv6Gateway : BitVec 128 := 0
  /-- [16 R332] LINK_UP. Reset 0. -/
  linkUp : Bool := false
  /-- [16 R332] ALIGNED. Reset 0. -/
  aligned : Bool := false
  /-- [16 R330] PAUSING. Reset 0. -/
  pausing : Bool := false
  /-- [16 R331] PTP_RECEIVING. Reset 0. -/
  ptpReceiving : Bool := false
  /-- [16 R332] DISCARDS. Reset 0. -/
  discards : BitVec 64 := 0
  /-- [16 R330] Bytes in the 32 MiB receive buffer. Reset 0. -/
  rxLevel : Nat := 0
  /-- [16 R330] Priorities that a received PFC frame pauses, with their quanta. Reset none. -/
  paused : Sparse (BitVec 16) := []
  /-- [16 R332] SESSION_TIMEOUT. Reset 60. -/
  sessionTimeout : BitVec 32 := 60
  /-- [16 R332] ACK_DELAY. Reset 20. -/
  ackDelay : BitVec 32 := 20
  /-- [16 R332] RETX_TIMEOUT. Reset 500. -/
  retxTimeout : BitVec 32 := 500
  /-- [16 R332] RETRY_LIMIT. Reset 16. -/
  retryLimit : BitVec 32 := 16
  /-- [16 R337] AUTH_FAILURES. Reset 0. -/
  authFailures : BitVec 64 := 0
  /-- [15 R323] UART rate in force. Reset 115,200. -/
  baud : Nat := 115200
  /-- [15 R325] PEEK commands that wait for a DRAM maintenance window, oldest first: tier, region, offset, length. Reset none. -/
  peeks : List (Nat × Nat × Nat × Nat) := []
  /-- [15 R310] Messages, frames and lines sent, oldest first. Reset none. -/
  tx : List Tx := []
  /-- [16 R330] Tagged frames that wait because a received PFC frame pauses their priority, oldest first. Reset none. -/
  waitTx : List Tx := []
deriving DecidableEq, Repr

/-- An open session (16, R336, R337). -/
structure Session where
  number : BitVec 32
  key : Bytes
  peer : Endpoint
  highest : Nat
  executed : List Nat
  responses : List (Nat × Bytes)
deriving DecidableEq, Repr

/-- A bulk channel (16, R340 to R343). To the device: the lowest window not wholly received, the units received beyond
it, the final unit with its bytes, and the bursts of a STAGE channel that wait for DRAM. From the device: the stream,
the units sent, the lowest window not wholly acknowledged and the units acknowledged beyond it, the timeouts in a row,
and whether the stream has ended. -/
structure Channel where
  id : BitVec 16
  kind : Nat
  toHost : Bool
  session : BitVec 32
  peer : Endpoint
  windows : Nat
  region : Nat
  offset : Nat
  length : Nat
  lowest : Nat
  units : List Nat
  final : Option (Nat × Nat)
  stream : Bytes
  sentUnits : Nat
  acked : List Nat
  timeouts : Nat
  streamEnd : Bool
  waiting : List Nat
deriving DecidableEq, Repr

/-- Sessions and channels (16). -/
structure HostLink where
  /-- [16 R336] Held nonces, oldest first, at most 8. Reset none. -/
  nonces : List Bytes := []
  /-- [16 R336] Open sessions, at most 8. Reset none. -/
  sessions : List Session := []
  /-- [16 R337] SEQ of the device's next bulk message. Reset 0 (log 5). -/
  bulkSeq : BitVec 32 := 0
  /-- [16 R340] Open bulk channels. Reset none. -/
  channels : List Channel := []
  /-- [16 R340] Bytes received on the open CONTEXT, FIRMWARE and STAGE channels, by channel. Reset none. -/
  inbox : Sparse (List Host.Cell) := []
deriving DecidableEq, Repr

/-- A firmware component of a bank (18, R363 to R366). -/
structure Component where
  present : Bool := false
  securityVersion : Nat := 0
  fwVersion : BitVec 32 := 0
  bodyHash : Bytes := List.replicate 32 0
deriving DecidableEq, Repr

/-- A firmware bank: management, die-controller and link-die objects. -/
structure Bank where
  mgmt : Component := { present := true }
  dieCtl : Component := { present := true }
  linkDie : Component := { present := true }
deriving DecidableEq, Repr

/-- An RSA public key. -/
structure PubKey where
  modulus : Nat := 0
  exponent : Nat := 0
deriving DecidableEq, Repr

/-- The values a quote covers, taken at the NONCE write (18, R371). -/
structure Quote where
  body : Bytes
deriving DecidableEq, Repr

/-- Entries 0x6000 to 0x6030 and the security regions of MRAM (17, 18). -/
structure Security where
  /-- [17 R355] BOOT_VERIFIED. Reset 1. -/
  bootVerified : Bool := true
  /-- [17 R355] The enrolled owner key. Reset none. -/
  owner : Option PubKey := none
  /-- [17 R355] OWNER_ID. Reset zero. -/
  ownerId : Bytes := List.replicate 32 0
  /-- [18 R368] An enrolment that waits for the next cold reset. Reset none. -/
  enrolment : Option PubKey := none
  /-- [17 R355] ROLLBACK counters 0 to 3. Reset 0. -/
  rollback : Sparse Nat := []
  /-- [17 R356] POLICY. Reset 0. -/
  policy : BitVec 32 := 0
  /-- [17 R356] POLICY_HASH. Reset zero. -/
  policyHash : Bytes := List.replicate 32 0
  /-- [18 R370] A policy that waits for the next cold or warm reset, with its hash. Reset none. -/
  policyNext : Option (BitVec 32 × Bytes) := none
  /-- [17 R357] The job key. Reset none. -/
  jobKey : Option Bytes := none
  /-- [17 R357] KEY_ID. Reset zero. -/
  keyId : Bytes := List.replicate 32 0
  /-- [17 R358] QUOTE. Reset zero. -/
  quote : Bytes := []
  /-- [17 R358] QUOTE_STATUS. Reset 0x00. -/
  quoteStatus : BitVec 8 := 0
  /-- [18 R371] The bytes of the quote being signed. Reset none. -/
  quoteBody : Bytes := []
  /-- [18 R363] Firmware bank A. Reset the manufactured firmware (log 3). -/
  bankA : Bank := {}
  /-- [18 R363] Firmware bank B. Reset the manufactured firmware (log 3). -/
  bankB : Bank := {}
  /-- [18 R363] PREFERRED bank marker: true is bank B. Reset bank A (log 3). -/
  preferB : Bool := false
  /-- [18 R366] The bank that booted: true is bank B. Reset bank A (log 3). -/
  bootedB : Bool := false
  /-- [18 R363] Assay staging region. Reset empty (log 3). -/
  assayStaging : Bytes := []
  /-- [18 R362] The PUF reproduced the identity key at the last boot. Reset true (log 3). -/
  pufOk : Bool := true
deriving DecidableEq, Repr

/-- An open job record of Assay (18, R376). -/
structure OpenRecord where
  jobId : BitVec 64
  imageHash : Bytes
  fabricStart : BitVec 64
  assayStart : BitVec 64
  energyStart : List (BitVec 64)
  work : Nat
  lowPower : Bool
  storedTime : BitVec 64
  storedEnergy : List (BitVec 64)
  storedWork : Nat
deriving DecidableEq, Repr

/-- The Assay unit (18, R373 to R379). No reset class acts on it. -/
structure Assay where
  /-- [18 R378] FW_VERSION. Reset a manufactured value (log 3). -/
  fwVersion : BitVec 32 := 0
  /-- [18 R378] FW_MEASUREMENT. Reset a manufactured value (log 3). -/
  fwMeasurement : Bytes := List.replicate 32 0
  /-- [18 R378] UPDATE_COUNT. Reset 0. -/
  updateCount : BitVec 32 := 0
  /-- [18 R377] Assay's own anti-rollback counter. Reset 0 (log 3). -/
  counter : Nat := 0
  /-- [18 R378] RUNNING. Reset 1. -/
  running : Bool := true
  /-- [18 R378] SELFTEST_OK. Reset 1. -/
  selftestOk : Bool := true
  /-- [18 R377] UPDATE_PENDING. Reset 0. -/
  updatePending : Bool := false
  /-- [18 R378] KEY_LOST. Reset 0. -/
  keyLost : Bool := false
  /-- [18 R374] ASSAY_TIME, 40 ns periods. Reset 0. -/
  time : BitVec 64 := 0
  /-- [18 R376] The open record. Reset none. -/
  record : Option OpenRecord := none
  /-- [18 R378] NEXT_INDEX. Reset 0. -/
  nextIndex : BitVec 64 := 0
  /-- [18 R378] ENERGY_TOTAL, uJ by rail. Reset 0. -/
  energy : List (BitVec 64) := List.replicate 8 0
  /-- [18 R378] WORK_TOTAL. Reset 0. -/
  workTotal : Nat := 0
  /-- [18 R378] POWER_NOW, mW by rail. Reset 0. -/
  powerNow : List (BitVec 32) := List.replicate 8 0
  /-- [18 R379] The ring of closed records, 16,384 slots of 640 bytes. Reset zeros. -/
  ring : Sparse Bytes := []
  /-- [18 R376] RECORD_READY notices that are due: JOB_ID and index. Reset none. -/
  notices : List (BitVec 64 × BitVec 64) := []
  /-- [18 R377] The firmware that the restart will run: FW_VERSION and measurement. Reset none (log 5). -/
  installing : Option (BitVec 32 × Bytes) := none
deriving DecidableEq, Repr

/-- The markers that the management processor has for Assay (15, R322): JOB_START when true, else JOB_END with a
REASON; JOB_ID, fabric time and IMAGE_HASH. -/
structure Marker where
  isStart : Bool
  jobId : BitVec 64
  time : BitVec 64
  hash : Bytes
  reason : BitVec 32
deriving DecidableEq, Repr

/-- The whole rows of a SOFTMAX or SAMPLE that is split among hearths, as its first share found them in its slot (06,
R123): the op's key, and per row of the shares each element's activity and FP32 code in column order. -/
structure SplitRows where
  key : List Nat
  rows : List (List (Bool × Nat))
deriving DecidableEq, Repr

/-- The state of the block. -/
structure State where
  pins : Pins := {}
  dev : Device := {}
  ctx : Context := {}
  time : TimeBase := {}
  rate : Rate := {}
  image : ImageUnit := {}
  seq : Sequencer := {}
  train : Train := {}
  upd : Update := {}
  rng : Rng := {}
  sets : Sparse HyperSet := []
  tele : Telemetry := {}
  hearths : Sparse Hearth := []
  fence : FenceMap := {}
  links : Sparse Link := []
  fabric : Fabric := {}
  mem : Memory := {}
  faults : Faults := {}
  mail : Sparse Mailbox := []
  port : Port := {}
  host : HostLink := {}
  sec : Security := {}
  assay : Assay := {}
  /-- [15 R322] Job markers that wait to be sent to Assay, oldest first. Reset none. -/
  markers : List Marker := []
  /-- [06 R123] Rows of the split SOFTMAX and SAMPLE ops of the slot in progress. Reset none. -/
  splitRows : List SplitRows := []
  /-- [13 R275] Job record in MRAM. -/
  jobRecord : JobRecord := {}
  /-- The model's own field, not the spec's: how many free values have been drawn. Reset 0 (log 6). -/
  fresh : Nat := 0
  /-- The model's own field: the queue of waiting commands, first in, first out. Reset empty (log 1). -/
  pending : List Instr := []
deriving DecidableEq, Repr

/-- The machine right after a cold reset: every entry at its Default (00, R6; 13, R274). -/
def State.reset : State := {}

end Sys2Proof.Machine
end

