-- ==== Sys2Proof/Machine/Ops.lean ====
section
/-! DEFINITION. The named operations over tables, memories and words: sparse tables in canonical form, byte memories,
bit fields, byte order (00, R2, R3), and the accessors of State's tables. -/

namespace Sys2Proof.Machine

/-! Sparse tables -/

/-- Value of key i in a sparse table whose default is d. -/
def sget {α : Type} (d : α) : Sparse α → Nat → α
  | [], _ => d
  | (k, v) :: t, i => if i < k then d else if i = k then v else sget d t i

/-- The table with key i holding v, in canonical form. -/
def sput {α : Type} [DecidableEq α] (d : α) : Sparse α → Nat → α → Sparse α
  | [], i, v => if v = d then [] else [(i, v)]
  | (k, w) :: t, i, v =>
    if i < k then (if v = d then (k, w) :: t else (i, v) :: (k, w) :: t)
    else if i = k then (if v = d then t else (i, v) :: t)
    else (k, w) :: sput d t i v

/-- Every key is above b, keys rise strictly, and no value is the default. -/
def sabove {α : Type} [DecidableEq α] (d : α) : Nat → Sparse α → Bool
  | _, [] => true
  | b, (k, v) :: t => decide (b ≤ k) && decide (v ≠ d) && sabove d (k + 1) t

/-- The canonical form of a sparse table. -/
def swf {α : Type} [DecidableEq α] (d : α) (t : Sparse α) : Bool := sabove d 0 t

/-- The table with f applied to the value of key i. -/
def smod {α : Type} [DecidableEq α] (d : α) (t : Sparse α) (i : Nat) (f : α → α) : Sparse α :=
  sput d t i (f (sget d t i))

/-- The table with f applied to every listed value, in canonical form. -/
def smap {α : Type} [DecidableEq α] (d : α) (f : α → α) : Sparse α → Sparse α
  | [] => []
  | (k, v) :: t => if f v = d then smap d f t else (k, f v) :: smap d f t

/-- A table from a list of values at keys b, b + 1, … -/
def sofList {α : Type} [DecidableEq α] (d : α) : Nat → List α → Sparse α
  | _, [] => []
  | b, v :: l => if v = d then sofList d (b + 1) l else (b, v) :: sofList d (b + 1) l

/-! Byte memories: sparse tables of bytes whose unlisted bytes read 0x00 (12, R260; log 4) -/

/-- One byte of a memory. -/
def mget (m : List Host.Cell) (a : Nat) : Byte := sget 0 m a

/-- Bytes of a list as cells at addresses a, a + 1, …, zeros left out. -/
def cellsOf (a : Nat) (bs : Bytes) : List Host.Cell := sofList 0 a bs

/-- Cells of m below address a. -/
def mbelow (m : List Host.Cell) (a : Nat) : List Host.Cell := m.takeWhile (fun c => decide (c.1 < a))

/-- Cells of m at or above address a. -/
def mfrom (m : List Host.Cell) (a : Nat) : List Host.Cell := m.dropWhile (fun c => decide (c.1 < a))

/-- The memory with bs stored at addresses a, a + 1, … -/
def mwrite (m : List Host.Cell) (a : Nat) (bs : Bytes) : List Host.Cell :=
  mbelow m a ++ cellsOf a bs ++ mfrom m (a + bs.length)

/-- n bytes from address a of a memory that lists nothing below a. -/
def mreadAux : List Host.Cell → Nat → Nat → Bytes
  | _, _, 0 => []
  | [], _, n + 1 => List.replicate (n + 1) 0
  | (k, v) :: t, a, n + 1 =>
    if k = a then v :: mreadAux t (a + 1) n else 0 :: mreadAux ((k, v) :: t) (a + 1) n

/-- n bytes of a memory from address a. -/
def mread (m : List Host.Cell) (a n : Nat) : Bytes := mreadAux (mfrom m a) a n

/-- The memory with n bytes from address a zeroed. -/
def mzero (m : List Host.Cell) (a n : Nat) : List Host.Cell := mbelow m a ++ mfrom m (a + n)

/-- The canonical form of a memory. -/
def memWf (m : List Host.Cell) : Bool := swf (0 : Byte) m

/-! Words and bytes -/

/-- The value of bytes stored least significant first (00, R3). -/
def leNat : Bytes → Nat
  | [] => 0
  | b :: t => b.toNat + 256 * leNat t

/-- n bytes of x, least significant first. -/
def natLe : Nat → Nat → Bytes
  | 0, _ => []
  | n + 1, x => BitVec.ofNat 8 x :: natLe n (x / 256)

/-- The value of bytes sent most significant first (00, R3). -/
def beNat (bs : Bytes) : Nat := bs.foldl (fun acc b => acc * 256 + b.toNat) 0

/-- n bytes of x, most significant first. -/
def natBe (n x : Nat) : Bytes := (natLe n x).reverse

/-- Bits [lo + len - 1 : lo] of a natural number (00, R2). -/
def bits (x lo len : Nat) : Nat := (x >>> lo) % 2 ^ len

/-- Bit i of a natural number. -/
def bitOf (x i : Nat) : Bool := x.testBit i

/-- A Bool as a bit. -/
def b2n (b : Bool) : Nat := if b then 1 else 0

/-- A Bool as a one-bit vector. -/
def b2v (b : Bool) : BitVec 1 := if b then 1 else 0

/-- n bytes from offset o of a byte string, zeros where it has none. -/
def slice (bs : Bytes) (o n : Nat) : Bytes :=
  let t := (bs.drop o).take n
  t ++ List.replicate (n - t.length) 0

/-- The value of n bytes at offset o, least significant first. -/
def leAt (bs : Bytes) (o n : Nat) : Nat := leNat ((bs.drop o).take n)

/-- The value of n bytes at offset o, most significant first. -/
def beAt (bs : Bytes) (o n : Nat) : Nat := beNat ((bs.drop o).take n)

/-- The value of a signed field of n bits. -/
def sext (n x : Nat) : Int := if x.testBit (n - 1) then (x : Int) - (2 : Int) ^ n else x

/-- Add 1 without passing the width's maximum. -/
def satInc {w : Nat} (x : BitVec w) : BitVec w := if x = BitVec.allOnes w then x else x + 1

/-- Add n without passing the width's maximum. -/
def satAdd {w : Nat} (x : BitVec w) (n : Nat) : BitVec w :=
  if x.toNat + n ≥ 2 ^ w then BitVec.allOnes w else BitVec.ofNat w (x.toNat + n)

/-- The bytes cut into pieces of n bytes; fuel bounds the number of pieces. -/
def piecesAux (n : Nat) : Nat → Bytes → List Bytes
  | 0, _ => []
  | f + 1, bs => if bs.isEmpty then [] else bs.take n :: piecesAux n f (bs.drop n)

/-- The bytes cut into pieces of n bytes. -/
def pieces (n : Nat) (bs : Bytes) : List Bytes := piecesAux n bs.length bs

/-- CRC-32 of bytes on from a running value (00; 08, R180; polynomial 0x04C1_1DB7 reflected). -/
def crcStep (c : BitVec 32) : BitVec 32 :=
  if c.getLsbD 0 then (c >>> 1) ^^^ 0xEDB88320 else c >>> 1

/-- One byte into the running CRC-32. -/
def crcByte (c : BitVec 32) (b : Byte) : BitVec 32 :=
  crcStep (crcStep (crcStep (crcStep (crcStep (crcStep (crcStep (crcStep (c ^^^ b.zeroExtend 32))))))))

/-- Bytes into the running CRC-32. -/
def crcRun (c : BitVec 32) (bs : Bytes) : BitVec 32 := bs.foldl crcByte c

/-- CRC-32: initial value and final exclusive OR 0xFFFF_FFFF. -/
def crc32 (bs : Bytes) : BitVec 32 := ~~~ (crcRun 0xFFFFFFFF bs)

/-- A count of nanoseconds as fabric time holds it: 64 bits (07, R127). -/
def clock64 (t : Nat) : Nat := t % 2 ^ 64

/-! Accessors of State's tables -/

/-- Hearth h (01, R13). -/
def hearthOf (s : State) (h : Nat) : Hearth := sget {} s.hearths h
/-- State with hearth h changed. -/
def modHearth (s : State) (h : Nat) (f : Hearth → Hearth) : State :=
  { s with hearths := smod {} s.hearths h f }

/-- Link k (01, R19). -/
def linkOf (s : State) (k : Nat) : Link := sget {} s.links k
/-- State with link k changed. -/
def modLink (s : State) (k : Nat) (f : Link → Link) : State :=
  { s with links := smod {} s.links k f }

/-- Stack n: near 0 to 7, far 8 to 15. -/
def stackOf (s : State) (n : Nat) : Stack := sget {} s.mem.stackTable n
/-- State with stack n changed. -/
def modStack (s : State) (n : Nat) (f : Stack → Stack) : State :=
  { s with mem := { s.mem with stackTable := smod {} s.mem.stackTable n f } }

/-- Mailbox m (15, R311). -/
def mailOf (s : State) (m : Nat) : Mailbox := sget {} s.mail m
/-- State with mailbox m changed. -/
def modMail (s : State) (m : Nat) (f : Mailbox → Mailbox) : State :=
  { s with mail := smod {} s.mail m f }

/-- Fault source by code (14, R302). -/
def sourceOf (s : State) (code : Nat) : Source := sget {} s.faults.sources code
/-- State with a fault source changed. -/
def modSource (s : State) (code : Nat) (f : Source → Source) : State :=
  { s with faults := { s.faults with sources := smod {} s.faults.sources code f } }

/-- Hyperparameter set n (09, R184). -/
def setOf (s : State) (n : Nat) : HyperSet := sget {} s.sets n

/-- Retained record r (12, R261). -/
def retainedOf (s : State) (r : Nat) : Retained := sget {} s.mem.retained r
/-- State with retained record r changed. -/
def modRetained (s : State) (r : Nat) (f : Retained → Retained) : State :=
  { s with mem := { s.mem with retained := smod {} s.mem.retained r f } }

/-- A tagged frame of a priority that a received PFC frame pauses waits (16, R329, R330). -/
def txWaits (s : State) (t : Tx) : Bool :=
  match t with
  | .datagram _ (some _) pcp _ _ _ _ _ _ => sget 0 s.port.paused pcp.toNat != 0
  | .ptpDelayReq (some _) pcp _ => sget 0 s.port.paused pcp.toNat != 0
  | _ => false

/-- Append to what the port and the UART send, or to what waits for a paused priority. -/
def send (s : State) (t : Tx) : State :=
  if txWaits s t then { s with port := { s.port with waitTx := s.port.waitTx ++ [t] } }
  else { s with port := { s.port with tx := s.port.tx ++ [t] } }

/-- STATE code of a device state (13, Table 13.1); OFF has none. -/
def modeCode : Mode → Nat
  | .off => 0 | .boot => 1 | .standby => 2 | .idle => 3 | .loaded => 4
  | .armed => 5 | .running => 6 | .held => 7 | .banked => 8 | .faulted => 9

/-- KIND of the plan entry now executing (07, Table 7.22); 0 when none is. -/
def currentKind (s : State) : Nat := (s.seq.segs[s.seq.pos]?).elim 0 (·.kind)

/-- Number of chunks of the plan (09, R192). -/
def chunkCount (g : Image) : Nat := (g.plan.filter (·.kind == 6)).length

/-- The commit round of the last chunk belongs to UPDATE although it runs inside STATS (09, R195). -/
def inLastRound (s : State) : Bool :=
  currentKind s == 7 && s.seq.segFrame == 0 && decide (s.seq.slot < 64) &&
    decide (0 < chunkCount (s.image.loaded.getD {})) && !s.train.skip

/-- KIND of origin of what happens now (08, Table 8.5). -/
def originKind (s : State) : Nat := if inLastRound s then 6 else currentKind s

/-- Step in progress, or COMPLETED_STEP outside RUNNING (14, Table 14.4). -/
def loggedStep (s : State) : BitVec 64 :=
  if s.dev.mode = .running then BitVec.ofNat 64 s.seq.step else s.train.completedStep

/-- A hardware unit detects an occurrence; the collector classifies it later (14, R288). -/
def detect (s : State) (o : Occ) (forced : Bool := false) : State :=
  { s with faults := { s.faults with detected := s.faults.detected ++ [{
      occ := o, forced := forced, time := s.time.now, step := loggedStep s, epoch := s.fabric.epoch
      planEntry := if s.dev.mode = .running then s.seq.planEntry else 0, state := BitVec.ofNat 8 (modeCode s.dev.mode), kind := originKind s }] } }

end Sys2Proof.Machine
end

