-- ==== Sys2Proof/Machine/Crypto.lean ====
section
/-! DEFINITION. The cryptographic functions that the spec names by their public standards: SHA-256, HMAC-SHA-256,
AES-256-GCM, and RSA with MGF1, RSASSA-PSS and RSAES-OAEP (18, R361; 13, R281; 16, R337). PRESUMED: the spec names the
standards and does not restate them (log 7). -/

namespace Sys2Proof.Machine

/-! SHA-256 -/

/-- Round constants of SHA-256. -/
def shaK : List (BitVec 32) :=
  [0x428a2f98, 0x71374491, 0xb5c0fbcf, 0xe9b5dba5, 0x3956c25b, 0x59f111f1, 0x923f82a4, 0xab1c5ed5] ++
  [0xd807aa98, 0x12835b01, 0x243185be, 0x550c7dc3, 0x72be5d74, 0x80deb1fe, 0x9bdc06a7, 0xc19bf174] ++
  [0xe49b69c1, 0xefbe4786, 0x0fc19dc6, 0x240ca1cc, 0x2de92c6f, 0x4a7484aa, 0x5cb0a9dc, 0x76f988da] ++
  [0x983e5152, 0xa831c66d, 0xb00327c8, 0xbf597fc7, 0xc6e00bf3, 0xd5a79147, 0x06ca6351, 0x14292967] ++
  [0x27b70a85, 0x2e1b2138, 0x4d2c6dfc, 0x53380d13, 0x650a7354, 0x766a0abb, 0x81c2c92e, 0x92722c85] ++
  [0xa2bfe8a1, 0xa81a664b, 0xc24b8b70, 0xc76c51a3, 0xd192e819, 0xd6990624, 0xf40e3585, 0x106aa070] ++
  [0x19a4c116, 0x1e376c08, 0x2748774c, 0x34b0bcb5, 0x391c0cb3, 0x4ed8aa4a, 0x5b9cca4f, 0x682e6ff3] ++
  [0x748f82ee, 0x78a5636f, 0x84c87814, 0x8cc70208, 0x90befffa, 0xa4506ceb, 0xbef9a3f7, 0xc67178f2]

/-- The eight working words. -/
structure ShaState where
  a : BitVec 32 := 0x6a09e667
  b : BitVec 32 := 0xbb67ae85
  c : BitVec 32 := 0x3c6ef372
  d : BitVec 32 := 0xa54ff53a
  e : BitVec 32 := 0x510e527f
  f : BitVec 32 := 0x9b05688c
  g : BitVec 32 := 0x1f83d9ab
  h : BitVec 32 := 0x5be0cd19
deriving DecidableEq, Repr

/-- One round with round constant k and schedule word w. -/
def shaRound (s : ShaState) (k w : BitVec 32) : ShaState :=
  let s1 := s.e.rotateRight 6 ^^^ s.e.rotateRight 11 ^^^ s.e.rotateRight 25
  let ch := (s.e &&& s.f) ^^^ (~~~ s.e &&& s.g)
  let t1 := s.h + s1 + ch + k + w
  let s0 := s.a.rotateRight 2 ^^^ s.a.rotateRight 13 ^^^ s.a.rotateRight 22
  let maj := (s.a &&& s.b) ^^^ (s.a &&& s.c) ^^^ (s.b &&& s.c)
  { a := t1 + (s0 + maj), b := s.a, c := s.b, d := s.c, e := s.d + t1, f := s.e, g := s.f, h := s.g }

/-- The next schedule word after the sixteen words of the window. -/
def shaNext (w : List (BitVec 32)) : BitVec 32 :=
  let w1 := w.getD 1 0
  let w14 := w.getD 14 0
  let s0 := w1.rotateRight 7 ^^^ w1.rotateRight 18 ^^^ (w1 >>> 3)
  let s1 := w14.rotateRight 17 ^^^ w14.rotateRight 19 ^^^ (w14 >>> 10)
  w.getD 0 0 + s0 + w.getD 9 0 + s1

/-- The rounds over the remaining round constants, with a window of sixteen schedule words. -/
def shaRounds : List (BitVec 32) → List (BitVec 32) → ShaState → ShaState
  | [], _, s => s
  | k :: ks, w, s => shaRounds ks (w.drop 1 ++ [shaNext w]) (shaRound s k (w.getD 0 0))

/-- One block of 64 bytes. -/
def shaBlock (s : ShaState) (b : Bytes) : ShaState :=
  let w := (pieces 4 b).map (fun p => BitVec.ofNat 32 (beNat p))
  let r := shaRounds shaK w s
  { a := s.a + r.a, b := s.b + r.b, c := s.c + r.c, d := s.d + r.d,
    e := s.e + r.e, f := s.f + r.f, g := s.g + r.g, h := s.h + r.h }

/-- The padding of a message of n bytes. -/
def shaPad (n : Nat) : Bytes :=
  (0x80 : Byte) :: (List.replicate ((119 - n % 64) % 64) 0 ++ natBe 8 (8 * n))

/-- SHA-256 of a byte string. -/
def sha256 (bs : Bytes) : Bytes :=
  let s := (pieces 64 (bs ++ shaPad bs.length)).foldl shaBlock {}
  [s.a, s.b, s.c, s.d, s.e, s.f, s.g, s.h].flatMap (fun x => natBe 4 x.toNat)

/-- Exclusive OR of byte strings, as long as the first. -/
def xorBytes : Bytes → Bytes → Bytes
  | [], _ => []
  | a :: t, [] => a :: t
  | a :: t, b :: u => (a ^^^ b) :: xorBytes t u

/-- HMAC-SHA-256. -/
def hmac (key msg : Bytes) : Bytes :=
  let k := slice (if key.length > 64 then sha256 key else key) 0 64
  sha256 (xorBytes k (List.replicate 64 0x5c) ++ sha256 (xorBytes k (List.replicate 64 0x36) ++ msg))

/-! AES-256-GCM -/

/-- Product in the field of AES, from bit n - 1 of b down. -/
def gfMulAux (a b : Nat) : Nat → Nat → Nat
  | 0, r => r
  | n + 1, r =>
    let r2 := if r.testBit 7 then (2 * r) % 256 ^^^ 0x1B else 2 * r
    gfMulAux a b n (if b.testBit n then r2 ^^^ a else r2)

/-- Product in the field of AES. -/
def gfMul (a b : Nat) : Nat := gfMulAux a b 8 0

/-- x^254, the inverse in the field of AES. -/
def gfInv (x : Nat) : Nat :=
  let x2 := gfMul x x
  let x3 := gfMul x2 x
  let x6 := gfMul x3 x3
  let x12 := gfMul x6 x6
  let x15 := gfMul x12 x3
  let x30 := gfMul x15 x15
  let x60 := gfMul x30 x30
  let x120 := gfMul x60 x60
  let x126 := gfMul x120 x6
  let x127 := gfMul x126 x
  gfMul x127 x127

/-- Rotation of a byte to the left. -/
def rotl8 (x n : Nat) : Nat := (x <<< n ||| x >>> (8 - n)) % 256

/-- The substitution box. -/
def sbox (x : Nat) : Nat :=
  let y := gfInv x
  y ^^^ rotl8 y 1 ^^^ rotl8 y 2 ^^^ rotl8 y 3 ^^^ rotl8 y 4 ^^^ 0x63

/-- The substitution of a byte. -/
def subByte (b : Byte) : Byte := BitVec.ofNat 8 (sbox b.toNat)

/-- Key schedule words w[i] from the last eight words, newest last; n words are left to make. -/
def keyWords : Nat → Nat → Nat → List Bytes → List Bytes
  | 0, _, _, _ => []
  | n + 1, i, rcon, win =>
    let t := win.getD 7 []
    let t' :=
      if i % 8 = 0 then
        let r := ((t.drop 1) ++ t.take 1).map subByte
        xorBytes r [BitVec.ofNat 8 rcon]
      else if i % 8 = 4 then t.map subByte else t
    let w := xorBytes (win.getD 0 []) t'
    w :: keyWords n (i + 1) (if i % 8 = 0 then gfMul rcon 2 else rcon) (win.drop 1 ++ [w])

/-- The 15 round keys of AES-256. -/
def roundKeys (key : Bytes) : List Bytes :=
  let w := pieces 4 (slice key 0 32)
  pieces 16 ((w ++ keyWords 52 8 1 w).flatten)

/-- Rows shifted: byte i of the result. -/
def shiftRows (b : Bytes) : Bytes :=
  (List.range 16).map (fun i => b.getD ((i + 4 * (i % 4)) % 16) 0)

/-- One column mixed. -/
def mixColumn (c : Bytes) : Bytes :=
  let a := fun i => (c.getD (i % 4) 0).toNat
  (List.range 4).map (fun i =>
    BitVec.ofNat 8 (gfMul (a i) 2 ^^^ gfMul (a (i + 1)) 3 ^^^ a (i + 2) ^^^ a (i + 3)))

/-- The rounds of AES over the remaining round keys. -/
def aesRounds : List Bytes → Bytes → Bytes
  | [], b => b
  | [k], b => xorBytes (shiftRows (b.map subByte)) k
  | k :: ks, b =>
    aesRounds ks (xorBytes ((pieces 4 (shiftRows (b.map subByte))).flatMap mixColumn) k)

/-- AES-256 of one block under the round keys. -/
def aesBlock (rks : List Bytes) (b : Bytes) : Bytes :=
  match rks with
  | [] => b
  | k :: ks => aesRounds ks (xorBytes b k)

/-- Product in the field of GCM, bits of x from the most significant down; v is y times x^i. -/
def ghashMulAux (x : Nat) : Nat → Nat → Nat → Nat
  | 0, _, z => z
  | n + 1, v, z =>
    ghashMulAux x n (if v % 2 = 1 then (v / 2) ^^^ 0xE1000000000000000000000000000000 else v / 2)
      (if x.testBit n then z ^^^ v else z)

/-- Product in the field of GCM. -/
def ghashMul (x y : Nat) : Nat := ghashMulAux x 128 y 0

/-- GHASH of blocks of up to 16 bytes. -/
def ghash (h : Nat) (y : Nat) (blocks : List Bytes) : Nat :=
  blocks.foldl (fun acc b => ghashMul (acc ^^^ beNat (slice b 0 16)) h) y

/-- The key stream applied to blocks from counter c on. -/
def gcmCtr (rks : List Bytes) (iv : Bytes) : Nat → List Bytes → Bytes
  | _, [] => []
  | c, b :: t => xorBytes b (aesBlock rks (iv ++ natBe 4 c)) ++ gcmCtr rks iv (c + 1) t

/-- The tag of AES-256-GCM over associated data and cipher text. -/
def gcmTag (rks : List Bytes) (iv aad ct : Bytes) : Bytes :=
  let h := beNat (aesBlock rks (List.replicate 16 0))
  let y := ghash h (ghash h 0 (pieces 16 aad)) (pieces 16 ct)
  let s := ghashMul (y ^^^ (8 * aad.length * 2 ^ 64 + 8 * ct.length)) h
  xorBytes (natBe 16 s) (aesBlock rks (iv ++ natBe 4 1))

/-- AES-256-GCM encryption with a 12-byte IV: cipher text and tag. -/
def gcmSeal (key iv aad pt : Bytes) : Bytes × Bytes :=
  let rks := roundKeys key
  let ct := gcmCtr rks iv 2 (pieces 16 pt)
  (ct, gcmTag rks iv aad ct)

/-- AES-256-GCM decryption: the plain text where the tag matches. -/
def gcmOpen (key iv aad ct tag : Bytes) : Option Bytes :=
  let rks := roundKeys key
  if gcmTag rks iv aad ct = tag then some (gcmCtr rks iv 2 (pieces 16 ct)) else none

/-! RSA -/

/-- b^e modulo m, over the low n bits of e from the top. -/
def powModAux (b e m : Nat) : Nat → Nat → Nat
  | 0, r => r
  | n + 1, r =>
    let r2 := r * r % m
    powModAux b e m n (if e.testBit n then r2 * b % m else r2)

/-- b^e modulo m. -/
def powMod (b e m : Nat) : Nat := powModAux (b % m) e m (Nat.log2 e + 1) (1 % m)

/-- MGF1 with SHA-256: blocks from counter c. -/
def mgfAux (seed : Bytes) : Nat → Nat → Bytes
  | 0, _ => []
  | n + 1, c => sha256 (seed ++ natBe 4 c) ++ mgfAux seed n (c + 1)

/-- n bytes of MGF1 with SHA-256. -/
def mgf1 (seed : Bytes) (n : Nat) : Bytes := (mgfAux seed (n / 32 + 1) 0).take n

/-- Clear the top bit of a byte string. -/
def clearTop : Bytes → Bytes
  | [] => []
  | b :: t => (b &&& 0x7F) :: t

/-- EMSA-PSS encoding to 384 bytes with a 32-byte salt. -/
def pssEncode (msg salt : Bytes) : Bytes :=
  let h := sha256 (List.replicate 8 0 ++ sha256 msg ++ salt)
  let db := List.replicate 318 0 ++ [(1 : Byte)] ++ salt
  clearTop (xorBytes db (mgf1 h 351)) ++ h ++ [0xBC]

/-- EMSA-PSS verification of a 384-byte encoded message. -/
def pssCheck (msg em : Bytes) : Bool :=
  let h := slice em 351 32
  let db := clearTop (xorBytes (em.take 351) (mgf1 h 351))
  let salt := db.drop 319
  decide (em.length = 384) && decide (em.getD 383 0 = 0xBC) && decide ((em.getD 0 0) &&& 0x80 = 0)
    && decide (db.take 319 = List.replicate 318 0 ++ [1])
    && decide (h = sha256 (List.replicate 8 0 ++ sha256 msg ++ salt))

/-- RSASSA-PSS verification under a public key (18, R361). -/
def pssVerify (k : PubKey) (msg sig : Bytes) : Bool :=
  decide (sig.length = 384) && decide (beNat sig < k.modulus)
    && pssCheck msg (natBe 384 (powMod (beNat sig) k.exponent k.modulus))

/-- RSASSA-PSS signature with a private exponent and a salt. -/
def pssSign (n d : Nat) (msg salt : Bytes) : Bytes := natBe 384 (powMod (beNat (pssEncode msg salt)) d n)

/-- The message after the leading zeros and the 0x01 of an OAEP data block. -/
def oaepRest : Bytes → Option Bytes
  | [] => none
  | b :: t => if b = 0 then oaepRest t else if b = 1 then some t else none

/-- EME-OAEP decoding with an empty label. -/
def oaepDecode (em : Bytes) : Option Bytes :=
  let seed := xorBytes (slice em 1 32) (mgf1 (em.drop 33) 32)
  let db := xorBytes (em.drop 33) (mgf1 seed 351)
  if em.length = 384 ∧ em.getD 0 0 = 0 ∧ db.take 32 = sha256 [] then oaepRest (db.drop 32) else none

/-- RSAES-OAEP decryption with a private exponent. -/
def oaepDecrypt (n d : Nat) (ct : Bytes) : Option Bytes :=
  if ct.length = 384 ∧ beNat ct < n then oaepDecode (natBe 384 (powMod (beNat ct) d n)) else none

/-- A public key as the spec's objects carry it: modulus, then exponent, least significant byte first (18, R364, Table
18.3; log 7). -/
def keyBytes (k : PubKey) : Bytes := natLe 384 k.modulus ++ natLe 4 k.exponent

/-- The public key in 388 bytes of an object. -/
def keyOf (bs : Bytes) : PubKey := { modulus := leNat (bs.take 384), exponent := leNat ((bs.drop 384).take 4) }

end Sys2Proof.Machine
end

