-- ==== Sys2Proof/Machine/Mail.lean ====
section
/-! DEFINITION. The mailbox block: agents, locks, messages, absence and reset of agents (15, R310 to R322). -/

namespace Sys2Proof.Machine

/-! Agents and rights (Tables 15.1 and 15.2) -/

/-- The receiver of mailbox m. -/
def mailReceiver (m : Nat) : Nat :=
  if m < 4 then 1 else if m < 16 then m - 2 else if m = 16 then 14 else if m = 17 then 1 else if m < 28 then 15 else 16

/-- Agent a may send in mailbox m. -/
def mailPermits (m a : Nat) : Bool :=
  if m < 4 then (decide (2 ≤ a) && decide (a ≤ 13)) || a == 15 || a == 16
  else if m < 16 then a == 1 || a == 15 || a == 16
  else if m = 16 then a == 1
  else if m = 17 then a == 14
  else decide (1 ≤ a) && decide (a ≤ 13)

/-- The compute, spine and bridge dies are powered: from IDLE to HELD, and in a POWER_UP once its supplies are good
(Tables 13.1, 13.8). -/
def isPowered (s : State) : Bool :=
  match s.dev.mode with
  | .idle => true | .loaded => true | .armed => true | .running => true | .held => true
  | .standby => s.dev.poweredUp | _ => false

/-- The link dies are powered: also in BANKED, and in FAULTED while their supply is enabled (14, R306, R308). -/
def linksPowered (s : State) : Bool :=
  isPowered s || s.dev.mode == .banked || (s.dev.mode == .faulted && s.pins.railEnB)

/-- The management processor runs (14, R298; 17, R400). -/
def mgmtRuns (s : State) : Bool := s.dev.mode != .off && s.dev.mode != .boot && !s.dev.restarting

/-- Agent a is present as a receiver (15, R319; log 45). -/
def agentPresent (s : State) (a : Nat) : Bool :=
  if a = 1 then mgmtRuns s
  else if a < 10 then isPowered s
  else if a < 14 then linksPowered s
  else if a = 14 then s.assay.running && s.pins.vassay
  else true

/-! Registers (R312) -/

/-- A message waits or is taken: GO reads 1. -/
def mailBusy (x : Mailbox) : Bool := x.status == 1 || x.status == 2

/-- The CONTROL word (Table 15.3). -/
def mailControl (x : Mailbox) : BitVec 32 :=
  BitVec.ofNat 32 (b2n (mailBusy x) * 2 ^ 31 + x.status.toNat * 2 ^ 24 + x.sender.toNat * 2 ^ 16 +
    x.length.toNat * 2 ^ 8 + x.code.toNat)

/-- Agent a reads DATA word i: only the owner and the receiver see it. -/
def mailWord (x : Mailbox) (m a i : Nat) : BitVec 32 :=
  if a = mailReceiver m || (a != 0 && a == x.owner) then sget 0 x.data i else 0

/-! The lock (R314) -/

/-- A read of LOCK by agent a: the value read, and the lock acquired where it is free. -/
def lockRead (s : State) (m a : Nat) : State × BitVec 32 :=
  let x := mailOf s m
  if !mailPermits m a then (s, 0x40)
  else if x.owner = 0 then (modMail s m (fun x => { x with owner := a }), 0)
  else (s, BitVec.ofNat 32 x.owner)

/-- A write of v to LOCK by agent a, with the refusal a host gets (R313, R314). -/
def lockWrite (s : State) (m a v : Nat) : State × BitVec 16 :=
  let x := mailOf s m
  if a = 0 ∨ a ≠ x.owner then (s, 0x0201)
  else if v = 0 ∧ mailBusy x then (s, 0x0301)
  else if v ≠ 0 then (s, 0x0202)
  else (modMail s m (fun _ => {}), 0)

/-! Messages (R316, R318, R319) -/

/-- The message is cleared as ABORTED (R319). -/
def abortMail (x : Mailbox) : Mailbox := { x with data := [], status := 5 }

/-- The owner's CONTROL write with GO = 1. -/
def goWrite (s : State) (m a : Nat) (len : BitVec 5) (code : BitVec 8) : State × BitVec 16 :=
  let x := mailOf s m
  if a = 0 ∨ a ≠ x.owner then (s, 0x0201)
  else if mailBusy x then (s, 0x0301)
  else if len.toNat < 8 ∨ 16 < len.toNat then (s, 0x0202)
  else
    let y : Mailbox := { x with status := 1, sender := BitVec.ofNat 6 a, length := len, code := code }
    (modMail s m (fun _ => if agentPresent s (mailReceiver m) then y else abortMail y), 0)

/-- The owner's CONTROL write with GO = 0 withdraws a PENDING message (R318). -/
def withdrawWrite (s : State) (m a : Nat) : State × BitVec 16 :=
  let x := mailOf s m
  if a = 0 ∨ a ≠ x.owner then (s, 0x0201)
  else if x.status = 1 then (modMail s m (fun x => { x with status := 0 }), 0)
  else (s, 0x0301)

/-- The sender reads the reply and releases the lock at once where it is the management processor with an EVENT or
Assay (log 46), and where it was reset meanwhile (R320). -/
def ended (m : Nat) (x : Mailbox) : Mailbox :=
  if x.orphan || (decide (17 ≤ m) && (x.owner == 1 || x.owner == 14)) then {} else x

/-- The receiver's write of STATUS TAKEN. -/
def takenWrite (s : State) (m a : Nat) : State × BitVec 16 :=
  if a ≠ mailReceiver m then (s, 0x0201)
  else if (mailOf s m).status = 1 then (modMail s m (fun x => { x with status := 2 }), 0)
  else (s, 0x0301)

/-- The receiver's write of STATUS DONE with the reply's LENGTH. -/
def doneWrite (s : State) (m a : Nat) (len : BitVec 5) : State × BitVec 16 :=
  if a ≠ mailReceiver m then (s, 0x0201)
  else if (mailOf s m).status ≠ 2 then (s, 0x0301)
  else if len.toNat ≠ 0 ∧ (len.toNat < 8 ∨ 16 < len.toNat) then (s, 0x0202)
  else (modMail s m (fun x => ended m { x with status := 3, length := len }), 0)

/-- The receiver's write of STATUS REJECTED. -/
def rejectedWrite (s : State) (m a : Nat) : State × BitVec 16 :=
  if a ≠ mailReceiver m then (s, 0x0201)
  else if mailBusy (mailOf s m) then (modMail s m (fun x => ended m { x with status := 4 }), 0)
  else (s, 0x0301)

/-- A write of DATA word i. -/
def wordWrite (s : State) (m a i : Nat) (v : BitVec 32) : State × BitVec 16 :=
  let x := mailOf s m
  let put := modMail s m (fun x => { x with data := sput 0 x.data i v })
  if a = mailReceiver m then (if x.status = 2 then (put, 0) else (s, 0x0301))
  else if a ≠ 0 ∧ a = x.owner then (if mailBusy x then (s, 0x0301) else (put, 0))
  else (s, 0x0201)

/-- A whole CONTROL write by agent a (R313, Table 15.5). -/
def controlWrite (s : State) (m a v : Nat) : State × BitVec 16 :=
  let x := mailOf s m
  let len := BitVec.ofNat 5 (bits v 8 5)
  let st := bits v 24 3
  if a = mailReceiver m then
    (if st = 2 then takenWrite s m a
     else if st = 3 then doneWrite s m a len
     else if st = 4 then rejectedWrite s m a
     else (s, 0x0202))
  else if a ≠ 0 ∧ a = x.owner then
    (if v.testBit 31 then goWrite s m a len (BitVec.ofNat 8 v) else withdrawWrite s m a)
  else (s, 0x0201)

/-! Resets and absent agents (R319 to R321) -/

/-- Every mailbox of an absent receiver that holds a message is cleared (R319). -/
def clearAbsent (s : State) : State :=
  (List.range 32).foldl (fun s m =>
    if !agentPresent s (mailReceiver m) && mailBusy (mailOf s m) then modMail s m abortMail else s) s

/-- Agent a, a sender, is reset: its locks are released (R320). -/
def releaseSender (a : Nat) (s : State) : State :=
  (List.range 32).foldl (fun s m =>
    let x := mailOf s m
    if x.owner = a then
      (if x.status = 2 then modMail s m (fun x => { x with orphan := true }) else modMail s m (fun _ => {}))
    else s) s

/-- Dies lose their power: their controllers are absent as receivers and reset as senders (R319, R320). -/
def diesOff (s : State) : State :=
  let s1 := clearAbsent s
  ((List.range 12).map (· + 2)).foldl (fun s a => if agentPresent s a then s else releaseSender a s) s1

/-- Words of a byte string, least significant first. -/
def wordsOf (bs : Bytes) : Sparse (BitVec 32) :=
  sofList 0 0 ((pieces 4 bs).map (fun p => BitVec.ofNat 32 (leNat p)))

/-- The management processor sends an EVENT with a log record into any free host or monitor mailbox; none free, none
sent (R322; log 46). -/
def sendEvent (s : State) (record : Bytes) : State :=
  if !mgmtRuns s then s
  else
    let l := ((List.range 14).map (· + 18)).filter (fun m => (mailOf s m).owner == 0)
    { s with
      fresh := s.fresh + 1
      mail := (l[Config.pick s.fresh % l.length]?).elim s.mail (fun m => smod {} s.mail m (fun _ =>
        { owner := 1, status := 1, sender := 1, length := 8, code := 0x30, data := wordsOf record })) }

/-! Commands of the block's agents -/

/-- LOCK (R314): an agent reads LOCK. -/
def execMailLock (m : Fin 32) (agent : Fin 64) (s : State) : Host.Outcome State Fault Refusal :=
  .next (lockRead s m.val agent.val).1

/-- LOCK_RELEASE (R314): an agent writes 0 to LOCK. -/
def execMailRelease (m : Fin 32) (agent : Fin 64) (s : State) : Host.Outcome State Fault Refusal :=
  .next (lockWrite s m.val agent.val 0).1

/-- GO (R316, R319). -/
def execMailGo (m : Fin 32) (agent : Fin 64) (len : BitVec 5) (code : BitVec 8) (s : State) :
    Host.Outcome State Fault Refusal := .next (goWrite s m.val agent.val len code).1

/-- MAILBOX_WITHDRAW (R318). -/
def execMailboxWithdraw (m : Fin 32) (agent : Fin 64) (s : State) : Host.Outcome State Fault Refusal :=
  .next (withdrawWrite s m.val agent.val).1

/-- TAKEN (R316). -/
def execMailTaken (m : Fin 32) (agent : Fin 64) (s : State) : Host.Outcome State Fault Refusal :=
  .next (takenWrite s m.val agent.val).1

/-- DONE (R316). -/
def execMailDone (m : Fin 32) (agent : Fin 64) (len : BitVec 5) (s : State) : Host.Outcome State Fault Refusal :=
  .next (doneWrite s m.val agent.val len).1

/-- REJECTED (R316). -/
def execMailRejected (m : Fin 32) (agent : Fin 64) (s : State) : Host.Outcome State Fault Refusal :=
  .next (rejectedWrite s m.val agent.val).1

/-- ECHO (R322): the receiver takes the message and returns the same words; a message that is no ECHO, or an ECHO in a
mailbox that carries none, is rejected. -/
def execMailEcho (m : Fin 32) (s : State) : Host.Outcome State Fault Refusal :=
  let x := mailOf s m.val
  if !mailBusy x || !agentPresent s (mailReceiver m.val) then .next s
  else if m.val < 16 ∧ x.code = 1 then .next (modMail s m.val (fun x => ended m.val { x with status := 3 }))
  else if m.val < 16 ∨ x.code = 1 then .next (modMail s m.val (fun x => ended m.val { x with status := 4 }))
  else .next s

end Sys2Proof.Machine
end

