-- ==== Sys2Proof/Machine/Assay.lean ====
section
/-! DEFINITION. The Assay unit: job records, work counts, firmware installation and its mailboxes (15, R322; 18, R373 to
R379), and the signed objects that it and the management die check (18, R364). -/

namespace Sys2Proof.Machine

/-! Signed objects (18, R364, Table 18.3) -/

/-- TYPE of a signed object. -/
def objType (b : Bytes) : Nat := leAt b 6 2
/-- SECURITY_VERSION. -/
def objVersion (b : Bytes) : Nat := leAt b 8 4
/-- FW_VERSION. -/
def objFw (b : Bytes) : BitVec 32 := BitVec.ofNat 32 (leAt b 12 4)
/-- SERIAL. -/
def objSerial (b : Bytes) : Nat := leAt b 16 8
/-- BODY_LENGTH. -/
def objLength (b : Bytes) : Nat := leAt b 24 8
/-- BODY_HASH. -/
def objHash (b : Bytes) : Bytes := slice b 32 32
/-- SIGNER as stored. -/
def objSigner (b : Bytes) : Bytes := slice b 64 388
/-- The body. -/
def objBody (b : Bytes) : Bytes := slice b 512 (objLength b)
/-- BODY_HASH matches the body. -/
def objBodyOk (b : Bytes) : Bool := sha256 (objBody b) == objHash b
/-- The signature over header and body verifies under SIGNER. -/
def objSigned (b : Bytes) : Bool :=
  pssVerify (keyOf (objSigner b)) (b.take (512 + objLength b)) (slice b (512 + objLength b) 384)

/-! Job records (18, R376, Table 18.9) -/

/-- Ring slot i (18, R379). -/
def ringSlotOf (a : Assay) (i : Nat) : Bytes := sget (List.replicate 640 0) a.ring i

/-- What Assay notes at an instant. -/
def noteMeter (a : Assay) (m : Metering) : Assay :=
  { a with time := m.assayTime, energy := m.energy, powerNow := m.powerNow }

/-- Bytes 0 to 255 of a record. -/
def recordBody (a : Assay) (r : OpenRecord) (flags fabricEnd endTime : Nat) (endEnergy : List (BitVec 64)) (work : Nat) :
    Bytes :=
  let i := a.nextIndex.toNat
  let prev := if i = 0 then List.replicate 32 0 else sha256 (ringSlotOf a ((i - 1) % 16384))
  natLe 4 0x52435341 ++ natLe 2 1 ++ natLe 2 flags ++ natLe 8 i ++ natLe 8 r.jobId.toNat ++ slice r.imageHash 0 32 ++
    natLe 8 r.fabricStart.toNat ++ natLe 8 fabricEnd ++ natLe 8 r.assayStart.toNat ++ natLe 8 endTime ++
    (List.range 8).flatMap (fun k => natLe 8 (endEnergy.getD k 0 - r.energyStart.getD k 0).toNat) ++ natLe 16 work ++
    natLe 4 a.fwVersion.toNat ++ slice a.fwMeasurement 0 32 ++ prev ++ List.replicate 20 0

/-- The open record closes with its flags, is signed and written to the ring; a notice becomes due (R376, R362). -/
def closeRecord (s : State) (flags fabricEnd endTime : Nat) (endEnergy : List (BitVec 64)) (work : Nat) : State :=
  match s.assay.record with
  | none => s
  | some r =>
    let a := s.assay
    let fl := flags + (if r.lowPower then 16 else 0) + (if a.keyLost then 32 else 0)
    let body := recordBody a r fl fabricEnd endTime endEnergy work
    let sig := if a.keyLost then List.replicate 384 0
      else pssSign Config.assayModulus Config.assaySecret body (slice (Config.random s.fresh) 0 32)
    { s with
      fresh := s.fresh + 1
      assay := { a with
        record := none
        ring := sput (List.replicate 640 0) a.ring (a.nextIndex.toNat % 16384) (body ++ sig)
        nextIndex := a.nextIndex + 1
        notices := a.notices ++ [(r.jobId, a.nextIndex)] } }

/-- The open record closes at an instant whose readings Assay notes. -/
def closeAt (s : State) (m : Metering) (flags fabricEnd : Nat) : State :=
  let s1 := { s with assay := { s.assay with record := s.assay.record.map (fun (r : OpenRecord) => { r with lowPower := m.lowPower }) } }
  closeRecord { s1 with assay := noteMeter s1.assay m } flags fabricEnd m.assayTime.toNat m.energy
    (s.assay.record.elim 0 (·.work))

/-- JOB_START opens a record, closing any open one with SUPERSEDED (Table 18.8). -/
def openRecord (s : State) (m : Metering) (x : Marker) : State :=
  let s1 := if s.assay.record.isSome then closeAt s m 1 0 else { s with assay := noteMeter s.assay m }
  { s1 with assay := { s1.assay with record := some {
      jobId := x.jobId, imageHash := x.hash, fabricStart := x.time, assayStart := m.assayTime, energyStart := m.energy
      work := 0, lowPower := false, storedTime := m.assayTime, storedEnergy := m.energy, storedWork := 0 } } }

/-- FLAGS of a JOB_END REASON (Table 18.8). -/
def endFlags (reason : BitVec 32) : Nat :=
  if reason = 1 then 2 else if reason = 2 then 4 else if reason = 3 || reason = 4 then 64 else 0

/-- Assay takes messages: supplied and not restarting. -/
def assayRuns (s : State) : Bool := s.assay.running && s.pins.vassay

/-- JOB_START (15, R322; 18, R376): the management processor's next marker, in mailbox 16. Assay absent, the message is
aborted and the marker is gone. -/
def execJobStart (m : Metering) (s : State) : Host.Outcome State Fault Refusal :=
  match s.markers with
  | x :: t =>
    if !x.isStart then .next s
    else if assayRuns s then .next (openRecord { s with markers := t } m x)
    else .next { s with markers := t }
  | [] => .next s

/-- JOB_END (15, R322; 18, R376): it closes the open record of its JOB_ID; in any other case it is rejected. -/
def execJobEnd (m : Metering) (s : State) : Host.Outcome State Fault Refusal :=
  match s.markers with
  | x :: t =>
    if x.isStart then .next s
    else
      let s1 := { s with markers := t }
      if assayRuns s && s.assay.record.any (·.jobId == x.jobId) then
        .next (closeAt s1 m (endFlags x.reason) x.time.toNat)
      else .next s1
  | [] => .next s

/-- RECORD_READY (18, R376): the oldest notice goes into mailbox 17 once the previous one has been answered. -/
def execRecordReady (s : State) : Host.Outcome State Fault Refusal :=
  match s.assay.notices with
  | (job, index) :: t =>
    if (mailOf s 17).owner != 0 || !assayRuns s then .next s
    else
      let s1 := { s with assay := { s.assay with notices := t } }
      if agentPresent s 1 then
        .next (modMail s1 17 (fun _ => { owner := 14, status := 1, sender := 14, length := 8, code := 0x20
                                         data := wordsOf (natLe 8 job.toNat ++ natLe 8 index.toNat) }))
      else .next s1
  | [] => .next s

/-- Array clocks counted since the last delivery. -/
def countedClocks (s : State) : Nat := (s.hearths.map (fun x => x.2.workClocks)).sum

/-- WORK_COUNT_DELIVERY (18, R375): each counted array clock adds 8,192 F4-equivalent MACs. -/
def execWorkCountDelivery (s : State) : Host.Outcome State Fault Refusal :=
  let w := 8192 * countedClocks s
  let hs := smap {} (fun (k : Hearth) => { k with workClocks := 0 }) s.hearths
  if s.pins.vassay then
    .next { s with
      hearths := hs
      assay := { s.assay with
        workTotal := (s.assay.workTotal + w) % 2 ^ 128
        record := s.assay.record.map (fun (r : OpenRecord) => { r with work := (r.work + w) % 2 ^ 128 }) } }
  else .next { s with hearths := hs }

/-- ASSAY_CHECKPOINT (18, R376): the open record's running values are stored. -/
def execAssayCheckpoint (m : Metering) (s : State) : Host.Outcome State Fault Refusal :=
  if s.pins.vassay then
    let a := noteMeter s.assay m
    .next { s with assay := { a with record := a.record.map (fun (r : OpenRecord) => { r with
      lowPower := m.lowPower, storedTime := m.assayTime, storedEnergy := m.energy, storedWork := r.work }) } }
  else .next s

/-- VASSAY_LOSS (18, R376): Assay stops; the open record keeps the values last stored. -/
def execVassayLoss (m : Metering) (s : State) : Host.Outcome State Fault Refusal :=
  if s.pins.vassay then
    .next (clearAbsent (releaseSender 14 { s with
      pins := { s.pins with vassay := false }
      assay := { noteMeter s.assay m with running := false } }))
  else .next s

/-- VASSAY_RETURN (18, R376): a record open at the loss closes with POWER_LOSS and the values last stored. -/
def execVassayReturn (m : Metering) (s : State) : Host.Outcome State Fault Refusal :=
  if s.pins.vassay then .next s
  else
    let s1 := { s with
      pins := { s.pins with vassay := true }
      assay := { s.assay with running := true, installing := none
                              fwVersion := s.assay.installing.elim s.assay.fwVersion (·.1)
                              fwMeasurement := s.assay.installing.elim s.assay.fwMeasurement (·.2) } }
    let s2 := match s.assay.record with
      | some r => closeRecord s1 8 0 r.storedTime.toNat r.storedEnergy r.storedWork
      | none => s1
    .next { s2 with assay := noteMeter s2.assay m }

/-! Assay firmware (18, R377) -/

/-- The staged object may be installed. -/
def assayObjectOk (s : State) : Bool :=
  let b := s.sec.assayStaging
  decide (896 ≤ b.length) && objType b == 0x0020 && sha256 (objSigner b) == Config.metrologyRoot && objBodyOk b &&
    objSigned b && decide (s.assay.counter ≤ objVersion b)

/-- ASSAY_UPDATE_REQUEST (18, R377): ASSAY_UPDATE_N is held low; while a record is open the update waits. -/
def execAssayUpdateRequest (s : State) : Host.Outcome State Fault Refusal :=
  .next { s with
    pins := { s.pins with assayUpdateN := false }
    assay := { s.assay with updatePending := s.assay.record.isSome && assayRuns s } }

/-- ASSAY_FIRMWARE_INSTALL (18, R377): the staged object is installed and the core restarts. -/
def execAssayFirmwareInstall (s : State) : Host.Outcome State Fault Refusal :=
  if s.pins.assayUpdateN || !assayRuns s then .next s
  else if s.assay.record.isSome then .next { s with assay := { s.assay with updatePending := true } }
  else if assayObjectOk s then
    let b := s.sec.assayStaging
    .next (clearAbsent { s with assay := { s.assay with
      counter := max s.assay.counter (objVersion b), updateCount := satInc s.assay.updateCount, updatePending := false
      running := false, installing := some (objFw b, objHash b) } })
  else .next { s with assay := { s.assay with updatePending := false } }

/-- ASSAY_RESTART_DONE (18, R377): the core runs the installed firmware. -/
def execAssayRestartDone (s : State) : Host.Outcome State Fault Refusal :=
  match s.assay.installing with
  | some (v, h) =>
    if s.pins.vassay then
      .next { s with assay := { s.assay with running := true, installing := none, fwVersion := v, fwMeasurement := h } }
    else .next s
  | none => .next s

end Sys2Proof.Machine
end

