-- ==== Sys2Proof/Machine/Prng.lean ====
section
/-! DEFINITION. The generator of the RNG banks: the bit step, the jump unit, the offsets and the step seeds (05, R89 to R96). -/

namespace Sys2Proof.Machine

/-- One bit step: the output bit and the next state (R89). -/
def bitStep (s : BitVec 64) : Bool × BitVec 64 :=
  (s.getLsbD 0, if s.getLsbD 0 then (s >>> 1) ^^^ 0xD800000000000000 else s >>> 1)

/-- A polynomial times x modulo P* (R91). -/
def mulX (a : Nat) : Nat := if a.testBit 63 then ((2 * a) % 2 ^ 64) ^^^ 0x1B else 2 * a

/-- Product modulo P*, from bit n - 1 of b down. -/
def mulModAux (a b : Nat) : Nat → Nat → Nat
  | 0, r => r
  | n + 1, r => mulModAux a b n (if b.testBit n then mulX r ^^^ a else mulX r)

/-- Product of two polynomials modulo P* (R92). -/
def mulMod (a b : Nat) : Nat := mulModAux a b 64 0

/-- Bit reversal of the low n bits of x, onto r. -/
def revAux (x : Nat) : Nat → Nat → Nat
  | 0, r => r
  | n + 1, r => revAux (x / 2) n (2 * r + x % 2)

/-- Bit reversal of a 64-bit state (R91). -/
def rev64 (x : Nat) : Nat := revAux x 64 0

/-- The jump: multiply by x^(2^j) for every set bit j of t; p is x^(2^j) for the lowest bit left. -/
def jumpAux : Nat → Nat → Nat → Nat → Nat
  | 0, _, _, a => a
  | n + 1, t, p, a => jumpAux n (t / 2) (mulMod p p) (if t % 2 = 1 then mulMod a p else a)

/-- state(t): the state reached from the seed by t bit steps (R91, R92). -/
def stateAt (seed t : Nat) : Nat := rev64 (jumpAux 64 (t % 2 ^ 64) 2 (rev64 seed))

/-- Offset of a bit: stream, block index, position (Table 5.1). -/
def streamOffset (stream block pos : Nat) : Nat := stream * 2 ^ 44 + block * 2 ^ 12 + pos

/-- n bits (n ≤ 59) of a stream from a position of a block's room: the low n bits of the state there (R90, R91). -/
def streamBits (seed stream block pos n : Nat) : Nat :=
  stateAt seed (streamOffset stream block pos) % 2 ^ n

/-- Linear index of the element at (row, col) of a tensor with cols columns (R94). -/
def linIndex (row col cols : Nat) : Nat := row * ((cols + 31) / 32) + col / 32

/-- n bits of the element-wise classes: position w * (col mod 32) + off of the room of its linear index (R94). -/
def elemBits (seed stream row col cols w off n : Nat) : Nat :=
  let l := linIndex row col cols
  streamBits seed (stream + l / 2 ^ 32) (l % 2 ^ 32) (w * (col % 32) + off) n

/-- The 32 rotation signs of K block j (R72, Table 5.4). -/
def rotSigns (seed stream j : Nat) : Nat := streamBits seed stream j 0 32

/-- The step seed of step n (05, R96). -/
def seedOf (jobSeed : Bytes) (n : Nat) : BitVec 64 :=
  let x := beNat ((sha256 (jobSeed ++ natBe 8 n)).take 8)
  if x = 0 then 1 else BitVec.ofNat 64 x

/-- The seed in use: that of the step in progress and, with an image loaded and before its first step, that of step 0, under
which initialisation segments run (05, R96, R101, Table 5.5; log 162). -/
def seedNow (s : State) : BitVec 64 :=
  if s.image.loaded.isSome && s.rng.stepNumber == 0 then seedOf s.rng.jobSeed 0 else s.rng.stepSeed

end Sys2Proof.Machine
end

