-- ==== Sys2Proof/Machine/Dram.lean ====
section
/-! DEFINITION. Regions, interleave, channel maps and the bytes of DRAM and cache tier (12, R240 to R252). -/

namespace Sys2Proof.Machine

/-- The loaded image, or an empty one (13, R268). -/
def imageOf (s : State) : Image := s.image.loaded.getD {}

/-- Region n of the loaded image (12, R245). -/
def regionNo (s : State) (n : Nat) : Option Region := (imageOf s).regions[n]?

/-- Tensor t of the loaded image (12, R246). -/
def tensorNo (s : State) (t : Nat) : Tensor := (imageOf s).tensors.getD t default

/-- The single region of a role, if the image has one (Table 12.4). -/
def roleRegion (s : State) (role : Nat) : Option Region := (imageOf s).regions.find? (fun r => r.role == role)

/-- Active logical channels of stack n, near 0 to 7 and far 8 to 15 (07, Table 7.25). -/
def activeOf (f : FenceMap) (n : Nat) : Nat := if n < 8 then sget 32 f.near n else sget 8 f.far (n - 8)

/-- Bursts of one logical channel (Table 12.1). -/
def channelBursts (n : Nat) : Nat := if n < 8 then 1220703 else 4882812

/-- Physical channels of a stack (12, R240). -/
def physChannels (n : Nat) : Nat := if n < 8 then 33 else 9

/-- Where a burst lies: stack 0 to 15, logical channel, channel burst. -/
structure Place where
  stack : Nat
  channel : Nat
  burst : Nat
deriving DecidableEq, Repr, Inhabited

/-- The stack, logical channel and channel burst of burst b of a DRAM region under a fence map and an image (R243). -/
def locateIn (f : FenceMap) (g : Image) (r : Region) (b : Nat) : Place :=
  let a := r.base + b
  let first := if r.tier = 0 then 0 else 8
  if r.localSpace then
    let c := activeOf f (first + r.stack)
    ⟨first + r.stack, a % c, a / c⟩
  else
    let m := if r.tier = 0 then g.nearMap else g.farMap
    let e := m.entries.getD (a % m.entries.length) (0, 0)
    ⟨first + e.1, e.2, m.localBursts + a / m.entries.length⟩

/-- The place of burst b of a region of the loaded image (R243). -/
def locate (s : State) (r : Region) (b : Nat) : Place := locateIn s.fence (imageOf s) r b

/-- Physical channel of logical channel l of a stack (R252, Table 12.11). -/
def physOf (k : Stack) (l : Nat) : Nat := (sget (some l) k.map l).getD l

/-- Physical spare of stack n; none when it has none. -/
def spareOf (n : Nat) (k : Stack) : Option Nat :=
  if k.spare = some 255 then some (if n < 8 then 32 else 8) else k.spare

/-- DRAM byte address of a channel burst of a physical channel. -/
def dramKey (stack phys burst : Nat) : Nat := ((stack * 64 + phys) * 2 ^ 23 + burst) * 2048

/-- DRAM byte address of a place. -/
def placeKey (m : Memory) (p : Place) : Nat := dramKey p.stack (physOf (sget {} m.stackTable p.stack) p.channel) p.burst

/-- The canonical form of the memories: scratchpads, DRAM, cache tier and LAST lines. -/
def Memory.wf (m : Memory) : Bool := memWf m.spad && memWf m.dram && memWf m.cacheTier && memWf m.lastData

/-- Codewords of n bytes at a DRAM address that are poisoned (R248). -/
def poisonIn (m : Memory) (key n : Nat) : List Nat :=
  m.poison.filter (fun c => decide (key / 64 ≤ c) && decide (c * 64 < key + n))

/-- Write bytes at a DRAM address: contents and valid check symbols (R247). -/
def dramPut (m : Memory) (key : Nat) (bs : Bytes) : Memory :=
  { m with
    dram := mwrite m.dram key bs
    poison := m.poison.filter (fun c => !(decide (key / 64 ≤ c) && decide (c * 64 < key + bs.length))) }

/-- Write within one burst; a rotation in progress mirrors the write onto the spare (R252). -/
def placeWrite (m : Memory) (p : Place) (o : Nat) (bs : Bytes) : Memory :=
  let k : Stack := sget {} m.stackTable p.stack
  let ph := physOf k p.channel
  let m1 := dramPut m (dramKey p.stack ph p.burst + o) bs
  if k.rotPhase = 1 ∧ k.rotFrom = ph then dramPut m1 (dramKey p.stack k.rotTo p.burst + o) bs else m1

/-- Read n bytes within one burst. -/
def placeRead (m : Memory) (p : Place) (o n : Nat) : Bytes := mread m.dram (placeKey m p + o) n

/-- The bursts that len bytes from off touch: burst, offset within it, bytes; fuel bounds their number. -/
def spansAux : Nat → Nat → Nat → List (Nat × Nat × Nat)
  | 0, _, _ => []
  | f + 1, off, len =>
    if len = 0 then []
    else
      let o := off % 2048
      let n := min len (2048 - o)
      (off / 2048, o, n) :: spansAux f (off + n) (len - n)

/-- The bursts that len bytes from off touch. -/
def spans (off len : Nat) : List (Nat × Nat × Nat) := spansAux (len / 2048 + 2) off len

/-- Byte address in the cache tier of byte off of a cache-tier region (R258). -/
def cacheKey (r : Region) (off : Nat) : Nat := r.base * 2048 + off

/-- Bytes of a region, as its tier holds them. -/
def regionRead (s : State) (r : Region) (off len : Nat) : Bytes :=
  if r.tier = 2 then mread s.mem.cacheTier (cacheKey r off) len
  else (spans off len).flatMap (fun x => placeRead s.mem (locate s r x.1) x.2.1 x.2.2)

/-- Write bytes over the spans of a DRAM region. -/
def spanWrite (s : State) (r : Region) : Memory → List (Nat × Nat × Nat) → Bytes → Memory
  | m, [], _ => m
  | m, x :: t, bs => spanWrite s r (placeWrite m (locate s r x.1) x.2.1 (bs.take x.2.2)) t (bs.drop x.2.2)

/-- The memory with bytes of a region written. -/
def regionWrite (s : State) (r : Region) (off : Nat) (bs : Bytes) : Memory :=
  if r.tier = 2 then { s.mem with cacheTier := mwrite s.mem.cacheTier (cacheKey r off) bs }
  else spanWrite s r s.mem (spans off bs.length) bs

/-- Poisoned codewords that len bytes of a region touch, with their places. -/
def regionPoison (s : State) (r : Region) (off len : Nat) : List Place :=
  if r.tier = 2 then []
  else (spans off len).flatMap (fun x =>
    (poisonIn s.mem (placeKey s.mem (locate s r x.1) + x.2.1) x.2.2).map (fun _ => locate s r x.1))

/-- An occurrence with a location (14, Table 14.2). -/
def occAt (source kind number : Nat) : Occ := ⟨BitVec.ofNat 16 source, BitVec.ofNat 4 kind, 0, BitVec.ofNat 16 number, none⟩

/-- An occurrence without a location. -/
def occNone (source : Nat) : Occ := occAt source 0 0

/-- An occurrence at a stack, near 0 to 7 or far 8 to 15, with its logical channel and the region's role. -/
def occStack (source n channel : Nat) (role : Option Nat) : Occ :=
  ⟨BitVec.ofNat 16 source, if n < 8 then 3 else 4, BitVec.ofNat 8 channel, BitVec.ofNat 16 (n % 8),
    role.map (BitVec.ofNat 8)⟩

/-- A data-path read met an uncorrectable codeword: UE_COUNT and source 0x0302 (R248). -/
def noteUncorrectable (role : Nat) (s : State) (p : Place) : State :=
  detect (modStack s p.stack (fun k => { k with ueCount := k.ueCount + 1 }))
    (occStack 0x0302 p.stack p.channel (some role))

/-- The faults of a data-path read of len bytes of a region (R248). -/
def noteRead (s : State) (r : Region) (off len : Nat) : State :=
  (regionPoison s r off len).foldl (noteUncorrectable r.role) s

/-- Maintenance work met an uncorrectable codeword: counted, left poisoned, UE_LATENT, source 0x0303; a RETAINED
region's record goes to STAGING (R248). -/
def noteLatent (role : Nat) (s : State) (p : Place) : State :=
  let s1 := modStack s p.stack (fun k => { k with ueCount := k.ueCount + 1 })
  detect { s1 with mem := { s1.mem with ueLatent := true } } (occStack 0x0303 p.stack p.channel (some role))

/-- The retained record that holds a region, if any: the record whose placement is the region entry (R261). -/
def recordOf (s : State) (r : Region) : Option Nat :=
  (List.range 16).find? (fun n => (retainedOf s n).placement == some r)

/-- Set the record of a RETAINED region to STAGING (R248). -/
def stageRecord (s : State) (r : Region) : State :=
  if r.role = 7 then
    match recordOf s r with
    | some n => modRetained s n (fun k => { k with state := 1 })
    | none => s
  else s

/-- The effects of a maintenance read (host transfer, hash, scrub) of a region's bytes (R248). -/
def noteHostRead (s : State) (r : Region) (off len : Nat) : State :=
  let ps := regionPoison s r off len
  if ps.isEmpty then s else stageRecord (ps.foldl (noteLatent r.role) s) r

end Sys2Proof.Machine
end

