-- ==== Sys2Proof/Machine/Float.lean ====
section
/-! DEFINITION. Exact values and their roundings: the formats of chapter 02 decoded to exact values, exact sums,
products and comparisons, and the one rounding that every unit uses (02, R23 to R32; 03, R51, R53; 06, R104). -/

namespace Sys2Proof.Machine

/-- An exact value: NaN, an infinity, or plus or minus m * 2^e. A zero keeps its sign. -/
inductive Val where
  | nan
  | inf (neg : Bool)
  | fin (neg : Bool) (m : Nat) (e : Int)
deriving DecidableEq, Repr, Inhabited

/-- Value +0. -/
def vzero : Val := .fin false 0 0

/-- Value 1. -/
def vone : Val := .fin false 1 0

/-- Value of a natural number. -/
def vnat (n : Nat) : Val := .fin false n 0

/-- The value is NaN. -/
def visNan : Val → Bool
  | .nan => true
  | _ => false

/-- The value is an infinity. -/
def visInf : Val → Bool
  | .inf _ => true
  | _ => false

/-- The value is finite. -/
def visFin : Val → Bool
  | .fin _ _ _ => true
  | _ => false

/-- The value is a zero of either sign. -/
def visZero : Val → Bool
  | .fin _ m _ => m == 0
  | _ => false

/-- The sign bit of a value; a NaN has none. -/
def vsign : Val → Bool
  | .nan => false
  | .inf n => n
  | .fin n _ _ => n

/-- The value with its sign inverted. -/
def vneg : Val → Val
  | .nan => .nan
  | .inf n => .inf (!n)
  | .fin n m e => .fin (!n) m e

/-- The magnitude. -/
def vabs : Val → Val
  | .nan => .nan
  | .inf _ => .inf false
  | .fin _ m e => .fin false m e

/-- The signed integer of a finite value in units of 2^u, for u at most its exponent. -/
def scaled (neg : Bool) (m : Nat) (e u : Int) : Int :=
  let x : Int := ((m <<< (e - u).toNat : Nat) : Int)
  if neg then -x else x

/-- A finite value from a signed integer and an exponent; zero is positive. -/
def vint (x : Int) (u : Int) : Val := .fin (decide (x < 0)) x.natAbs u

/-- Exact sum (Table 3.11; an exact zero sum is +0, except that (-0) + (-0) is -0). -/
def vadd : Val → Val → Val
  | .nan, _ => .nan
  | _, .nan => .nan
  | .inf a, .inf b => if a = b then .inf a else .nan
  | .inf a, _ => .inf a
  | _, .inf b => .inf b
  | .fin na ma ea, .fin nb mb eb =>
    if ma = 0 ∧ mb = 0 then .fin (na && nb) 0 0
    else if ma = 0 then .fin nb mb eb
    else if mb = 0 then .fin na ma ea
    else vint (scaled na ma ea (min ea eb) + scaled nb mb eb (min ea eb)) (min ea eb)

/-- Exact difference. -/
def vsub (a b : Val) : Val := vadd a (vneg b)

/-- Exact product; an infinity times zero is NaN. -/
def vmul : Val → Val → Val
  | .nan, _ => .nan
  | _, .nan => .nan
  | .inf a, .inf b => .inf (a != b)
  | .inf a, .fin b m _ => if m = 0 then .nan else .inf (a != b)
  | .fin a m _, .inf b => if m = 0 then .nan else .inf (a != b)
  | .fin a ma ea, .fin b mb eb => .fin (a != b) (ma * mb) (ea + eb)

/-- The value times 2^k. -/
def vscale (k : Int) : Val → Val
  | .nan => .nan
  | .inf n => .inf n
  | .fin n m e => .fin n m (e + k)

/-- Order of two non-NaN values, zeros equal; none with a NaN. -/
def vcmp : Val → Val → Option Ordering
  | .nan, _ => none
  | _, .nan => none
  | .inf a, .inf b => some (if a = b then .eq else if a then .lt else .gt)
  | .inf a, _ => some (if a then .lt else .gt)
  | _, .inf b => some (if b then .gt else .lt)
  | .fin na ma ea, .fin nb mb eb =>
    some (compare (scaled na ma ea (min ea eb)) (scaled nb mb eb (min ea eb)))

/-- a < b on values, false with a NaN. -/
def vlt (a b : Val) : Bool := vcmp a b == some .lt

/-- a ≤ b on values, false with a NaN. -/
def vle (a b : Val) : Bool := vcmp a b == some .lt || vcmp a b == some .eq

/-- a < b where -0 is below +0. -/
def vltz (a b : Val) : Bool :=
  vlt a b || (vcmp a b == some .eq && visZero a && vsign a && !vsign b)

/-! Rounding -/

/-- The nearest integer to num / den, ties to even (R51, R77). -/
def divRne (num den : Nat) : Nat :=
  let q := num / den
  let r := num % den
  if 2 * r > den then q + 1 else if 2 * r = den ∧ q % 2 = 1 then q + 1 else q

/-- num / den rounded up. -/
def divUp (num den : Nat) : Nat := (num + den - 1) / den

/-- The integer part of the base-2 logarithm of num / den, for num and den not zero. -/
def ilog2 (num den : Nat) : Int :=
  let a : Int := (Nat.log2 num : Int) - (Nat.log2 den : Int)
  let ok : Bool := if a ≥ 0 then decide (num ≥ den <<< a.toNat) else decide (num <<< (-a).toNat ≥ den)
  if ok then a else a - 1

/-- num / den * 2^d as a fraction of naturals. -/
def shiftFrac (num den : Nat) (d : Int) : Nat × Nat :=
  if d ≥ 0 then (num <<< d.toNat, den) else (num, den <<< (-d).toNat)

/-- A binary format: exponent bits and fraction bits, IEEE style (02, Tables 2.4, 2.9). -/
structure Fmt where
  eb : Nat
  mb : Nat
deriving DecidableEq, Repr

/-- Exponent bias of a format. -/
def fmtBias (f : Fmt) : Int := (2 : Int) ^ (f.eb - 1) - 1

/-- Exponent of the smallest normal value. -/
def fmtEmin (f : Fmt) : Int := 1 - fmtBias f

/-- Width of a format. -/
def fmtWidth (f : Fmt) : Nat := 1 + f.eb + f.mb

/-- FP32 and T32 (R30). -/
def fp32 : Fmt := ⟨8, 23⟩
/-- BF16 (R30). -/
def bf16 : Fmt := ⟨8, 7⟩
/-- W48 (R31). -/
def w48 : Fmt := ⟨11, 36⟩
/-- F8G (R25). -/
def f8g : Fmt := ⟨5, 2⟩

/-- Exact value of a code of an IEEE style format. -/
def decodeF (f : Fmt) (w : Nat) : Val :=
  let s := w.testBit (f.eb + f.mb)
  let e := bits w f.mb f.eb
  let m := bits w 0 f.mb
  if e = 2 ^ f.eb - 1 then (if m = 0 then .inf s else .nan)
  else if e = 0 then .fin s m (fmtEmin f - f.mb)
  else .fin s (2 ^ f.mb + m) ((e : Int) - fmtBias f - f.mb)

/-- Sign bit in place. -/
def signBit (f : Fmt) (neg : Bool) : Nat := if neg then 2 ^ (f.eb + f.mb) else 0

/-- Canonical NaN of a format (Table 2.7). -/
def nanCode (f : Fmt) : Nat := (2 ^ f.eb - 1) * 2 ^ f.mb + 2 ^ (f.mb - 1)

/-- Infinity of a format (Table 2.7). -/
def infCode (f : Fmt) (neg : Bool) : Nat := signBit f neg + (2 ^ f.eb - 1) * 2 ^ f.mb

/-- Largest finite code of a format. -/
def maxCode (f : Fmt) (neg : Bool) : Nat := infCode f neg - 1

/-- Magnitude code of num / den * 2^e before the overflow test, rounded by rnd. -/
def roundMag (f : Fmt) (rnd : Nat → Nat → Nat) (num den : Nat) (e : Int) : Nat :=
  let u : Int := max (ilog2 num den + e) (fmtEmin f) - f.mb
  let (n, d) := shiftFrac num den (e - u)
  (u - (fmtEmin f - f.mb)).toNat * 2 ^ f.mb + rnd n d

/-- A rounded code with its R59 events: a finite overflow, and a nonzero value that became zero. -/
structure Rounded where
  code : Nat
  overflows : Bool := false
  flushed : Bool := false
deriving DecidableEq, Repr

/-- Round ±num / den * 2^e; sat replaces an overflow by the largest finite value (R58). -/
def roundFrac (f : Fmt) (rnd : Nat → Nat → Nat) (sat neg : Bool) (num den : Nat) (e : Int) : Rounded :=
  if num = 0 then ⟨signBit f neg, false, false⟩
  else
    let m := roundMag f rnd num den e
    if m ≥ infCode f false then ⟨if sat then maxCode f neg else infCode f neg, true, false⟩
    else ⟨signBit f neg + m, false, m == 0⟩

/-- Round an exact value. -/
def roundVal (f : Fmt) (sat : Bool) : Val → Rounded
  | .nan => ⟨nanCode f, false, false⟩
  | .inf n => ⟨infCode f n, false, false⟩
  | .fin n m e => roundFrac f divRne sat n m 1 e

/-- Code of a value, rounded to nearest even, overflow to infinity. -/
def encodeF (f : Fmt) (v : Val) : Nat := (roundVal f false v).code

/-- The value rounded to a format. -/
def rne (f : Fmt) (v : Val) : Val := decodeF f (encodeF f v)

/-- FP32 code of a value, RNE. -/
def toF32 (v : Val) : Nat := encodeF fp32 v
/-- Value of an FP32 code. -/
def ofF32 (w : Nat) : Val := decodeF fp32 w
/-- BF16 code of a value, RNE. -/
def toB16 (v : Val) : Nat := encodeF bf16 v
/-- Value of a BF16 code. -/
def ofB16 (w : Nat) : Val := decodeF bf16 w

/-! W48 containers and arithmetic -/

/-- W48 addition on exact values (R53, R61). The spec's own trees never overflow; where other operands do (BNODE, BSUMSQ over
W48 containers), a result whose rounding exceeds the largest finite W48 is the infinity of its sign, as RNE gives it: DESIGN
CHOICE (log 158). -/
def wadd (a b : Val) : Val := rne w48 (vadd a b)

/-- W48 square or product (R53); a result beyond the largest finite W48 is an infinity: DESIGN CHOICE (log 158). -/
def wmul (a b : Val) : Val := rne w48 (vmul a b)

/-- Value of an 8-byte W48 container and whether it is malformed (R32). -/
def ofW48c (w : Nat) : Val × Bool :=
  if w / 2 ^ 48 = 0 then (decodeF w48 w, false) else (.nan, true)

/-- One level of the canonical tree (R54). -/
def treeLevel : List Val → List Val
  | a :: b :: t => wadd a b :: treeLevel t
  | l => l

/-- The canonical tree, level by level; fuel bounds the levels. -/
def treeAux : Nat → List Val → Val
  | _, [] => vzero
  | _, [a] => a
  | 0, a :: _ => a
  | f + 1, l => treeAux f (treeLevel l)

/-- The canonical tree over W48 values in index order (R54). -/
def canonicalTree (l : List Val) : Val := treeAux l.length l

/-! Narrow codes -/

/-- Value of an F4 code (Table 2.3). -/
def ofF4 (c : Nat) : Val :=
  let s := c.testBit 3
  let e := bits c 1 2
  let m := bits c 0 1
  if e = 0 then .fin s m (-1) else .fin s (2 + m) ((e : Int) - 2)

/-- Value of an F8A code (R24). -/
def ofF8A (c : Nat) : Val :=
  let s := c.testBit 7
  let e := bits c 3 4
  let m := bits c 0 3
  if e = 15 ∧ m = 7 then .nan
  else if e = 0 then .fin s m (-9) else .fin s (8 + m) ((e : Int) - 10)

/-- Value of an F8G code (R25). -/
def ofF8G (c : Nat) : Val := decodeF f8g c

/-- Exact quotient of two FP32 values rounded to FP32 (Table 6.2 and the note below it). -/
def fdiv : Val → Val → Nat
  | .nan, _ => nanCode fp32
  | _, .nan => nanCode fp32
  | .inf _, .inf _ => nanCode fp32
  | .inf a, .fin b _ _ => infCode fp32 (a != b)
  | .fin a _ _, .inf b => signBit fp32 (a != b)
  | .fin a ma ea, .fin b mb eb =>
    if mb = 0 then (if ma = 0 then nanCode fp32 else infCode fp32 (a != b))
    else (roundFrac fp32 divRne false (a != b) ma mb (ea - eb)).code

end Sys2Proof.Machine
end

