-- ==== Sys2Proof/Machine/Operands.lean ====
section
/-! DEFINITION. The operand forms of the data path: the fields of op records and parameter records (07, Tables 7.14 to
7.17), scratchpad streams (06, R102), masks (R108, R109), tensor tags (02, R39) and narrow operands in their planes (02,
R40 to R44). -/

namespace Sys2Proof.Machine

/-! Fields of an op record -/

/-- A field of the op record. -/
def opF (c : OpCmd) (lo len : Nat) : Nat := bits c.op.toNat lo len
/-- A field of the parameter record. -/
def parF (c : OpCmd) (lo len : Nat) : Nat := bits c.par.toNat lo len
/-- OPCODE. -/
def opCode (c : OpCmd) : Nat := opF c 248 8
/-- SRC0, or SRC_A of a matrix op. -/
def opSrc0 (c : OpCmd) : Nat := opF c 144 16
/-- SRC1, or SRC_B. -/
def opSrc1 (c : OpCmd) : Nat := opF c 128 16
/-- SRC2, or DST of a matrix op. -/
def opSrc2 (c : OpCmd) : Nat := opF c 112 16
/-- DST0 of a stream op. -/
def opDst0 (c : OpCmd) : Nat := opF c 96 16
/-- DST1 of a stream op. -/
def opDst1 (c : OpCmd) : Nat := opF c 80 16
/-- START_SLOT. -/
def opStart (c : OpCmd) : Nat := opF c 216 32
/-- DURATION. -/
def opDuration (c : OpCmd) : Nat := opF c 200 16
/-- PARAM_PTR. -/
def opParamPtr (c : OpCmd) : Nat := opF c 160 32
/-- TENSOR of CONVERT. -/
def opTensor (c : OpCmd) : Nat := opF c 64 16
/-- FMT_IN of a stream op. -/
def opFmtIn (c : OpCmd) : Nat := opF c 60 4
/-- FMT_OUT of a stream op. -/
def opFmtOut (c : OpCmd) : Nat := opF c 56 4
/-- OVF_MODE of a stream op. -/
def opOvf (c : OpCmd) : Bool := c.op.toNat.testBit 55
/-- TAP. -/
def opTap (c : OpCmd) : Bool := c.op.toNat.testBit 54
/-- NODE_H of a stream op. -/
def opNodeH (c : OpCmd) : Nat := opF c 49 5
/-- NODE_J of a stream op. -/
def opNodeJ (c : OpCmd) : Nat := opF c 26 23

/-- COUNT. -/
def pCount (c : OpCmd) : Nat := parF c 480 32
/-- ROW_LEN. -/
def pRowLen (c : OpCmd) : Nat := parF c 448 32
/-- ROW_BASE. -/
def pRowBase (c : OpCmd) : Nat := parF c 416 32
/-- COL_BASE. -/
def pColBase (c : OpCmd) : Nat := parF c 384 32
/-- CAUSAL_OFF, signed. -/
def pCausal (c : OpCmd) : Int := sext 32 (parF c 352 32)
/-- PARAM_A. -/
def pA (c : OpCmd) : Nat := parF c 320 32
/-- PARAM_B. -/
def pB (c : OpCmd) : Nat := parF c 288 32
/-- KEEP_SCALE. -/
def pKeepScale (c : OpCmd) : Nat := parF c 256 32
/-- STREAM. -/
def pStream (c : OpCmd) : Nat := parF c 236 20
/-- ROT_STREAM. -/
def pRotStream (c : OpCmd) : Nat := parF c 216 20
/-- SR_STREAM. -/
def pSrStream (c : OpCmd) : Nat := parF c 196 20
/-- KEEP_THR. -/
def pKeepThr (c : OpCmd) : Nat := parF c 180 16
/-- TAU. -/
def pTau (c : OpCmd) : Nat := parF c 172 8
/-- STAT_ID. -/
def pStatId (c : OpCmd) : Nat := parF c 160 12
/-- VSTAT_ID. -/
def pVstatId (c : OpCmd) : Nat := parF c 150 10
/-- STAT_EN. -/
def pStatEn (c : OpCmd) : Bool := c.par.toNat.testBit 149
/-- TOP_K. -/
def pTopK (c : OpCmd) : Nat := parF c 142 7
/-- MASK_MODE. -/
def pMaskMode (c : OpCmd) : Nat := parF c 140 2
/-- MASK_ZERO. -/
def pMaskZero (c : OpCmd) : Bool := c.par.toNat.testBit 139
/-- TARGET. -/
def pTarget (c : OpCmd) : Nat := parF c 135 4
/-- ROUND. -/
def pRound (c : OpCmd) : Bool := c.par.toNat.testBit 134
/-- ROTATE. -/
def pRotate (c : OpCmd) : Bool := c.par.toNat.testBit 133
/-- TAG_WRITE. -/
def pTagWrite (c : OpCmd) : Bool := c.par.toNat.testBit 132
/-- DISCARD. -/
def pDiscard (c : OpCmd) : Bool := c.par.toNat.testBit 131
/-- AMAX_SCOPE. -/
def pScope (c : OpCmd) : Nat := parF c 129 2
/-- LSE. -/
def pLse (c : OpCmd) : Bool := c.par.toNat.testBit 128
/-- LANE_BASE. -/
def pLaneBase (c : OpCmd) : Nat := parF c 122 6
/-- LANE_COUNT. -/
def pLaneCount (c : OpCmd) : Nat := parF c 115 7
/-- MASK_PLANE. -/
def pMaskPlane (c : OpCmd) : Nat := parF c 99 16
/-- FLAG_PLANE. -/
def pFlagPlane (c : OpCmd) : Nat := parF c 83 16
/-- AUX. -/
def pAux (c : OpCmd) : Nat := parF c 67 16
/-- SHARE_COLS. -/
def pShareCols (c : OpCmd) : Nat := parF c 35 32

/-- W of R108: SHARE_COLS, or ROW_LEN when SHARE_COLS is 0. -/
def pWidth (c : OpCmd) : Nat := if pShareCols c = 0 then pRowLen c else pShareCols c

/-! Scratchpad streams -/

/-- Bytes of one element of a stream format: BF16, FP32, W48 (02, Table 2.1). -/
def fmtBytes (f : Nat) : Nat := if f = 5 then 2 else if f = 6 then 4 else 8

/-- Scratchpad address in Memory of 32-byte unit a of hearth h (07, R145). -/
def spadKey (h a : Nat) : Nat := h * 2 ^ 21 + a * 32

/-- n bytes from unit a lie within the 2 MiB scratchpad (01, R13). -/
def spadFits (a n : Nat) : Bool := decide (a * 32 + n ≤ 2 ^ 21)

/-- n bytes of hearth h's scratchpad from unit a. -/
def spadRead (s : State) (h a n : Nat) : Bytes := mread s.mem.spad (spadKey h a) n

/-- A scratchpad memory with bytes written at unit a of hearth h. -/
def spadWrite (m : List Host.Cell) (h a : Nat) (bs : Bytes) : List Host.Cell := mwrite m (spadKey h a) bs

/-- Codes of w bytes each, least significant byte first (00, R3). -/
def codesOf (w : Nat) (bs : Bytes) : List Nat := (pieces w bs).map leNat

/-- Codes as bytes, w bytes each. -/
def codeBytes (w : Nat) (l : List Nat) : Bytes := l.flatMap (natLe w)

/-- n codes of w bytes of hearth h's scratchpad from unit a. -/
def codesAt (s : State) (h a w n : Nat) : List Nat := codesOf w (spadRead s h a (w * n))

/-- FP32 code of an element of a BF16 or FP32 stream; BF16 is widened exactly (06, R102). -/
def widen (f x : Nat) : Nat := if f = 5 then x * 2 ^ 16 else x

/-- Stream code of an FP32 result: BF16 is rounded to nearest even (06, R102). -/
def narrow (f x : Nat) : Nat := if f = 5 then toB16 (ofF32 x) else x

/-- Value of a stream element of format BF16, FP32 or W48. -/
def streamVal (f x : Nat) : Val := if f = 7 then (ofW48c x).1 else ofF32 (widen f x)

/-- The W48 square of a leaf; the square of a zero of either sign is +0 (R53, R117). -/
def squareLeaf (v : Val) : Val := if visZero v then vzero else wmul v v

/-! Masks (06, R108, R109) -/

/-- Element e of an op's share is active. -/
def isActive (c : OpCmd) (plane : Bytes) (e : Nat) : Bool :=
  let w := pWidth c
  let rho : Int := pRowBase c + (e / w : Nat)
  let kappa : Int := pColBase c + (e % w : Nat)
  decide (kappa < pRowLen c)
    && (!(pMaskMode c).testBit 0 || (plane.getD (e / 8) 0).getLsbD (e % 8))
    && (!(pMaskMode c).testBit 1 || decide (kappa ≤ rho + pCausal c))

/-- Logical row of element e. -/
def rowOf (c : OpCmd) (e : Nat) : Nat := pRowBase c + e / pWidth c
/-- Logical column of element e. -/
def colOf (c : OpCmd) (e : Nat) : Nat := pColBase c + e % pWidth c

/-- Bytes of the mask plane of an op's share. -/
def maskBytes (s : State) (c : OpCmd) : Bytes := spadRead s c.hearth.val (pMaskPlane c) ((pCount c + 7) / 8)

/-- Activity of every element of an op's share, in stream order. -/
def activity (s : State) (c : OpCmd) : List Bool :=
  let plane := maskBytes s c
  (List.range (pCount c)).map (isActive c plane)

/-- The mask plane, where the op uses it, lies in the scratchpad. -/
def maskFits (c : OpCmd) : Bool :=
  !(pMaskMode c).testBit 0 || spadFits (pMaskPlane c) ((pCount c + 7) / 8)

/-- Cut a list into rows of w elements; a width of 0 makes one row (06, R115). -/
def rowsAux {α : Type} (w : Nat) : Nat → List α → List (List α)
  | 0, _ => []
  | f + 1, l => if l.isEmpty then [] else l.take w :: rowsAux w f (l.drop w)

/-- The share rows of a list of elements (R108). -/
def shareRows {α : Type} (c : OpCmd) (l : List α) : List (List α) :=
  let w := if pWidth c = 0 then l.length else pWidth c
  rowsAux w l.length l

/-! Uncorrectable scratchpad words (06, R110) -/

/-- Uncorrectable words that hold one of n elements of w bytes (at most 8) at unit a of hearth h which the op reads; on says
which elements it reads. -/
def struckWords (s : State) (h a w n : Nat) (on : Nat → Bool) : Nat :=
  let key := spadKey h a
  (s.mem.spadPoison.filter (fun k => decide (key ≤ 8 * k) && decide (8 * k < key + w * n)
    && (List.range (8 / w)).any (fun i => decide ((8 * k - key) / w + i < n) && on ((8 * k - key) / w + i)))).length

/-- Uncorrectable words among n bytes that the op reads whole. -/
def struckBytes (s : State) (h a n : Nat) : Nat := struckWords s h a 1 n (fun _ => true)

/-- Uncorrectable words of the op's mask plane. -/
def struckPlane (s : State) (c : OpCmd) (used : Bool) : Nat :=
  if used then struckBytes s c.hearth.val (pMaskPlane c) ((pCount c + 7) / 8) else 0

/-- Uncorrectable words that a merge with MASK_ZERO = 0 reads from a destination of w-byte elements at unit a: those with a
masked element. -/
def struckMerge (s : State) (c : OpCmd) (a w : Nat) : Nat :=
  if pMaskZero c then 0
  else struckWords s c.hearth.val a w (pCount c) (fun e => !isActive c (maskBytes s c) e)

/-- Uncorrectable words with an active element of the op's stream of w-byte elements at unit a. -/
def struckStream (s : State) (c : OpCmd) (a w : Nat) : Nat :=
  struckWords s c.hearth.val a w (pCount c) (isActive c (maskBytes s c))

/-- n occurrences of a source at a hearth. -/
def noteAt (source h : Nat) : Nat → State → State
  | 0, s => s
  | n + 1, s => noteAt source h n (detect s (occAt source 1 h))

/-- The uncorrectable words that n bytes written from unit a of hearth h do not make whole. -/
def restored (l : List Nat) (h a n : Nat) : List Nat :=
  l.filter (fun k => !(decide (spadKey h a ≤ 8 * k) && decide (8 * k + 8 ≤ spadKey h a + n)))

/-- The state after an op: one scratchpad fault for each uncorrectable word that it read (source 0x0102, R110), and the
words that its writes, unit and bytes, made whole. -/
def withEcc (c : OpCmd) (struck : Nat) (writes : List (Nat × Nat)) (t : State) : State :=
  noteAt 0x0102 c.hearth.val struck { t with mem := { t.mem with
    spadPoison := writes.foldl (fun l x => restored l c.hearth.val x.1 x.2) t.mem.spadPoison } }

/-! Statistics records -/

/-- Sum of two counters, saturating (10, R204). -/
def cntAdd (a b : BitVec 64) : BitVec 64 := satAdd a b.toNat

/-- Sum of two records of eight counters. -/
def statAdd (a b : Stat8) : Stat8 :=
  { c0 := cntAdd a.c0 b.c0, c1 := cntAdd a.c1 b.c1, c2 := cntAdd a.c2 b.c2, c3 := cntAdd a.c3 b.c3,
    c4 := cntAdd a.c4 b.c4, c5 := cntAdd a.c5 b.c5, c6 := cntAdd a.c6 b.c6, c7 := cntAdd a.c7 b.c7 }

/-- A record from eight counts. -/
def statOf (a b c d e f g h : Nat) : Stat8 :=
  { c0 := BitVec.ofNat 64 a, c1 := BitVec.ofNat 64 b, c2 := BitVec.ofNat 64 c, c3 := BitVec.ofNat 64 d,
    c4 := BitVec.ofNat 64 e, c5 := BitVec.ofNat 64 f, c6 := BitVec.ofNat 64 g, c7 := BitVec.ofNat 64 h }

/-- Add a record to vector record VSTAT_ID where STAT_EN is 1 (06, R114). -/
def addVec (t : Telemetry) (c : OpCmd) (d : Stat8) : Telemetry :=
  if pStatEn c then { t with vec := smod {} t.vec (pVstatId c) (statAdd d) } else t

/-- Chunk number of the UPDATE segment in progress (R192). -/
def chunkOf (s : State) : Nat := ((s.seq.segs.take s.seq.pos).filter (fun g => g.kind == 6)).length

/-- Ring slot k mod 2 set to a code (Table 9.12). -/
def setRing (u : Update) (k : Nat) (v : BitVec 2) : Update :=
  if k % 2 = 0 then { u with ring0 := v } else { u with ring1 := v }

/-- Chunk k set to a state. -/
def setChunk (u : Update) (k : Nat) (x : ChunkState) : Update := { u with states := sput .free u.states k x }

/-- The first update op of a chunk opens it (Table 9.7). -/
def openChunk (s : State) : Update :=
  let k := chunkOf s
  match sget .free s.upd.states k with
  | .free => setRing (setChunk s.upd k .opened) k 2
  | .copying => setRing (setChunk s.upd k .opened) k 2
  | _ => s.upd

/-- The pending counts of the chunk in progress with an op's counts added, where STAT_EN is 1 (09, R190). -/
def pendVec (s : State) (c : OpCmd) (st : Stat8) : Update :=
  if pStatEn c then
    { s.upd with pending := smod {} s.upd.pending (1024 * chunkOf s + pVstatId c) (statAdd st) }
  else s.upd

/-- The counts of a vector, bellows or update op: pending with their chunk in an UPDATE segment, else in their record (06,
R114; 09, R190). -/
def vecStat (s : State) (c : OpCmd) (st : Stat8) : Telemetry × Update :=
  if currentKind s = 6 then (s.tele, pendVec s c st) else (addVec s.tele c st, s.upd)

/-- The program buffer with an op's records streamed in: at most 682 pairs of 32 and 64 bytes stand in 64 KiB (07, R148;
log 155). -/
def streamed (k : Hearth) (c : OpCmd) : List (BitVec 256 × BitVec 512) :=
  (k.program ++ [(c.op, c.par)]).drop (k.program.length + 1 - 682)

/-- The hearths after an op of a unit other than the bellows: its records in the program buffer, open to a TAP (07, R148;
06, R117). -/
def ranOp (s : State) (c : OpCmd) : Sparse Hearth :=
  smod {} s.hearths c.hearth.val (fun k => { k with program := streamed k c, progOp := c.op, progPar := c.par })

/-- The hearths after an op of the bellows (07, R148). -/
def ranBellows (s : State) (c : OpCmd) : Sparse Hearth :=
  smod {} s.hearths c.hearth.val (fun k => { k with program := streamed k c })

/-- A hearth that is fenced executes no op (14, R293). -/
def isFenced (s : State) (h : Nat) : Bool := s.fence.hearths.contains h

/-- The physical hearth that a logical hearth is mapped to (07, R155). -/
def physicalOf (s : State) (l : Nat) : Option Nat := (s.hearths.find? (fun x => x.2.logical == l)).map (·.1)

/-- The segment in progress. -/
def currentSeg (s : State) : Seg := (s.seq.segs[s.seq.pos]?).getD default

/-- The segment in progress is an UPDATE segment of a step whose update is skipped (08, R170). -/
def updateSkips (s : State) : Bool := s.train.skip && currentKind s == 6

/-- A logical hearth is mapped to physical hearth h (01, R14). -/
def isMapped (s : State) (h : Nat) : Bool := (hearthOf s h).logical != 0x7FF

/-- Compute die of a hearth (01, R13). -/
def dieOfHearth (h : Nat) : Nat := h / 144

/-- The compute-die clocks of a hearth are gated by PWRCAP_N or its die's emergency gate (07, R141). -/
def isGated (s : State) (h : Nat) : Bool := !s.pins.pwrcapN || sget false s.rate.dieGate (dieOfHearth h)

/-- The schedule runs nothing: the device has stopped for a halt (07, R157), or the update is skipped (08, R170). -/
def scheduleStopped (s : State) : Bool := s.seq.stopped || updateSkips s

/-- The hearth takes no part in the schedule: it is fenced (14, R293) or an unmapped spare (01, R14), or the schedule runs
nothing (07, R157; 08, R170; log 137). -/
def hearthStopped (s : State) (h : Nat) : Bool := isFenced s h || !isMapped s h || scheduleStopped s

/-- The hearth executes no op: it takes no part in the schedule, or its arithmetic clock is gated (01, R17; 07, R141;
log 137). -/
def opStopped (s : State) (h : Nat) : Bool := hearthStopped s h || isGated s h

/-! Tensor tags (02, R39, Table 2.12; 12, R246) -/

/-- The 128-bit tag of a tensor: 0 where the image has no TAGS region. -/
def tagOf (s : State) (t : Nat) : Nat :=
  match roleRegion s 2 with
  | none => 0
  | some r => leNat (regionRead s r (16 * (tensorNo s t).tag) 16)

/-- The faults of the control access that reads a tensor's tag (12, R241, R248). -/
def noteTag (s : State) (t : Nat) : State :=
  match roleRegion s 2 with
  | none => s
  | some r => noteRead s r (16 * (tensorNo s t).tag) 16

/-- The memory after T32 is written into a tensor's tag; a control write rewrites its whole burst (R39, R241). -/
def tagWrite (s : State) (t t32 : Nat) : Memory :=
  match roleRegion s 2 with
  | none => s.mem
  | some r =>
    let o := 16 * (tensorNo s t).tag
    let b := o / 2048 * 2048
    let old := regionRead s r b 2048
    regionWrite s r b (old.take (o - b) ++ natLe 4 t32 ++ old.drop (o - b + 4))

/-- T32 of a tag. -/
def tagT32 (g : Nat) : Nat := bits g 0 32
/-- ROWS of a tag. -/
def tagRows (g : Nat) : Nat := bits g 32 32
/-- COLS of a tag. -/
def tagCols (g : Nat) : Nat := bits g 64 32
/-- FORMAT of a tag. -/
def tagFormat (g : Nat) : Nat := bits g 96 4
/-- LAYOUT of a tag. -/
def tagLayout (g : Nat) : Nat := bits g 100 2
/-- BLOCKING of a tag. -/
def tagBlocking (g : Nat) : Nat := bits g 102 2
/-- ROTATED of a tag. -/
def tagRotated (g : Nat) : Bool := g.testBit 104
/-- OUTLIERS of a tag. -/
def tagOutliers (g : Nat) : Bool := g.testBit 105

/-- A T32 is valid when it is positive and finite (R29). -/
def t32Valid (t : Nat) : Bool :=
  match ofF32 t with
  | .fin n m _ => !n && decide (m ≠ 0)
  | _ => false

/-- The op record agrees with the tag: format, a narrow layout and blocking, SQUARE where it is read transposed
(R22, R38, R39). -/
def tagAgrees (g fmt : Nat) (trans : Bool) : Bool :=
  decide (tagFormat g = fmt)
    && (decide (tagLayout g = 1) || decide (tagLayout g = 2))
    && (decide (tagBlocking g = 1) || decide (tagBlocking g = 2))
    && (decide (tagLayout g = 2) || (decide (fmt = 0) && decide (tagBlocking g = 1)))
    && (!trans || decide (tagBlocking g = 2))

/-! Narrow operands -/

/-- The class of an element (03, R60): pad, NaN, an infinity, or finite with its sign and whether it is zero. -/
inductive ECls where
  | pad
  | nan
  | inf (neg : Bool)
  | fin (neg zero : Bool)
deriving DecidableEq, Repr

/-- One element: its class, and its hi and lo values in units of 2^-16 (03, R47). -/
structure Elem where
  cls : ECls
  hi : Int
  lo : Int
deriving DecidableEq, Repr

/-- One block of 32 elements with its hi and lo scales. -/
structure Block where
  hiX8 : Nat
  loX8 : Nat
  elems : List Elem
deriving DecidableEq, Repr, Inhabited

/-- The single format of a narrow format code: F4 0, F8A 1, F8G 2. -/
def baseFmt (f : Nat) : Nat := if f = 3 then 1 else if f = 4 then 2 else f

/-- The format is a pair form. -/
def isPair (f : Nat) : Bool := f == 3 || f == 4

/-! Fields of a matrix op (Table 7.15) -/

/-- FMT_A. -/
def mFmtA (c : OpCmd) : Nat := opF c 76 4
/-- FMT_B. -/
def mFmtB (c : OpCmd) : Nat := opF c 72 4
/-- FMT_OUT. -/
def mFmtOut (c : OpCmd) : Nat := opF c 68 4
/-- OVF_MODE. -/
def mOvf (c : OpCmd) : Bool := c.op.toNat.testBit 67
/-- TRANS_A. -/
def mTransA (c : OpCmd) : Bool := c.op.toNat.testBit 66
/-- TRANS_B. -/
def mTransB (c : OpCmd) : Bool := c.op.toNat.testBit 65
/-- Rows of the output: 16 * TILES_M. -/
def mRows (c : OpCmd) : Nat := 16 * opF c 58 6
/-- Columns of the output: 16 * TILES_N. -/
def mCols (c : OpCmd) : Nat := 16 * opF c 52 6
/-- First reduction index of the share: node (H, J) covers groups from J * 2^H. -/
def mFirstK (c : OpCmd) : Nat := opF c 24 23 * 2 ^ opF c 47 5 * 512
/-- K_BLOCKS. -/
def mKBlocks (c : OpCmd) : Nat := opF c 8 16
/-- TENSOR_A. -/
def mTensorA (c : OpCmd) : Nat := opF c 96 16
/-- TENSOR_B. -/
def mTensorB (c : OpCmd) : Nat := opF c 80 16

/-- Array clocks per K block of a pairing (Table 3.1). -/
def pairClocks (fa fb : Nat) : Nat :=
  let cl := fun f => if isPair f then 2 else if f = 0 then 0 else 1
  match cl fa, cl fb with
  | 0, 0 => 1
  | 0, 1 => 2
  | 1, 0 => 2
  | 1, 1 => 4
  | 2, 0 => 4
  | 0, 2 => 4
  | 2, 1 => 8
  | 1, 2 => 8
  | _, _ => 12

/-- Array clocks of the op's passes (R46, R147). -/
def mClocks (c : OpCmd) : Nat := opF c 58 6 * opF c 52 6 * mKBlocks c * pairClocks (mFmtA c) (mFmtB c)

/-- Value of a code of a single narrow format (R23 to R25). -/
def ofNarrow (b c : Nat) : Val := if b = 0 then ofF4 c else if b = 1 then ofF8A c else ofF8G c

/-- A finite value in units of 2^-16. -/
def units16 : Val → Int
  | .fin n m e => scaled n m e (-16)
  | _ => 0

/-- The element of a hi and a lo value (R33, R60). -/
def elemOf (hi lo : Val) : Elem :=
  match hi, lo with
  | .nan, _ => ⟨.nan, 0, 0⟩
  | _, .nan => ⟨.nan, 0, 0⟩
  | _, .inf _ => ⟨.nan, 0, 0⟩
  | .inf n, _ => ⟨.inf n, 0, 0⟩
  | .fin n m e, .fin n' m' e' =>
    ⟨.fin (if m = 0 then n' else n) (m == 0 && m' == 0), units16 (.fin n m e), units16 (.fin n' m' e')⟩

/-- Bytes of one block's data in a plane. -/
def blockBytes (f : Nat) : Nat := if f = 0 then 16 else 32

/-- The 32 codes of a block's data bytes: F4 element 2i in the low half of byte i (02, Table 2.13). -/
def blockCodes (f : Nat) (bs : Bytes) : List Nat :=
  if f = 0 then bs.flatMap (fun b => [b.toNat % 16, b.toNat / 16]) else bs.map (·.toNat)

/-- Round up to the next 64-byte boundary (07, R145). -/
def up64 (n : Nat) : Nat := (n + 63) / 64 * 64

/-- The unit at which the planes of a narrow operand at scratchpad address a begin: the next 64-byte boundary (02, R40,
R43; 07, R145). -/
def planeUnit (a : Nat) : Nat := (a + 1) / 2 * 2

/-- An outlier slot: index and F8A code (02, Table 2.15). -/
def slotOf (x : Nat) : Nat × Nat := (bits x 8 5, bits x 0 8)

/-- The outliers of a block from its count and two slots; none where the block is invalid (R42). -/
def outliersOf (count s0 s1 : Nat) : Option (List (Nat × Nat)) :=
  if count = 0 then some []
  else if count = 1 then some [slotOf s0]
  else if count = 2 then (if (slotOf s0).1 < (slotOf s1).1 then some [slotOf s0, slotOf s1] else none)
  else none

/-- Sizes and places of a share's planes: rows of K blocks, in linear or square blocks (02, R43; 07, R145). -/
structure Planes where
  fmt : Nat
  square : Bool
  packed : Bool
  outl : Bool
  rows : Nat
  kb : Nat
deriving DecidableEq, Repr

/-- Blocks or square blocks of a share. -/
def planeUnits (p : Planes) : Nat := if p.square then (p.rows + 31) / 32 * p.kb else p.rows * p.kb
/-- Bytes of the data plane. -/
def dataBytes (p : Planes) : Nat := planeUnits p * blockBytes p.fmt * (if p.square then 32 else 1)
/-- Offset of the hi scale plane. -/
def scaleOff (p : Planes) : Nat := up64 (dataBytes p)
/-- Offset of the plane after the hi scales: outliers, or lo data of a pair. -/
def thirdOff (p : Planes) : Nat := scaleOff p + up64 (planeUnits p)
/-- Offset of the lo scale plane of a pair. -/
def loScaleOff (p : Planes) : Nat := thirdOff p + up64 (dataBytes p)
/-- Bytes from the first plane's start to the last plane's end. -/
def planesEnd (p : Planes) : Nat :=
  if p.packed then (p.rows * p.kb + 2) / 3 * 64
  else if isPair p.fmt then loScaleOff p + planeUnits p
  else if p.outl then thirdOff p + 4 * planeUnits p
  else scaleOff p + planeUnits p

/-- The place of block (r, j): its unit number and the byte of its data (02, R34, R35, R43). -/
def unitOf (p : Planes) (r j : Nat) : Nat := if p.square then r / 32 * p.kb + j else r * p.kb + j
/-- Byte of block (r, j)'s data in its data plane. -/
def dataAt (p : Planes) (r j : Nat) : Nat :=
  if p.square then (unitOf p r j * 32 + r % 32) * blockBytes p.fmt else unitOf p r j * blockBytes p.fmt

/-- Codes, scale and outliers of a block of a packed share (02, R40, R41). -/
def packedBlock (p : Planes) (bs : Bytes) (r j : Nat) : List Nat × Nat × Option (List (Nat × Nat)) :=
  let b := r * p.kb + j
  let burst := slice bs (b / 3 * 64) 64
  let i := b % 3
  let f := leAt burst 51 13
  (blockCodes 0 (slice burst (16 * i) 16), (burst.getD (48 + i) 0).toNat,
    if p.outl then outliersOf (bits f (2 * i) 2) (bits f (8 + 26 * i) 13) (bits f (21 + 26 * i) 13) else some [])

/-- Codes, scale and outliers of a block of a planar share (02, R43, R44). -/
def planarBlock (p : Planes) (bs : Bytes) (r j : Nat) : List Nat × Nat × Option (List (Nat × Nat)) :=
  let u := unitOf p r j
  let o := leAt bs (thirdOff p + 4 * u) 4
  (blockCodes (baseFmt p.fmt) (slice bs (dataAt p r j) (blockBytes p.fmt)), (bs.getD (scaleOff p + u) 0).toNat,
    if p.outl then outliersOf (bits o 0 2) (bits o 2 13) (bits o 15 13) else some [])

/-- Lo codes and scale of a block of a pair form. -/
def loBlock (p : Planes) (bs : Bytes) (r j : Nat) : List Nat × Nat :=
  (blockCodes (baseFmt p.fmt) (slice bs (thirdOff p + dataAt p r j) (blockBytes p.fmt)),
    (bs.getD (loScaleOff p + unitOf p r j) 0).toNat)

/-- Block (r, j) of a share. valid i says that element i is no pad element. -/
def blockAt (p : Planes) (bs : Bytes) (valid : Nat → Bool) (r j : Nat) : Block :=
  let b := baseFmt p.fmt
  let (codes, x8, outl) := if p.packed then packedBlock p bs r j else planarBlock p bs r j
  let (loCodes, loX8) := if isPair p.fmt then loBlock p bs r j else ([], 0)
  let bad := x8 == 255 || outl.isNone || (isPair p.fmt && loX8 == 255)
  let mk := fun i =>
    if !valid i then ⟨.pad, 0, 0⟩
    else if bad then ⟨.nan, 0, 0⟩
    else
      let h := ofNarrow b (codes.getD i 0)
      match (outl.getD []).find? (fun o => o.1 == i) with
      | some o => elemOf (vadd h (ofF8A o.2)) vzero
      | none => elemOf h (if isPair p.fmt then ofNarrow b (loCodes.getD i 0) else vzero)
  ⟨x8, loX8, (List.range 32).map mk⟩

/-- The exact value of an element of a block under R28 and R33, from its tensor's T32. -/
def elemValue (t32 : Nat) (b : Block) (e : Elem) : Val :=
  if !t32Valid t32 then .nan
  else
    let sh := vscale ((b.hiX8 : Int) - 127) (vint e.hi (-16))
    let sl := vscale ((b.loX8 : Int) - 127) (vint e.lo (-16))
    match e.cls with
    | .pad => vzero
    | .nan => .nan
    | .inf n => .inf n
    | .fin n z => if z then .fin n 0 0 else vmul (ofF32 t32) (vadd sh sl)

/-! The share of a CONVERT op -/

/-- Columns of the op's share: SHARE_COLS, or COLS of the target's tag (log 26). -/
def convWidth (c : OpCmd) (g : Nat) : Nat := if pShareCols c = 0 then tagCols g else pShareCols c

/-- Rows of the op's share. -/
def convRows (c : OpCmd) (g : Nat) : Nat := (pCount c + convWidth c g - 1) / convWidth c g

end Sys2Proof.Machine
end

