-- ==== Sys2Proof/Machine/Records.lean ====
section
/-! DEFINITION. The rules that one op record, its parameter record and the tensors it names can break, with the codes of
Table 7.12 (07, R137, R145 to R147; 02, R21, R22, R38, R39; 03, R56, R57, R63, R64; 04, R67, R72, R84; 05, R93, R94;
06, R107, R124; 09, R187). LOAD fails an image on them; an op whose record breaks one executes nothing (00, R1;
log 79). -/

namespace Sys2Proof.Machine

/-- The lowest code among the rules that a record breaks (07, R398). -/
def lowest (l : List (Bool × Nat)) : Option Nat :=
  ((l.filter (·.1)).map (·.2)).foldl (fun m c => some (m.elim c (min c))) none

/-! The parameter fields that an op uses (07, R146) -/

/-- The bits of a field of len bits at lo. -/
def fieldMask (x : Nat × Nat) : Nat := (2 ^ x.2 - 1) * 2 ^ x.1

/-- The op reads a mask plane: VSEL, or a MASK_MODE with the plane (06, Table 6.1, R108). -/
def usesPlane (c : OpCmd) : Bool := opCode c == 0x1D || (pMaskMode c).testBit 0

/-- COUNT, ROW_LEN, ROW_BASE, COL_BASE and SHARE_COLS. -/
def shareFields : List (Nat × Nat) := [(480, 32), (448, 32), (416, 32), (384, 32), (35, 32)]

/-- STAT_EN, and VSTAT_ID where it is 1. -/
def statFields (c : OpCmd) : List (Nat × Nat) := if pStatEn c then [(149, 1), (150, 10)] else []

/-- The mask fields: MASK_MODE and MASK_ZERO, the plane and the causal offset where they are used. -/
def maskFields (c : OpCmd) : List (Nat × Nat) :=
  [(140, 2), (139, 1)] ++ (if usesPlane c then [(99, 16)] else []) ++
    (if (pMaskMode c).testBit 1 then [(352, 32)] else [])

/-- STREAM and the lanes of a random op. -/
def drawFields : List (Nat × Nat) := [(236, 20), (122, 6), (115, 7)]

/-- The fields of CONVERT (04, Table 4.1). -/
def convFields (c : OpCmd) : List (Nat × Nat) :=
  [(160, 12), (172, 8), (135, 4), (134, 1), (133, 1), (132, 1), (131, 1), (129, 2)] ++
    (if pRotate c then [(216, 20)] else []) ++ (if pRound c then [(196, 20)] else []) ++
    (if pRotate c || pRound c then [(122, 6), (115, 7)] else [])

/-- The fields that only some vector and bellows ops use (06, Table 6.3). -/
def ownFields (k : Nat) : List (Nat × Nat) :=
  if k = 0x1B || k = 0x1C then [(320, 32)]
  else if k = 0x2B then [(256, 32), (180, 16)] ++ drawFields
  else if k = 0x2C then [(320, 32), (288, 32)] ++ drawFields
  else if k = 0x2D then [(320, 32), (288, 32), (67, 16)] ++ drawFields
  else if k = 0x2E then drawFields
  else if k = 0x30 then [(128, 1), (83, 16)]
  else if k = 0x31 then [(320, 32), (288, 32), (142, 7), (128, 1), (83, 16)] ++ drawFields
  else if k = 0x47 || k = 0x49 then [(142, 7)]
  else []

/-- The fields of the parameter record that the op uses. -/
def usedFields (c : OpCmd) : List (Nat × Nat) :=
  let k := opCode c
  if k = 8 then shareFields ++ convFields c
  else if 0x32 ≤ k && k ≤ 0x34 then shareFields ++ statFields c ++ [(320, 32)]
  else shareFields ++ statFields c ++ maskFields c ++ ownFields k

/-- A field that the op does not use is not zero (R146). -/
def hasUnused (c : OpCmd) : Bool :=
  decide (c.par.toNat / 2 ^ 35 * 2 ^ 35 &&& (2 ^ 512 - 1 - ((usedFields c).map fieldMask).foldl (· ||| ·) 0) ≠ 0)

/-- A reserved bit of the parameter record is not zero (R4; Table 7.17). -/
def parReserved (c : OpCmd) : Bool := decide (c.par.toNat % 2 ^ 35 ≠ 0)

/-- Op record i of a PROGRAMS section with its parameter record, none where PARAM_PTR is 0, at a physical hearth (07, R145,
R146). -/
def recordOp (programs params : Bytes) (h i : Nat) : OpCmd :=
  let op := leAt programs (32 * i) 32
  let p := bits op 160 32
  ⟨Fin.ofNat 1152 h, BitVec.ofNat 256 op, if p = 0 then 0 else BitVec.ofNat 512 (leAt params (64 * p) 64)⟩

/-! Classes of ops -/

/-- The opcode is one of Table 7.18. -/
def isOpcode (k : Nat) : Bool :=
  k == 1 || k == 8 || (0x10 ≤ k && k ≤ 0x34) || (0x40 ≤ k && k ≤ 0x49)

/-- The op is one of the three updates. -/
def isUpdate (k : Nat) : Bool := 0x32 ≤ k && k ≤ 0x34

/-- A bellows op. -/
def isBellows (k : Nat) : Bool := 0x40 ≤ k

/-- Input streams of a vector op of Table 6.1. -/
def vecInputs (k : Nat) : Nat :=
  if k = 0x15 || k = 0x2F then 3
  else if k = 0x12 || k = 0x13 || k = 0x14 || k = 0x16 || k = 0x17 || k = 0x1C || k = 0x1D || k = 0x25 then 2
  else if 0x2C ≤ k && k ≤ 0x2E then 0
  else 1

/-- A stream format of BF16 or FP32 (06, R102). -/
def isFloatFmt (f : Nat) : Bool := f == 5 || f == 6

/-! Rules on one record -/

/-- The consumer class of every stream ID that n linear indices from stream x reach (05, R93, R94). -/
def inClass (k x lmax : Nat) : Bool := decide (x / 2 ^ 16 = k) && decide ((x + lmax / 2 ^ 32) / 2 ^ 16 = k)

/-- The greatest linear index that an op's share reaches with rows of cols columns (05, R94). -/
def lastIndex (c : OpCmd) (rows cols width : Nat) : Nat :=
  (pRowBase c + (rows - 1)) * ((cols + 31) / 32) + (pColBase c + (width - 1)) / 32

/-- The streams of a vector or sampling op (05, R93). -/
def streamBad (c : OpCmd) : Bool :=
  let k := opCode c
  let rows := if pWidth c = 0 then 1 else (pCount c + pWidth c - 1) / pWidth c
  let n := lastIndex c rows (pRowLen c) (pWidth c)
  (k == 0x2B && !inClass 1 (pStream c) n) || ((k == 0x2C || k == 0x2D) && !inClass 3 (pStream c) n)
    || (k == 0x2E && !inClass 5 (pStream c) n) || (k == 0x31 && !inClass 4 (pStream c) 0)

/-- The ranges of R124: INV_TEMP positive and finite, P_THRESHOLD in (0, 1], TOP_K in 1 to 64. -/
def sampleRanges (c : OpCmd) : Bool :=
  visFin (ofF32 (pA c)) && vlt vzero (ofF32 (pA c))
    && vlt vzero (ofF32 (pB c)) && vle (ofF32 (pB c)) vone
    && decide (1 ≤ pTopK c) && decide (pTopK c ≤ 64)

/-- The rules on rows and masks that every vector and bellows op keeps (06, R107). A plane at address 0 is not named
(log 152). -/
def rowBreaks (c : OpCmd) : List (Bool × Nat) :=
  [(pRowLen c == 0, 0x0008), (decide (pRowLen c < pShareCols c), 0x0008),
   (usesPlane c && pMaskPlane c == 0, 0x0008)]

/-- The rules of the vector ops of Table 6.1, SOFTMAX and SAMPLE (06, R102, R107, R124; 07, R146). -/
def vecBreaks (c : OpCmd) : List (Bool × Nat) :=
  let k := opCode c
  rowBreaks c ++
  [(k != 0x2F && decide (0 < vecInputs k) && !isFloatFmt (opFmtIn c), 0x0006),
   (k != 0x1C && k != 0x2E && k != 0x2F && k != 0x31 && !isFloatFmt (opFmtOut c), 0x0006),
   (k == 0x1B && (decide (sext 32 (pA c) < -32768) || decide (32767 < sext 32 (pA c))), 0x0008),
   (k == 0x1C && decide (6 ≤ pA c), 0x0008),
   ((k == 0x30 || k == 0x31) && !pMaskZero c, 0x0008),
   (k == 0x31 && !sampleRanges c, 0x0008),
   (streamBad c, 0x0009), (decide (64 < pLaneCount c), 0x0009)]

/-- The rules of the bellows ops (06, R107, Table 6.3; 03, R64). -/
def bellowsBreaks (c : OpCmd) : List (Bool × Nat) :=
  let k := opCode c
  rowBreaks c ++
  [((k ≤ 0x43 || k == 0x47) && !opTap c && !isFloatFmt (opFmtIn c), 0x0006),
   (0x44 ≤ k && k ≤ 0x46 && !opTap c && !isFloatFmt (opFmtIn c) && opFmtIn c != 7, 0x0006),
   (0x44 ≤ k && k ≤ 0x46 && opFmtOut c != 6 && opFmtOut c != 7, 0x0006),
   ((k == 0x47 || k == 0x49) && (pTopK c == 0 || decide (64 < pTopK c)), 0x0008),
   (k == 0x48 && opNodeH c == 0, 0x0007)]

/-- State slots that an update op needs: two for UPD_ADAM, else one (09, R187). -/
def slotNeed (k : Nat) : Nat := if k = 0x33 then 2 else 1

/-- The rules of the update ops (09, R187). -/
def updBreaks (slots : Nat → Nat) (c : OpCmd) : List (Bool × Nat) :=
  [(opDst0 c != opSrc0 c, 0x0008), (opFmtIn c != 2 && opFmtIn c != 4, 0x0008),
   (pCount c % 1024 != 0, 0x0008), (decide (16 ≤ pA c), 0x0008),
   (decide (slots (opTensor c) < slotNeed (opCode c)), 0x0008)]

/-- The share of a CONVERT op begins and ends at whole blocks of its target (04, R84). -/
def wholeBlocks (c : OpCmd) (g : Nat) : Bool :=
  let w := convWidth c g
  let rows := convRows c g
  let square := tagBlocking g == 2
  decide (0 < w) && pColBase c % 32 == 0 && (w % 32 == 0 || decide (tagCols g ≤ pColBase c + w))
    && (pCount c % w == 0 || (!square && pCount c % w % 32 == 0))
    && (!square || (pRowBase c % 32 == 0 && (rows % 32 == 0 || decide (tagRows g ≤ pRowBase c + rows))))

/-- The rules of CONVERT against the tag of its target (04, R67, R84; 05, R93). -/
def convBreaks (tag : Nat → Nat) (c : OpCmd) : List (Bool × Nat) :=
  let g := tag (opTensor c)
  let agrees := tagAgrees g (pTarget c) false
  [(decide (8 ≤ pTarget c), 0x0005), (decide (4 < pTarget c), 0x0008), (!isFloatFmt (opFmtIn c), 0x0006),
   (baseFmt (pTarget c) == 2 && !pRound c, 0x0008),
   (pRotate c && (pTarget c != 0 || (agrees && tagBlocking g != 1)), 0x0008),
   (pTau c != 0 && (!pRotate c || (agrees && !tagOutliers g)), 0x0008),
   (pScope c == 3, 0x0008), (agrees && !wholeBlocks c g, 0x0008),
   (pRound c && !inClass 0 (pSrStream c) (if agrees then lastIndex c (convRows c g) (tagCols g) (convWidth c g) else 0),
     0x0009),
   (pRotate c && !inClass 2 (pRotStream c) 0, 0x0009), (decide (64 < pLaneCount c), 0x0009)]

/-- K blocks of node (h, j) of an axis of n blocks; none where the node does not exist (03, R36, R54). -/
def nodeBlocks (h j n : Nat) : Nat := min ((j + 1) * 2 ^ h * 16) n - j * 2 ^ h * 16

/-- The rules of MATMUL against the tags of its operands (02, R22; 03, R56, R57, R63; 07, R145). -/
def matmulBreaks (tag : Nat → Nat) (c : OpCmd) : List (Bool × Nat) :=
  let ga := tag (mTensorA c)
  let gb := tag (mTensorB c)
  let agrees := tagAgrees ga (mFmtA c) (mTransA c) && tagAgrees gb (mFmtB c) (mTransB c)
  let n := ((if mTransA c then tagRows ga else tagCols ga) + 31) / 32
  let h := opF c 47 5
  let j := opF c 24 23
  [(c.op.toNat.testBit 64 || opF c 0 8 != 0 || decide (8 ≤ mFmtA c) || decide (8 ≤ mFmtB c) || decide (8 ≤ mFmtOut c),
     0x0005),
   (opParamPtr c != 0 || c.par != 0, 0x0005),
   (decide (4 < mFmtA c) || decide (4 < mFmtB c) || decide (mFmtOut c < 5), 0x0006),
   (opF c 58 6 == 0 || opF c 52 6 == 0 || mKBlocks c == 0, 0x0007),
   (agrees && tagRotated ga != tagRotated gb, 0x0007),
   (mFmtOut c == 7 && agrees && mKBlocks c != nodeBlocks h j n, 0x0007),
   (mFmtOut c != 7 && (j != 0 || (agrees && (decide (2 ^ h * 16 < n) || decide (n < mKBlocks c)))), 0x0007)]

/-- The rules that a stream op and its parameter record break (07, R145, R146). -/
def streamBreaks (tag slots : Nat → Nat) (c : OpCmd) : List (Bool × Nat) :=
  let k := opCode c
  (opF c 0 26 != 0 || decide (8 ≤ opFmtIn c) || decide (8 ≤ opFmtOut c), 0x0005) ::
  (k != 8 && !isUpdate k && opTensor c != 0, 0x0005) ::
  if opParamPtr c = 0 then [(true, 0x0008)]
  else
    (hasUnused c, 0x0005) :: (pCount c == 0, 0x0008) ::
    (if k = 8 then convBreaks tag c else if isUpdate k then updBreaks slots c
     else if isBellows k then bellowsBreaks c else vecBreaks c)

/-- Every rule that an op record breaks by itself, with its code: tag gives the tag of a tensor, slots its state slots. A
DURATION of 0 allots no clock (07, R145; log 152). -/
def opBreaks (tag slots : Nat → Nat) (c : OpCmd) : List (Bool × Nat) :=
  (!isOpcode (opCode c) || opF c 192 8 != 0, 0x0005) :: (opDuration c == 0, 0x000A) ::
  (if opCode c = 1 then matmulBreaks tag c else if isOpcode (opCode c) then streamBreaks tag slots c else [])

/-! The record as an operand -/

/-- The op's record, given as an operand, is not one of the op, or breaks a rule: the device refuses it (00, R1; log 79). -/
def opRefused (s : State) (code : Nat) (c : OpCmd) : Bool :=
  opCode c != code || parReserved c || (opBreaks (tagOf s) (fun t => (tensorNo s t).stateSlots) c).any (·.1)

/-- The op executes nothing: its hearth is stopped, or its record is refused. -/
def opSkipped (s : State) (code : Nat) (c : OpCmd) : Bool := opStopped s c.hearth.val || opRefused s code c

/-! Clocks (07, R137, Table 7.18; 09, Table 9.4) -/

/-- The minimum clocks of an op. -/
def minClocks (c : OpCmd) : Nat :=
  let k := opCode c
  let n := (pCount c + 63) / 64
  let r := if pWidth c = 0 then 1 else (pCount c + pWidth c - 1) / pWidth c
  if k = 1 then mClocks c + 40
  else if k = 8 then (if isPair (pTarget c) then 2 * n + 48 else n + 48)
  else if k = 0x30 then 3 * n + 72
  else if k = 0x31 then 4 * n + 200 * r
  else if k = 0x33 then 5 * n + 64
  else if isUpdate k then 2 * n + 40
  else if k = 0x47 then n + 24 + 64 * r
  else if k = 0x49 then 64 * r + 24
  else if 0x25 ≤ k && k ≤ 0x2A then 2 * n + 24
  else n + 24

/-- DURATION allots fewer clocks than the op needs (R137). -/
def clocksShort (c : OpCmd) : Bool := decide (358 * opDuration c - 1 < minClocks c)

/-! Tags (02, R22, R39; 04, R72; 12, R246) -/

/-- A tag's own rules: reserved bits and codes, a size, a format with its layout and blocking, outliers and rotation of linear
F4 only (Table 2.11), a rotated K length of whole blocks. -/
def tagBreaks (g : Nat) : List (Bool × Nat) :=
  let f := tagFormat g
  [(bits g 106 22 != 0 || decide (8 ≤ f) || tagLayout g == 3 || tagBlocking g == 3, 0x0005),
   (tagRows g == 0 || tagCols g == 0, 0x0006),
   (decide (f ≤ 4) && !((tagLayout g == 1 || tagLayout g == 2) && (tagBlocking g == 1 || tagBlocking g == 2)), 0x0006),
   (decide (5 ≤ f) && decide (f ≤ 7) && !(tagLayout g == 0 && tagBlocking g == 0), 0x0006),
   (tagLayout g == 1 && !(f == 0 && tagBlocking g == 1), 0x0006),
   ((tagOutliers g || tagRotated g) && !(f == 0 && tagBlocking g == 1), 0x0006),
   (tagRotated g && tagCols g % 32 != 0, 0x0008)]

end Sys2Proof.Machine
end

