-- ==== Sys2Proof/Machine/Convert.lean ====
section
/-! DEFINITION. The converter: tensor scale, rotation, outliers, block scales, rounding, pair forms, statistics (04, R67 to
R86), and the CONVERT op (07, Tables 7.16, 7.17). -/

namespace Sys2Proof.Machine

/-- Rounding parameters of a single target: fraction bits, smallest normal exponent, code of v_max, e_max, Q_max (04,
Table 4.3, R70, R75). -/
structure Target where
  p : Nat
  emin : Int
  maxC : Nat
  emax : Int
  qmax : Nat
  sign : Nat
deriving DecidableEq, Repr

/-- The single format of a target: F4 0, F8A 1, F8G 2. -/
def targetOf (b : Nat) : Target :=
  if b = 0 then ⟨1, 0, 7, 2, 6, 8⟩
  else if b = 1 then ⟨3, -6, 0x7E, 8, 448, 0x80⟩
  else ⟨2, -14, 0x7B, 15, 57344, 0x80⟩

/-- Mantissa of a finite value's magnitude. -/
def vman : Val → Nat
  | .fin _ m _ => m
  | _ => 0

/-- Exponent of a finite value. -/
def vexp : Val → Int
  | .fin _ _ e => e
  | _ => 0

/-- The larger magnitude of two values. -/
def vmaxAbs (a b : Val) : Val := if vlt (vabs a) (vabs b) then vabs b else vabs a

/-- Largest finite magnitude of a list; +0 where there is none (R69, R75). -/
def amaxOf (l : List Val) : Val := l.foldl (fun acc v => if visFin v then vmaxAbs acc v else acc) vzero

/-- T32 = amax / Q_max rounded toward +infinity (R70). -/
def t32Of (amax : Val) (qmax : Nat) : Nat :=
  if vman amax = 0 then 0x3F800000
  else (roundFrac fp32 divUp false false (vman amax) qmax (vexp amax)).code

/-- Integer part of log2(b / T32), b not zero (R75). -/
def scaleLog (b t : Val) : Int := ilog2 (vman b) (vman t) + vexp b - vexp t

/-- X8 code of exponent x, limited to 0 to 254 (R75). -/
def x8Clamp (x : Int) : Nat := (max 0 (min 254 (127 + x))).toNat

/-- X8 of a block without outliers (R75). -/
def x8Of (b t : Val) (emax : Int) : Nat := if vman b = 0 then 0 else x8Clamp (scaleLog b t - emax)

/-- A rounded code and whether it overflowed. -/
structure QCode where
  code : Nat
  overflows : Bool
deriving DecidableEq, Repr

/-- Round a finite value over the scale T32 * 2^(x8 - 127) (R77 to R79). sr: the random bits of stochastic rounding. -/
def quantise (k : Target) (t : Val) (x8 : Nat) (toInf : Bool) (sr : Option Nat) (v : Val) : QCode :=
  let neg := vsign v
  let sg := if neg then k.sign else 0
  if vman v = 0 then ⟨sg, false⟩
  else
    let ez := vexp v - vexp t - ((x8 : Int) - 127)
    let u := max (ilog2 (vman v) (vman t) + ez) k.emin - k.p
    let (num, den) := shiftFrac (vman v) (vman t) (ez - u)
    let n := match sr with
      | none => divRne num den
      | some r => (num * 2 ^ 16 / den + r) / 2 ^ 16
    let c := (u - (k.emin - k.p)).toNat * 2 ^ k.p + n
    if n = 0 then ⟨0, false⟩
    else if c > k.maxC then ⟨sg + (if toInf then 0x7C else k.maxC), true⟩
    else ⟨sg + c, false⟩

/-- One stage of the butterfly on a list of blocks of 2^k pairs (R72): a + b, then a - b. -/
def butterfly (d : Nat) (l : List Val) : List Val :=
  (List.range l.length).map (fun i =>
    let a := l.getD i vzero
    if (i / d) % 2 = 0 then wadd a (l.getD (i + d) vzero)
    else wadd (l.getD (i - d) vzero) (vneg a))

/-- The rotated values of a block: signs, then five butterfly stages (R72). -/
def rotateBlock (signs : Nat) (x : List Val) : List Val :=
  let y := (List.range 32).map (fun i => if signs.testBit i then vneg (x.getD i vzero) else x.getD i vzero)
  butterfly 16 (butterfly 8 (butterfly 4 (butterfly 2 (butterfly 1 y))))

/-- The candidate of largest magnitude, lower index first. -/
def topAbs : List (Nat × Val) → Option (Nat × Val)
  | [] => none
  | x :: t =>
    match topAbs t with
    | none => some x
    | some y => if vlt (vabs x.2) (vabs y.2) then some y else some x

/-- The selected outlier indices of a rotated block, ascending (R74). -/
def selectOutliers (tau : Nat) (y : List Val) : List Nat :=
  let sq := y.map (fun v => wmul v v)
  let q := canonicalTree sq
  let cand := ((List.range y.length).zip (y.zip sq)).filterMap (fun z =>
    if vlt (vmul (vnat (tau * tau)) q) (vmul (vnat (32 * 256)) z.2.2) then some (z.1, z.2.1) else none)
  let sel := match topAbs cand with
    | none => []
    | some a =>
      match topAbs (cand.filter (fun z => z.1 != a.1)) with
      | none => [a.1]
      | some b => if a.1 < b.1 then [a.1, b.1] else [b.1, a.1]
  if ((List.range y.length).zip y).all (fun z => sel.contains z.1 || visZero z.2) then [] else sel

/-- One converted element: hi and lo codes, outlier VALUE, and the counters it raises besides ELEMENTS. -/
structure ConvElem where
  hi : Nat := 0
  lo : Nat := 0
  outl : Option Nat := none
  sat : Bool := false
  infd : Bool := false
  nan : Bool := false
deriving DecidableEq, Repr

/-- One converted block or square block. -/
structure ConvUnit where
  x8 : Nat
  loX8 : Nat
  elems : List ConvElem
deriving DecidableEq, Repr

/-- What a conversion needs beside its elements: target format code, OVF_MODE, T32. -/
structure ConvCfg where
  target : Nat
  ovf : Bool
  t32 : Nat
deriving DecidableEq, Repr

/-- One element of a block: its value, its random bits for hi and lo where ROUND is 1, and whether it is pad. -/
structure ConvIn where
  v : Val
  hiBits : Option Nat
  loBits : Option Nat
  pad : Bool
deriving DecidableEq, Repr

/-- An element of an unrotated or rotated block that is not an outlier (R77 to R80). -/
def hiElem (g : ConvCfg) (x8 : Nat) (i : ConvIn) : ConvElem :=
  let b := baseFmt g.target
  let k := targetOf b
  let toInf := b == 2 && !g.ovf
  if i.pad then {}
  else
    match i.v with
    | .nan => { hi := if b = 1 then 0x7F else 0x7E, nan := true }
    | .inf n =>
      let sg := if n then k.sign else 0
      if toInf then { hi := sg + 0x7C, infd := true } else { hi := sg + k.maxC, sat := true }
    | .fin _ _ _ =>
      let r := quantise k (ofF32 g.t32) x8 toInf i.hiBits i.v
      { hi := r.code, sat := r.overflows && !toInf, infd := r.overflows && toInf }

/-- The remainder of an element for the lo part; none where it takes lo code 0x00 (R81). -/
def remainder (g : ConvCfg) (x8 : Nat) (i : ConvIn) (e : ConvElem) : Option Val :=
  let h := ofNarrow (baseFmt g.target) e.hi
  if !i.pad && visFin i.v && visFin h then
    some (vsub i.v (vmul (vscale ((x8 : Int) - 127) (ofF32 g.t32)) h))
  else none

/-- An element with its lo part (R81). -/
def loElem (g : ConvCfg) (x8 : Nat) (i : ConvIn) (e : ConvElem) (r : Option Val) : ConvElem :=
  match r with
  | none => e
  | some v =>
    let q := quantise (targetOf (baseFmt g.target)) (ofF32 g.t32) x8 false i.loBits v
    { e with lo := q.code, sat := e.sat || q.overflows }

/-- An invalid block: X8 0xFF, codes 0, every element NaN (R73, R80). -/
def invalidUnit (l : List ConvIn) : ConvUnit := ⟨255, 0, l.map (fun i => { nan := !i.pad })⟩

/-- A block or square block without outliers (R75, R77 to R81). -/
def plainUnit (g : ConvCfg) (l : List ConvIn) : ConvUnit :=
  let t := ofF32 g.t32
  let k := targetOf (baseFmt g.target)
  if baseFmt g.target = 0 ∧ l.any (fun i => !i.pad && visNan i.v) = true then invalidUnit l
  else
    let x8 := x8Of (amaxOf ((l.filter (fun i => !i.pad)).map (·.v))) t k.emax
    let hs := l.map (hiElem g x8)
    if isPair g.target then
      let rs := (l.zip hs).map (fun z => remainder g x8 z.1 z.2)
      let lx := x8Of (amaxOf (rs.filterMap id)) t k.emax
      ⟨x8, lx, (l.zip (hs.zip rs)).map (fun z => loElem g lx z.1 z.2.1 z.2.2)⟩
    else ⟨x8, 0, hs⟩

/-- An element of a block with outliers: the selected ones are written as slots (R76). -/
def outlierElem (g : ConvCfg) (x8 : Nat) (sel : List Nat) (n : Nat) (i : ConvIn) : ConvElem :=
  if sel.contains n then
    let q := quantise (targetOf 1) (ofF32 g.t32) x8 false none i.v
    { outl := some q.code, sat := q.overflows }
  else hiElem g x8 i

/-- A rotated F4 block (R72 to R76). -/
def rotatedUnit (g : ConvCfg) (tau signs : Nat) (l : List ConvIn) : ConvUnit :=
  if l.any (fun i => !visFin i.v) then invalidUnit l
  else
    let y := rotateBlock signs (l.map (·.v))
    let sel := if tau = 0 then [] else selectOutliers tau y
    let l2 := (l.zip y).map (fun z => { z.1 with v := z.2 })
    if sel.isEmpty then plainUnit g l2
    else
      let t := ofF32 g.t32
      let rest := amaxOf (((List.range 32).zip y).filterMap (fun z => if sel.contains z.1 then none else some z.2))
      let out := amaxOf (sel.map (fun n => y.getD n vzero))
      let x8 := x8Clamp (max (scaleLog rest t - 2) (scaleLog out t - 8))
      ⟨x8, 0, ((List.range 32).zip l2).map (fun z => outlierElem g x8 sel z.1 z.2)⟩

/-- The values that the elements of a unit were rounded from: y_i for a rotated unit, the input otherwise (R82). -/
def roundedFrom (rot : Bool) (signs : Nat) (l : List ConvIn) : List Val :=
  if rot && l.all (fun i => visFin i.v) then rotateBlock signs (l.map (·.v)) else l.map (·.v)

/-- A code of a single target is subnormal (Table 4.4). -/
def isSubnormal (b c : Nat) : Bool :=
  if b = 0 then c % 8 == 1 else if b = 1 then bits c 3 4 == 0 && c % 8 != 0 else bits c 2 5 == 0 && c % 4 != 0

/-- The counts of one element (Table 4.4). -/
def elemCounts (target : Nat) (src : Val) (e : ConvElem) : Stat8 :=
  let b := baseFmt target
  let zero := !e.nan && e.outl.isNone && visZero (ofNarrow b e.hi) && (!isPair target || visZero (ofNarrow b e.lo))
  let flushed := zero && visFin src && !visZero src
  statOf 1 (b2n zero) (b2n flushed) (b2n (isSubnormal b e.hi)) (b2n e.sat) (b2n e.infd) (b2n e.nan) (b2n e.outl.isSome)

/-- The counts of a unit's non-pad elements. -/
def unitCounts (target : Nat) (l : List ConvIn) (src : List Val) (u : ConvUnit) : Stat8 :=
  (l.zip (src.zip u.elems)).foldl
    (fun acc z => if z.1.pad then acc else statAdd acc (elemCounts target z.2.1 z.2.2)) {}

/-! Bytes of a converted share -/

/-- Data bytes of 32 codes: two F4 codes a byte (02, Table 2.13). -/
def dataOf (b : Nat) : List Nat → Bytes
  | x :: y :: t => if b = 0 then BitVec.ofNat 8 (x + 16 * y) :: dataOf b t
                   else BitVec.ofNat 8 x :: BitVec.ofNat 8 y :: dataOf b t
  | [x] => [BitVec.ofNat 8 x]
  | [] => []

/-- Count and slots of a block's outliers in ascending index (02, R41, R42). -/
def slotsOf (u : ConvUnit) : List (Nat × Nat) :=
  ((List.range u.elems.length).zip u.elems).filterMap (fun z => z.2.outl.map (fun v => (z.1, v)))

/-- A slot as 13 bits. -/
def slotBits (s : Nat × Nat) : Nat := s.1 * 256 + s.2

/-- The planar outlier record of a block (02, Table 2.17). -/
def outlierRecord (u : ConvUnit) : Nat :=
  let l := slotsOf u
  l.length + slotBits (l.getD 0 (0, 0)) * 2 ^ 2 + slotBits (l.getD 1 (0, 0)) * 2 ^ 15

/-- One packed burst of up to three blocks (02, Tables 2.13, 2.14). -/
def packedBurst (us : List ConvUnit) : Bytes :=
  let none' : ConvUnit := ⟨0, 0, List.replicate 32 {}⟩
  let at3 := fun i => us.getD i none'
  let field := (List.range 3).foldl (fun acc i =>
    let l := slotsOf (at3 i)
    acc + l.length * 2 ^ (2 * i) + slotBits (l.getD 0 (0, 0)) * 2 ^ (8 + 26 * i)
      + slotBits (l.getD 1 (0, 0)) * 2 ^ (21 + 26 * i)) 0
  (List.range 3).flatMap (fun i => dataOf 0 ((at3 i).elems.map (·.hi)))
    ++ (List.range 3).map (fun i => BitVec.ofNat 8 (at3 i).x8) ++ natLe 13 field

/-- Bytes filled with zeros to n. -/
def padTo (n : Nat) (bs : Bytes) : Bytes := bs ++ List.replicate (n - bs.length) 0

/-- The planes of a converted share, each with its offset from DST0 (02, R43; 07, R145). -/
def planesOf (p : Planes) (us : List ConvUnit) : List (Nat × Bytes) :=
  if p.packed then [(0, (rowsAux 3 us.length us).flatMap packedBurst)]
  else
    let b := baseFmt p.fmt
    [(0, us.flatMap (fun u => dataOf b (u.elems.map (·.hi)))),
      (scaleOff p, us.map (fun u => BitVec.ofNat 8 u.x8))]
    ++ (if isPair p.fmt then
          [(thirdOff p, us.flatMap (fun u => dataOf b (u.elems.map (·.lo)))),
            (loScaleOff p, us.map (fun u => BitVec.ofNat 8 u.loX8))]
        else if p.outl then [(thirdOff p, us.flatMap (fun u => natLe 4 (outlierRecord u)))]
        else [])

/-! The CONVERT op -/

/-- Planes of the target share. -/
def convPlanes (c : OpCmd) (g : Nat) : Planes :=
  { fmt := pTarget c, square := tagBlocking g == 2, packed := tagLayout g == 1,
    outl := tagOutliers g && pTarget c == 0, rows := convRows c g, kb := (convWidth c g + 31) / 32 }

/-- The op reads a casting input: ingot from SRC0 and residue from SRC1 (R85; log 27). -/
def isCasting (c : OpCmd) : Bool := opFmtIn c == 6 && opSrc1 c != 0

/-- The first n input values of the op in stream order (R85: u_n is rounded to FP32). -/
def convRead (s : State) (c : OpCmd) (n : Nat) : List Val :=
  let xs := (codesAt s c.hearth.val (opSrc0 c) (fmtBytes (opFmtIn c)) n).map (streamVal (opFmtIn c))
  if isCasting c then
    (xs.zip (codesAt s c.hearth.val (opSrc1 c) 2 n)).map (fun z => rne fp32 (vadd z.1 (ofB16 z.2)))
  else xs

/-- The op's input values in stream order. -/
def convInputs (s : State) (c : OpCmd) : List Val := convRead s c (pCount c)

/-- Share row r and share column k lie beyond the share, or beyond the tensor's ROWS and COLS: a pad element (02, R37; 04,
R69, R82). -/
def convPad (c : OpCmd) (g r k : Nat) : Bool :=
  decide (convWidth c g ≤ k) || decide (pCount c ≤ r * convWidth c g + k) || decide (tagCols g ≤ pColBase c + k)
    || decide (tagRows g ≤ pRowBase c + r)

/-- The element at share row r and share column k: its value and random bits (R78, R94). R94 names the row and column of the
tag view without saying how an element of the stream comes by them: element e of a share of width W stands at row
ROW_BASE + e // W and column COL_BASE + e mod W (the model's choice, log 26). -/
def convElem (s : State) (c : OpCmd) (g : Nat) (xs : List Val) (r k : Nat) : ConvIn :=
  let pad := convPad c g r k
  let rb := fun off => if pRound c then
      some (elemBits (seedNow s).toNat (pSrStream c) (pRowBase c + r) (pColBase c + k) (tagCols g) 16 off 16)
    else none
  ⟨if pad then vzero else xs.getD (r * convWidth c g + k) vzero, rb 0, if isPair (pTarget c) then rb 512 else none, pad⟩

/-- The elements of every block or square block of the share, in plane order (R34). -/
def convUnits (s : State) (c : OpCmd) (g : Nat) (xs : List Val) : List (List ConvIn) :=
  let p := convPlanes c g
  if p.square then
    (List.range ((p.rows + 31) / 32)).flatMap (fun a => (List.range p.kb).map (fun q =>
      (List.range 1024).map (fun i => convElem s c g xs (32 * a + i / 32) (32 * q + i % 32))))
  else
    (List.range p.rows).flatMap (fun r => (List.range p.kb).map (fun j =>
      (List.range 32).map (fun i => convElem s c g xs r (32 * j + i))))

/-- The K block index of unit n of a linear share: the block's position along K, COL_BASE / 32 and the block's place in its
share row (R72; log 26). -/
def kBlockOf (c : OpCmd) (g n : Nat) : Nat := pColBase c / 32 + n % ((convWidth c g + 31) / 32)

/-- The amax of the conversion: that of the share's non-pad elements, or the combined one that reached the hearth (R69). -/
def convAmax (s : State) (c : OpCmd) (xs : List Val) : Val :=
  let g := tagOf s (opTensor c)
  if pScope c = 0 then
    amaxOf (((List.range xs.length).zip xs).filterMap (fun z =>
      if convPad c g (z.1 / convWidth c g) (z.1 % convWidth c g) then none else some z.2))
  else ofF32 (hearthOf s c.hearth.val).amax.toNat

/-- T32 of the conversion (R70). -/
def convT32 (s : State) (c : OpCmd) (xs : List Val) : Nat :=
  t32Of (convAmax s c xs) (targetOf (baseFmt (pTarget c))).qmax

/-- One converted unit with its inputs. -/
def convUnit (s : State) (c : OpCmd) (g : Nat) (cfg : ConvCfg) (n : Nat) (l : List ConvIn) : ConvUnit :=
  if pRotate c then
    rotatedUnit cfg (pTau c) (rotSigns (seedNow s).toNat (pRotStream c) (kBlockOf c g n)) l
  else plainUnit cfg l

/-- The counts of one converted unit. -/
def convUnitCounts (s : State) (c : OpCmd) (g n : Nat) (l : List ConvIn) (u : ConvUnit) : Stat8 :=
  unitCounts (pTarget c) l
    (roundedFrom (pRotate c) (rotSigns (seedNow s).toNat (pRotStream c) (kBlockOf c g n)) l) u

/-- Everything that the conversion makes. -/
structure Converted where
  t32 : Nat
  planes : List (Nat × Bytes)
  counts : Stat8
  residue : Bytes
deriving DecidableEq, Repr

/-- The element at share row r and column k of the converted units. -/
def convertedAt (p : Planes) (us : List ConvUnit) (r k : Nat) : ConvUnit × ConvElem :=
  let u := us.getD (unitOf p r (k / 32)) ⟨0, 0, []⟩
  (u, u.elems.getD (if p.square then 32 * (r % 32) + k % 32 else k % 32) {})

/-- The exact value of a converted element of an unrotated target (R28, R33, R86). -/
def deQ (fmt t32 : Nat) (u : ConvUnit) (e : ConvElem) : Val :=
  let b := baseFmt fmt
  if u.x8 = 255 then .nan
  else
    let h := vscale ((u.x8 : Int) - 127) (ofNarrow b e.hi)
    let l := if isPair fmt then vscale ((u.loX8 : Int) - 127) (ofNarrow b e.lo) else vzero
    vmul (ofF32 t32) (vadd h l)

/-- The residue e_n = u_n - deQ(b_n) in BF16, in stream order (R86). -/
def residueOf (c : OpCmd) (g t32 : Nat) (us : List ConvUnit) (xs : List Val) : Bytes :=
  let w := convWidth c g
  codeBytes 2 (((List.range xs.length).zip xs).map (fun z =>
    let (u, e) := convertedAt (convPlanes c g) us (z.1 / w) (z.1 % w)
    toB16 (vsub z.2 (deQ (pTarget c) t32 u e))))

/-- The conversion of the op's share (R68). -/
def convert (s : State) (c : OpCmd) : Converted :=
  let g := tagOf s (opTensor c)
  let xs := convInputs s c
  let t := convT32 s c xs
  let ins := convUnits s c g xs
  let cfg : ConvCfg := ⟨pTarget c, opOvf c, t⟩
  let us := ((List.range ins.length).zip ins).map (fun z => convUnit s c g cfg z.1 z.2)
  let cnt := ((List.range ins.length).zip (ins.zip us)).foldl
    (fun acc z => statAdd acc (convUnitCounts s c g z.1 z.2.1 z.2.2)) {}
  ⟨t, planesOf (convPlanes c g) us, cnt,
    if isCasting c && !pRotate c && tagBlocking g == 2 then residueOf c g t us xs else []⟩

/-- The op's segment is one whose CONVERT bytes the digest covers: FWD, BWD, REDUCE, NORM (08, R180). -/
def inDigest (s : State) : Bool := decide (2 ≤ currentKind s) && decide (currentKind s ≤ 5)

/-- Scratchpad after the planes, from the next 64-byte boundary of DST0 (02, R43), and the residue are written. No table
names the stream of the residue: it goes to DST1 (the model's choice, log 27). -/
def convSpad (s : State) (c : OpCmd) (r : Converted) : List Host.Cell :=
  let h := c.hearth.val
  let m := r.planes.foldl (fun acc z => mwrite acc (spadKey h (planeUnit (opDst0 c)) + z.1) z.2) s.mem.spad
  if r.residue.isEmpty then m else spadWrite m h (opDst1 c) r.residue

/-- The digest bytes of a conversion: its planes in order, then T32 where it writes the tag (08, R180; log 28). -/
def convBytes (c : OpCmd) (r : Converted) : Bytes :=
  r.planes.flatMap (·.2) ++ (if pTagWrite c then natLe 4 r.t32 else [])

/-- Uncorrectable words of the op's input streams (06, R110). -/
def convStruck (s : State) (c : OpCmd) : Nat :=
  let h := c.hearth.val
  struckBytes s h (opSrc0 c) (pCount c * fmtBytes (opFmtIn c))
    + (if isCasting c then struckBytes s h (opSrc1 c) (2 * pCount c) else 0)

/-- CONVERT with DISCARD = 0: the whole op. -/
def convertRun (s : State) (c : OpCmd) : State :=
  let r := convert s c
  let s1 := noteTag s (opTensor c)
  let m1 := if pTagWrite c then tagWrite s1 (opTensor c) r.t32 else s1.mem
  withEcc c (convStruck s c)
    ((r.planes.map (fun z => (planeUnit (opDst0 c) + z.1 / 32, z.2.length))) ++ [(opDst1 c, r.residue.length)])
    { s1 with
      mem := { m1 with spad := convSpad s c r }
      tele := { s1.tele with conv := smod {} s.tele.conv (pStatId c) (statAdd r.counts) }
      hearths := smod {} (ranOp s c) c.hearth.val (fun k =>
        if inDigest s then { k with crc := crcRun k.crc (convBytes c r) } else k) }

/-- The op's streams lie in the scratchpad. -/
def convertFits (s : State) (c : OpCmd) : Bool :=
  let g := tagOf s (opTensor c)
  spadFits (opSrc0 c) (pCount c * fmtBytes (opFmtIn c))
    && (!isCasting c || (spadFits (opSrc1 c) (2 * pCount c) && spadFits (opDst1 c) (2 * pCount c)))
    && spadFits (planeUnit (opDst0 c)) (planesEnd (convPlanes c g))

/-- The state after a CONVERT with DISCARD = 1: its input is read and nothing is written or counted (R83). -/
def discardRun (s : State) (c : OpCmd) : State :=
  withEcc c (convStruck s c) [] { s with hearths := ranOp s c }

/-- CONVERT (04, R68 to R86). With DISCARD = 1 it writes and counts nothing (R83). A tag that disagrees with the record
raises source 0x0105 and nothing is written; a record that breaks a rule, or on a stopped hearth, does nothing (00, R1;
14, R293; log 79, 137). -/
def execConvert (c : OpCmd) (s : State) : Host.Outcome State Fault Refusal :=
  if opSkipped s 0x08 c then .next s
  else if pDiscard c then .next (discardRun s c)
  else if !tagAgrees (tagOf s (opTensor c)) (pTarget c) false then
    .next (detect (noteTag s (opTensor c)) (occAt 0x0105 1 c.hearth.val))
  else if convertFits s c then .next (convertRun s c)
  else .fault .scratchpadRange

end Sys2Proof.Machine
end

