-- ==== Sys2Proof/Machine/Func.lean ====
section
/-! DEFINITION. The correctly rounded functions of the vector engine (06, R105, Table 6.2) and the fused
nonlinearities (R106). The transcendental functions are evaluated in fixed point with 512 fraction bits and rounded
once (log 24); square roots and quotients are exact with a sticky bit. -/

namespace Sys2Proof.Machine

/-- Largest r with r * r ≤ x, found bit by bit from bit b down. -/
def isqrtAux (x : Nat) : Nat → Nat → Nat
  | 0, r => if (r + 1) * (r + 1) ≤ x then r + 1 else r
  | b + 1, r =>
    let r' := r + 2 ^ (b + 1)
    isqrtAux x b (if r' * r' ≤ x then r' else r)

/-- Integer square root. -/
def isqrt (x : Nat) : Nat := isqrtAux x (Nat.log2 x / 2 + 1) 0

/-- FP32 code of the square root of m * 2^e, m not zero. -/
def sqrtPos (m : Nat) (e : Int) : Nat :=
  let k : Nat := 200 + (if e % 2 = 0 then 0 else 1)
  let x := m <<< k
  let r := isqrt x
  let n := 2 * r + (if r * r = x then 0 else 1)
  (roundFrac fp32 divRne false false n 1 ((e - k) / 2 - 1)).code

/-- FP32 code of 1 / sqrt(m * 2^e), m not zero. -/
def rsqrtPos (m : Nat) (e : Int) : Nat :=
  let k : Nat := 400 + (if e % 2 = 0 then 0 else 1)
  let r := isqrt (2 ^ k / m)
  let n := 2 * r + (if r * r * m = 2 ^ k then 0 else 1)
  (roundFrac fp32 divRne false false n 1 ((-e - k) / 2 - 1)).code

/-- Fraction bits of the fixed-point evaluations. -/
def fxBits : Nat := 512

/-- Fixed-point one. -/
def fxOne : Nat := 2 ^ fxBits

/-- Fixed-point product, truncated. -/
def fxMul (a b : Nat) : Nat := (a * b) >>> fxBits

/-- Fixed-point m * 2^e, truncated. -/
def fxOf (m : Nat) (e : Int) : Nat :=
  let d := e + (fxBits : Int)
  if d ≥ 0 then m <<< d.toNat else m >>> (-d).toNat

/-- Taylor series of exp: the sum from term t of index n on. -/
def expSeries (r : Nat) : Nat → Nat → Nat → Nat
  | 0, _, _ => 0
  | f + 1, n, t => if t = 0 then 0 else t + expSeries r f (n + 1) (fxMul t r / n)

/-- exp of a fixed-point r below 1, in fixed point. -/
def fxExp (r : Nat) : Nat := expSeries r 140 1 fxOne

/-- Series of atanh: the sum of t^(2i+1) / (2i+1) from term p = t^(2i+1). -/
def atanhSeries (t2 : Nat) : Nat → Nat → Nat → Nat
  | 0, _, _ => 0
  | f + 1, n, p => if p = 0 then 0 else p / n + atanhSeries t2 f (n + 2) (fxMul p t2)

/-- ln of y / x in fixed point for x ≤ y ≤ 2 * x: twice atanh of (y - x) / (y + x). -/
def fxLnRatio (y x : Nat) : Nat :=
  let t := ((y - x) <<< fxBits) / (y + x)
  2 * atanhSeries (fxMul t t) 200 1 t

/-- ln 2 in fixed point. -/
def fxLn2 : Nat := fxLnRatio 2 1

/-- exp of ±x for a fixed-point magnitude x, as fixed-point mantissa and exponent of 2. -/
def expParts (neg : Bool) (x : Nat) : Nat × Int :=
  let k := x / fxLn2
  let r := x % fxLn2
  if neg then
    if r = 0 then (fxOne, -(k : Int)) else (fxExp (fxLn2 - r), -(k : Int) - 1)
  else (fxExp r, (k : Int))

/-- FP32 code of a fixed-point ratio num / den * 2^e. -/
def fxRound (neg : Bool) (num den : Nat) (e : Int) : Nat := (roundFrac fp32 divRne false neg num den e).code

/-- exp of a nonzero finite value. -/
def expFin (neg : Bool) (m : Nat) (e : Int) : Nat :=
  let x := fxOf m e
  if x ≥ 104 * fxOne then (if neg then 0 else infCode fp32 false)
  else
    let (p, k) := expParts neg x
    fxRound false p 1 (k - fxBits)

/-- 2^x of a nonzero finite value; an integer x is exact. -/
def exp2Fin (neg : Bool) (m : Nat) (e : Int) : Nat :=
  let x := fxOf m e
  if x ≥ 151 * fxOne then (if neg then 0 else infCode fp32 false)
  else
    let k := x >>> fxBits
    let r := x % fxOne
    if r = 0 ∧ e ≥ -(fxBits : Int) then fxRound false 1 1 (if neg then -(k : Int) else k)
    else if neg then fxRound false (fxExp (fxMul (fxOne - r) fxLn2)) 1 (-(k : Int) - 1 - fxBits)
    else fxRound false (fxExp (fxMul r fxLn2)) 1 ((k : Int) - fxBits)

/-- ln of m * 2^e, m not zero, as a sign and a fixed-point magnitude. -/
def lnParts (m : Nat) (e : Int) : Bool × Nat :=
  let l := Nat.log2 m
  let k : Int := e + l
  let f := fxLnRatio m (2 ^ l)
  if k ≥ 0 then (false, k.toNat * fxLn2 + f)
  else
    let a := (-k).toNat * fxLn2
    if f ≥ a then (false, f - a) else (true, a - f)

/-- ln of a positive finite value. -/
def logFin (m : Nat) (e : Int) : Nat :=
  let (n, x) := lnParts m e
  if x = 0 then 0 else fxRound n x 1 (-(fxBits : Int))

/-- log2 of a positive finite value; a power of two is exact. -/
def log2Fin (m : Nat) (e : Int) : Nat :=
  let l := Nat.log2 m
  if m = 2 ^ l then toF32 (vint (e + l) 0)
  else
    let (n, x) := lnParts m e
    fxRound n x fxLn2 0

/-- tanh of a nonzero finite value: (exp(2x) - 1) / (exp(2x) + 1). -/
def tanhFin (neg : Bool) (m : Nat) (e : Int) : Nat :=
  let x := fxOf m e
  if x ≥ 12 * fxOne then signBit fp32 neg + 0x3F800000
  else
    let (p, k) := expParts false (2 * x)
    let y := p <<< k.toNat
    fxRound neg (y - fxOne) (y + fxOne) 0

/-- The logistic function of a nonzero finite value. -/
def sigmoidFin (neg : Bool) (m : Nat) (e : Int) : Nat :=
  let x := fxOf m e
  if x ≥ 104 * fxOne then (if neg then 0 else 0x3F800000)
  else
    let (p, k) := expParts false x
    let y := p <<< k.toNat
    if neg then fxRound false fxOne (y + fxOne) 0 else fxRound false y (y + fxOne) 0

/-- The alternating sum of x^(2n+1) / (n! (2n+1)): positive and negative parts. -/
def erfSeries (x2 : Nat) : Nat → Nat → Nat → Nat × Nat
  | 0, _, _ => (0, 0)
  | f + 1, n, t =>
    if t = 0 then (0, 0)
    else
      let (p, q) := erfSeries x2 f (n + 1) (fxMul t x2 / (n + 1))
      (t / (2 * n + 1) + q, p)

/-- atan(1 / k) in fixed point: positive and negative parts of the series. -/
def atanInv (k2 : Nat) : Nat → Nat → Nat → Nat × Nat
  | 0, _, _ => (0, 0)
  | f + 1, n, t =>
    if t = 0 then (0, 0)
    else
      let (p, q) := atanInv k2 f (n + 2) (t / k2)
      (t / n + q, p)

/-- pi in fixed point, by Machin's formula. -/
def fxPi : Nat :=
  let (p, q) := atanInv 25 400 1 (fxOne / 5)
  let (r, s) := atanInv 57121 400 1 (fxOne / 239)
  16 * (p - q) - 4 * (r - s)

/-- The error function of a nonzero finite value. -/
def erfFin (neg : Bool) (m : Nat) (e : Int) : Nat :=
  let x := fxOf m e
  if x ≥ 6 * fxOne then signBit fp32 neg + 0x3F800000
  else
    let (p, q) := erfSeries (fxMul x x) 600 0 x
    fxRound neg (2 * (p - q) * 2 ^ (fxBits / 2)) (isqrt fxPi) (-(fxBits : Int))

/-- The functions of Table 6.2. -/
inductive Fn where
  | rcp | rsqrt | sqrt | exp | exp2 | log | log2 | tanh | sigmoid | erf
deriving DecidableEq, Repr

/-- Result for +inf (Table 6.2). -/
def fnPosInf : Fn → Nat
  | .rcp => 0 | .rsqrt => 0 | .sqrt => 0x7F800000 | .exp => 0x7F800000 | .exp2 => 0x7F800000
  | .log => 0x7F800000 | .log2 => 0x7F800000 | .tanh => 0x3F800000 | .sigmoid => 0x3F800000 | .erf => 0x3F800000

/-- Result for -inf (Table 6.2). -/
def fnNegInf : Fn → Nat
  | .rcp => 0x80000000 | .rsqrt => 0x7FC00000 | .sqrt => 0x7FC00000 | .exp => 0 | .exp2 => 0
  | .log => 0x7FC00000 | .log2 => 0x7FC00000 | .tanh => 0xBF800000 | .sigmoid => 0 | .erf => 0xBF800000

/-- Result for a zero of the given sign (Table 6.2). -/
def fnZero (neg : Bool) : Fn → Nat
  | .rcp => infCode fp32 neg | .rsqrt => infCode fp32 neg | .sqrt => signBit fp32 neg
  | .exp => 0x3F800000 | .exp2 => 0x3F800000 | .log => 0xFF800000 | .log2 => 0xFF800000
  | .tanh => signBit fp32 neg | .sigmoid => 0x3F000000 | .erf => signBit fp32 neg

/-- Result for a nonzero finite value (R105). -/
def fnFin (f : Fn) (neg : Bool) (m : Nat) (e : Int) : Nat :=
  match f with
  | .rcp => (roundFrac fp32 divRne false neg 1 m (-e)).code
  | .rsqrt => if neg then nanCode fp32 else rsqrtPos m e
  | .sqrt => if neg then nanCode fp32 else sqrtPos m e
  | .exp => expFin neg m e
  | .exp2 => exp2Fin neg m e
  | .log => if neg then nanCode fp32 else logFin m e
  | .log2 => if neg then nanCode fp32 else log2Fin m e
  | .tanh => tanhFin neg m e
  | .sigmoid => sigmoidFin neg m e
  | .erf => erfFin neg m e

/-- A function of Table 6.2 on an FP32 code. -/
def fn (f : Fn) (a : Nat) : Nat :=
  match ofF32 a with
  | .nan => nanCode fp32
  | .inf n => if n then fnNegInf f else fnPosInf f
  | .fin n m e => if m = 0 then fnZero n f else fnFin f n m e

/-! FP32 operations on codes (R104) -/

/-- NaN canonicalised (R26). -/
def fcanon (a : Nat) : Nat := if visNan (ofF32 a) then nanCode fp32 else a
/-- VADD. -/
def fadd (a b : Nat) : Nat := toF32 (vadd (ofF32 a) (ofF32 b))
/-- VSUB. -/
def fsub (a b : Nat) : Nat := toF32 (vsub (ofF32 a) (ofF32 b))
/-- VMUL. -/
def fmul (a b : Nat) : Nat := toF32 (vmul (ofF32 a) (ofF32 b))
/-- VFMA, one rounding. -/
def ffma (a b c : Nat) : Nat := toF32 (vadd (vmul (ofF32 a) (ofF32 b)) (ofF32 c))
/-- VDIV. -/
def fdivc (a b : Nat) : Nat := fdiv (ofF32 a) (ofF32 b)
/-- VMAX: NaN if either is NaN, -0 below +0. -/
def fmax (a b : Nat) : Nat :=
  let va := ofF32 a
  let vb := ofF32 b
  if visNan va || visNan vb then nanCode fp32 else if vltz va vb then b else a
/-- VMIN. -/
def fmin (a b : Nat) : Nat :=
  let va := ofF32 a
  let vb := ofF32 b
  if visNan va || visNan vb then nanCode fp32 else if vltz vb va then b else a
/-- VABS. -/
def fabs (a : Nat) : Nat := if visNan (ofF32 a) then nanCode fp32 else a % 2 ^ 31
/-- VNEG. -/
def fnegc (a : Nat) : Nat :=
  if visNan (ofF32 a) then nanCode fp32 else if a ≥ 2 ^ 31 then a - 2 ^ 31 else a + 2 ^ 31
/-- VSCALE2 by 2^k. -/
def fscale2 (k : Int) (a : Nat) : Nat := toF32 (vscale k (ofF32 a))
/-- VSILU (R106). -/
def fsilu (a : Nat) : Nat := fmul a (fn .sigmoid a)
/-- VGELU (R106). -/
def fgelu (a : Nat) : Nat :=
  fmul (fmul 0x3F000000 a) (fadd 0x3F800000 (fn .erf (fmul a 0x3F3504F3)))

/-- The predicate of VCMP with its code (R104, R146). -/
def fpred (p a b : Nat) : Bool :=
  match vcmp (ofF32 a) (ofF32 b) with
  | none => p == 3 || p == 5
  | some o =>
    match p with
    | 0 => o == .lt
    | 1 => o != .gt
    | 2 => o == .eq
    | 3 => o != .eq
    | 4 => true
    | _ => false

end Sys2Proof.Machine
end

