-- ==== Sys2Proof/Machine/Flags.lean ====
section
/-! DEFINITION. The counters that ops raise: the vector statistics record of an element-wise op and of a row (06, R114,
Table 6.4; R122). -/

namespace Sys2Proof.Machine

/-- Every value is finite. -/
def allFin (l : List Val) : Bool := l.all visFin

/-- The counts of one active element from its input values and its result value (R114): ELEMENTS, NAN_IN, NAN_NEW,
INF_NEW in c0 to c3. -/
def elemStat (ins : List Val) (res : Val) : Stat8 :=
  statOf 1 (b2n (ins.any visNan)) (b2n (visNan res && !ins.any visNan)) (b2n (visInf res && allFin ins)) 0 0 0 0

/-- The counts of one active element of an op whose results are no values (VCMP, VRAND). -/
def plainStat (ins : List Val) : Stat8 := statOf 1 (b2n (ins.any visNan)) 0 0 0 0 0 0

/-- The case of a softmax row (Table 6.6). -/
inductive RowCase where
  | ordinary | nan | empty | inf
deriving DecidableEq, Repr

/-- The counts of one softmax or sampling row: its active elements and NaN inputs, and its case (R122). -/
def rowStat (live nans : Nat) (k : RowCase) : Stat8 :=
  statOf live nans 0 0 1 (b2n (k == .empty)) (b2n (k == .nan)) (b2n (k == .inf))

/-- The two flag bits of a row: row-empty, then row-NaN (R122). -/
def rowFlags (k : RowCase) : Nat := b2n (k == .empty) + 2 * b2n (k == .nan)

/-- The flag plane with the two bits of row r written. -/
def flagPut (plane : Bytes) (r fl : Nat) : Bytes :=
  plane.modify (r / 4) (fun b =>
    BitVec.ofNat 8 (b.toNat - bits b.toNat (2 * (r % 4)) 2 * 2 ^ (2 * (r % 4)) + fl * 2 ^ (2 * (r % 4))))

/-- The counts of one bellows row: active elements, NaN inputs, ROWS, and ROWS_NAN where the reduction skips NaN
(R114, R116; log 151). -/
def bellowsStat (live nans : Nat) (skips : Bool) : Stat8 :=
  statOf live nans 0 0 1 0 (b2n (skips && decide (0 < nans))) 0

end Sys2Proof.Machine
end

