-- ==== Sys2Proof/Machine/Sampling.lean ====
section
/-! DEFINITION. SOFTMAX and SAMPLE, and the ranking that BARGMAX, BTOPK, BMERGE and SAMPLE share (06, R116, R119, R121
to R126). -/

namespace Sys2Proof.Machine

/-! Ranked pairs -/

/-- An index with an FP32 code. -/
structure Pair where
  idx : Nat
  code : Nat
deriving DecidableEq, Repr, Inhabited

/-- The pair of a missing element (R116). -/
def noPair : Pair := ⟨0xFFFFFFFF, infCode fp32 true⟩

/-- a ranks before b: value descending, then index ascending; +0 and -0 equal (R116, R119). -/
def ranksBefore (a b : Pair) : Bool :=
  vlt (ofF32 b.code) (ofF32 a.code)
    || (vcmp (ofF32 a.code) (ofF32 b.code) == some .eq && decide (a.idx < b.idx))

/-- Insert into a ranked list. -/
def rankInsert (x : Pair) : List Pair → List Pair
  | [] => [x]
  | y :: t => if ranksBefore y x then y :: rankInsert x t else x :: y :: t

/-- The first k pairs in rank order (R119). -/
def rankTop (k : Nat) (l : List Pair) : List Pair := l.foldl (fun acc x => (rankInsert x acc).take k) []

/-- The first k pairs in rank order, filled up to k (R116). -/
def rankFill (k : Nat) (l : List Pair) : List Pair :=
  let t := rankTop k l
  t ++ List.replicate (k - t.length) noPair

/-- A pair as bytes: U32 index, FP32 value (Table 6.5). -/
def pairBytes (p : Pair) : Bytes := natLe 4 p.idx ++ natLe 4 p.code

/-! Rows -/

/-- An element of a row: whether it is active, its FP32 code and its logical column. -/
structure RowElem where
  on : Bool
  code : Nat
  col : Nat
deriving DecidableEq, Repr, Inhabited

/-- The largest of FP32 codes as BMAX gives it: -inf for none (R116). -/
def maxOf (l : List Nat) : Nat := l.foldl fmax (infCode fp32 true)

/-- The elements that take part in a softmax row: active and not -inf (R109). -/
def softLive (row : List RowElem) : List RowElem := row.filter (fun x => x.on && x.code != infCode fp32 true)

/-- The case of a softmax row, with the OR-flags of the other shares (Table 6.6, R123). -/
def softCase (row : List RowElem) (rest : SoftRest) : RowCase :=
  let live := softLive row
  if rest.nan || live.any (fun x => visNan (ofF32 x.code)) then .nan
  else if live.isEmpty && !rest.live then .empty
  else if decide (0 < rest.infs) || live.any (fun x => x.code == infCode fp32 false) then .inf
  else .ordinary

/-- k, the number of +inf entries of a row. -/
def softInfs (row : List RowElem) (rest : SoftRest) : Nat :=
  rest.infs + ((softLive row).filter (fun x => x.code == infCode fp32 false)).length

/-- m of R121, with the maximum of the other shares (R123). -/
def softMax (row : List RowElem) (rest : SoftRest) : Nat :=
  let m := maxOf ((softLive row).map (·.code))
  if rest.live && visFin (ofF32 rest.max.toNat) then fmax m rest.max.toNat else m

/-- E_i of R121 of every position; none where it is masked. -/
def softExps (m : Nat) (row : List RowElem) : List (Option Nat) :=
  row.map (fun x => if x.on && x.code != infCode fp32 true then some (fn .exp (fsub x.code m)) else none)

/-- S of R121: the canonical sum of the share, joined with the sibling nodes of the other shares (R123). -/
def softSum (es : List (Option Nat)) (rest : SoftRest) : Nat :=
  toF32 (rest.siblings.foldl (fun acc w => wadd acc (decodeF w48 w.toNat))
    (canonicalTree (es.map (fun e => e.elim vzero ofF32))))

/-- What a softmax row gives: its case, its FP32 outputs, its log-sum-exp. -/
structure SoftRow where
  kind : RowCase
  out : List Nat
  lse : Nat
deriving DecidableEq, Repr

/-- A softmax row (R121, R122). -/
def softRow (row : List RowElem) (rest : SoftRest) : SoftRow :=
  match softCase row rest with
  | .nan => ⟨.nan, row.map (fun _ => nanCode fp32), nanCode fp32⟩
  | .empty => ⟨.empty, row.map (fun _ => 0), infCode fp32 true⟩
  | .inf =>
    let y := fdiv vone (vnat (softInfs row rest))
    ⟨.inf, row.map (fun x => if x.on && x.code == infCode fp32 false then y else 0), infCode fp32 false⟩
  | .ordinary =>
    let m := softMax row rest
    let es := softExps m row
    let sum := softSum es rest
    let r := fn .rcp sum
    ⟨.ordinary, es.map (fun e => e.elim 0 (fmul r)), fadd m (fn .log sum)⟩

/-- The share rows of SRC0: activity and FP32 code of every element. -/
def shareElems (s : State) (c : OpCmd) : List (List (Bool × Nat)) :=
  shareRows c ((activity s c).zip
    ((codesAt s c.hearth.val (opSrc0 c) (fmtBytes (opFmtIn c)) (pCount c)).map (widen (opFmtIn c))))

/-- The elements of a row from logical column base on, with f applied to their codes. -/
def rowFrom (f : Nat → Nat) (base : Nat) (row : List (Bool × Nat)) : List RowElem :=
  ((List.range row.length).zip row).map (fun z => ⟨z.2.1, f z.2.2, base + z.1⟩)

/-- The share's rows hold columns of other shares too (R108, R123). -/
def isSplit (c : OpCmd) : Bool := decide (pColBase c ≠ 0) || decide (pWidth c ≠ pRowLen c)

/-- The share holds column 0: it counts the rows and writes their flags (R123). -/
def holdsZero (c : OpCmd) : Bool := decide (pColBase c = 0)

/-- Rows of an op's share. -/
def shareRowCount (c : OpCmd) : Nat := if pWidth c = 0 then 1 else (pCount c + pWidth c - 1) / pWidth c

/-! Rows split among hearths (R123) -/

/-- Op record i of the loaded image with its parameter record, at the physical hearth that it runs on, if one is mapped. -/
def imageOp (s : State) (i : Nat) : Option OpCmd :=
  let g := imageOf s
  (physicalOf s (Config.recordPlace g.programs i).hearth).map (fun h => recordOp g.programs g.params h i)

/-- Two ops are shares of the same rows: one opcode, slot, ROW_BASE and ROW_LEN, and different columns. -/
def sameRows (c d : OpCmd) : Bool :=
  opCode d == opCode c && opStart d == opStart c && pRowBase d == pRowBase c && pRowLen d == pRowLen c
    && shareRowCount d == shareRowCount c && pColBase d != pColBase c

/-- Insert an op by its COL_BASE. -/
def insertShare (d : OpCmd) : List OpCmd → List OpCmd
  | [] => [d]
  | x :: t => if pColBase d ≤ pColBase x then d :: x :: t else x :: insertShare d t

/-- The shares of the op's rows in column order: the op and those of the variant in progress in the loaded image. -/
def sharesOf (s : State) (c : OpCmd) : List OpCmd :=
  let g := imageOf s
  ((List.range (g.programs.length / 32)).filterMap (fun i =>
    if (Config.recordPlace g.programs i).tables = (currentSeg s).tables then
      (imageOp s i).filter (sameRows c)
    else none)).foldl (fun l d => insertShare d l) [c]

/-- The shares follow each other from column k to the end of the row. -/
def coversRow (len : Nat) : Nat → List OpCmd → Bool
  | k, [] => decide (len ≤ k)
  | k, d :: t => decide (pColBase d = k) && coversRow len (k + pWidth d) t

/-- Row r of a share, as long as SHARE_COLS: elements beyond COUNT do not exist and are masked. -/
def fullRow (s : State) (d : OpCmd) (r : Nat) : List (Bool × Nat) :=
  let l := (shareElems s d).getD r []
  l ++ List.replicate (pWidth d - l.length) (false, 0)

/-- The whole rows of a split op, from the scratchpads of every share, where the image's records give them all. -/
def wholeRows (s : State) (c : OpCmd) : Option (List (List (Bool × Nat))) :=
  let l := sharesOf s c
  if coversRow (pRowLen c) 0 l then
    some ((List.range (shareRowCount c)).map (fun r => l.flatMap (fun d => fullRow s d r)))
  else none

/-- The key of a split op among those of its slot. -/
def splitKey (c : OpCmd) : List Nat := [opCode c, opStart c, pRowBase c, pRowLen c]

/-- The whole rows as the first share of the slot found them, or as they stand. -/
def splitOf (s : State) (c : OpCmd) : Option (List (List (Bool × Nat))) :=
  if isSplit c then
    match s.splitRows.find? (fun x => x.key == splitKey c) with
    | some x => some x.rows
    | none => wholeRows s c
  else none

/-- A row as an op sees it: its elements, the place of the share's first element among them, and what elements that the
state does not show bring. -/
structure RowView where
  row : List RowElem
  first : Nat
  rest : SoftRest
deriving DecidableEq, Repr

/-- Share row r: the whole row of a split op where its shares are known, else the share's own elements with a free rest
(R123; log 30). -/
def rowView (s : State) (c : OpCmd) (f : Nat → Nat) (r : Nat) (own : List (Bool × Nat)) : RowView :=
  match splitOf s c with
  | some l => ⟨rowFrom f 0 (l.getD r []), pColBase c, {}⟩
  | none => ⟨rowFrom f (pColBase c) own, 0, if isSplit c then Config.softRest s.fresh r else {}⟩

/-- The rows of a share with their numbers. -/
def numbered {α : Type} (l : List α) : List (Nat × α) := (List.range l.length).zip l

/-- The counts of one row: active elements and NaN inputs of the share, and the row once, by the share that holds
column 0 (R114, R122, R123). -/
def softCounts (c : OpCmd) (row : List RowElem) (k : RowCase) : Stat8 :=
  let live := softLive row
  let nans := (live.filter (fun x => visNan (ofF32 x.code))).length
  if holdsZero c then rowStat live.length nans k else statOf live.length nans 0 0 0 0 0 0

/-- Bytes of the flag plane of n rows (R122). -/
def flagBytes (n : Nat) : Nat := (n + 3) / 4

/-- The flag plane after the rows' flags are written. -/
def flagPlane (plane : Bytes) (kinds : List RowCase) : Bytes :=
  (kinds.zip (List.range kinds.length)).foldl (fun p z => flagPut p z.2 (rowFlags z.1)) plane

/-- The scratchpad with the flags of a share's rows written, by the share that holds column 0. -/
def flagWrite (s : State) (c : OpCmd) (m : List Host.Cell) (kinds : List RowCase) : List Host.Cell :=
  if holdsZero c then
    spadWrite m c.hearth.val (pFlagPlane c)
      (flagPlane (spadRead s c.hearth.val (pFlagPlane c) (flagBytes kinds.length)) kinds)
  else m

/-- State after a row op: scratchpad, statistics, program buffer, the rows of a split op for the other shares of the slot, and
the free value that a split row without known shares draws. -/
def rowDone (s : State) (c : OpCmd) (spad : List Host.Cell) (st : Stat8) : State :=
  { s with
    mem := { s.mem with spad := spad }
    tele := (vecStat s c st).1
    upd := (vecStat s c st).2
    hearths := ranOp s c
    splitRows := match splitOf s c with
      | some l => ⟨splitKey c, l⟩ :: s.splitRows.filter (fun x => x.key != splitKey c)
      | none => s.splitRows
    fresh := if isSplit c && (splitOf s c).isNone then s.fresh + 1 else s.fresh }

/-- Uncorrectable words of a row op's input stream and mask plane (R110). -/
def rowStruck (s : State) (c : OpCmd) : Nat :=
  struckStream s c (opSrc0 c) (fmtBytes (opFmtIn c)) + struckPlane s c (usesPlane c)

/-- The softmax of share row r, over the whole row where it is split. -/
def softOf (s : State) (c : OpCmd) (f : Nat → Nat) (r : Nat) (own : List (Bool × Nat)) : SoftRow :=
  let v := rowView s c f r own
  let x := softRow v.row v.rest
  { x with out := (List.range own.length).map (fun i => x.out.getD (v.first + i) 0) }

/-- SOFTMAX over the rows of the share. -/
def softmaxRun (s : State) (c : OpCmd) : State :=
  let h := c.hearth.val
  let rows := shareElems s c
  let res := (numbered rows).map (fun z => softOf s c id z.1 z.2)
  let out := res.flatMap (fun r => r.out.map (narrow (opFmtOut c)))
  let m1 := spadWrite s.mem.spad h (opDst0 c) (codeBytes (fmtBytes (opFmtOut c)) out)
  let m2 := if pLse c then spadWrite m1 h (opDst1 c) (codeBytes 4 (res.map (·.lse))) else m1
  withEcc c (rowStruck s c)
    ((opDst0 c, pCount c * fmtBytes (opFmtOut c)) :: if pLse c then [(opDst1 c, 4 * shareRowCount c)] else [])
    (rowDone s c (flagWrite s c m2 (res.map (·.kind)))
      ((rows.zip res).foldl (fun acc z => statAdd acc (softCounts c (rowFrom id (pColBase c) z.1) z.2.kind)) {}))

/-- The flag plane lies in the scratchpad. -/
def flagFits (c : OpCmd) : Bool := spadFits (pFlagPlane c) (flagBytes (shareRowCount c))

/-- The op's streams lie in the scratchpad. -/
def softmaxFits (c : OpCmd) : Bool :=
  spadFits (opSrc0 c) (pCount c * fmtBytes (opFmtIn c)) && maskFits c && flagFits c
    && spadFits (opDst0 c) (pCount c * fmtBytes (opFmtOut c))
    && (!pLse c || spadFits (opDst1 c) (4 * shareRowCount c))

/-- SOFTMAX (R121 to R123). A record that breaks a rule, or on a stopped hearth, does nothing (00, R1; log 79, 137). -/
def execSoftmax (c : OpCmd) (s : State) : Host.Outcome State Fault Refusal :=
  if opSkipped s 0x30 c then .next s
  else if softmaxFits c then .next (softmaxRun s c)
  else .fault .scratchpadRange

/-! Token sampling -/

/-- Prefix sums in W48 (R118, R125). -/
def prefixSums : Val → List Nat → List Val
  | _, [] => []
  | acc, q :: t => wadd acc (ofF32 q) :: prefixSums (wadd acc (ofF32 q)) t

/-- Candidates of a row: nonzero probabilities with their logical indices, merged with those of the other shares
(R125, R126). -/
def candidates (c : OpCmd) (row : List RowElem) (ps : List Nat) (rest : SoftRest) : List Pair :=
  let own := (row.zip ps).map (fun z => (⟨z.1.col, z.2⟩ : Pair))
  let other := rest.cands.map (fun z => (⟨z.1.toNat, z.2.toNat⟩ : Pair))
  rankTop (pTopK c) ((own ++ other).filter (fun p => vlt vzero (ofF32 p.code)))

/-- u of R125: 24 bits of block SEQ * 2^16 + POS, where SEQ and POS are the halves of the logical row. -/
def drawU (s : State) (c : OpCmd) (row : Nat) : Nat :=
  streamBits (seedNow s).toNat (pStream c) (row % 2 ^ 32) 0 24

/-- Steps 4 to 7 of R125: the chosen pair of index and q. -/
def pickOf (c : OpCmd) (u : Nat) (cands : List Pair) : Pair :=
  let r := fn .rcp (toF32 (canonicalTree (cands.map (fun p => ofF32 p.code))))
  let qs := cands.map (fun p => fmul p.code r)
  let cs := prefixSums vzero qs
  let t := ((cs.findIdx? (fun x => vle (ofF32 (pB c)) x)).map (· + 1)).getD cs.length
  let total := cs.getD (t - 1) vzero
  let target := vmul (.fin false u (-24)) total
  let j := ((cs.take t).findIdx? (fun x => vlt target x)).getD 0
  ⟨(cands.getD j noPair).idx, qs.getD j 0⟩

/-- What sampled share row r writes: token index, q, log-sum-exp (R125, R126). -/
def sampleRow (s : State) (c : OpCmd) (r : Nat) (own : List (Bool × Nat)) : RowCase × Nat × Nat × Nat :=
  let v := rowView s c (fun x => fmul x (pA c)) r own
  let x := softRow v.row v.rest
  match x.kind with
  | .nan => (.nan, 0xFFFFFFFF, nanCode fp32, x.lse)
  | .empty => (.empty, 0xFFFFFFFF, 0, x.lse)
  | k =>
    let p := pickOf c (drawU s c (pRowBase c + r)) (candidates c v.row x.out v.rest)
    (k, p.idx, p.code, x.lse)

/-- SAMPLE over the rows of the share: tokens to DST0, with LSE the pairs of q and log-sum-exp to DST1 (log 31). Steps 4
to 7 run on the hearth that holds column 0 (R126). -/
def sampleRun (s : State) (c : OpCmd) : State :=
  let h := c.hearth.val
  let rows := shareElems s c
  let res := (numbered rows).map (fun z => sampleRow s c z.1 z.2)
  let m0 := s.mem.spad
  let m1 := if holdsZero c then spadWrite m0 h (opDst0 c) (codeBytes 4 (res.map (·.2.1))) else m0
  let m2 := if holdsZero c && pLse c then
      spadWrite m1 h (opDst1 c) (res.flatMap (fun x => natLe 4 x.2.2.1 ++ natLe 4 x.2.2.2))
    else m1
  withEcc c (rowStruck s c)
    (if holdsZero c then (opDst0 c, 4 * shareRowCount c) ::
        (if pLse c then [(opDst1 c, 8 * shareRowCount c)] else []) else [])
    (rowDone s c (flagWrite s c m2 (res.map (·.1)))
      ((rows.zip res).foldl (fun acc z =>
        statAdd acc (softCounts c (rowFrom (fun x => fmul x (pA c)) (pColBase c) z.1) z.2.1)) {}))

/-- The op's streams lie in the scratchpad. -/
def sampleFits (c : OpCmd) : Bool :=
  spadFits (opSrc0 c) (pCount c * fmtBytes (opFmtIn c)) && maskFits c && flagFits c
    && spadFits (opDst0 c) (4 * shareRowCount c) && (!pLse c || spadFits (opDst1 c) (8 * shareRowCount c))

/-- SAMPLE (R124 to R126). A record that breaks a rule, or on a stopped hearth, does nothing (00, R1; log 79, 137). -/
def execSample (c : OpCmd) (s : State) : Host.Outcome State Fault Refusal :=
  if opSkipped s 0x31 c then .next s
  else if sampleFits c then .next (sampleRun s c)
  else .fault .scratchpadRange

end Sys2Proof.Machine
end

