-- ==== Sys2Proof/Machine/Trees.lean ====
section
/-! DEFINITION. The trees of squares of the trained tensors: the nodes that this device forms, and their roots (03, R54,
R64; 08, R169; 10, R201, R202). -/

namespace Sys2Proof.Machine

/-- The nodes with one more; a node formed again, as in a replay, replaces the earlier one. -/
def noteNode (l : List SumNode) (x : SumNode) : List SumNode :=
  x :: l.filter (fun y => !(y.sort == x.sort && y.tensor == x.tensor && y.h == x.h && y.j == x.j))

/-- The state with nodes noted. -/
def noteNodes (s : State) (l : List SumNode) : State :=
  { s with train := { s.train with nodes := l.foldl noteNode s.train.nodes } }

/-- The nodes of level h + 1 over n leaves that pairs of level h give: an odd last node is carried up (R54, R64). -/
def levelUp (n h : Nat) (l : List (Nat × Val)) : List (Nat × Val) :=
  l.filterMap (fun x =>
    if x.1 % 2 = 1 then none
    else
      match l.find? (fun y => y.1 == x.1 + 1) with
      | some y => some (x.1 / 2, wadd x.2 y.2)
      | none => if n ≤ (x.1 + 1) * 2 ^ h then some (x.1 / 2, x.2) else none)

/-- The root over n leaves from noted nodes as level, index and value, climbing from level h with the nodes found so far; at
most as many levels as the fuel. -/
def climb (n : Nat) (notes : List (Nat × Nat × Val)) : Nat → Nat → List (Nat × Val) → Option Val
  | 0, _, _ => none
  | f + 1, h, found =>
    let here := found ++ ((notes.filter (fun x => x.1 == h && !found.any (fun y => y.1 == x.2.1))).map (·.2))
    if n ≤ 2 ^ h then (here.find? (fun x => x.1 == 0)).map (·.2) else climb n notes f (h + 1) (levelUp n h here)

/-- The root of a tree of n leaves, where the noted nodes give it. -/
def treeRoot (n : Nat) (notes : List (Nat × Nat × Val)) : Option Val := if n = 0 then none else climb n notes 65 0 []

/-- Leaves of a tensor's tree: its padded elements (08, R169). -/
def leafCount (g : Nat) : Nat := tagRows g * ((tagCols g + 31) / 32) * 32

/-- The joined nodes of a sort and tensor: those of an uncommitted chunk are pending (10, R202). -/
def nodesOf (s : State) (sort t : Nat) : List (Nat × Nat × Val) :=
  (s.train.nodes.filter (fun x => x.sort == sort && x.tensor == t && x.chunk.isNone)).map
    (fun x => (x.h, x.j, decodeF w48 x.value.toNat))

/-- The root of a tensor's tree of a sort, where this device's nodes give it. -/
def tensorRoot (s : State) (sort t : Nat) : Option Val := treeRoot (leafCount (tagOf s t)) (nodesOf s sort t)

/-- Numbers of the trained tensors in norm-list order (12, R246). -/
def normOrder (g : Image) : List Nat :=
  (List.range g.tensors.length).filterMap (fun i =>
    (List.range g.tensors.length).find? (fun t => t != 0 && (g.tensors.getD t default).normIndex == i))

/-- The canonical tree over values that are all known. -/
def rootOver (l : List (Option Val)) : Option Val := if l.all (·.isSome) then some (canonicalTree (l.filterMap id)) else none

/-- Q of R169 as this device's own nodes give it. -/
def ownNorm (s : State) : Option (BitVec 48) :=
  let l := normOrder (imageOf s)
  if l.isEmpty then none
  else (rootOver (l.map (tensorRoot s 1))).map (fun v => BitVec.ofNat 48 (encodeF w48 v))

/-- The device is the whole fabric (11, R218). -/
def isWholeFabric (s : State) : Bool := (imageOf s).torus == 0x01010101

/-- A commit joins the pending nodes of its chunk, and a restore discards them (10, R202). -/
def joinNodes (k : Nat) (l : List SumNode) : List SumNode :=
  l.map (fun x => if x.chunk = some k then { x with chunk := none } else x)

/-- The nodes without those that a chunk holds pending. -/
def dropNodes (k : Nat) (l : List SumNode) : List SumNode := l.filter (fun x => x.chunk != some k)

end Sys2Proof.Machine
end

