-- ==== Sys2Proof/Machine/Bellows.lean ====
section
/-! DEFINITION. The bellows: the reductions of Table 6.5, node addition and top-k merge (06, R115 to R120; 07, Table
7.18). -/

namespace Sys2Proof.Machine

/-- The op whose stream a bellows op with TAP = 1 reads: the one last streamed for another unit of its hearth (07, R147). -/
def tappedOp (s : State) (c : OpCmd) : OpCmd :=
  let k := hearthOf s c.hearth.val
  ⟨c.hearth, k.progOp, k.progPar⟩

/-- The tap is on a CONVERT. -/
def tapsConvert (s : State) (c : OpCmd) : Bool := opTap c && opCode (tappedOp s c) == 8

/-- The stream that a bellows op reads: format and scratchpad address. With TAP = 1 it is the output stream of the vector
op that ran in the same slot, or the input stream of the converter (07, Table 7.16; 06, R117; log 32). -/
def bellowsSrc (s : State) (c : OpCmd) : Nat × Nat :=
  let v := tappedOp s c
  if tapsConvert s c then (opFmtIn v, opSrc0 v)
  else if opTap c then (opFmtOut v, opDst0 v)
  else (opFmtIn c, opSrc0 c)

/-- The codes of that stream. From a casting CONVERT they are its input values u_n in FP32, ingot and residue joined (04, R83,
R85). -/
def bellowsCodes (s : State) (c : OpCmd) : List Nat :=
  let (f, a) := bellowsSrc s c
  let v := tappedOp s c
  if tapsConvert s c && isCasting v then (convRead s v (pCount c)).map toF32
  else codesAt s c.hearth.val a (fmtBytes f) (pCount c)

/-- With DISCARD = 1 the converter passes nothing to the bellows (04, R83). -/
def tapDiscarded (s : State) (c : OpCmd) : Bool := tapsConvert s c && pDiscard (tappedOp s c)

/-- An element of a bellows row. -/
structure BElem where
  on : Bool
  code : Nat
  col : Nat
deriving DecidableEq, Repr, Inhabited

/-- The share rows of the stream. -/
def bellowsRows (s : State) (c : OpCmd) : List (List BElem) :=
  let xs := (activity s c).zip ((bellowsCodes s c).map (widen (bellowsSrc s c).1))
  (shareRows c xs).map (fun r => ((List.range r.length).zip r).map (fun z => ⟨z.2.1, z.2.2, z.1⟩))

/-- Value of an element: its code is FP32, or W48 where the stream is. -/
def bVal (f : Nat) (x : BElem) : Val := streamVal (if f = 7 then 7 else 6) x.code

/-- The elements that take part (R109). -/
def bLive (row : List BElem) : List BElem := row.filter (·.on)

/-- The elements that take part and are no NaN. -/
def bElig (f : Nat) (row : List BElem) : List BElem := row.filter (fun x => x.on && !visNan (bVal f x))

/-- Malformed W48 containers among the active elements (02, R32; 06, R110). -/
def bMalformed (f : Nat) (row : List BElem) : Nat :=
  if f = 7 then (row.filter (fun x => x.on && (ofW48c x.code).2)).length else 0

/-- State after a bellows op: scratchpad, statistics, program buffer, malformed containers (source 0x0104). -/
def bellowsDone (s : State) (c : OpCmd) (spad : List Host.Cell) (st : Stat8) (bad : Nat) : State :=
  noteAt 0x0104 c.hearth.val bad
    { s with mem := { s.mem with spad := spad }, tele := (vecStat s c st).1, upd := (vecStat s c st).2
             hearths := ranBellows s c }

/-- Uncorrectable words of the stream and mask plane of a reduction; a tapped stream is not read again (R110). -/
def bellowsStruck (s : State) (c : OpCmd) : Nat :=
  (if opTap c then 0 else struckStream s c (opSrc0 c) (fmtBytes (opFmtIn c))) + struckPlane s c (usesPlane c)

/-- The counts of the rows of a reduction without results of NaN_NEW or INF_NEW. -/
def bellowsCounts (f : Nat) (skips : Bool) (rows : List (List BElem)) : Stat8 :=
  rows.foldl (fun acc r =>
    statAdd acc (bellowsStat (bLive r).length ((bLive r).length - (bElig f r).length) skips)) {}

/-- The op's input stream and mask plane lie in the scratchpad. -/
def bellowsInFits (s : State) (c : OpCmd) : Bool :=
  let (f, a) := bellowsSrc s c
  let v := tappedOp s c
  spadFits a (pCount c * fmtBytes f) && maskFits c
    && (!(tapsConvert s c && isCasting v) || spadFits (opSrc1 v) (2 * pCount c))

/-- A reduction of an opcode that gives n bytes per share row at DST0 by f (R115). A record that breaks a rule, a stopped
hearth, a tapped stream that is no float, or a discarded tap does nothing (log 79, 137). -/
def rowReduce (code n : Nat) (skips : Bool) (f : List BElem → Bytes) (c : OpCmd) (s : State) :
    Host.Outcome State Fault Refusal :=
  if opSkipped s code c || !isFloatFmt (bellowsSrc s c).1 || tapDiscarded s c then .next s
  else if bellowsInFits s c && spadFits (opDst0 c) (n * shareRowCount c) then
    let rows := bellowsRows s c
    .next (withEcc c (bellowsStruck s c) [(opDst0 c, n * shareRowCount c)]
      (bellowsDone s c (spadWrite s.mem.spad c.hearth.val (opDst0 c) (rows.flatMap f))
        (bellowsCounts (bellowsSrc s c).1 skips rows) 0))
  else .fault .scratchpadRange

/-- FP32 codes of the eligible elements of a row. -/
def eligCodes (row : List BElem) : List Nat := (bElig 6 row).map (·.code)

/-- The eligible elements as pairs of logical index and FP32 code (R116). -/
def eligPairs (c : OpCmd) (row : List BElem) : List Pair :=
  (bElig 6 row).map (fun x => ⟨pColBase c + x.col, x.code⟩)

/-- BMAX (R116). -/
def execBmax (c : OpCmd) (s : State) : Host.Outcome State Fault Refusal :=
  rowReduce 0x40 4 true (fun r => natLe 4 (maxOf (eligCodes r))) c s

/-- BMIN (R116). -/
def execBmin (c : OpCmd) (s : State) : Host.Outcome State Fault Refusal :=
  rowReduce 0x41 4 true (fun r => natLe 4 ((eligCodes r).foldl fmin (infCode fp32 false))) c s

/-- BAMAX: the largest finite magnitude, +0 for none (04, R69). -/
def execBamax (c : OpCmd) (s : State) : Host.Outcome State Fault Refusal :=
  rowReduce 0x42 4 false (fun r =>
    natLe 4 (((eligCodes r).filter (fun x => visFin (ofF32 x))).foldl (fun acc x => fmax acc (fabs x)) 0)) c s

/-- BARGMAX (R116). -/
def execBargmax (c : OpCmd) (s : State) : Host.Outcome State Fault Refusal :=
  rowReduce 0x43 8 true (fun r => (rankFill 1 (eligPairs c r)).flatMap pairBytes) c s

/-- BTOPK: k = TOP_K pairs per row (R116, R119). -/
def execBtopk (c : OpCmd) (s : State) : Host.Outcome State Fault Refusal :=
  rowReduce 0x47 (8 * pTopK c) true (fun r => (rankFill (pTopK c) (eligPairs c r)).flatMap pairBytes) c s

/-! Sums -/

/-- A stream format that sums read: BF16, FP32 or W48. -/
def isSumFmt (f : Nat) : Bool := f == 5 || f == 6 || f == 7

/-- Where a sum's result goes: the W48 node to DST1, the FP32 root to DST0 (07, Table 7.16; log 33). -/
def sumDst (c : OpCmd) : Nat := if opFmtOut c = 7 then opDst1 c else opDst0 c

/-- Code of a W48 value in the result's format: as formed, or rounded once to FP32 (R117, R118). -/
def sumCode (out : Nat) (v : Val) : Nat := if out = 7 then encodeF w48 v else toF32 v

/-- The canonical sum of a row over the leaf function (R117). -/
def sumRow (f : Nat) (leaf : Val → Val) (row : List BElem) : Val :=
  canonicalTree (row.map (fun x => if x.on then leaf (bVal f x) else vzero))

/-- NAN_NEW and INF_NEW of a result code from its inputs (R114, R117). -/
def newStat (out code : Nat) (ins : List Val) : Stat8 :=
  let v := streamVal out code
  statOf 0 0 (b2n (visNan v && !ins.any visNan)) (b2n (visInf v && allFin ins)) 0 0 0 0

/-- The input values of a row. -/
def rowVals (f : Nat) (row : List BElem) : List Val := (bLive row).map (fun x => bVal f x)

/-- The counts of a sum's rows. -/
def sumCounts (f out : Nat) (g : List BElem → Nat) (rows : List (List BElem)) : Stat8 :=
  rows.foldl (fun acc r => statAdd acc (newStat out (g r) (rowVals f r))) (bellowsCounts f false rows)

/-- Malformed containers of all rows. -/
def badCount (f : Nat) (rows : List (List BElem)) : Nat := (rows.map (bMalformed f)).sum

/-- BSUM and BSUMSQ of an opcode over a leaf function (R117). -/
def sumReduce (code : Nat) (leaf : Val → Val) (c : OpCmd) (s : State) : Host.Outcome State Fault Refusal :=
  let f := (bellowsSrc s c).1
  let o := opFmtOut c
  if opSkipped s code c || !isSumFmt f || tapDiscarded s c then .next s
  else if bellowsInFits s c && spadFits (sumDst c) (fmtBytes o * shareRowCount c) then
    let rows := bellowsRows s c
    let g := fun r => sumCode o (sumRow f leaf r)
    .next (withEcc c (bellowsStruck s c) [(sumDst c, fmtBytes o * shareRowCount c)]
      (bellowsDone s c (spadWrite s.mem.spad c.hearth.val (sumDst c) (codeBytes (fmtBytes o) (rows.map g)))
        (sumCounts f o g rows) (badCount f rows)))
  else .fault .scratchpadRange

/-- BSUM (R117). -/
def execBsum (c : OpCmd) (s : State) : Host.Outcome State Fault Refusal := sumReduce 0x44 id c s

/-- The nodes of a tree of squares that a BSUMSQ on the converter's input forms: of the casting input in CAST, of the reduced
gradient of a trained tensor in BWD and REDUCE. Row r of the share gives node (NODE_H, NODE_J + r) (08, R166, R169; 10,
R201; log 159). -/
def squareNodes (s : State) (c : OpCmd) : List SumNode :=
  let t := opTensor (tappedOp s c)
  let sort := if currentKind s = 1 then some 0
    else if (currentKind s = 3 || currentKind s = 4) && (tensorNo s t).normIndex != 0xFFFF then some 1 else none
  match sort with
  | none => []
  | some k =>
    if tapsConvert s c && opFmtOut c == 7 then
      (numbered (bellowsRows s c)).map (fun z => ⟨k, t, opNodeH c, opNodeJ c + z.1,
        BitVec.ofNat 48 (encodeF w48 (sumRow (bellowsSrc s c).1 squareLeaf z.2)), none⟩)
    else []

/-- BSUMSQ (R117); the nodes that it forms for the norms are noted (08, R169; 10, R201). -/
def execBsumsq (c : OpCmd) (s : State) : Host.Outcome State Fault Refusal :=
  match sumReduce 0x45 squareLeaf c s with
  | .next t => .next (if opSkipped s 0x45 c || tapDiscarded s c then t else noteNodes t (squareNodes s c))
  | r => r

/-- Running values of a prefix row: after each element, whether it is active, the W48 sum and the inputs so far that are
not finite (R118). -/
def prefixRow (f : Nat) : Val → List Val → List BElem → List (Bool × Val × List Val)
  | _, _, [] => []
  | acc, ins, x :: t =>
    if x.on then
      let v := bVal f x
      let ins' := if visFin v then ins else v :: ins
      (true, wadd acc v, ins') :: prefixRow f (wadd acc v) ins' t
    else (false, acc, ins) :: prefixRow f acc ins t

/-- NAN_NEW and INF_NEW of the active elements of a prefix row (R109, R114). -/
def prefixStat (o : Nat) (acc : Stat8) (x : Bool × Val × List Val) : Stat8 :=
  if x.1 then statAdd acc (newStat o (sumCode o x.2.1) x.2.2) else acc

/-- Carry in of the share rows (R118): +0, or the elements of SRC1 where COL_BASE is not 0. -/
def carriesIn (s : State) (c : OpCmd) : List Nat :=
  if pColBase c = 0 then List.replicate (shareRowCount c) 0
  else codesAt s c.hearth.val (opSrc1 c) 8 (shareRowCount c)

/-- BPREFIX: running values to DST0, each row's carry out in W48 to DST1 (R118). -/
def execBprefix (c : OpCmd) (s : State) : Host.Outcome State Fault Refusal :=
  let f := (bellowsSrc s c).1
  let o := opFmtOut c
  let h := c.hearth.val
  let n := shareRowCount c
  if opSkipped s 0x46 c || !isSumFmt f || tapDiscarded s c then .next s
  else if bellowsInFits s c && (pColBase c == 0 || spadFits (opSrc1 c) (8 * n))
      && spadFits (opDst0 c) (fmtBytes o * pCount c) && spadFits (opDst1 c) (8 * n) then
    let rows := bellowsRows s c
    let ins := carriesIn s c
    let res := (rows.zip ins).map (fun z =>
      let cin := (ofW48c z.2).1
      (prefixRow f cin (if visFin cin then [] else [cin]) z.1, cin))
    let out := res.flatMap (fun r => r.1.map (fun x => sumCode o x.2.1))
    let carry := res.map (fun r => encodeF w48 ((r.1.getLast?).elim r.2 (·.2.1)))
    let st := res.foldl (fun acc r => r.1.foldl (prefixStat o) acc) (bellowsCounts f false rows)
    let m1 := spadWrite s.mem.spad h (opDst0 c) (codeBytes (fmtBytes o) out)
    .next (withEcc c (bellowsStruck s c + (if pColBase c = 0 then 0 else struckBytes s h (opSrc1 c) (8 * n)))
      [(opDst0 c, fmtBytes o * pCount c), (opDst1 c, 8 * n)]
      (bellowsDone s c (spadWrite m1 h (opDst1 c) (codeBytes 8 carry)) st
        (badCount f rows + (ins.filter (fun x => (ofW48c x).2)).length)))
  else .fault .scratchpadRange

/-- BNODE: element-wise W48 addition of the nodes in SRC0 and SRC1 (R53, R64; 07, Table 7.18), to DST1 (log 33). -/
def execBnode (c : OpCmd) (s : State) : Host.Outcome State Fault Refusal :=
  let h := c.hearth.val
  let n := pCount c
  if opSkipped s 0x48 c then .next s
  else if spadFits (opSrc0 c) (8 * n) && spadFits (opSrc1 c) (8 * n) && maskFits c && spadFits (opDst1 c) (8 * n) then
    let z := (activity s c).zip ((codesAt s h (opSrc0 c) 8 n).zip (codesAt s h (opSrc1 c) 8 n))
    let out := z.map (fun x =>
      if x.1 then some (encodeF w48 (wadd (ofW48c x.2.1).1 (ofW48c x.2.2).1)) else none)
    let bad := z.map (fun x => if x.1 then b2n (ofW48c x.2.1).2 + b2n (ofW48c x.2.2).2 else 0)
    let st := (z.zip out).foldl (fun acc x =>
      match x.2 with
      | some y => statAdd acc (elemStat [(ofW48c x.1.2.1).1, (ofW48c x.1.2.2).1] (decodeF w48 y))
      | none => acc) {}
    let prev := codesAt s h (opDst1 c) 8 n
    .next (withEcc c (struckStream s c (opSrc0 c) 8 + struckStream s c (opSrc1 c) 8 + struckPlane s c (usesPlane c)
        + struckMerge s c (opDst1 c) 8) [(opDst1 c, 8 * n)]
      (bellowsDone s c (spadWrite s.mem.spad h (opDst1 c) (codeBytes 8
        ((out.zip prev).map (fun x => x.1.getD (if pMaskZero c then 0 else x.2))))) st bad.sum))
  else .fault .scratchpadRange

/-- The pairs of a list of TOP_K pairs at a scratchpad address, per row. A NaN value is no eligible element, as for BTOPK
(R116; log 34). -/
def pairsAt (s : State) (c : OpCmd) (a : Nat) : List (List Pair) :=
  let k := pTopK c
  (pieces (8 * k) (spadRead s c.hearth.val a (8 * k * shareRowCount c))).map (fun bs =>
    ((pieces 8 bs).map (fun b => (⟨leAt b 0 4, leAt b 4 4⟩ : Pair))).filter (fun p => !visNan (ofF32 p.code)))

/-- BMERGE: per row, the first k pairs of the lists at SRC0 and SRC1 in rank order, to DST0 (R119; log 34). Its pairs are no
elements of R114: the merge counts nothing with STAT_EN = 1 and ignores the mask (the model's choice, log 34). -/
def execBmerge (c : OpCmd) (s : State) : Host.Outcome State Fault Refusal :=
  let n := 8 * pTopK c * shareRowCount c
  if opSkipped s 0x49 c then .next s
  else if spadFits (opSrc0 c) n && spadFits (opSrc1 c) n && spadFits (opDst0 c) n then
    let out := ((pairsAt s c (opSrc0 c)).zip (pairsAt s c (opSrc1 c))).flatMap (fun z =>
      (rankFill (pTopK c) (z.1 ++ z.2)).flatMap pairBytes)
    .next (withEcc c (struckBytes s c.hearth.val (opSrc0 c) n + struckBytes s c.hearth.val (opSrc1 c) n)
      [(opDst0 c, n)]
      (bellowsDone s c (spadWrite s.mem.spad c.hearth.val (opDst0 c) out) {} 0))
  else .fault .scratchpadRange

end Sys2Proof.Machine
end

