-- ==== Sys2Proof/Machine/Geometry.lean ====
section
/-! DEFINITION. Hearths, spares, fences, the remap and the geometry signature (01, R13, R14, R16; 07, R155, R156;
14, R293). -/

namespace Sys2Proof.Machine

/-- A list of numbers, rising, with n in it. -/
def insertNat : List Nat → Nat → List Nat
  | [], n => [n]
  | x :: t, n => if n < x then n :: x :: t else if n = x then x :: t else x :: insertNat t n

/-- The positions that are spares at manufacture (R14). -/
def sparePositions : List Nat := [0, 11, 132, 143]

/-- The hearth stands at a spare position. -/
def isSpare (h : Nat) : Bool := sparePositions.contains (h % 144)

/-- Hearths of a die, in rising order. -/
def dieHearths (d : Nat) : List Nat := (List.range 144).map (fun p => 144 * d + p)

/-- Usable hearths of a die: not fenced. -/
def usableOn (s : State) (d : Nat) : Nat := ((dieHearths d).filter (fun h => !isFenced s h)).length

/-- Free spares of a die: spare positions neither fenced nor mapped (R16, R293). -/
def freeSpares (s : State) (d : Nat) : Nat :=
  (sparePositions.filter (fun p => !isFenced s (144 * d + p) && !isMapped s (144 * d + p))).length

/-- The lowest-numbered hearth of a die that is neither fenced nor mapped (R155). -/
def lowestFree (s : State) (d : Nat) : Option Nat :=
  (dieHearths d).find? (fun h => !isFenced s h && !isMapped s h)

/-- Map a fenced hearth's logical hearth to the lowest free hearth of its die, if one is left (R155). -/
def remapOne (s : State) (h : Nat) : State :=
  if isFenced s h && isMapped s h then
    let l := (hearthOf s h).logical
    let s1 := modHearth s h (fun k => { k with logical := 0x7FF })
    match lowestFree s (dieOfHearth h) with
    | some q => modHearth s1 q (fun k => { k with logical := l })
    | none => s1
  else s

/-- The remap at the first frame of a step or replay (Table 7.23). -/
def remapFenced (s : State) : State := s.fence.hearths.foldl remapOne s

/-- Set a hearth's bit in the fence map; its scratchpad contents are not used again (R293). -/
def fenceHearth (s : State) (h : Nat) : State :=
  { s with fence := { s.fence with hearths := insertNat s.fence.hearths h } }

/-- Set the active count of stack n, near 0 to 7 or far 8 to 15, in the fence map (12, R254). -/
def setActive (f : FenceMap) (n count : Nat) : FenceMap :=
  if n < 8 then { f with near := sput 32 f.near n count } else { f with far := sput 8 f.far (n - 8) count }

/-- A byte whose bit i is set when 8 b + i is in the list. -/
def bitByte (l : List Nat) (b : Nat) : Byte :=
  BitVec.ofNat 8 (((List.range 8).map (fun i => if l.contains (8 * b + i) then 2 ^ i else 0)).sum)

/-- The 168 bytes of the fence map (Table 7.25). -/
def fenceBytes (f : FenceMap) : Bytes :=
  (List.range 144).map (bitByte f.hearths) ++ (List.range 16).map (fun n => BitVec.ofNat 8 (activeOf f n)) ++
    (List.range 8).map (bitByte f.links)

/-- The geometry signature (R156). -/
def fenceSignature (f : FenceMap) : Bytes := sha256 (fenceBytes f)

/-- GATED of HEARTH_STATUS (Table 17.13). -/
def gatedBit (s : State) (h : Nat) : Bool :=
  s.dev.mode == .standby || s.dev.mode == .faulted || isFenced s h || !isMapped s h || isGated s h

end Sys2Proof.Machine
end

