-- ==== Sys2Proof/Machine/Fabric.lean ====
section
/-! DEFINITION. The torus, the cells and what waits on the links (07, R129, R130, R136; 11, R216 to R237). -/

namespace Sys2Proof.Machine

/-! Link slot table entries (Table 7.20) -/

/-- A field of an entry. -/
def leF (e : BitVec 128) (lo n : Nat) : Nat := bits e.toNat lo n
/-- SLOT. -/
def leSlot (e : BitVec 128) : Nat := leF e 96 32
/-- LINK. -/
def leLink (e : BitVec 128) : Nat := leF e 90 6
/-- CELLS. -/
def leCells (e : BitVec 128) : Nat := leF e 84 6
/-- DIR: true is receive. -/
def leReceive (e : BitVec 128) : Bool := e.toNat.testBit 83
/-- DEADLINE. -/
def leDeadline (e : BitVec 128) : Bool := e.toNat.testBit 82
/-- CLASS. -/
def leClass (e : BitVec 128) : Nat := leF e 78 4
/-- OUT_LINK. -/
def leOut (e : BitVec 128) : Nat := leF e 72 6
/-- BUFFER. -/
def leBuffer (e : BitVec 128) : Nat := leF e 56 16

/-! The torus (11, R216 to R218) -/

/-- A one-link-down table in force: direction, member and frame of a switch (R229). -/
def putDown (t : Sparse Nat) (x : Nat × Nat × Nat) : Sparse Nat := sput 0xFF t x.1 x.2.1

/-- Dimension of a link: its link die (01, R10, R19). -/
def dimOf (k : Nat) : Nat := k / 16
/-- Direction 2k + s of a link (Table 11.13). -/
def dirOf (k : Nat) : Nat := k / 8
/-- Member of a link within its direction. -/
def memberOf (k : Nat) : Nat := k % 8
/-- The links of a direction. -/
def dirLinks (d : Nat) : List Nat := (List.range 8).map (fun m => 8 * d + m)

/-- Size of dimension d in FABRIC_ID. -/
def torusSize (s : State) (d : Nat) : Nat := bits s.fabric.id.toNat (56 - 8 * d) 8
/-- This device's coordinate in dimension d. -/
def coordOf (s : State) (d : Nat) : Nat := bits s.fabric.id.toNat (24 - 8 * d) 8
/-- This device's coordinate as a word: x, y, z, w from the top. -/
def coordWord (s : State) : BitVec 32 := s.fabric.id.truncate 32
/-- Coordinate d of a coordinate word. -/
def coordAt (c : BitVec 32) (d : Nat) : Nat := bits c.toNat (24 - 8 * d) 8
/-- Number of devices of the torus. -/
def deviceCount (s : State) : Nat := torusSize s 0 * torusSize s 1 * torusSize s 2 * torusSize s 3

/-- Link that link k meets (R216). -/
def peerLinkOf (k : Nat) : Nat := if k % 16 < 8 then k + 8 else k - 8

/-- Coordinate of the device at the other end of link k (R216). -/
def peerCoordOf (s : State) (k : Nat) : BitVec 32 :=
  let d := dimOf k
  let n := torusSize s d
  let c := if k % 16 < 8 then (coordOf s d + 1) % n else (coordOf s d + n - 1) % n
  BitVec.ofNat 32 (((List.range 4).map (fun j => (if j = d then c else coordOf s j) * 2 ^ (24 - 8 * j))).sum)

/-- The link has a neighbour: its dimension has more than one device (R217). -/
def isConnected (s : State) (k : Nat) : Bool := torusSize s (dimOf k) != 1

/-- The link is up: trained at any width (Table 11.10). -/
def isUp (s : State) (k : Nat) : Bool := (linkOf s k).state == 3
/-- The links that are up. -/
def upLinks (s : State) : List Nat := (List.range 64).filter (isUp s)

/-- This device is fabric master (07, R127). -/
def isMaster (s : State) : Bool := s.time.master

/-- The master's coordinate, where the device knows it: its own, or the loaded image's (07, R127, R130; log 41). -/
def masterCoord (s : State) : Option (BitVec 32) :=
  if isMaster s then some (coordWord s) else s.image.loaded.map (·.masterCoord)

/-- Hops between two coordinates round one ring. -/
def ringHops (n a b : Nat) : Nat := min ((b + n - a) % n) ((a + n - b) % n)

/-- Torus distance to a coordinate. -/
def hopsTo (s : State) (c : BitVec 32) : Nat :=
  ((List.range 4).map (fun d => ringHops (torusSize s d) (coordOf s d) (coordAt c d))).sum

/-- Time parent of a device whose coordinate differs from the master's (R130). -/
def parentToward (s : State) (c : BitVec 32) : Option Nat :=
  match (List.range 4).find? (fun d => coordOf s d != coordAt c d) with
  | none => none
  | some d =>
    let n := torusSize s d
    let plus := decide ((coordAt c d + n - coordOf s d) % n ≤ (coordOf s d + n - coordAt c d) % n)
    let near := if plus then 2 * d else 2 * d + 1
    let far := if plus then 2 * d + 1 else 2 * d
    (dirLinks near ++ dirLinks far).find? (fun k => isUp s k && !(linkOf s k).longLink)

/-- Links that can lead to the master as their peers' time codes show: up, not long, with a path (R130; log 41). -/
def pathLinks (s : State) : List Nat :=
  (upLinks s).filter (fun k => !(linkOf s k).longLink && (linkOf s k).peerHops != 0xFF)

/-- Time parent of a device that does not know the master's coordinate: the links are numbered by dimension with + before -,
so the lowest one whose peer is nearest to the master is the one that R130 chooses (log 41). -/
def parentByHops (s : State) : Option Nat :=
  (pathLinks s).find? (fun k => (pathLinks s).all (fun j => (linkOf s k).peerHops.toNat ≤ (linkOf s j).peerHops.toNat))

/-- The time parent link (R130): none on the master. -/
def chooseParent (s : State) : Option Nat :=
  if isMaster s then none else (masterCoord s).elim (parentByHops s) (parentToward s)

/-- Hops to the master: the torus distance, which the parent's time codes give where its coordinate is unknown (R130; log
41). -/
def hopsOf (s : State) : BitVec 5 :=
  match masterCoord s with
  | some c => BitVec.ofNat 5 (hopsTo s c)
  | none => (chooseParent s).elim s.time.hops (fun k => BitVec.ofNat 5 ((linkOf s k).peerHops.toNat + 1))

/-- Depth in the time-parent tree: one more than the hops that the parent's time codes give (09, R194; log 41). A parent that
has no path, or that names this link as its own parent, leads to no master (R403). -/
def depthOf (s : State) : Option Nat :=
  if isMaster s then some 0
  else
    match s.time.parent with
    | none => none
    | some k =>
      if (linkOf s k).peerHops = 0xFF ∨ (linkOf s k).child then none else some ((linkOf s k).peerHops.toNat + 1)

/-- Depth and DEPTH_EXCEEDED as they follow from the parent (R403). -/
def refreshDepth (s : State) : State :=
  let d := depthOf s
  { s with
    time := { s.time with depth := d }
    upd := { s.upd with depthExceeded := (d.map (fun n => decide (31 < n))).getD true } }

/-- The time parent chosen anew; a non-master that has lost every candidate enters holdover and raises the
time-excursion fault (07, R130, R133; 11, R228). -/
def refreshParent (s : State) : State :=
  let new := chooseParent s
  let old := s.time.parent
  let hops := hopsOf s
  if new = old then { s with time := { s.time with hops := hops } }
  else
    let lost := old.isSome && new.isNone && !isMaster s
    let lock : BitVec 2 := if lost then 3 else if s.time.lock = 0 || s.time.lock = 3 then (if new.isSome then 1 else s.time.lock) else s.time.lock
    let s1 := { s with time := { s.time with
      parent := new
      hops := hops
      parentSwitch := s.time.parentSwitch || old.isSome
      lockRun := 0
      lock := lock } }
    refreshDepth (if lost then detect s1 (occNone 0x0207) else s1)

/-! Cells (11, R223) -/

/-- A cell from its header bits [127:32] and payload: the CRC-32 follows (R223). -/
def mkCell (fields : Nat) (payload : Bytes) : Cell :=
  { hdr := BitVec.ofNat 128 (fields * 2 ^ 32 + (crc32 (natBe 12 fields ++ payload)).toNat), payload := payload }

/-- The cell arrived whole: it overlaps no uncorrectable codeword and its CRC matches (R225). -/
def cellOk (c : Cell) : Bool :=
  !c.struck && bits c.hdr.toNat 0 32 == (crc32 (natBe 12 (c.hdr.toNat / 2 ^ 32) ++ c.payload)).toNat

/-- Bits [lo + n - 1 : lo] of a cell's header. -/
def hdrF (c : Cell) (lo n : Nat) : Nat := bits c.hdr.toNat lo n

/-- TYPE of a cell. -/
def cellType (c : Cell) : Nat := hdrF c 124 4
/-- CLASS of a data cell. -/
def cellClass (c : Cell) : Nat := hdrF c 120 4
/-- FRAME of a data cell. -/
def cellFrame (c : Cell) : Nat := hdrF c 104 16
/-- SLOT of a data cell. -/
def cellSlot (c : Cell) : Nat := hdrF c 92 12
/-- INDEX of a data cell. -/
def cellIndex (c : Cell) : Nat := hdrF c 86 6
/-- EPOCH of a data cell. -/
def cellEpoch (c : Cell) : Nat := hdrF c 72 8

/-- A payload of 256 bytes, zeros where a TYPE uses none. -/
def fill256 (bs : Bytes) : Bytes := slice bs 0 256

/-- A data or retry cell (Table 11.2). -/
def dataCell (typ cls frame slot index epoch : Nat) (payload : Bytes) : Cell :=
  mkCell (typ * 2 ^ 92 + cls * 2 ^ 88 + frame % 2 ^ 16 * 2 ^ 72 + slot % 2 ^ 12 * 2 ^ 60 + index % 64 * 2 ^ 54
    + epoch % 256 * 2 ^ 40) (fill256 payload)

/-- A HALT cell (Table 11.3): kind 1 fault, 2 diagnostic. -/
def mkHalt (s : State) (epoch kind restart origin source : Nat) : Cell :=
  mkCell (2 * 2 ^ 92 + epoch % 256 * 2 ^ 80 + kind * 2 ^ 76 + restart % 2 ^ 20 * 2 ^ 56 + origin % 2 ^ 20 * 2 ^ 36
    + source % 2 ^ 16 * 2 ^ 20) (fill256 (natBe 4 (coordWord s).toNat))

/-- A control cell (R234). -/
def mkControl (code seq : Nat) (payload : Bytes) : Cell :=
  mkCell (3 * 2 ^ 92 + code * 2 ^ 80 + seq % 2 ^ 16 * 2 ^ 64) (fill256 payload)

/-- CODE of a control cell. -/
def ctlCode (c : Cell) : Nat := hdrF c 112 8
/-- SEQ of a control cell. -/
def ctlSeq (c : Cell) : BitVec 16 := BitVec.ofNat 16 (hdrF c 96 16)

/-- One step of PRBS31, x^31 + x^28 + 1 (R219): the bit and the next state. -/
def prbsStep (x : BitVec 31) : Bool × BitVec 31 :=
  let b := x.getLsbD 30 != x.getLsbD 27
  (b, (x <<< 1) ||| BitVec.setWidth 31 (b2v b))

/-- n bits of PRBS31 as a number, first bit on top (log 68). -/
def prbsBits : Nat → Nat → BitVec 31 → Nat × BitVec 31
  | 0, acc, x => (acc, x)
  | n + 1, acc, x => prbsBits n (2 * acc + b2n (prbsStep x).1) (prbsStep x).2

/-- n bytes of PRBS31. -/
def prbsBytes : Nat → BitVec 31 → Bytes
  | 0, _ => []
  | n + 1, x => BitVec.ofNat 8 (prbsBits 8 0 x).1 :: prbsBytes n (prbsBits 8 0 x).2

/-- The idle cell (R223). -/
def mkIdle : Cell := mkCell 0 (prbsBytes 256 (BitVec.ofNat 31 0x76543210))

/-! Cell positions (07, R136; 11, R221): position p begins at 32 p / 7 ns of fabric time -/

/-- Position p is carried at a width. -/
def isCarried (w p : Nat) : Bool := p % 16 == 0 || w == 4 || (w == 3 && p % 4 != 3) || (w == 2 && p % 2 == 0)

/-- First position that begins at time t or later. -/
def positionFrom (t : Nat) : Nat := (7 * t + 31) / 32

/-- Positions that begin at time t or later and before u. -/
def positionsIn (t u : Nat) : List Nat := (List.range (positionFrom u - positionFrom t)).map (positionFrom t + ·)

/-- First free carried non-HALT position of a link that begins at t or later and before u. -/
def freePosition (l : Link) (t u : Nat) : Option Nat :=
  (positionsIn t u).find? (fun p => p % 16 != 0 && isCarried l.width.toNat p && !l.sent.any (fun x => x.1 == p))

/-- The link sends a cell in a position. -/
def putCell (p : Nat) (c : Cell) (l : Link) : Link := { l with sent := l.sent ++ [(p, c)] }

/-- The link sends cells, in order, in its free carried non-HALT positions that begin at t or later and before u. -/
def placeCells (t u : Nat) : List Cell → Link → Link
  | [], l => l
  | c :: r, l => placeCells t u r ((freePosition l t u).elim l (fun p => putCell p c l))

/-- Where a forwarded HALT goes: the next carried position that no HALT or control cell holds (07, R157). -/
def haltPlace (l : Link) (t : Nat) : Nat :=
  ((positionsIn t (t + 512)).find? (fun p => isCarried l.width.toNat p &&
    !l.sent.any (fun x => x.1 == p && (cellType x.2 == 2 || cellType x.2 == 3)))).getD (positionFrom t)

/-- A forwarded HALT takes its position even from a data cell, which is discarded (07, R157). -/
def putHalt (t : Nat) (c : Cell) (l : Link) : Link :=
  putCell (haltPlace l t) c { l with sent := l.sent.filter (fun x => x.1 != haltPlace l t) }

/-- Queue a HALT cell on every link that is up (R157). -/
def queueHalt (c : Cell) (s : State) : State :=
  (upLinks s).foldl (fun s k => modLink s k (fun l => { l with pendHalt := l.pendHalt ++ [c] })) s

/-- Forward a HALT cell on every link that is up, at the next cell boundary of each (R157). -/
def forwardHalt (c : Cell) (s : State) : State :=
  (upLinks s).foldl (fun s k => modLink s k (putHalt s.time.now c)) s

/-- Queue a control cell on one link (R136). -/
def queueControl (c : Cell) (s : State) (k : Nat) : State :=
  modLink s k (fun l => { l with pendControl := l.pendControl ++ [c] })

/-- Queue a control cell on every link that is up but one (R234). -/
def floodBut (skip : Option Nat) (c : Cell) (s : State) : State :=
  ((upLinks s).filter (fun k => some k != skip)).foldl (queueControl c) s

/-- The master originates a flooded control cell with its next SEQ (R234). -/
def originate (code : Nat) (payload : Bytes) (s : State) : State :=
  floodBut none (mkControl code s.fabric.seqOut.toNat payload)
    { s with fabric := { s.fabric with seqOut := s.fabric.seqOut + 1 } }

/-- The links on which this device's children sit: those whose peer names this link as its time parent (R130). -/
def childLinks (s : State) : List Nat := (List.range 64).filter (fun k => isUp s k && (linkOf s k).child)

end Sys2Proof.Machine
end

