-- ==== Sys2Proof/Machine/Collector.lean ====
section
/-! DEFINITION. The fault collector: the sources, classification, counts, the log and ERR_N (14, R288 to R304, R395,
R396). What a reaction does stands in Halt.lean. -/

namespace Sys2Proof.Machine

/-! Sources (Table 14.1, R395) -/

/-- A fault source: code, class (1 C, 2 U, 3 F), default reaction, and the location kinds it may carry. -/
structure SourceInfo where
  code : Nat
  cls : Nat
  reaction : Nat
  kinds : List Nat
deriving DecidableEq, Repr, Inhabited

/-- Table 14.1. -/
def sourceTable : List SourceInfo :=
  [⟨0x0101, 2, 1, [1]⟩, ⟨0x0102, 1, 0, [1]⟩, ⟨0x0103, 2, 1, [1]⟩, ⟨0x0104, 2, 1, [1]⟩, ⟨0x0105, 2, 1, [1]⟩] ++
  [⟨0x0106, 2, 1, [1]⟩, ⟨0x0107, 2, 3, [1]⟩, ⟨0x0108, 2, 3, [1]⟩, ⟨0x0201, 2, 1, [1]⟩, ⟨0x0202, 2, 1, [1]⟩] ++
  [⟨0x0203, 2, 1, [2]⟩, ⟨0x0204, 2, 1, [8]⟩, ⟨0x0205, 2, 1, [1]⟩, ⟨0x0206, 2, 1, [8]⟩, ⟨0x0207, 2, 1, [0]⟩] ++
  [⟨0x0208, 2, 1, [0]⟩, ⟨0x0209, 2, 1, [0]⟩, ⟨0x020A, 2, 2, [0]⟩, ⟨0x020B, 3, 7, [3, 4, 0]⟩, ⟨0x020C, 3, 7, [1]⟩] ++
  [⟨0x020D, 1, 0, [0]⟩, ⟨0x020E, 1, 0, [0]⟩, ⟨0x0301, 1, 0, [3, 4]⟩, ⟨0x0302, 2, 1, [3, 4]⟩, ⟨0x0303, 1, 0, [3, 4]⟩] ++
  [⟨0x0304, 1, 0, [3, 4]⟩, ⟨0x0305, 2, 5, [3, 4]⟩, ⟨0x0306, 3, 7, [3, 4]⟩, ⟨0x0307, 1, 0, [9]⟩, ⟨0x0308, 2, 1, [9]⟩] ++
  [⟨0x0309, 2, 1, [9]⟩, ⟨0x030A, 2, 1, [4]⟩, ⟨0x0401, 1, 0, [2]⟩, ⟨0x0402, 2, 4, [2]⟩, ⟨0x0403, 1, 0, [2]⟩] ++
  [⟨0x0404, 1, 0, [2]⟩, ⟨0x0405, 1, 0, [2]⟩, ⟨0x0406, 2, 6, [6]⟩, ⟨0x0501, 1, 0, [5]⟩, ⟨0x0502, 1, 0, [0]⟩] ++
  [⟨0x0503, 3, 7, [5, 6, 7, 8, 3, 4, 0]⟩, ⟨0x0504, 3, 7, [0]⟩, ⟨0x0601, 1, 0, [0]⟩, ⟨0x0602, 1, 0, [0]⟩] ++
  [⟨0x0603, 1, 0, [0]⟩, ⟨0x0604, 1, 0, [0]⟩, ⟨0x0605, 2, 6, [8]⟩, ⟨0x0606, 2, 6, [7]⟩, ⟨0x0607, 2, 5, [5]⟩] ++
  [⟨0x0608, 2, 1, [0]⟩, ⟨0x0609, 3, 7, [0]⟩]

/-- A source of Table 14.1, if the code is one. -/
def sourceInfo (code : Nat) : Option SourceInfo := sourceTable.find? (·.code == code)

/-- How many units a location KIND has (R395, Table 14.2). -/
def kindUnits (kind : Nat) : Nat :=
  match kind with
  | 0 => 1 | 1 => 1152 | 2 => 64 | 3 => 8 | 4 => 8 | 5 => 8 | 6 => 4 | 7 => 4 | 8 => 2 | 9 => 4 | _ => 0

/-- The occurrence that a FORCE_UNIT names for a source, where it exists (R395). -/
def forceOcc (i : SourceInfo) (unit : Nat) : Option Occ :=
  let kn := if i.kinds = [1] then (1, unit) else (unit / 256, unit % 256)
  if i.kinds.contains kn.1 && decide (kn.2 < kindUnits kn.1) then some (occAt i.code kn.1 kn.2) else none

/-- REACTION of a source: as written, else the default (R302). -/
def reactionOf (s : State) (i : SourceInfo) : Nat :=
  ((sourceOf s i.code).reaction.map (·.toNat)).getD i.reaction

/-! Classification (R288 to R292) -/

/-- Location word of an occurrence (Table 14.2). -/
def locWord (o : Occ) : BitVec 32 :=
  BitVec.ofNat 32 (o.kind.toNat * 2 ^ 28 + o.channel.toNat * 2 ^ 16 + o.number.toNat)

/-- Uncorrectable memory errors (09, R399). -/
def isMemoryError (code : Nat) : Bool := code == 0x0302 || code == 0x0308

/-- The occurrence met an update tile: an ingot, filings or state plane (09, R197). -/
def inTiles (o : Occ) : Bool := o.role == some 0x0B

/-- The occurrence as it is reported: a memory error that loses update state as 0x020B (a cache slice is no location
of it), a stash overrun under forced recompute as 0x020C, and a second spine mismatch in one step as 0x0605
(Table 14.2, R292; 09, R197; log 89). -/
def reported (s : State) (d : Detected) : Occ :=
  let c := d.occ.source.toNat
  if isMemoryError c && inTiles d.occ && d.kind == 6 && d.state == 6 then
    (if c = 0x0302 then { d.occ with source := 0x020B } else occNone 0x020B)
  else if c = 0x0205 ∧ s.train.forcedRecompute then { d.occ with source := 0x020C }
  else if c = 0x0206 ∧ 1 ≤ s.faults.spineMismatches then { d.occ with source := 0x0605 }
  else d.occ

/-- A step is in progress: RUNNING, or stopped at a restart point of it. -/
def stepOpen (s : State) : Bool := s.dev.mode == .running || (s.dev.mode == .held && s.dev.heldReason == 3)

/-- The hearth that an occurrence names. -/
def hearthAt (o : Occ) : Option Nat := if o.kind = 1 ∧ o.number.toNat < 1152 then some o.number.toNat else none

/-- The hearth's counters (17, R360): the U occurrences of a step count while one is in progress (log 49). -/
def countHearth (s : State) (i : SourceInfo) (h : Nat) : State :=
  modHearth s h (fun k => { k with
    spCorrected := if i.code = 0x0102 then satInc k.spCorrected else k.spCorrected
    uOccurrences := if i.cls = 2 then satInc k.uOccurrences else k.uOccurrences
    stepU := if i.cls = 2 ∧ stepOpen s then satInc k.stepU else k.stepU })

/-- The occurrence counted (R289, R300, R360). -/
def countOccurrence (s : State) (i : SourceInfo) (o : Occ) : State :=
  let f := s.faults
  let s1 := modSource { s with faults := { f with
      countC := if i.cls = 1 then satInc f.countC else f.countC
      countU := if i.cls = 2 then satInc f.countU else f.countU
      countF := if i.cls = 3 then satInc f.countF else f.countF } } i.code
    (fun x => { x with count := satInc x.count })
  match hearthAt o with
  | some h => countHearth s1 i h
  | none => s1

/-- The reaction taken: the source's, or 3 where a hearth reaches HEARTH_LIMIT (R292). s is the state after counting
(log 88). -/
def takenReaction (s : State) (i : SourceInfo) (o : Occ) : Nat :=
  let r := reactionOf s i
  match hearthAt o with
  | some h =>
    if i.cls = 2 ∧ stepOpen s ∧ (hearthOf s h).stepU.toNat = s.faults.hearthLimit.toNat then max r 3 else r
  | none => r

/-- DISPOSITION (Table 14.4). -/
def disposition (cls reaction : Nat) (forced masked : Bool) : BitVec 8 :=
  BitVec.ofNat 8 (cls * 64 + reaction * 8 + b2n forced * 4 + b2n masked * 2)

/-- The 32 bytes of a log record (Table 14.4). -/
def logBytes (r : LogRecord) : Bytes :=
  natLe 8 r.time.toNat ++ natLe 8 r.step.toNat ++ natLe 2 r.source.toNat ++ [r.disposition, r.epoch] ++
    natLe 4 r.location.toNat ++ natLe 4 r.planEntry.toNat ++ [r.state, 0, 0, 0]

/-- One record into the ring, the newest first; LAST_FAULT and an EVENT message with it (R299, R300; 15, R322). -/
def logOccurrence (s : State) (i : SourceInfo) (o : Occ) (d : Detected) (reaction : Nat) (masked : Bool) : State :=
  let r : LogRecord := {
    time := BitVec.ofNat 64 d.time, step := d.step, source := BitVec.ofNat 16 i.code
    disposition := disposition i.cls reaction d.forced masked, epoch := d.epoch, location := locWord o
    planEntry := d.planEntry &&& 0xFFFFF, state := d.state }
  sendEvent { s with faults := { s.faults with
    log := (r :: s.faults.log).take 1024
    lastFault := BitVec.ofNat 64 (i.code * 2 ^ 48 + i.cls * 2 ^ 46 + reaction * 2 ^ 43 + (locWord o).toNat) } }
    (logBytes r)

/-- A qualifying occurrence drives ERR_N low and holds it (R294, R295); while ERR_HELD is 1 nothing changes. -/
def qualify (s : State) (i : SourceInfo) (masked : Bool) : State :=
  if masked || (i.cls == 1 && !s.faults.cEnable) then s
  else
    let s1 := { s with dev := { s.dev with bootQualified := s.dev.bootQualified || s.dev.mode == .boot } }
    if s.faults.errHeld then s1
    else { s1 with
      pins := { s1.pins with errN := false }
      faults := { s1.faults with errHeld := true, pulsing := true } }

/-- The update state is lost (09, R197): STATE_LOST, with the fault's classification (log 95). -/
def noteLost (s : State) (code : Nat) : State :=
  if code = 0x020B then { s with upd := { s.upd with stateLost := true } } else s

/-- What a classified occurrence leaves for the reaction: source, reaction and location. -/
structure Classified where
  info : SourceInfo
  occ : Occ
  reaction : Nat
  kind : Nat
  planEntry : Nat
  forced : Bool
deriving DecidableEq, Repr, Inhabited

/-- One occurrence classified, counted, logged and shown on ERR_N (R288, R289, R295). A reserved source code names no
occurrence. -/
def classify (s0 : State) (d : Detected) : State × Option Classified :=
  let o := reported s0 d
  let s := if d.occ.source = 0x0206 then
      { s0 with faults := { s0.faults with spineMismatches := s0.faults.spineMismatches + 1 } } else s0
  match sourceInfo o.source.toNat with
  | none => (s, none)
  | some i =>
    let masked := (sourceOf s i.code).mask
    let s1 := countOccurrence s i o
    let r := takenReaction s1 i o
    let quiet := i.code == 0x0102 || i.code == 0x0301 || (i.cls == 1 && masked)
    let s2 := noteLost (if quiet then s1 else logOccurrence s1 i o d r masked) i.code
    let s3 := { s2 with dev := { s2.dev with bootFatal := s2.dev.bootFatal || (s2.dev.mode == .boot && i.cls == 3) } }
    (qualify s3 i masked, some ⟨i, o, r, d.kind, d.planEntry.toNat, d.forced⟩)

/-- Every detected occurrence classified, counted and logged before a reset takes effect; no reaction follows (R396). -/
def drain (s : State) : State :=
  let s1 := s.faults.detected.foldl (fun s d => (classify s d).1) s
  { s1 with faults := { s1.faults with detected := [] } }

end Sys2Proof.Machine
end

