-- ==== Sys2Proof/Machine/Channels.lean ====
section
/-! DEFINITION. What the port sends, and the bulk channels: opening, receiving, sending and closing (16, R329, R333,
R337, R340 to R343, R404). -/

namespace Sys2Proof.Machine

/-! Messages (16, R329, R333) -/

/-- VLAN_ID of PORT_CONFIG (Table 16.2). -/
def vlanId (s : State) : Nat := bits s.port.config.toNat 4 12
/-- The tag of sent frames: none with VLAN_ID 0 (R329). -/
def sendVlan (s : State) : Option (BitVec 12) := if vlanId s = 0 then none else some (BitVec.ofNat 12 (vlanId s))
/-- CONTROL_PCP of PFC_CONFIG (Table 16.3). -/
def controlPcp (s : State) : BitVec 3 := BitVec.ofNat 3 (bits s.port.pfcConfig.toNat 18 3)
/-- BULK_PCP of PFC_CONFIG. -/
def bulkPcp (s : State) : BitVec 3 := BitVec.ofNat 3 (bits s.port.pfcConfig.toNat 15 3)
/-- PFC_ENABLE of PORT_CONFIG. -/
def pfcEnabled (s : State) : Bool := s.port.config.getLsbD 1

/-- The open session of a number. -/
def sessionOf (s : State) (n : BitVec 32) : Option Session := s.host.sessions.find? (·.number == n)

/-- The 16-byte header of a message (Table 16.6). -/
def msgHeader (typ : BitVec 8) (session seq : BitVec 32) (len : Nat) (flags : BitVec 8) : Bytes :=
  natBe 2 0x494C ++ [0x01, typ] ++ natBe 4 session.toNat ++ natBe 4 seq.toNat ++ natBe 2 len ++ [flags, 0]

/-- The tag of a message under a key (R337). -/
def msgTag (key : Bytes) (typ : BitVec 8) (session seq : BitVec 32) (flags : BitVec 8) (body : Bytes) : Bytes :=
  (hmac key (msgHeader typ session seq body.length flags ++ body)).take 16

/-- Send a message: with a tag in a session, without one outside (R333, R337). -/
def sendMsg (s : State) (dst : Endpoint) (typ : BitVec 8) (session seq : BitVec 32) (flags : BitVec 8)
    (body : Bytes) : State :=
  let tag := if session = 0 then [] else ((sessionOf s session).map (fun x => msgTag x.key typ session seq flags body)).getD []
  send s (.datagram dst (sendVlan s) (if typ = 0x21 then bulkPcp s else controlPcp s) typ session seq flags body tag)

/-- Send a bulk message: its SEQ counts the device's bulk messages (R337). -/
def sendBulk (s : State) (c : Channel) (typ flags : BitVec 8) (body : Bytes) : State :=
  sendMsg { s with host := { s.host with bulkSeq := s.host.bulkSeq + 1 } } c.peer typ c.session s.host.bulkSeq flags body

/-! Channels (16, R340) -/

/-- The open channel of a number. -/
def channelOf (s : State) (id : BitVec 16) : Option Channel := s.host.channels.find? (·.id == id)

/-- The open channel of a kind and direction. -/
def channelKind (s : State) (kind : Nat) (toHost : Bool) : Option Channel :=
  s.host.channels.find? (fun c => c.kind == kind && c.toHost == toHost)

/-- State with a channel changed. -/
def modChannel (s : State) (id : BitVec 16) (f : Channel → Channel) : State :=
  { s with host := { s.host with channels := s.host.channels.map (fun c => if c.id == id then f c else c) } }

/-- The receive buffer with n units drained from it (R330). -/
def drainUnits (s : State) (n : Nat) : State := { s with port := { s.port with rxLevel := s.port.rxLevel - 1024 * n } }

/-- State without a channel and what it has received. -/
def dropChannel (s0 : State) (id : BitVec 16) : State :=
  let s := drainUnits s0 ((channelOf s0 id).elim 0 (·.waiting.length))
  { s with host := { s.host with
    channels := s.host.channels.filter (·.id != id)
    inbox := sput [] s.host.inbox id.toNat [] } }

/-- Close a channel: BULK_CLOSE to the host, and the channel ends (R343). -/
def closeChannel (reason : Nat) (code : BitVec 16) (s : State) (c : Channel) : State :=
  dropChannel (sendBulk s c 0x23 0 (natBe 2 c.id.toNat ++ natBe 1 reason ++ [0] ++ natBe 2 code.toNat)) c.id

/-- Close every channel of some kinds. -/
def closeKinds (kinds : List Nat) (reason : Nat) (s : State) : State :=
  (s.host.channels.filter (fun c => kinds.contains c.kind)).foldl (closeChannel reason 0) s

/-- Count frames or datagrams in DISCARDS (Table 16.1). -/
def discard (s : State) (n : Nat := 1) : State :=
  { s with port := { s.port with discards := satAdd s.port.discards n } }

/-! Receiving (R341, R342, R404) -/

/-- Unit u of a channel to the device has been received. -/
def hasUnit (c : Channel) (u : Nat) : Bool := decide (u < 64 * c.lowest) || c.units.contains u

/-- Unit u has arrived or lies beyond the stream's end (R342). -/
def unitDone (c : Channel) (u : Nat) : Bool := hasUnit c u || c.final.any (fun f => decide (f.1 < u))

/-- Window w has been wholly received. -/
def windowDone (c : Channel) (w : Nat) : Bool := (List.range 64).all (fun i => unitDone c (64 * w + i))

/-- The lowest window not wholly received, from w on; fuel bounds the windows passed. -/
def lowestFrom (c : Channel) : Nat → Nat → Nat
  | 0, w => w
  | f + 1, w => if windowDone c w && !c.final.any (fun x => decide (x.1 < 64 * w)) then lowestFrom c f (w + 1) else w

/-- The channel with its lowest window moved on. -/
def settle (c : Channel) : Channel :=
  let w := lowestFrom c (c.units.length + 1) c.lowest
  { c with lowest := w, units := c.units.filter (fun u => decide (64 * w ≤ u)) }

/-- RECEIVED of a BULK_ACK for window w (R342). -/
def receivedBits (c : Channel) (w : Nat) : Nat :=
  ((List.range 64).map (fun i => if unitDone c (64 * w + i) then 2 ^ i else 0)).sum

/-- Send BULK_ACK for window w (R342). -/
def sendAck (s : State) (c : Channel) (w : Nat) : State :=
  sendBulk s c 0x22 0 (natBe 2 c.id.toNat ++ [0, 0] ++ natBe 4 w ++ natBe 8 (receivedBits c w))

/-- Every unit through the final one has arrived. -/
def allArrived (c : Channel) : Bool := c.final.any (fun f => (List.range (f.1 + 1)).all (hasUnit c))

/-- Bytes of the stream of a channel whose final unit has arrived. -/
def streamLength (c : Channel) : Nat := c.final.elim 0 (fun f => 1024 * f.1 + f.2)

/-! Sending (R341, R342) -/

/-- Units of a stream: the last may be short. -/
def unitCount (c : Channel) : Nat := (c.stream.length + 1023) / 1024

/-- The body of a BULK_DATA message of n units from unit u on (Table 16.13). -/
def dataBody (c : Channel) (u n : Nat) : Bytes :=
  let last := c.streamEnd && decide (u + n = unitCount c)
  let bytes := (c.stream.drop (1024 * u)).take (1024 * n)
  let lastBytes := bytes.length - 1024 * (n - 1)
  natBe 2 c.id.toNat ++ [BitVec.ofNat 8 (b2n last), BitVec.ofNat 8 n] ++ natBe 4 (u / 64) ++
    [BitVec.ofNat 8 (u % 64), 0] ++ natBe 2 lastBytes ++ [0, 0, 0, 0] ++ bytes

/-- Send n units from unit u on, up to 8 a message and none across a window; fuel bounds the messages. -/
def sendUnits (c : Channel) (flags : BitVec 8) : Nat → Nat → Nat → State → State
  | 0, _, _, s => s
  | f + 1, u, n, s =>
    if n = 0 then s
    else
      let k := min (min n 8) (64 - u % 64)
      sendUnits c flags f (u + k) (n - k) (sendBulk s c 0x21 flags (dataBody c u k))

/-- Send what the window allows and has not been sent (R341). -/
def pump (s : State) (id : BitVec 16) : State :=
  match channelOf s id with
  | none => s
  | some c =>
    let upto := min (unitCount c) (64 * (c.lowest + c.windows))
    let n := upto - c.sentUnits
    if c.toHost && decide (0 < n) then
      modChannel (sendUnits c 0 (n + 1) c.sentUnits n s) id (fun x => { x with sentUnits := upto })
    else s

/-- A chimney channel sends only in control maintenance windows while the device is RUNNING (R342; log 130). -/
def chimneyMaySend (s : State) : Bool := s.dev.mode != .running || decide (4064 ≤ s.seq.slot)

/-- Append bytes to a channel's stream and send what the window allows. -/
def feed (s : State) (id : BitVec 16) (bs : Bytes) (ends : Bool) : State :=
  pump (modChannel s id (fun c => { c with stream := c.stream ++ bs, streamEnd := c.streamEnd || ends })) id

/-- Bytes padded with zeros to the next unit. -/
def padUnit (bs : Bytes) : Bytes := bs ++ List.replicate ((1024 - bs.length % 1024) % 1024) 0

/-- The lowest window not wholly acknowledged, from w on. -/
def ackLowest (c : Channel) : Nat → Nat → Nat
  | 0, w => w
  | f + 1, w =>
    if (List.range 64).all (fun i => decide (64 * w + i < c.sentUnits) && c.acked.contains (64 * w + i)) then
      ackLowest c f (w + 1)
    else w

/-- Every unit sent has been acknowledged. -/
def allAcked (c : Channel) : Bool :=
  (List.range (c.sentUnits - 64 * c.lowest)).all (fun i => c.acked.contains (64 * c.lowest + i))

/-- Take an acknowledgement of window w into a channel from the device. -/
def takeAck (c : Channel) (w received : Nat) : Channel :=
  let us := ((List.range 64).filter (fun i => received.testBit i)).map (fun i => 64 * w + i)
  let c1 := { c with acked := c.acked ++ us.filter (fun u => decide (u < c.sentUnits) && !c.acked.contains u && decide (64 * c.lowest ≤ u)), timeouts := 0 }
  let l := ackLowest c1 (c1.acked.length / 64 + 1) c1.lowest
  { c1 with lowest := l, acked := c1.acked.filter (fun u => decide (64 * l ≤ u)) }

/-! The chimney (10, R212) -/

/-- Start sending a chimney record at a unit boundary. -/
def chimneyStart (s : State) (c : Channel) (r : Bytes) : State :=
  let s1 := modChannel { s with tele := { s.tele with chimneySending := some r } } c.id
    (fun x => { x with stream := x.stream ++ padUnit r })
  if chimneyMaySend s then pump s1 c.id else s1

/-- A new chimney record: sent at once where none is in transmission, else it waits; it replaces a waiting one, which
is dropped (R212). -/
def chimneyPut (s : State) (r : Bytes) : State :=
  match channelKind s 4 true with
  | none => s
  | some c =>
    if s.tele.chimneySending.isNone then chimneyStart s c r
    else if s.tele.chimneyWaiting.isSome then
      { s with tele := { s.tele with chimneyWaiting := some r, chimneyDropped := satInc s.tele.chimneyDropped } }
    else { s with tele := { s.tele with chimneyWaiting := some r } }

/-- The record in transmission has been acknowledged: the waiting one follows (R212). -/
def chimneyDone (s : State) (c : Channel) : State :=
  let s1 := { s with tele := { s.tele with chimneySending := none, chimneyWaiting := none } }
  match s.tele.chimneyWaiting with
  | some r => chimneyStart s1 c r
  | none => s1

end Sys2Proof.Machine
end

