-- ==== Sys2Proof/Machine/Image.lean ====
section
/-! DEFINITION. The Farmeram image as bytes: its sections, their parsing, and the verification of the sections whose layout
the spec gives whole (07, R142 to R156; 09, R192; 10, R199; 12, R243 to R246; 13, Table 13.10). A verdict names the first
failure: code, section, record (R144, R398). -/

namespace Sys2Proof.Machine

/-- Code, section index and record index of a failure (Table 7.12, R398). -/
abbrev Verdict := Option (Nat × Nat × Nat)

/-- The first record of n that fails, with its code. -/
def firstBad (n : Nat) (f : Nat → Option Nat) : Option (Nat × Nat) :=
  (List.range n).findSome? (fun i => (f i).map (fun c => (c, i)))

/-- n bytes from offset o are not all zero. -/
def anySet (b : Bytes) (o n : Nat) : Bool := ((b.drop o).take n).any (· != 0)

/-- The next multiple of 256. -/
def up256 (n : Nat) : Nat := (n + 255) / 256 * 256

/-! The section table (Tables 7.9 to 7.11) -/

/-- A section table entry. -/
structure Sect where
  index : Nat
  typ : Nat
  count : Nat
  off : Nat
  size : Nat
  hash : Bytes
  clean : Bool
deriving DecidableEq, Repr, Inhabited

/-- Entry i of the section table (Table 7.10). -/
def sectAt (b : Bytes) (i : Nat) : Sect :=
  let o := 256 + 64 * i
  { index := i, typ := leAt b o 2, count := leAt b (o + 4) 4, off := leAt b (o + 8) 8, size := leAt b (o + 16) 8
    hash := slice b (o + 32) 32, clean := !anySet b (o + 2) 2 && !anySet b (o + 24) 8 }

/-- SECTION_COUNT. -/
def sectCount (b : Bytes) : Nat := leAt b 6 2

/-- The section table. -/
def sectTable (b : Bytes) : List Sect := (List.range (sectCount b)).map (sectAt b)

/-- The section of a type. -/
def sectOf (b : Bytes) (typ : Nat) : Sect := ((sectTable b).find? (·.typ == typ)).getD default

/-- The bytes of a section. -/
def sectBytes (b : Bytes) (x : Sect) : Bytes := slice b x.off x.size

/-- The header (Table 7.9): sizes first, then reserved bytes. -/
def headerVerdict (b : Bytes) : Verdict :=
  (lowest [
    (b.length < 256 || leAt b 0 4 != 0x494D5246 || leAt b 4 2 != 1, 0x0001),
    (sectCount b < 2 || 64 < sectCount b || leAt b 8 8 != b.length || b.length < 256 + 64 * sectCount b, 0x0001),
    (leAt b 100 4 < 1 || 4096 < leAt b 100 4, 0x0001),
    (anySet b 120 136, 0x0005)]).map (fun c => (c, 0xFF, 0))

/-- The required types of an image outside BANKED, and of a relay image (R237, R397). -/
def requiredTypes (relay : Bool) : List Nat :=
  if relay then [6, 0xFF] else [1, 2, 3, 4, 5, 7, 8, 9, 10, 11, 12, 0xFF]

/-- The section table: known types, each at most once, SIGNATURE last, offsets and sizes inside the image (R142,
R397; log 71). -/
def tableVerdict (b : Bytes) (relay : Bool) : Verdict :=
  let t := sectTable b
  match firstBad t.length (fun i =>
      let x := t.getD i default
      lowest [
        ((x.typ = 0 || 12 < x.typ) && x.typ != 0xFF, 0x0001),
        ((t.take i).any (·.typ == x.typ), 0x0001),
        (x.off % 256 != 0 || b.length < x.off + x.size || x.off < 256 + 64 * t.length, 0x0001),
        ((x.typ == 0xFF) != (i + 1 == t.length), 0x0001),
        (x.typ == 0xFF && (x.size != 384 || x.off + x.size != b.length), 0x0001),
        (relay && !(requiredTypes true).contains x.typ, 0x0001),
        (!x.clean, 0x0005)]) with
  | some (c, i) => some (c, i, 0)
  | none => if (requiredTypes relay).all (fun y => t.any (·.typ == y)) then none else some (0x0001, 0xFF, 0)

/-- The signature by the enrolled owner key over every byte before it (R142; log 150). -/
def signatureVerdict (s : State) (b : Bytes) : Verdict :=
  let x := sectOf b 0xFF
  match s.sec.owner with
  | some k => if pssVerify k (b.take x.off) (sectBytes b x) then none else some (0x0002, x.index, 0)
  | none => some (0x0002, x.index, 0)

/-- The section hashes; the signature's own entry carries none that it could cover (R144; log 42). -/
def hashVerdict (b : Bytes) : Verdict :=
  ((sectTable b).find? (fun x => x.typ != 0xFF && sha256 (sectBytes b x) != x.hash)).map
    (fun x => (0x0003, x.index, 0))

/-- A coordinate word of the header: x, y, z, w, one byte each. -/
def headerQuad (b : Bytes) (o : Nat) : BitVec 32 := BitVec.ofNat 32 (beAt b o 4)

/-- Geometry signature, then time role and coordinates (R127, R156, R218). -/
def placeVerdict (s : State) (b : Bytes) : Verdict :=
  if slice b 56 32 != fenceSignature s.fence then some (0x0004, 0xFF, 0)
  else if headerQuad b 88 != BitVec.ofNat 32 (s.fabric.id.toNat / 2 ^ 32) || headerQuad b 92 != coordWord s
      || (headerQuad b 92 == headerQuad b 96) != isMaster s then some (0x000F, 0xFF, 0)
  else none

/-! Parsing (Tables 7.9, 7.22, 10.1, 10.2, 12.2, 12.3, 12.5, 13.10) -/

/-- A region entry (Table 12.3). -/
def regionAt (b : Bytes) (o : Nat) : Region :=
  let x := leAt b o 16
  { role := bits x 120 8, tier := bits x 118 2, localSpace := x.testBit 117, stack := bits x 114 3
    atomic := bits x 110 4, hashIndex := bits x 105 5, base := bits x 40 40, length := bits x 0 40 }

/-- The 16 bytes of a region entry. -/
def regionEntry (r : Region) : Bytes :=
  natLe 16 (r.role * 2 ^ 120 + r.tier * 2 ^ 118 + b2n r.localSpace * 2 ^ 117 + r.stack * 2 ^ 114 + r.atomic * 2 ^ 110
    + r.hashIndex * 2 ^ 105 + r.base * 2 ^ 40 + r.length)

/-- A tensor entry (Table 12.5). -/
def tensorAt (b : Bytes) (o : Nat) : Tensor :=
  let x := leAt b o 16
  { region := bits x 112 16, offset := bits x 72 40, tag := bits x 56 16, layer := bits x 44 12
    normIndex := bits x 28 16, stateSlots := bits x 26 2 }

/-- The REGIONS section: where its three tables stand (R245). -/
def regionCount (r : Bytes) : Nat := leAt r 0 4
/-- TENSOR_COUNT. -/
def tensorCount (r : Bytes) : Nat := leAt r 4 4
/-- RETAINED_COUNT. -/
def retainedCount (r : Bytes) : Nat := leAt r 8 4
/-- Offset of the tensor table. -/
def tensorTable (r : Bytes) : Nat := up256 (256 + 16 * regionCount r)
/-- Offset of the retained digests. -/
def digestTable (r : Bytes) : Nat := up256 (tensorTable r + 16 * tensorCount r)

/-- A tier block of the INTERLEAVE section (Table 12.2). -/
def tierAt (v : Bytes) (o : Nat) : TierMap :=
  { localBursts := leAt v (o + 4) 4
    entries := (List.range (leAt v o 4)).map (fun e => (leAt v (o + 16 + 2 * e) 1, leAt v (o + 17 + 2 * e) 1)) }

/-- Offset of the far block, which follows the near one. -/
def farBlock (v : Bytes) : Nat := up256 (16 + 2 * leAt v 0 4)

/-- A hyperparameter set in the layout of Table 13.10. -/
def setAt (b : Bytes) (o : Nat) : HyperSet :=
  { flags := BitVec.ofNat 32 (leAt b o 4), beta1 := BitVec.ofNat 32 (leAt b (o + 4) 4)
    beta2 := BitVec.ofNat 32 (leAt b (o + 8) 4), eps := BitVec.ofNat 32 (leAt b (o + 12) 4)
    decay := BitVec.ofNat 32 (leAt b (o + 16) 4), knotCount := BitVec.ofNat 8 (leAt b (o + 20) 1)
    knotSteps := (List.range 8).map (fun j => BitVec.ofNat 64 (leAt b (o + 24 + 8 * j) 8))
    knotLrs := (List.range 8).map (fun j => BitVec.ofNat 32 (leAt b (o + 88 + 4 * j) 4)) }

/-- The 128 bytes of a hyperparameter set (Table 13.10). -/
def setBytes (h : HyperSet) : Bytes :=
  natLe 4 h.flags.toNat ++ natLe 4 h.beta1.toNat ++ natLe 4 h.beta2.toNat ++ natLe 4 h.eps.toNat ++
    natLe 4 h.decay.toNat ++ natLe 1 h.knotCount.toNat ++ [0, 0, 0] ++
    h.knotSteps.flatMap (fun x => natLe 8 x.toNat) ++ h.knotLrs.flatMap (fun x => natLe 4 x.toNat) ++
    List.replicate 8 0

/-- Plan section: offsets of its layer table, statistics map and watch list (R199). -/
def layerTable (x : Sect) : Nat := up256 (8 * x.count)
/-- Offset of the statistics map. -/
def statTable (x : Sect) (layers : Nat) : Nat := up256 (layerTable x + 2 * layers)
/-- Offset of the watch list. -/
def watchTable (x : Sect) (layers : Nat) : Nat := up256 (statTable x layers + 4 * 4096)

/-- A plan entry (R152). -/
def planAt (p : Bytes) (i : Nat) : PlanEntry :=
  let x := leAt p (8 * i) 8
  { kind := bits x 60 4, layer := bits x 48 12, segment := bits x 32 16 }

/-- A layer table entry (Table 10.1). -/
def layerAt (p : Bytes) (o : Nat) : Layer :=
  let x := leAt p o 2
  { ceil := bits x 4 2, floor := bits x 2 2, initial := bits x 0 2 }

/-- A statistics map entry (Table 10.2). -/
def statMapAt (p : Bytes) (o i : Nat) : StatMap :=
  let x := leAt p (o + 4 * i) 4
  { stat := i, layer := bits x 20 12, kind := bits x 17 3, silence := x.testBit 16 }

/-- A variant directory entry (R152). -/
def variantAt (v : Bytes) (i : Nat) : Variant :=
  { segment := leAt v (32 * i) 2, level := leAt v (32 * i + 2) 1, recompute := leAt v (32 * i + 3) 1
    frames := leAt v (32 * i + 4) 4, stash := leAt v (32 * i + 8) 8, tables := leAt v (32 * i + 16) 8 }

/-- What the device holds of an image (log 134). -/
def parseImage (b : Bytes) : Image :=
  let rs := sectBytes b (sectOf b 7)
  let iv := sectBytes b (sectOf b 8)
  let px := sectOf b 9
  let pl := sectBytes b px
  let vx := sectOf b 10
  let layers := leAt b 100 4
  { jobId := BitVec.ofNat 64 (leAt b 16 8), jobSeed := slice b 24 32, torus := headerQuad b 88
    coord := headerQuad b 92, masterCoord := headerQuad b 96, stepFramesMax := leAt b 104 4
    stashBudget := leAt b 108 8, evalInterval := leAt b 116 4
    layers := (List.range layers).map (fun i => layerAt pl (layerTable px + 2 * i))
    plan := (List.range px.count).map (planAt pl)
    statMap := ((List.range 4096).map (statMapAt pl (statTable px layers))).filter (·.kind != 0)
    watch := (List.range (leAt pl (watchTable px layers) 4)).map
      (fun i => leAt pl (watchTable px layers + 4 + 4 * i) 4 % 2 ^ 12)
    variants := (List.range vx.count).map (variantAt (sectBytes b vx))
    regions := (List.range (regionCount rs)).map (fun i => regionAt rs (256 + 16 * i))
    tensors := (List.range (tensorCount rs)).map (fun i => tensorAt rs (tensorTable rs + 16 * i))
    digests := (List.range (retainedCount rs)).map (fun i => slice rs (digestTable rs + 32 * i) 32)
    cacheWays := leAt rs 12 1, lastWays := leAt rs 13 1
    nearMap := tierAt iv 0, farMap := tierAt iv (farBlock iv)
    remap := (List.range 1120).map (fun i => leAt (sectBytes b (sectOf b 11)) (2 * i) 2)
    sets := (List.range 16).map (fun i => setAt (sectBytes b (sectOf b 12)) (128 * i))
    programs := sectBytes b (sectOf b 1), params := sectBytes b (sectOf b 2)
    linkSection := sectBytes b (sectOf b 4) }

/-! Initial data (R143) -/

/-- An initial-data record of the CONSTANTS section: region, offset and data, with its place in the section (R143). -/
structure InitData where
  at_ : Nat
  region : Nat
  offset : Nat
  length : Nat
  clean : Bool
deriving DecidableEq, Repr, Inhabited

/-- The initial-data records from offset o on; n are left (R143). -/
def initData (b : Bytes) : Nat → Nat → List InitData
  | 0, _ => []
  | n + 1, o =>
    let len := leAt b (o + 16) 8
    { at_ := o, region := leAt b o 2, offset := leAt b (o + 8) 8, length := len
      clean := !anySet b (o + 2) 6 && !anySet b (o + 24) 8 } :: initData b n (up256 (o + 32 + len))

/-- The initial-data records of an image. -/
def imageData (b : Bytes) : List InitData :=
  let x := sectOf b 12
  initData (sectBytes b x) x.count 2048

/-- The n bytes that initial data place at an offset of a region; none where no record holds them. A later record overwrites
an earlier one. -/
def placedBytes (b : Bytes) (region off n : Nat) : Option Bytes :=
  ((imageData b).reverse.find? (fun d =>
    d.region == region && decide (d.offset ≤ off) && decide (off + n ≤ d.offset + d.length))).map
      (fun d => slice (sectBytes b (sectOf b 12)) (d.at_ + 32 + (off - d.offset)) n)

/-- The tag that the image gives tensor t, where its initial data hold it (02, R39; 12, R246; log 152). -/
def imageTag (b : Bytes) (g : Image) (t : Nat) : Option Nat :=
  ((List.range g.regions.length).find? (fun i => (g.regions.getD i default).role == 2)).bind (fun i =>
    (placedBytes b i (16 * (g.tensors.getD t default).tag) 16).map leNat)

/-! Record checks, step 6 (R144) -/

/-- Bursts of the space that a region belongs to (12, Table 12.1, R243, R258). -/
def spaceBursts (f : FenceMap) (g : Image) (r : Region) : Nat :=
  let m := if r.tier = 0 then g.nearMap else g.farMap
  let first := if r.tier = 0 then 0 else 8
  if r.tier = 2 then 24576 * g.cacheWays
  else if r.localSpace then activeOf f (first + r.stack) * m.localBursts
  else m.entries.length * (channelBursts first - m.localBursts)

/-- Two regions belong to one space. -/
def sameSpace (a r : Region) : Bool :=
  a.tier == r.tier && a.localSpace == r.localSpace && (!a.localSpace || a.stack == r.stack)

/-- Two regions of one space overlap. -/
def overlaps (a r : Region) : Bool :=
  sameSpace a r && decide (a.base < r.base + r.length) && decide (r.base < a.base + a.length)

/-- The role is allowed in the region's tier (Table 12.4). -/
def roleTier (r : Region) : Bool :=
  match r.role with
  | 0 | 2 => true
  | 1 => r.tier == 0 && r.localSpace
  | 3 | 4 | 8 | 9 | 11 => r.tier == 1
  | 5 | 6 | 13 => r.tier != 2
  | 7 => r.tier != 2 && !r.localSpace
  | 10 => r.tier == 0
  | 12 => r.tier == 2
  | _ => false

/-- The roles that appear exactly once (Table 12.4). -/
def singleRoles : List Nat := [2, 3, 4, 5, 6]

/-- One region entry (R244, R245); an undo ring of another size breaks R192. -/
def regionCode (f : FenceMap) (g : Image) (raw : Nat) (i : Nat) : Option Nat :=
  let r := g.regions.getD i default
  let before := g.regions.take i
  lowest [
    (bits raw 80 25 != 0 || r.tier == 3 || 13 < r.role, 0x0005),
    (!roleTier r || (r.tier == 2 && r.localSpace), 0x0005),
    (r.tier != 2 && r.atomic != 0 || 8 < r.atomic, 0x0005),
    (r.role != 7 && r.hashIndex != 0 || r.role == 7 && g.digests.length ≤ r.hashIndex, 0x0005),
    (!r.localSpace && r.stack != 0, 0x0005),
    (r.length == 0 || spaceBursts f g r < r.base + r.length, 0x0005),
    (r.role == 3 && r.length * 2048 != g.stashBudget, 0x0005),
    (r.role == 4 && r.length != 1048576, 0x000D),
    (before.any (overlaps r), 0x0005),
    (singleRoles.contains r.role && before.any (·.role == r.role), 0x0005),
    (r.role == 1 && before.any (fun q => q.role == 1 && q.stack == r.stack), 0x0005),
    (r.role == 7 && 16 ≤ (before.filter (·.role == 7)).length, 0x0005)]

/-- The trained tensors: tensor 0 is reserved (R246). -/
def normList (g : Image) : List Tensor := (g.tensors.drop 1).filter (·.normIndex != 0xFFFF)

/-- The formats that Table 2.11 gives the tensors of a region's role: stash, castings and converted gradients (02, R38, R45;
12, Table 12.4). -/
def roleTag (role g : Nat) : Bool :=
  let f := tagFormat g
  let level := f == 0 || f == 1 || f == 3
  let plain := !tagRotated g && !tagOutliers g
  if role = 3 then level && tagLayout g == 2 && tagBlocking g == 2 && plain
  else if role = 0xA then level && (tagBlocking g == 1 || plain)
  else if role = 0xD then (f == 2 || f == 4) && tagBlocking g == 1 && plain
  else true

/-- One tensor entry with the tag that the image gives it (R245, R246; 02, R22, R38, R39; 04, R72). -/
def tensorCode (g : Image) (tag : Option Nat) (raw i : Nat) : Option Nat :=
  let t := g.tensors.getD i default
  let r := g.regions.getD t.region default
  if i = 0 then (if raw = 0 then none else some 0x0006)
  else lowest ([
    (bits raw 0 26 != 0, 0x0005),
    (t.stateSlots == 3, 0x0005),
    (decide (g.regions.length ≤ t.region), 0x0006),
    (r.tier != 2 && t.offset % 2048 != 0, 0x0006),
    (decide (r.length * 2048 ≤ t.offset), 0x0006),
    (t.normIndex != 0xFFFF && ((g.tensors.take i).drop 1).any (·.normIndex == t.normIndex), 0x0006),
    (t.normIndex != 0xFFFF && decide ((normList g).length ≤ t.normIndex), 0x0006)]
    ++ tag.elim [] (fun x => (!roleTag r.role x, 0x0006) :: tagBreaks x))

/-- The REGIONS section: header, regions, then tensors with their tags; a missing single role or PROGRAM region stands at
record 0 (R245, R246; log 71). -/
def regionsVerdict (f : FenceMap) (b : Bytes) (g : Image) (rs : Bytes) : Option (Nat × Nat) :=
  let n := g.regions.length
  if anySet rs 14 50 || 8 < g.cacheWays || 8 < g.lastWays || 16 < g.digests.length then some (0x0005, 0)
  else
    match firstBad n (fun i => regionCode f g (leAt rs (256 + 16 * i) 16) i) with
    | some x => some x
    | none =>
      if !singleRoles.all (fun q => g.regions.any (·.role == q))
          || !(List.range 8).all (fun d => g.regions.any (fun r => r.role == 1 && r.stack == d)) then some (0x0005, 0)
      else
        (firstBad g.tensors.length (fun i =>
          tensorCode g (imageTag b g i) (leAt rs (tensorTable rs + 16 * i) 16) i)).map (fun x => (x.1, n + x.2))

/-- One tier block: every logical channel below its stack's active count exactly once, the counts those of the fence
map (R243, R244). -/
def tierCode (f : FenceMap) (v : Bytes) (o first : Nat) : Option Nat :=
  let m := tierAt v o
  let counts := (List.range 8).map (fun i => activeOf f (first + i))
  let low := if first = 0 then 24 else 6
  lowest [
    (counts.any (fun c => c != 0 && (c < low || (if first = 0 then 32 else 8) < c)), 0x0004),
    (m.entries.length != counts.sum, 0x0004),
    (m.entries.any (fun e => 7 < e.1 || activeOf f (first + e.1) ≤ e.2), 0x0004),
    (!m.entries.Nodup, 0x0004),
    (channelBursts first < m.localBursts, 0x0004),
    (anySet v (o + 8) 8, 0x0005)]

/-- The order that R159 asks of the plan, at one entry. -/
def planOrder (before : List Nat) (k : Nat) : Bool :=
  if k = 1 then !before.any (fun x => x == 2 || x == 3 || x == 4) && !before.contains 5
  else if k = 2 || k = 3 || k = 4 then !before.any (fun x => x == 5 || x == 6 || x == 7)
  else if k = 5 then !before.any (fun x => x == 5 || x == 6 || x == 7)
  else if k = 6 then before.contains 5 && !before.contains 7
  else if k = 7 then before.contains 5 && !before.contains 7
  else before.contains 7

/-- The PLAN section: entries, layer table, statistics map, watch list (R152, R159, R192, R199; log 71). -/
def planVerdict (g : Image) (x : Sect) (p : Bytes) : Option (Nat × Nat) :=
  let n := g.plan.length
  let kinds := g.plan.map (·.kind)
  let lc := g.layers.length
  let st := statTable x lc
  let wt := watchTable x lc
  match firstBad n (fun i =>
      let e := g.plan.getD i default
      lowest [
        (leAt p (8 * i) 4 != 0 || e.kind == 0 || 8 < e.kind, 0x0005),
        (!planOrder (kinds.take i) e.kind, 0x000D),
        (e.kind == 6 && 255 ≤ ((kinds.take i).filter (· == 6)).length, 0x000D)]) with
  | some y => some y
  | none =>
    if !kinds.contains 7 then some (0x000D, n - 1)
    else
      (firstBad (lc + 4096 + g.watch.length) (fun i =>
        if i < lc then
          let l := g.layers.getD i default
          lowest [
            (leAt p (layerTable x + 2 * i) 2 / 64 != 0 || l.ceil == 3 || l.floor == 3 || l.initial == 3, 0x0005),
            (l.ceil < l.floor || l.initial < l.floor || l.ceil < l.initial, 0x000D)]
        else if i < lc + 4096 then
          let j := i - lc
          let m := statMapAt p st j
          lowest [
            (leAt p (st + 4 * j) 2 != 0 || 5 < m.kind, 0x0005),
            (m.layer != 0xFFF && lc ≤ m.layer, 0x000D),
            (j == 4095 && leAt p (st + 4 * j) 4 != 0, 0x000D),
            (m.silence && m.kind != 3 && m.kind != 4, 0x000D)]
        else
          let j := i - lc - 4096
          let w := g.watch.getD j 0
          lowest [
            (leAt p (wt + 4 + 4 * j) 4 / 2 ^ 12 != 0, 0x0005),
            ((g.watch.take j).contains w || lc ≤ w || 256 ≤ j, 0x000D),
            (!(normList g).any (·.layer == w), 0x000D)])).map
        (fun y => (y.1, n + y.2))

/-- The VARIANTS section (R152). Of two entries with one key the model records the later one, though each has another with its
key (the model's choice, log 136). -/
def variantsVerdict (g : Image) (v : Bytes) : Option (Nat × Nat) :=
  firstBad g.variants.length (fun i =>
    let a := g.variants.getD i default
    lowest [
      (anySet v (32 * i + 24) 8, 0x0005),
      (2 < a.level || 1 < a.recompute || a.frames == 0 || a.stash % 2048 != 0, 0x000D),
      ((g.variants.take i).any (fun q => q.segment == a.segment && q.level == a.level && q.recompute == a.recompute),
        0x000D)])

/-- The REMAP section (R155). Of two entries that name one hearth the model records the later one (the model's choice,
log 136). -/
def remapVerdict (f : FenceMap) (g : Image) : Option (Nat × Nat) :=
  firstBad 1120 (fun i =>
    let e := g.remap.getD i 0
    lowest [
      (2048 ≤ e, 0x0005),
      (e / 144 != i / 140 || (g.remap.take i).contains e || f.hearths.contains e, 0x000C)])

/-- A finite FP32 code. -/
def isFinite32 (x : BitVec 32) : Bool := bits x.toNat 23 8 != 0xFF

/-- β of Table 9.2: 0 ≤ β < 1. -/
def betaOk (x : BitVec 32) : Bool := x.toNat < 0x3F800000 || x == 0x80000000

/-- Every value of a list is below the next. -/
def ascends : List Nat → Bool
  | a :: b :: t => decide (a < b) && ascends (b :: t)
  | _ => true

/-- The knot rule of R184: KNOT_COUNT 1 to 8 and its first step numbers strictly ascending. -/
def knotsOk (h : HyperSet) : Bool :=
  decide (1 ≤ h.knotCount.toNat) && decide (h.knotCount.toNat ≤ 8) &&
    ascends ((h.knotSteps.take h.knotCount.toNat).map (·.toNat))

/-- The ranges of Table 9.2. -/
def setOk (h : HyperSet) : Bool :=
  betaOk h.beta1 && betaOk h.beta2 && (h.eps.toNat != 0 && h.eps.toNat < 0x7F800000) &&
    (h.decay.toNat < 0x7F800000 || h.decay == 0x80000000) && h.knotLrs.all isFinite32 && knotsOk h

/-- Every code of a list is finite and none is below the one before it (06, R112). -/
def risingTable : List Nat → Bool
  | a :: b :: t => isFinite32 (BitVec.ofNat 32 a) && vle (ofF32 a) (ofF32 b) && risingTable (b :: t)
  | l => l.all (fun a => isFinite32 (BitVec.ofNat 32 a))

/-- The image has a VINITN op. -/
def hasInitn (g : Image) : Bool :=
  (List.range (g.programs.length / 32)).any (fun i => leAt g.programs (32 * i + 31) 1 == 0x2D)

/-- The CONSTANTS section: the 16 sets, then the initial-data records (R143). In an image with a VINITN op a record of 4,097
FP32 values is an inverse-CDF table (06, R112; log 163). -/
def constantsVerdict (g : Image) (x : Sect) (b : Bytes) : Option (Nat × Nat) :=
  match firstBad 16 (fun i =>
      let h := g.sets.getD i {}
      lowest [
        (anySet b (128 * i + 21) 3 || anySet b (128 * i + 120) 8 || 16 ≤ h.flags.toNat, 0x0005),
        (!setOk h, 0x0008)]) with
  | some y => some y
  | none =>
    let l := initData b x.count 2048
    firstBad l.length (fun i =>
      let d := l.getD i default
      let r := g.regions.getD d.region default
      lowest [
        (!d.clean || g.regions.length ≤ d.region || d.offset % 2048 != 0, 0x0005),
        (r.length * 2048 < d.offset + d.length || x.size < d.at_ + 32 + d.length, 0x0005),
        (r.role == 3 || r.role == 4 || r.role == 7, 0x0005),
        (d.length == 16388 && hasInitn g && !risingTable (codesOf 4 (slice b (d.at_ + 32) 16388)), 0x0008)])

/-- The RELAY section: one output link, or none, for each link (R237). -/
def relayVerdict (r : Bytes) : Option (Nat × Nat) :=
  if r.length != 64 then some (0x0001, 0)
  else firstBad 64 (fun i => lowest [(64 ≤ leAt r i 1 && leAt r i 1 != 0xFF, 0x0005)])

/-- The PARAMS section: its records' reserved bits (R146). -/
def paramsVerdict (p : Bytes) : Option (Nat × Nat) :=
  firstBad (p.length / 64) (fun i => lowest [(leAt p (64 * i) 8 % 2 ^ 35 != 0, 0x0005)])

end Sys2Proof.Machine
end

