-- ==== Sys2Proof/Machine/Vector.lean ====
section
/-! DEFINITION. The vector engine: the 32 element ops of Table 6.1 (06, R102 to R114; 07, Table 7.18). -/

namespace Sys2Proof.Machine

/-- Input stream i of the first n an op reads, widened to FP32 codes; zeros for a stream that it does not read. -/
def vecIn (s : State) (c : OpCmd) (n i : Nat) : List Nat :=
  if i < n then
    (codesAt s c.hearth.val (if i = 0 then opSrc0 c else if i = 1 then opSrc1 c else opSrc2 c)
      (fmtBytes (opFmtIn c)) (pCount c)).map (widen (opFmtIn c))
  else List.replicate (pCount c) 0

/-- One element of an op's share. -/
structure VElem where
  e : Nat
  on : Bool
  a : Nat
  b : Nat
  d : Nat
deriving DecidableEq, Repr

/-- The elements of an op that reads n streams, in stream order. -/
def vecElems (s : State) (c : OpCmd) (n : Nat) : List VElem :=
  let z := (activity s c).zip ((vecIn s c n 0).zip ((vecIn s c n 1).zip (vecIn s c n 2)))
  ((List.range (pCount c)).zip z).map (fun x => ⟨x.1, x.2.1, x.2.2.1, x.2.2.2.1, x.2.2.2.2⟩)

/-- The input values of an element of an op that reads n streams. -/
def vecVals (n : Nat) (x : VElem) : List Val := ([x.a, x.b, x.d].take n).map ofF32

/-- The destination codes: a result, or the masked element's +0 or previous code (R109). -/
def mergeOut (c : OpCmd) (prev : List Nat) (out : List (Option Nat)) : List Nat :=
  (out.zip prev).map (fun z => z.1.getD (if pMaskZero c then 0 else z.2))

/-- State after an element-wise op: destination bytes, statistics, program buffer. -/
def vecDone (s : State) (c : OpCmd) (spad : List Host.Cell) (st : Stat8) : State :=
  { s with mem := { s.mem with spad := spad }, tele := (vecStat s c st).1, upd := (vecStat s c st).2
           hearths := ranOp s c }

/-- Uncorrectable words that an op of n input streams and a mask plane reads, a merge of a destination of w-byte elements at
unit d included (R110). -/
def vecStruck (s : State) (c : OpCmd) (n d w : Nat) : Nat :=
  let f := fmtBytes (opFmtIn c)
  (if n < 1 then 0 else struckStream s c (opSrc0 c) f) + (if n < 2 then 0 else struckStream s c (opSrc1 c) f)
    + (if n < 3 then 0 else struckStream s c (opSrc2 c) f) + struckPlane s c (usesPlane c) + struckMerge s c d w
    + (if opCode c = 0x2D then struckBytes s c.hearth.val (pAux c) (4 * 4097) else 0)

/-- The results of an op with element function f, in the output format; none for a masked element. -/
def vecResults (c : OpCmd) (f : VElem → Nat) (xs : List VElem) : List (Option Nat) :=
  xs.map (fun x => if x.on then some (narrow (opFmtOut c) (f x)) else none)

/-- The counts of an op with element function f over n input streams. -/
def vecCounts (c : OpCmd) (n : Nat) (f : VElem → Nat) (xs : List VElem) : Stat8 :=
  xs.foldl (fun acc x =>
    if x.on then
      statAdd acc (elemStat (vecVals n x) (streamVal (opFmtOut c) (narrow (opFmtOut c) (f x))))
    else acc) {}

/-- An element-wise op with FP32 or BF16 results (R102, R109, R114). -/
def vecRun (s : State) (c : OpCmd) (n : Nat) (f : VElem → Nat) : State :=
  let xs := vecElems s c n
  let w := fmtBytes (opFmtOut c)
  let prev := codesAt s c.hearth.val (opDst0 c) w (pCount c)
  withEcc c (vecStruck s c n (opDst0 c) w) [(opDst0 c, w * pCount c)]
    (vecDone s c (spadWrite s.mem.spad c.hearth.val (opDst0 c) (codeBytes w (mergeOut c prev (vecResults c f xs))))
      (vecCounts c n f xs))

/-- The op's input streams and mask plane lie in the scratchpad. -/
def vecInFits (c : OpCmd) (n : Nat) : Bool :=
  let k := pCount c * fmtBytes (opFmtIn c)
  (n < 1 || spadFits (opSrc0 c) k) && (n < 2 || spadFits (opSrc1 c) k) && (n < 3 || spadFits (opSrc2 c) k)
    && maskFits c

/-- The op's streams lie in the scratchpad. -/
def vecFits (c : OpCmd) (n : Nat) : Bool :=
  vecInFits c n && spadFits (opDst0 c) (pCount c * fmtBytes (opFmtOut c))

/-- An element-wise op of an opcode that reads n streams and applies f. A record that breaks a rule, or on a stopped hearth,
does nothing (00, R1; 14, R293; log 79, 137). -/
def vecOp (code n : Nat) (f : VElem → Nat) (c : OpCmd) (s : State) : Host.Outcome State Fault Refusal :=
  if opSkipped s code c then .next s
  else if vecFits c n then .next (vecRun s c n f)
  else .fault .scratchpadRange

/-- VCOPY. -/
def execVcopy (c : OpCmd) (s : State) : Host.Outcome State Fault Refusal := vecOp 0x10 1 (fun x => fcanon x.a) c s
/-- VCVT. -/
def execVcvt (c : OpCmd) (s : State) : Host.Outcome State Fault Refusal := vecOp 0x11 1 (fun x => fcanon x.a) c s
/-- VADD. -/
def execVadd (c : OpCmd) (s : State) : Host.Outcome State Fault Refusal := vecOp 0x12 2 (fun x => fadd x.a x.b) c s
/-- VSUB. -/
def execVsub (c : OpCmd) (s : State) : Host.Outcome State Fault Refusal := vecOp 0x13 2 (fun x => fsub x.a x.b) c s
/-- VMUL. -/
def execVmul (c : OpCmd) (s : State) : Host.Outcome State Fault Refusal := vecOp 0x14 2 (fun x => fmul x.a x.b) c s
/-- VFMA. -/
def execVfma (c : OpCmd) (s : State) : Host.Outcome State Fault Refusal := vecOp 0x15 3 (fun x => ffma x.a x.b x.d) c s
/-- VMIN. -/
def execVmin (c : OpCmd) (s : State) : Host.Outcome State Fault Refusal := vecOp 0x16 2 (fun x => fmin x.a x.b) c s
/-- VMAX. -/
def execVmax (c : OpCmd) (s : State) : Host.Outcome State Fault Refusal := vecOp 0x17 2 (fun x => fmax x.a x.b) c s
/-- VRELU. -/
def execVrelu (c : OpCmd) (s : State) : Host.Outcome State Fault Refusal := vecOp 0x18 1 (fun x => fmax x.a 0) c s
/-- VABS. -/
def execVabs (c : OpCmd) (s : State) : Host.Outcome State Fault Refusal := vecOp 0x19 1 (fun x => fabs x.a) c s
/-- VNEG. -/
def execVneg (c : OpCmd) (s : State) : Host.Outcome State Fault Refusal := vecOp 0x1A 1 (fun x => fnegc x.a) c s
/-- VSCALE2: k is the two's-complement 16-bit integer of PARAM_A (07, R146). -/
def execVscale2 (c : OpCmd) (s : State) : Host.Outcome State Fault Refusal :=
  vecOp 0x1B 1 (fun x => fscale2 (sext 32 (pA c)) x.a) c s
/-- VRCP. -/
def execVrcp (c : OpCmd) (s : State) : Host.Outcome State Fault Refusal := vecOp 0x1E 1 (fun x => fn .rcp x.a) c s
/-- VRSQRT. -/
def execVrsqrt (c : OpCmd) (s : State) : Host.Outcome State Fault Refusal := vecOp 0x1F 1 (fun x => fn .rsqrt x.a) c s
/-- VEXP. -/
def execVexp (c : OpCmd) (s : State) : Host.Outcome State Fault Refusal := vecOp 0x20 1 (fun x => fn .exp x.a) c s
/-- VEXP2. -/
def execVexp2 (c : OpCmd) (s : State) : Host.Outcome State Fault Refusal := vecOp 0x21 1 (fun x => fn .exp2 x.a) c s
/-- VTANH. -/
def execVtanh (c : OpCmd) (s : State) : Host.Outcome State Fault Refusal := vecOp 0x22 1 (fun x => fn .tanh x.a) c s
/-- VSIGMOID. -/
def execVsigmoid (c : OpCmd) (s : State) : Host.Outcome State Fault Refusal := vecOp 0x23 1 (fun x => fn .sigmoid x.a) c s
/-- VSILU. -/
def execVsilu (c : OpCmd) (s : State) : Host.Outcome State Fault Refusal := vecOp 0x24 1 (fun x => fsilu x.a) c s
/-- VDIV. -/
def execVdiv (c : OpCmd) (s : State) : Host.Outcome State Fault Refusal := vecOp 0x25 2 (fun x => fdivc x.a x.b) c s
/-- VSQRT. -/
def execVsqrt (c : OpCmd) (s : State) : Host.Outcome State Fault Refusal := vecOp 0x26 1 (fun x => fn .sqrt x.a) c s
/-- VLOG. -/
def execVlog (c : OpCmd) (s : State) : Host.Outcome State Fault Refusal := vecOp 0x27 1 (fun x => fn .log x.a) c s
/-- VLOG2. -/
def execVlog2 (c : OpCmd) (s : State) : Host.Outcome State Fault Refusal := vecOp 0x28 1 (fun x => fn .log2 x.a) c s
/-- VERF. -/
def execVerf (c : OpCmd) (s : State) : Host.Outcome State Fault Refusal := vecOp 0x29 1 (fun x => fn .erf x.a) c s
/-- VGELU. -/
def execVgelu (c : OpCmd) (s : State) : Host.Outcome State Fault Refusal := vecOp 0x2A 1 (fun x => fgelu x.a) c s

/-- A bit of the mask plane for element e. -/
def planeBit (plane : Bytes) (e : Nat) : Bool := (plane.getD (e / 8) 0).getLsbD (e % 8)

/-- VSEL: a where the mask plane's bit is 1, else b (Table 6.1; log 29). -/
def execVsel (c : OpCmd) (s : State) : Host.Outcome State Fault Refusal :=
  if opSkipped s 0x1D c || spadFits (pMaskPlane c) ((pCount c + 7) / 8) then
    vecOp 0x1D 2 (fun x => if planeBit (maskBytes s c) x.e then fcanon x.a else fcanon x.b) c s
  else .fault .scratchpadRange

/-- VDROP (R111). -/
def execVdrop (c : OpCmd) (s : State) : Host.Outcome State Fault Refusal :=
  vecOp 0x2B 1 (fun x =>
    if elemBits (seedNow s).toNat (pStream c) (rowOf c x.e) (colOf c x.e) (pRowLen c) 16 0 16 < pKeepThr c then 0
    else fmul x.a (pKeepScale c)) c s

/-- The 32 bits of an element for classes 0x3 and 0x5 (R94, R112, R113). -/
def drawBits (s : State) (c : OpCmd) (e : Nat) : Nat :=
  elemBits (seedNow s).toNat (pStream c) (rowOf c e) (colOf c e) (pRowLen c) 32 0 32

/-- VINITU (R112): lo + (hi - lo) * U with lo and hi in PARAM_A and PARAM_B. -/
def execVinitu (c : OpCmd) (s : State) : Host.Outcome State Fault Refusal :=
  vecOp 0x2C 0 (fun x =>
    ffma (fsub (pB c) (pA c)) (toF32 (.fin false (drawBits s c x.e / 2 ^ 8) (-24))) (pA c)) c s

/-- The normal value of 32 bits through the inverse-CDF table (R112). -/
def initNormal (c : OpCmd) (t : List Nat) (b : Nat) : Nat :=
  let i := b / 2 ^ 20
  let z := ffma (fsub (t.getD (i + 1) 0) (t.getD i 0)) (toF32 (.fin false (b % 2 ^ 20) (-20))) (t.getD i 0)
  ffma z (pB c) (pA c)

/-- VINITN (R112). -/
def execVinitn (c : OpCmd) (s : State) : Host.Outcome State Fault Refusal :=
  if opSkipped s 0x2D c || spadFits (pAux c) (4 * 4097) then
    vecOp 0x2D 0 (fun x => initNormal c (codesAt s c.hearth.val (pAux c) 4 4097) (drawBits s c x.e)) c s
  else .fault .scratchpadRange

/-! Ops with results of their own form -/

/-- The counts of an op whose results are no values. -/
def plainCounts (n : Nat) (xs : List VElem) : Stat8 :=
  xs.foldl (fun acc x => if x.on then statAdd acc (plainStat (vecVals n x)) else acc) {}

/-- Bits packed eight a byte, element e at bit e mod 8 of byte e / 8 (R108). -/
def packBits (l : List Bool) : Bytes :=
  (rowsAux 8 l.length l).map (fun r => BitVec.ofNat 8 (r.foldr (fun b acc => 2 * acc + b2n b) 0))

/-- The mask bits that VCMP writes; a masked element's bit is 0 or its previous bit. -/
def cmpBits (c : OpCmd) (prev : Bytes) (xs : List VElem) : List Bool :=
  xs.map (fun x => if x.on then fpred (pA c % 8) x.a x.b else if pMaskZero c then false else planeBit prev x.e)

/-- The bits of the last byte beyond COUNT keep their contents. -/
def keepTail (n : Nat) (prev bs : Bytes) : Bytes :=
  if n % 8 = 0 then bs
  else bs.modify (n / 8) (fun b =>
    BitVec.ofNat 8 (b.toNat % 2 ^ (n % 8) + (prev.getD (n / 8) 0).toNat / 2 ^ (n % 8) * 2 ^ (n % 8)))

/-- VCMP: one mask bit per element (Table 6.1, R104, R108). -/
def execVcmp (c : OpCmd) (s : State) : Host.Outcome State Fault Refusal :=
  let k := (pCount c + 7) / 8
  if opSkipped s 0x1C c then .next s
  else if vecInFits c 2 && spadFits (opDst0 c) k then
    let xs := vecElems s c 2
    let prev := spadRead s c.hearth.val (opDst0 c) k
    .next (withEcc c (vecStruck s c 2 (opDst0 c) 1) [(opDst0 c, k)] (vecDone s c
      (spadWrite s.mem.spad c.hearth.val (opDst0 c) (keepTail (pCount c) prev (packBits (cmpBits c prev xs))))
      (plainCounts 2 xs)))
  else .fault .scratchpadRange

/-- VRAND: raw 32-bit draws (R113). -/
def execVrand (c : OpCmd) (s : State) : Host.Outcome State Fault Refusal :=
  if opSkipped s 0x2E c then .next s
  else if vecInFits c 0 && spadFits (opDst0 c) (4 * pCount c) then
    let xs := vecElems s c 0
    let out := xs.map (fun x => if x.on then some (drawBits s c x.e) else none)
    .next (withEcc c (vecStruck s c 0 (opDst0 c) 4) [(opDst0 c, 4 * pCount c)] (vecDone s c
      (spadWrite s.mem.spad c.hearth.val (opDst0 c)
        (codeBytes 4 (mergeOut c (codesAt s c.hearth.val (opDst0 c) 4 (pCount c)) out)))
      (plainCounts 0 xs)))
  else .fault .scratchpadRange

/-- The compensated sum: the new ingot and filings codes of a + d + f (04, R87). -/
def csum (a d f : Nat) : Nat × Nat :=
  let y := vadd (vadd (ofF32 a) (ofF32 d)) (ofB16 f)
  let a' := toF32 y
  if visFin y && visFin (ofF32 a') then (a', toB16 (vsub y (ofF32 a'))) else (a', 0)

/-- VCSUM: ingot and increment in FP32, filings in BF16; ingot to DST0, filings to DST1 (04, R87). -/
def execVcsum (c : OpCmd) (s : State) : Host.Outcome State Fault Refusal :=
  let h := c.hearth.val
  let n := pCount c
  if opSkipped s 0x2F c then .next s
  else if spadFits (opSrc0 c) (4 * n) && spadFits (opSrc1 c) (4 * n) && spadFits (opSrc2 c) (2 * n) && maskFits c
      && spadFits (opDst0 c) (4 * n) && spadFits (opDst1 c) (2 * n) then
    let z := (activity s c).zip ((codesAt s h (opSrc0 c) 4 n).zip
      ((codesAt s h (opSrc1 c) 4 n).zip (codesAt s h (opSrc2 c) 2 n)))
    let r := z.map (fun x => if x.1 then some (csum x.2.1 x.2.2.1 x.2.2.2) else none)
    let st := z.foldl (fun acc x =>
      if x.1 then
        statAdd acc (elemStat [ofF32 x.2.1, ofF32 x.2.2.1, ofB16 x.2.2.2] (ofF32 (csum x.2.1 x.2.2.1 x.2.2.2).1))
      else acc) {}
    let m1 := spadWrite s.mem.spad h (opDst0 c)
      (codeBytes 4 (mergeOut c (codesAt s h (opDst0 c) 4 n) (r.map (·.map (·.1)))))
    let m2 := spadWrite m1 h (opDst1 c)
      (codeBytes 2 (mergeOut c (codesAt s h (opDst1 c) 2 n) (r.map (·.map (·.2)))))
    let bad := struckStream s c (opSrc0 c) 4 + struckStream s c (opSrc1 c) 4 + struckStream s c (opSrc2 c) 2
      + struckPlane s c (usesPlane c) + struckMerge s c (opDst0 c) 4 + struckMerge s c (opDst1 c) 2
    .next (withEcc c bad [(opDst0 c, 4 * n), (opDst1 c, 2 * n)] (vecDone s c m2 st))
  else .fault .scratchpadRange

end Sys2Proof.Machine
end

