-- ==== Sys2Proof/Machine/UpdateOps.lean ====
section
/-! DEFINITION. The weight update: UPD_SGDM, UPD_ADAM and UPD_SIGN over update tiles (09, R182 to R191). -/

namespace Sys2Proof.Machine

/-- The three rules (Table 9.5). -/
inductive Rule where
  | sgdm | adam | sign
deriving DecidableEq, Repr

/-- The set's constants that an update op uses (R188). -/
structure UpdCfg where
  rule : Rule
  guard : Bool
  decoupled : Bool
  bias1 : Nat
  bias2 : Nat
  beta1 : Nat
  beta2 : Nat
  eps : Nat
  decay : Nat
  lr : Nat
deriving DecidableEq, Repr

/-- The constants of a frozen set: BC1 in BIAS_CORR [63:32], BC2 in [31:0] (Table 9.2). -/
def updCfg (r : Rule) (h : HyperSet) : UpdCfg :=
  { rule := r, guard := h.flags.getLsbD 0, decoupled := h.flags.getLsbD 1
    bias1 := bits h.biasCorr.toNat 32 32, bias2 := bits h.biasCorr.toNat 0 32
    beta1 := h.beta1.toNat, beta2 := h.beta2.toNat, eps := h.eps.toNat, decay := h.decay.toNat
    lr := h.lrNow.toNat }

/-- sign(x) of R188. -/
def fsign (x : Nat) : Nat :=
  let v := ofF32 x
  if visNan v then nanCode fp32 else if visZero v then 0 else if vsign v then 0xBF800000 else 0x3F800000

/-- The values of one element: ingot, filings, state slots 0 and 1. -/
structure UpdElem where
  a : Nat
  f : Nat
  m : Nat
  v : Nat
deriving DecidableEq, Repr, Inhabited

/-- New state and direction of a rule (Table 9.5). -/
def updDirection (k : UpdCfg) (g : Nat) (x : UpdElem) : Nat × Nat × Nat :=
  let w1 := fsub 0x3F800000 k.beta1
  let w2 := fsub 0x3F800000 k.beta2
  match k.rule with
  | .sgdm =>
    let m := ffma k.beta1 x.m g
    (m, x.v, m)
  | .adam =>
    let m := ffma k.beta1 x.m (fmul w1 g)
    let v := ffma k.beta2 x.v (fmul w2 (fmul g g))
    (m, v, fdivc (fmul m k.bias1) (fadd (fn .sqrt (fmul v k.bias2)) k.eps))
  | .sign => (ffma k.beta2 x.m (fmul w2 g), x.v, fsign (ffma k.beta1 x.m (fmul w1 g)))

/-- The increment d of Table 9.5 from the direction. -/
def updIncrement (k : UpdCfg) (a r : Nat) : Nat :=
  fnegc (fmul k.lr (if k.decoupled then ffma k.decay a r else r))

/-- New state and direction of an element from g' (R188). -/
def updStep (k : UpdCfg) (gp : Nat) (x : UpdElem) : Nat × Nat × Nat :=
  updDirection k (if k.decoupled then gp else ffma k.decay x.a gp) x

/-- The computed new values of an element (R188). -/
def updNew (k : UpdCfg) (gp : Nat) (x : UpdElem) : UpdElem :=
  let (m, v, r) := updStep k gp x
  let (a, f) := csum x.a (updIncrement k x.a r) x.f
  ⟨a, f, m, v⟩

/-- The new values as values; slot 1 exists for UPD_ADAM only. -/
def updVals (k : UpdCfg) (y : UpdElem) : List Val :=
  [ofF32 y.a, ofB16 y.f, ofF32 y.m] ++ (if k.rule = .adam then [ofF32 y.v] else [])

/-- The element's values are kept (R189). -/
def updKept (k : UpdCfg) (gp : Nat) (y : UpdElem) : Bool :=
  k.guard && !(visFin (ofF32 gp) && allFin (updVals k y))

/-- The counts of one element (Table 9.6). -/
def updStat (k : UpdCfg) (gp : Nat) (y : UpdElem) : Stat8 :=
  let g := ofF32 gp
  statOf 1 (b2n (visNan g)) (b2n (visFin g && (updVals k y).any visNan)) (b2n (visInf g)) 0
    (b2n (updKept k gp y)) 0 (b2n (visFin g && (updVals k y).any visInf))

/-- The counts of one element of an op with DECODE_ONLY (R190, R191). -/
def decodeStat (gp : Nat) : Stat8 :=
  statOf 1 (b2n (visNan (ofF32 gp))) 0 (b2n (visInf (ofF32 gp))) 0 0 0 0

/-! The op's share -/

/-- The set number of an update op (R187). -/
def updSet (c : OpCmd) : Nat := pA c % 16

/-- The tag of the converted gradient: the tensor in TENSOR (log 35). -/
def gradTag (s : State) (c : OpCmd) : Nat := tagOf s (opTensor c)

/-- The tag agrees with the record: FMT_IN, planar, linear (R39, R187). -/
def gradAgrees (s : State) (c : OpCmd) : Bool :=
  tagAgrees (gradTag s c) (opFmtIn c) false && tagLayout (gradTag s c) == 2 && tagBlocking (gradTag s c) == 1

/-- State slots of the tiles: what the tensor entry declares (R182; log 35). -/
def tileSlots (s : State) (c : OpCmd) : Nat := (tensorNo s (opTensor c)).stateSlots

/-- Bytes of one update tile (R182). -/
def tileBytes (n : Nat) : Nat := 6144 + 4096 * n

/-- Blocks of a row of the ingot. -/
def rowBlockCount (g : Nat) : Nat := (tagCols g + 31) / 32

/-- Linear block index of the share's first block (R182; log 35). -/
def firstBlock (c : OpCmd) (g : Nat) : Nat := pRowBase c * rowBlockCount g + pColBase c / 32

/-- Element e of the share is no pad element (R37, R182). -/
def updReal (c : OpCmd) (g : Nat) (e : Nat) : Bool :=
  let l := firstBlock c g + e / 32
  decide (l < tagRows g * rowBlockCount g) && decide (l % rowBlockCount g * 32 + e % 32 < tagCols g)

/-- Planes of the gradient blocks of the share. -/
def gradPlanes (c : OpCmd) : Planes :=
  { fmt := opFmtIn c, square := false, packed := false, outl := false, rows := 1, kb := pCount c / 32 }

/-- g of R183 of every element of the share. -/
def gradCodes (s : State) (c : OpCmd) : List Nat :=
  let p := gradPlanes c
  let bs := spadRead s c.hearth.val (planeUnit (opSrc1 c)) (planesEnd p)
  let t := if gradAgrees s c then tagT32 (gradTag s c) else nanCode fp32
  (List.range p.kb).flatMap (fun j =>
    let b := blockAt p bs (fun _ => true) 0 j
    b.elems.map (fun e => toF32 (elemValue t b e)))

/-- g' of R183. -/
def gradPrime (s : State) (g : Nat) : Nat := fmul g s.train.clip.toNat

/-- A plane of the tiles as codes: n codes of w bytes from byte o of every tile. -/
def tilePlane (tiles : List Bytes) (o w : Nat) : List Nat := tiles.flatMap (fun t => codesOf w (slice t o (1024 * w)))

/-- The elements of the share's tiles. -/
def tileElems (n : Nat) (tiles : List Bytes) : List UpdElem :=
  let m := tilePlane tiles 6144 4
  let v := if n = 2 then tilePlane tiles 10240 4 else m.map (fun _ => 0)
  ((tilePlane tiles 0 4).zip ((tilePlane tiles 4096 2).zip (m.zip v))).map (fun z => ⟨z.1, z.2.1, z.2.2.1, z.2.2.2⟩)

/-- A tile as bytes from its 1,024 elements. -/
def tileOf (n : Nat) (xs : List UpdElem) : Bytes :=
  codeBytes 4 (xs.map (·.a)) ++ codeBytes 2 (xs.map (·.f)) ++ codeBytes 4 (xs.map (·.m))
    ++ (if n = 2 then codeBytes 4 (xs.map (·.v)) else [])

/-- Tiles as bytes. -/
def tilesOf (n : Nat) (xs : List UpdElem) : Bytes := (rowsAux 1024 xs.length xs).flatMap (tileOf n)

/-- The state whose chunk the first update op has opened (Table 9.7). -/
def opened (s : State) : State := if currentKind s = 6 then { s with upd := openChunk s } else s

/-- The state after an update op. -/
def updDone (s : State) (c : OpCmd) (spad : List Host.Cell) (st : Stat8) : State := vecDone (opened s) c spad st

/-- The frozen set of an update op. -/
def updFrozen (s : State) (c : OpCmd) : HyperSet := sget {} s.train.frozen (updSet c)

/-- The elements of the share with their coordinates' pad flag, g' and values. -/
def updElems (s : State) (c : OpCmd) : List (Bool × Nat × UpdElem) :=
  let n := tileSlots s c
  let tiles := pieces (tileBytes n) (spadRead s c.hearth.val (opSrc0 c) (pCount c / 1024 * tileBytes n))
  let g := gradTag s c
  ((List.range (pCount c)).map (updReal c g)).zip
    (((gradCodes s c).map (gradPrime s)).zip (tileElems n tiles))

/-- The squares of the increments of a share's elements: +0 for pad and kept elements (10, R201). -/
def updSquares (k : UpdCfg) (xs : List (Bool × Nat × UpdElem)) : List Val :=
  xs.map (fun x =>
    if x.1 && !updKept k x.2.1 (updNew k x.2.1 x.2.2) then
      squareLeaf (ofF32 (updIncrement k x.2.2.a (updStep k x.2.1 x.2.2).2.2))
    else vzero)

/-- The nodes of the tree d_t that a share's tiles form: tile i of 1,024 elements is node (10, j + i), pending with its chunk
(10, R201, R202; log 159). -/
def updNodes (s : State) (c : OpCmd) (k : UpdCfg) (xs : List (Bool × Nat × UpdElem)) : List SumNode :=
  let tiles := rowsAux 1024 xs.length (updSquares k xs)
  let first := firstBlock c (gradTag s c) / 32
  ((List.range tiles.length).zip tiles).map (fun z =>
    ⟨2, opTensor c, 10, first + z.1, BitVec.ofNat 48 (encodeF w48 (canonicalTree z.2)),
      if currentKind s = 6 then some (chunkOf s) else none⟩)

/-- An update op on its tiles. -/
def updRun (r : Rule) (c : OpCmd) (s : State) : State :=
  let k := updCfg r (updFrozen s c)
  let xs := updElems s c
  let new := xs.map (fun x =>
    if x.1 then
      let y := updNew k x.2.1 x.2.2
      if updKept k x.2.1 y then x.2.2 else y
    else x.2.2)
  let st := xs.foldl (fun acc x => if x.1 then statAdd acc (updStat k x.2.1 (updNew k x.2.1 x.2.2)) else acc) {}
  noteNodes (updDone s c (spadWrite s.mem.spad c.hearth.val (opSrc0 c) (tilesOf (tileSlots s c) new)) st)
    (updNodes s c k xs)

/-- An update op with DECODE_ONLY: g' as FP32 to DST1, +0 for pad elements; tiles unchanged (R191). -/
def decodeRun (c : OpCmd) (s : State) : State :=
  let xs := updElems s c
  let st := xs.foldl (fun acc x => if x.1 then statAdd acc (decodeStat x.2.1) else acc) {}
  updDone s c (spadWrite s.mem.spad c.hearth.val (opDst1 c)
    (codeBytes 4 (xs.map (fun x => if x.1 then x.2.1 else 0)))) st

/-- The op's streams lie in the scratchpad. -/
def updFits (s : State) (c : OpCmd) : Bool :=
  spadFits (opSrc0 c) (pCount c / 1024 * tileBytes (tileSlots s c))
    && spadFits (planeUnit (opSrc1 c)) (planesEnd (gradPlanes c))
    && (!(updFrozen s c).flags.getLsbD 3 || spadFits (opDst1 c) (4 * pCount c))

/-- The tag read of an update op, and source 0x0105 where it disagrees (R39). -/
def noteGrad (s : State) (c : OpCmd) : State :=
  let s1 := noteTag s (opTensor c)
  if gradAgrees s c then s1 else detect s1 (occAt 0x0105 1 c.hearth.val)

/-- Uncorrectable words of the op's tiles and gradient blocks (06, R110). -/
def updStruck (s : State) (c : OpCmd) : Nat :=
  struckBytes s c.hearth.val (opSrc0 c) (pCount c / 1024 * tileBytes (tileSlots s c))
    + struckBytes s c.hearth.val (planeUnit (opSrc1 c)) (planesEnd (gradPlanes c))

/-- An update op of an opcode and a rule (R187 to R191). A record that breaks a rule, on a stopped hearth, or in a skipped
update does nothing. -/
def updOp (code : Nat) (r : Rule) (c : OpCmd) (s : State) : Host.Outcome State Fault Refusal :=
  if opSkipped s code c then .next s
  else if updFits s c then
    let n := pCount c / 1024 * tileBytes (tileSlots s c)
    .next (if (updFrozen s c).flags.getLsbD 3 then
        withEcc c (updStruck s c) [(opDst1 c, 4 * pCount c)] (decodeRun c (noteGrad s c))
      else withEcc c (updStruck s c) [(opSrc0 c, n)] (updRun r c (noteGrad s c)))
  else .fault .scratchpadRange

/-- UPD_SGDM. -/
def execUpdSgdm (c : OpCmd) (s : State) : Host.Outcome State Fault Refusal := updOp 0x32 .sgdm c s
/-- UPD_ADAM. -/
def execUpdAdam (c : OpCmd) (s : State) : Host.Outcome State Fault Refusal := updOp 0x33 .adam c s
/-- UPD_SIGN. -/
def execUpdSign (c : OpCmd) (s : State) : Host.Outcome State Fault Refusal := updOp 0x34 .sign c s

end Sys2Proof.Machine
end

