-- ==== Sys2Proof/Machine/Transfer.lean ====
section
/-! DEFINITION. The flue and the combiners: transfers with their cache hints, atomics and spine combinations (07, R149,
R151; 08, R163; 09, R192; 12, R256 to R258). -/

namespace Sys2Proof.Machine

/-! Cache lines (12, R256, R257) -/

/-- Number of an address space: tier-wide near and far, then the stack-local spaces. -/
def spaceOf (r : Region) : Nat := if r.localSpace then 2 + 8 * r.tier + r.stack else r.tier

/-- Number of the 256-byte line at byte off of a DRAM region. -/
def lineKey (r : Region) (off : Nat) : Nat := (spaceOf r * 2 ^ 40 + r.base + off / 2048) * 8 + off % 2048 / 256

/-- Home slice of a line: b mod 4. -/
def lineSlice (key : Nat) : Nat := key / 8 % 2 ^ 40 % 4

/-- Set of a line, its slice included (log 38). -/
def lineSet (key : Nat) : Nat := lineSlice key * 49152 + Config.cacheSet key % 49152

/-- The resident line of a number. -/
def lineAt (m : Memory) (key : Nat) : Option Line := m.lines.find? (fun l => l.key == key)

/-- Resident lines of a set and kind, oldest allocation first. -/
def linesIn (m : Memory) (last : Bool) (set : Nat) : List Line :=
  m.lines.filter (fun l => l.last == last && lineSet l.key == set)

/-- The memory without a line. -/
def dropLine (m : Memory) (key : Nat) : Memory :=
  { m with lines := m.lines.filter (fun l => l.key != key), lastData := mzero m.lastData (256 * key) 256 }

/-- Ways of a set that hold KEEP lines. -/
def keepWays (s : State) : Nat := 16 - (imageOf s).cacheWays - (imageOf s).lastWays

/-- Allocate a KEEP line; a full set replaces its oldest KEEP line (R256). -/
def allocKeep (s : State) (m : Memory) (key : Nat) : Memory :=
  if (lineAt m key).isSome || keepWays s == 0 then m
  else
    let same := linesIn m false (lineSet key)
    let m1 := if same.length < keepWays s then m else (same.head?).elim m (fun l => dropLine m l.key)
    { m1 with lines := m1.lines ++ [⟨key, false⟩] }

/-- An occurrence at a cache slice, with the role of the region that the line stands for (R399). -/
def occSlice (source key role : Nat) : Occ :=
  ⟨BitVec.ofNat 16 source, 9, 0, BitVec.ofNat 16 (lineSlice key), some (BitVec.ofNat 8 role)⟩

/-- Bytes within a burst as a data-path read delivers them: what a poisoned codeword delivers is free (R248; log 37). -/
def dramBytes (s : State) (r : Region) (off n : Nat) : Bytes :=
  let bs := regionRead s r off n
  if (regionPoison s r off n).isEmpty then bs
  else ((List.range bs.length).zip bs).map (fun z =>
    if (regionPoison s r (off + z.1) 1).isEmpty then z.2 else Config.lostByte s.fresh z.1)

/-- Read one line of a DRAM region (R248, R256, R257). -/
def readLine (r : Region) (hint : Nat) (acc : State × Bytes) (off : Nat) : State × Bytes :=
  let s := acc.1
  let key := lineKey r off
  match lineAt s.mem key with
  | some l =>
    let bs := if l.last then mread s.mem.lastData (256 * key) 256 else regionRead s r off 256
    let m := { s.mem with hits := s.mem.hits + 1 }
    let m1 := if hint = 2 then
        dropLine { m with lastWritten := m.lastWritten.filter (· != key) } key else m
    ({ s with mem := m1 }, acc.2 ++ bs)
  | none =>
    if hint = 2 ∧ s.mem.lastWritten.contains key then
      let bs := (List.range 256).map (Config.lostByte s.fresh)
      (detect { s with
          fresh := s.fresh + 1
          mem := { s.mem with lastWritten := s.mem.lastWritten.filter (· != key) } }
        (occSlice 0x0308 key r.role), acc.2 ++ bs)
    else
      let bs := dramBytes s r off 256
      let s1 := noteRead s r off 256
      let m := { s1.mem with misses := s1.mem.misses + 1 }
      ({ s1 with
          fresh := if (regionPoison s r off 256).isEmpty then s.fresh else s.fresh + 1
          mem := if hint = 1 then allocKeep s m key else m }, acc.2 ++ bs)

/-- Offsets of the lines of len bytes from off. -/
def lineOffsets (off len : Nat) : List Nat := (List.range (len / 256)).map (fun i => off + 256 * i)

/-- A data-path read of a region. -/
def dataRead (s : State) (r : Region) (hint off len : Nat) : State × Bytes :=
  if r.tier = 2 then (s, regionRead s r off len) else (lineOffsets off len).foldl (readLine r hint) (s, [])

/-- What a STREAM or KEEP write leaves in the cache for one line (R256). -/
def noteLine (s : State) (r : Region) (hint : Nat) (m : Memory) (x : Nat × Bytes) : Memory :=
  let key := lineKey r x.1
  let m1 := { m with lastWritten := m.lastWritten.filter (· != key) }
  match lineAt m1 key with
  | some l => if l.last then { m1 with lastData := mwrite m1.lastData (256 * key) x.2 } else m1
  | none => if hint = 1 then allocKeep s m1 key else m1

/-- A LAST write of one line: into a LAST way; a full set raises the LAST overflow (R256, R257). -/
def writeLast (r : Region) (s : State) (x : Nat × Bytes) : State :=
  let key := lineKey r x.1
  let m := { s.mem with lastWritten := key :: s.mem.lastWritten.filter (· != key) }
  match lineAt m key with
  | some ⟨_, true⟩ => { s with mem := { m with lastData := mwrite m.lastData (256 * key) x.2 } }
  | _ =>
    let m1 := dropLine m key
    if (linesIn m1 true (lineSet key)).length < (imageOf s).lastWays then
      { s with mem := { m1 with
          lines := m1.lines ++ [⟨key, true⟩]
          lastData := mwrite m1.lastData (256 * key) x.2 } }
    else detect { s with mem := { m1 with lastOverflow := true } } (occSlice 0x0309 key r.role)

/-- A data-path write of a region. -/
def dataWrite (s : State) (r : Region) (hint off : Nat) (bs : Bytes) : State :=
  let lines := (lineOffsets off bs.length).zip (pieces 256 bs)
  if r.tier = 2 then { s with mem := regionWrite s r off bs }
  else if hint = 2 then lines.foldl (writeLast r) s
  else { s with mem := lines.foldl (noteLine s r hint) (regionWrite s r off bs) }

/-! Flue transfer entries (Table 7.19) -/

/-- A field of a flue entry. -/
def flF (e : BitVec 256) (lo len : Nat) : Nat := bits e.toNat lo len
/-- KIND. -/
def flKind (e : BitVec 256) : Nat := flF e 204 4
/-- TRANSPOSE. -/
def flTranspose (e : BitVec 256) : Bool := e.toNat.testBit 203
/-- HINT. -/
def flHint (e : BitVec 256) : Nat := flF e 201 2
/-- REGION. -/
def flRegion (e : BitVec 256) : Nat := flF e 184 16
/-- OFFSET. -/
def flOffset (e : BitVec 256) : Nat := flF e 136 48
/-- SP_ADDR. -/
def flSpad (e : BitVec 256) : Nat := flF e 120 16
/-- PEER. -/
def flPeer (e : BitVec 256) : Nat := flF e 109 11
/-- LENGTH in bytes. -/
def flBytes (e : BitVec 256) : Nat := 64 * flF e 85 24

/-- Byte offset of an entry in its region: the stash base of the segment is added in the stash region (08, R163). -/
def flPlace (s : State) (r : Region) (e : BitVec 256) : Nat :=
  if r.role = 3 then (currentSeg s).stashBase + flOffset e else flOffset e

/-- Bytes of a region. -/
def regionBytes (r : Region) : Nat := 2048 * r.length

/-- START_SLOT. -/
def flStart (e : BitVec 256) : Nat := flF e 224 32
/-- DURATION. -/
def flDuration (e : BitVec 256) : Nat := flF e 208 16

/-- The transfer uses a tier, or the shared-cache atomic unit. -/
def flUsesTier (e : BitVec 256) : Bool := flKind e == 1 || flKind e == 2 || flKind e == 6 || flKind e == 7

/-- The rules that a flue entry breaks by itself, with their codes; tier is that of the region it names, none for a link
buffer (R149, R135; log 152). -/
def flBreaks (tier : Option Nat) (e : BitVec 256) : List (Bool × Nat) :=
  [(flKind e == 0 || decide (7 < flKind e) || flHint e == 3 || flF e 200 1 != 0 || flF e 0 85 != 0
     || decide (1120 ≤ flPeer e), 0x0005),
   (flTranspose e && flKind e != 1 && flKind e != 3 && flKind e != 5, 0x0006),
   (flDuration e == 0, 0x000A),
   (flUsesTier e && flKind e != 6 && (tier == some 0 || tier == some 1)
     && (flOffset e % 2048 != 0 || flBytes e % 2048 != 0), 0x000A)]

/-- The slots of a frame in which a transfer may run: a tier's in data slots, another's up to the make-up window (01, R11;
07, R135, R149). -/
def flWindow (e : BitVec 256) (slot : Nat) : Bool :=
  if flUsesTier e then decide (slot < 3520) else decide (slot < 4064)

/-- The flue executes nothing: its hearth takes no part in the schedule, the entry breaks a rule, or the slot is none of its
window (00, R1; log 79, 137). -/
def flSkipped (s : State) (h : Nat) (e : BitVec 256) : Bool :=
  hearthStopped s h || (flBreaks ((regionNo s (flRegion e)).map (·.tier)) e).any (·.1) || !flWindow e s.seq.slot

/-- The transfer is one that R149 and R245 allow: a tier of the region, whole bursts of DRAM, within the region
(log 79). -/
def flValid (s : State) (r : Region) (e : BitVec 256) : Bool :=
  decide (r.tier < 3) && (r.tier == 2 || (flOffset e % 2048 == 0 && flBytes e % 2048 == 0))
    && decide (flPlace s r e + flBytes e ≤ regionBytes r)

/-- The stash window of a write (08, R163). -/
def stashFits (s : State) (r : Region) (e : BitVec 256) : Bool :=
  let g := currentSeg s
  decide (g.stashBase ≤ flPlace s r e) && decide (flPlace s r e + flBytes e ≤ g.stashBase + g.stashLen)
    && decide (flPlace s r e + flBytes e ≤ regionBytes r)

/-- The narrow tensor whose first plane begins at or nearest below a place of a region. -/
def tensorHolding (s : State) (n off : Nat) : Option Nat :=
  (((List.range (imageOf s).tensors.length).filter (fun t =>
      let x := tensorNo s t
      decide (t ≠ 0) && x.region == n && decide (x.offset ≤ off))).foldl
    (fun acc t =>
      match acc with
      | none => some t
      | some u => if (tensorNo s u).offset ≤ (tensorNo s t).offset then some t else some u) none)

/-- The elements of a transposed transfer are F4: by the tag of the tensor it reads, else free (log 39). -/
def isF4 (s : State) (e : BitVec 256) : Bool :=
  if flKind e = 1 then
    match tensorHolding s (flRegion e) (flOffset e) with
    | some t => tagFormat (tagOf s t) == 0
    | none => Config.transposeF4 s.fresh
  else Config.transposeF4 s.fresh

/-- One square block transposed: 32 rows of 32 codes (02, R35). -/
def transposeSquare (f4 : Bool) (bs : Bytes) : Bytes :=
  let c := blockCodes (if f4 then 0 else 1) bs
  let t := (List.range 1024).map (fun i => c.getD (i % 32 * 32 + i / 32) 0)
  if f4 then dataOf 0 t else dataOf 1 t

/-- Bytes with every whole square block transposed. -/
def transposeBytes (f4 : Bool) (bs : Bytes) : Bytes :=
  let n := if f4 then 512 else 1024
  (pieces n bs).flatMap (fun p => if p.length = n then transposeSquare f4 p else p)

/-- The bytes as the flue delivers them. -/
def flArrive (s : State) (e : BitVec 256) (bs : Bytes) : Bytes :=
  if flTranspose e then transposeBytes (isF4 s e) bs else bs

/-- The counter of free values after a transfer that may have drawn the element width. -/
def flFresh (e : BitVec 256) (s : State) : State := if flTranspose e then { s with fresh := s.fresh + 1 } else s

/-- State with bytes at a scratchpad address of hearth h; the words that they fill are whole again (06, R110). -/
def spadPut (s : State) (h a : Nat) (bs : Bytes) : State :=
  { s with mem := { s.mem with
      spad := spadWrite s.mem.spad h a bs, spadPoison := restored s.mem.spadPoison h a bs.length } }

/-- Byte address of a link or spine buffer (log 36). -/
def bufferKey (n : Nat) : Nat := 16384 * n

/-- The region that an entry acts on. CAST writes e_n into the residue buffer of parity n mod 2 and reads e_(n-1) from the
other one, whichever of the two the entry names: the i-th region of the one role stands for the i-th of the other (08,
R161; log 160). -/
def flTarget (s : State) (e : BitVec 256) : Option (Nat × Region) :=
  let n := flRegion e
  match regionNo s n with
  | none => none
  | some r =>
    if currentKind s = 1 ∧ (r.role = 8 ∨ r.role = 9) then
      let role := 8 + (if flKind e = 2 then s.seq.step else s.seq.step + 1) % 2
      let i := (((imageOf s).regions.take n).filter (fun x => x.role == r.role)).length
      let same := (List.range (imageOf s).regions.length).filter (fun k => (regionNo s k).any (fun x => x.role == role))
      match same[i]? with
      | some k => (regionNo s k).map (fun x => (k, x))
      | none => some (n, r)
    else some (n, r)

/-- KIND 0x1: tier to scratchpad. -/
def flueIn (h : Nat) (e : BitVec 256) (s : State) (r : Region) : State :=
  let (s1, bs) := dataRead s r (flHint e) (flPlace s r e) (flBytes e)
  flFresh e (spadPut s1 h (flSpad e) (flArrive s e bs))

/-- KIND 0x2: scratchpad to tier. A stash write outside its window is not performed and raises source 0x0205 (08, R163);
nothing writes a RETAINED region (12, R261). -/
def flueOut (h : Nat) (e : BitVec 256) (s : State) (r : Region) : State :=
  if r.role = 7 then s
  else if r.role = 3 ∧ !stashFits s r e then
    detect { s with train := { s.train with stashOverrun := true } } (occAt 0x0205 1 h)
  else if flValid s r e then dataWrite s r (flHint e) (flPlace s r e) (spadRead s h (flSpad e) (flBytes e))
  else s

/-- Bytes that the copies of a chunk hold in its ring slot. -/
def ringUsed (s : State) (k : Nat) : Nat := ((s.upd.copies.filter (fun c => c.chunk == k)).map (·.length)).sum

/-- One ring slot (09, R192). -/
def ringSlot : Nat := 2 ^ 30

/-- KIND 0x7 in an UPDATE segment: the pre-image goes behind the chunk's earlier copies in ring slot k mod 2 (09, R192;
log 40). -/
def flueCopy (e : BitVec 256) (s : State) (r ring : Region) : State :=
  let k := chunkOf s
  let o := ringUsed s k
  if ringSlot < o + flBytes e then s
  else
    let (s1, bs) := dataRead s r (flHint e) (flPlace s r e) (flBytes e)
    let s2 := { s1 with mem := regionWrite s1 ring (k % 2 * ringSlot + o) bs }
    let u := if sget .free s2.upd.states k = .free then setRing (setChunk s2.upd k .copying) k 1 else s2.upd
    { s2 with upd := { u with copies := u.copies ++ [⟨k, flRegion e, flPlace s r e, k % 2 * ringSlot + o, flBytes e⟩] } }

/-- A transfer that names a region. -/
def flueRegion (h : Nat) (e : BitVec 256) (s : State) (r : Region) : State :=
  match flKind e with
  | 1 => if flValid s r e then flueIn h e s r else s
  | 2 => flueOut h e s r
  | 7 =>
    match roleRegion s 4 with
    | some ring => if flValid s r e && currentKind s == 6 then flueCopy e s r ring else s
    | none => s
  | _ => s

/-- A transfer between scratchpads or with a link buffer. -/
def flueLocal (h : Nat) (e : BitVec 256) (s : State) : State :=
  let n := flBytes e
  let b := bufferKey (flRegion e) + flOffset e
  match flKind e with
  | 3 =>
    match physicalOf s (flPeer e) with
    | some p => flFresh e (spadPut s p (flSpad e) (flArrive s e (spadRead s h (flSpad e) n)))
    | none => s
  | 4 => { s with fabric := { s.fabric with buffers := mwrite s.fabric.buffers b (spadRead s h (flSpad e) n) } }
  | 5 => flFresh e (spadPut s h (flSpad e) (flArrive s e (mread s.fabric.buffers b n)))
  | _ => s

/-- FLUE_TRANSFER (R149). An entry that breaks a rule, stands in a slot outside its window, names a region that does not
exist, or belongs to a hearth that takes no part in the schedule does nothing. -/
def execFlueTransfer (h : Fin 1152) (e : BitVec 256) (s : State) : Host.Outcome State Fault Refusal :=
  if flSkipped s h.val e then .next s
  else if flKind e == 7 || spadFits (flSpad e) (flBytes e) then
    if flKind e == 3 || flKind e == 4 || flKind e == 5 then .next (flueLocal h.val e s)
    else .next ((flTarget s e).elim s (fun x => flueRegion h.val e s x.2))
  else .fault .scratchpadRange

/-! Atomics (12, R258, Table 12.8) -/

/-- Bytes of an element of an atomic op; 0 for none or reserved. -/
def atomicBytes (a : Nat) : Nat :=
  if a = 0 then 0 else if a ≤ 3 then 4 else if a ≤ 6 then 8 else if a = 7 then 4 else if a = 8 then 8 else 0

/-- The result of an atomic op on an element x with source y; n is the element's width in bits. -/
def atomicOp (a n x y : Nat) : Nat :=
  if a = 7 then fadd x y
  else if a = 1 ∨ a = 4 then (x + y) % 2 ^ n
  else if a = 2 ∨ a = 5 then (if sext n x ≤ sext n y then x else y)
  else (if sext n y ≤ sext n x then x else y)

/-- Target and scratchpad bytes after the op over n bytes: prior target, scratchpad source. -/
def atomicRun (a : Nat) (target src : Bytes) : Bytes × Bytes :=
  let w := atomicBytes a
  let xs := codesOf w target
  if a = 8 then
    let pairs := (pieces 16 src).map (fun p => (leAt p 0 8, leAt p 8 8))
    (codeBytes 8 ((xs.zip pairs).map (fun z => if z.1 = z.2.1 then z.2.2 else z.1)),
      (xs.zip pairs).flatMap (fun z => natLe 8 z.1 ++ natLe 8 z.2.2))
  else (codeBytes w ((xs.zip (codesOf w src)).map (fun z => atomicOp a (8 * w) z.1 z.2)), src)

/-- FLUE_ATOMIC on a region. -/
def atomicOn (h : Nat) (e : BitVec 256) (s : State) (r : Region) : State :=
  let n := flBytes e
  if r.tier = 2 ∧ atomicBytes r.atomic ≠ 0 ∧ flOffset e + n ≤ regionBytes r then
    let src := spadRead s h (flSpad e) (if r.atomic = 8 then 2 * n else n)
    let (t, p) := atomicRun r.atomic (regionRead s r (flOffset e) n) src
    let s1 := { s with mem := regionWrite s r (flOffset e) t }
    if r.atomic = 8 then spadPut s1 h (flSpad e) p else s1
  else s

/-- Bytes of scratchpad that an atomic transfer touches. -/
def atomicSpan (s : State) (e : BitVec 256) : Nat :=
  if ((regionNo s (flRegion e)).elim 0 (·.atomic)) = 8 then 2 * flBytes e else flBytes e

/-- FLUE_ATOMIC: a KIND 0x6 transfer (12, R258). -/
def execFlueAtomic (h : Fin 1152) (e : BitVec 256) (s : State) : Host.Outcome State Fault Refusal :=
  if flSkipped s h.val e || flKind e != 6 then .next s
  else if spadFits (flSpad e) (atomicSpan s e) then .next ((regionNo s (flRegion e)).elim s (atomicOn h.val e s))
  else .fault .scratchpadRange

/-! Spine combinations (Table 7.21) -/

/-- Bytes of a die's share of an input buffer (log 36). -/
def spineShare : Nat := 2048

/-- Element bytes of a spine op. -/
def spineBytes (op : Nat) : Nat := if op = 1 then 4 else 8

/-- Two elements combined (R69, R53, R204). R32 speaks of a hearth that reads a W48 container: a container with a nonzero
reserved bit reads as NaN on the spine too, and raises no fault there (the model's choice, log 161). -/
def spineElem (op x y : Nat) : Nat :=
  match op with
  | 1 => fmax x y
  | 2 => encodeF w48 (wadd (ofW48c x).1 (ofW48c y).1)
  | 3 => min (x + y) (2 ^ 64 - 1)
  | _ => x ||| y

/-- Two vectors combined element by element. -/
def spineJoin (op : Nat) (a b : List Nat) : List Nat := (a.zip b).map (fun z => spineElem op z.1 z.2)

/-- One level of the tree over the dies' vectors, in die order. -/
def spineLevel (op : Nat) : List (List Nat) → List (List Nat)
  | a :: b :: t => spineJoin op a b :: spineLevel op t
  | l => l

/-- The combination of one spine die's vectors, at most four (01, device combiners). -/
def spineTree (op : Nat) (l : List (List Nat)) : List (List Nat) := spineLevel op (spineLevel op l)

/-- The vectors of the contributing dies d to d + 3. -/
def spineInputs (s : State) (op dies buf d : Nat) : List (List Nat) :=
  ((List.range 4).filter (fun i => dies.testBit (d + i))).map (fun i =>
    codesOf (spineBytes op) (mread s.fabric.buffers (bufferKey buf + spineShare * (d + i)) spineShare))

/-- The combination: spine 0's result with spine 1's, in that order (R151). -/
def spineOut (s : State) (op dies buf : Nat) : List Nat :=
  ((spineLevel op (spineTree op (spineInputs s op dies buf 0) ++ spineTree op (spineInputs s op dies buf 4))).head?).getD []

/-- Compute die of a hearth (01, R13). -/
def dieOf (h : Nat) : Nat := h / 144

/-- The combined maximum: the largest of the maxima of the hearths of every contributing die, which a die's share holds side
by side (04, R69; log 36). -/
def combinedMax (out : List Nat) : Nat := out.foldl fmax 0

/-- A combined maximum reaches the hearths of the dies that hold shares (04, R69; log 36). -/
def giveAmax (s : State) (dies v : Nat) : Sparse Hearth :=
  (List.range 1152).foldl (fun t h =>
    if dies.testBit (dieOf h) then smod {} t h (fun k => { k with amax := BitVec.ofNat 32 v }) else t) s.hearths

/-- The rules that a spine entry breaks, with their codes: a reserved OP or bit, no contributing die, and a node addition that
names no level above the leaves (R151; 03, R64; log 152). -/
def spineBreaks (e : Nat) : List (Bool × Nat) :=
  [(bits e 92 4 == 0 || decide (4 < bits e 92 4) || bits e 88 4 != 0 || bits e 0 20 != 0 || bits e 80 8 == 0, 0x0005),
   (bits e 92 4 == 2 && bits e 43 5 == 0, 0x0007)]

/-- SPINE_COMBINATION (R151). An entry that breaks a rule does nothing, and nothing runs after a stop or in a skipped update
(07, R157; 08, R170; log 79, 137). -/
def execSpineCombination (e : BitVec 128) (s : State) : Host.Outcome State Fault Refusal :=
  let op := bits e.toNat 92 4
  let dies := bits e.toNat 80 8
  if (spineBreaks e.toNat).any (·.1) || scheduleStopped s then .next s
  else
    let out := spineOut s op dies (bits e.toNat 64 16)
    let s1 := { s with fabric := { s.fabric with
      buffers := mwrite s.fabric.buffers (bufferKey (bits e.toNat 48 16)) (codeBytes (spineBytes op) out) } }
    if op = 1 then .next { s1 with hearths := giveAmax s1 dies (combinedMax out) } else .next s1

end Sys2Proof.Machine
end

