-- ==== Sys2Proof/Machine/Tables.lean ====
section
/-! DEFINITION. The rules on the PROGRAMS, FLUE, LINKS and SPINE sections, which join their records with the variant
directory, the plan, the regions and the tags, and the verification of a whole image (07, R135, R137, R144 to R153; 01,
R11; 05, R99; 08, R161; 09, R192; 10, R199, R203; 11, R217, R232; 12, R240, R258, R259, R261). Record i of these sections
stands at i times its size, and Config.recordPlace gives its variant, hearth and lost link (log 9). -/

namespace Sys2Proof.Machine

/-! The variant of a record -/

/-- The variants whose tables begin at an offset. -/
def variantsAt (g : Image) (tables : Nat) : List Variant := g.variants.filter (·.tables == tables)

/-- The kinds of the plan entries that can select such a variant. -/
def kindsAt (g : Image) (tables : Nat) : List Nat :=
  (g.plan.filter (fun e => (variantsAt g tables).any (·.segment == e.segment))).map (·.kind)

/-- The slots below last lie within every such variant. -/
def inVariant (g : Image) (tables last : Nat) : Bool :=
  (variantsAt g tables).all (fun v => decide (last ≤ 4096 * v.frames))

/-- Two records belong to one hearth of one variant. -/
def sameHearth (p q : RecordPlace) : Bool := p.tables == q.tables && p.hearth == q.hearth

/-- The slot ranges of two starts and durations overlap. -/
def slotsMeet (a m b n : Nat) : Bool := decide (a < b + n) && decide (b < a + m)

/-! PROGRAMS -/

/-- The op records with their places. -/
def imageOps (g : Image) : List (RecordPlace × OpCmd) :=
  (List.range (g.programs.length / 32)).map (fun i => (Config.recordPlace g.programs i, recordOp g.programs g.params 0 i))

/-- Units that an op occupies: array 0, converter 1, vector engine 2, bellows 3 (Table 7.18). -/
def unitsOf (k : Nat) : List Nat :=
  if k = 1 then [0] else if k = 8 then [1] else if k = 0x30 || k = 0x31 then [2, 3] else if isBellows k then [3] else [2]

/-- The op draws random bits on lanes of its hearth's bank (05, R99). -/
def drawsLanes (c : OpCmd) : Bool :=
  let k := opCode c
  (k == 8 && (pRound c || pRotate c)) || (0x2B ≤ k && k ≤ 0x2E) || k == 0x31

/-- Lanes in flight on the op's hearth when it starts, its own among them (R99). -/
def lanesWith (l : List (RecordPlace × OpCmd)) (x : RecordPlace × OpCmd) : Nat :=
  ((l.filter (fun y => drawsLanes y.2 && sameHearth x.1 y.1 && decide (opStart y.2 ≤ opStart x.2)
    && decide (opStart x.2 < opStart y.2 + opDuration y.2))).map (fun y => pLaneCount y.2)).sum

/-- A TAP op starts in the slot of an op whose output it reads (R147; 06, R117). -/
def tapMatched (l : List (RecordPlace × OpCmd)) (x : RecordPlace × OpCmd) : Bool :=
  l.any (fun y => sameHearth x.1 y.1 && opStart y.2 == opStart x.2
    && (opCode y.2 == 8 || (unitsOf (opCode y.2)).contains 2))

/-- The rules that an op record breaks together with its tensors, its variant and the records before it. -/
def opJoins (b : Bytes) (g : Image) (l : List (RecordPlace × OpCmd)) (i : Nat) : List (Bool × Nat) :=
  let x := l.getD i default
  let c := x.2
  let k := opCode c
  let notSquare := fun t => (imageTag b g t).any (fun y => tagBlocking y != 2)
  [(k == 1 && ((mTransA c && notSquare (mTensorA c)) || (mTransB c && notSquare (mTensorB c))), 0x0006),
   (opParamPtr c != 0 && decide (g.params.length < 64 * opParamPtr c + 64), 0x0008),
   (drawsLanes c && decide (64 < lanesWith l x), 0x0009),
   (clocksShort c, 0x000A),
   (!inVariant g x.1.tables (opStart c + opDuration c), 0x000A),
   ((l.take i).any (fun y => sameHearth x.1 y.1 && (unitsOf (opCode y.2)).any (unitsOf k).contains
     && slotsMeet (opStart c) (opDuration c) (opStart y.2) (opDuration y.2)), 0x000A),
   (isBellows k && opTap c && !tapMatched l x, 0x000A),
   ((kindsAt g x.1.tables).contains 8
     && ((k == 8 && pStatId c != 4095) || (k != 1 && k != 8 && pStatEn c)), 0x000D)]

/-- The PROGRAMS section (R137, R145 to R147; 10, R199; log 152). -/
def programsVerdict (b : Bytes) (g : Image) : Option (Nat × Nat) :=
  let l := imageOps g
  firstBad l.length (fun i =>
    lowest (opBreaks (fun t => (imageTag b g t).getD 0) (fun t => (g.tensors.getD t default).stateSlots) (l.getD i default).2
      ++ opJoins b g l i))

/-! Capacities (01, R11; 12, R240; log 152) -/

/-- Units of a resource that a transfer places in the slots from first up to last. -/
structure Load where
  first : Nat
  last : Nat
  key : Nat
  units : Nat
deriving DecidableEq, Repr, Inhabited

/-- Some span of slots that holds load x takes more of its resource than cap units a slot: no placement within the allotted
slots fits. -/
def overloads (cap : Nat) (l : List Load) (x : Load) : Bool :=
  let same := l.filter (·.key == x.key)
  same.any (fun a => same.any (fun b =>
    decide (a.first ≤ x.first) && decide (x.last ≤ b.last)
      && decide (cap * (b.last - a.first)
        < ((same.filter (fun y => decide (a.first ≤ y.first) && decide (y.last ≤ b.last))).map (·.units)).sum)))

/-! FLUE -/

/-- The flue entries with their places. -/
def flueRecords (bs : Bytes) : List (RecordPlace × BitVec 256) :=
  (List.range (bs.length / 32)).map (fun i => (Config.recordPlace bs i, BitVec.ofNat 256 (leAt bs (32 * i) 32)))

/-- The region that an entry names. -/
def flRegionIn (g : Image) (e : BitVec 256) : Option Region := if flUsesTier e then g.regions[flRegion e]? else none

/-- Bursts that an entry places on each logical channel: key 64 times the stack plus the channel. A stash place depends on the
base that assembly gives, so a stash transfer is not counted. -/
def burstLoads (f : FenceMap) (g : Image) (e : BitVec 256) : List Load :=
  match flRegionIn g e with
  | some r =>
    if r.tier = 2 || r.role = 3 then []
    else
      let keys := (List.range (flBytes e / 2048)).map (fun i =>
        let p := locateIn f g r (flOffset e / 2048 + i)
        64 * p.stack + p.channel)
      keys.eraseDups.map (fun k => ⟨flStart e, flStart e + flDuration e, k, keys.count k⟩)
  | none => []

/-- Burst positions of a channel in a slot (Table 12.1). -/
def burstPositions (key : Nat) : Nat := if key / 64 < 8 then 12 else 16

/-- Bytes that an entry places on the ports of the package network in slots 3,520 to 4,063: a compute die's port outward (key
die) and inward (8 + die), and the port between the spine dies (16 and 17). The die of a link buffer is not recorded. -/
def portLoads (p : RecordPlace) (e : BitVec 256) : List Load :=
  let mk := fun k => ({ first := flStart e, last := flStart e + flDuration e, key := k, units := flBytes e } : Load)
  let d := p.hearth / 140
  let q := flPeer e / 140
  if flStart e % 4096 < 3520 then []
  else
    match flKind e with
    | 3 => if d = q then [] else
        [mk d, mk (8 + q)] ++ (if d / 4 = q / 4 then [] else [mk (16 + d / 4)])
    | 4 => [mk d]
    | 5 => [mk (8 + d)]
    | _ => []

/-- Half of a port's bytes in a slot: half of 6.4 TB/s, and of 12.8 TB/s between the spine dies, over 256 ns (Table 1.2). -/
def portHalf (key : Nat) : Nat := if key < 16 then 819200 else 1638400

/-- Every slot of the transfer lies in its window of a frame (R135, R149). -/
def flInWindow (e : BitVec 256) : Bool :=
  decide (flStart e % 4096 + flDuration e ≤ if flUsesTier e then 3520 else 4064)

/-- Two transfers touch bytes of one cache-tier region (12, R259). -/
def cacheOverlap (g : Image) (e d : BitVec 256) : Bool :=
  match flRegionIn g e, flRegionIn g d with
  | some r, some q => r.tier == 2 && q.tier == 2
      && slotsMeet (r.base * 2048 + flOffset e) (flBytes e) (q.base * 2048 + flOffset d) (flBytes d)
  | _, _ => false

/-- A scratchpad-to-tier transfer writes where its segment may not: castings and residue outside CAST (08, R161), update tiles
outside UPDATE or before the chunk's copy ends (08, R161; 09, R192). -/
def writeMisplaced (g : Image) (l : List (RecordPlace × BitVec 256)) (p : RecordPlace) (e : BitVec 256) : Bool :=
  let kinds := kindsAt g p.tables
  flKind e == 2 && (flRegionIn g e).any (fun r =>
    ((r.role == 8 || r.role == 9 || r.role == 0xA) && kinds.any (fun k => decide (2 ≤ k) && k != 6))
    || (r.role == 0xB && (kinds.any (· != 6)
        || l.any (fun y => y.1.tables == p.tables && flKind y.2 == 7 && decide (flStart e < flStart y.2 + flDuration y.2)))))

/-- Bytes that the KIND 0x7 transfers of a variant copy, up to record i. -/
def copiedUpTo (l : List (RecordPlace × BitVec 256)) (tables i : Nat) : Nat :=
  (((l.take (i + 1)).filter (fun y => y.1.tables == tables && flKind y.2 == 7)).map (fun y => flBytes y.2)).sum

/-- One flue entry, alone and with the records before it. -/
def flueCode (f : FenceMap) (g : Image) (l : List (RecordPlace × BitVec 256)) (i : Nat) : Option Nat :=
  let x := l.getD i default
  let e := x.2
  let r := flRegionIn g e
  let upTo := (l.take (i + 1)).filter (fun y => y.1.tables == x.1.tables)
  let before := l.take i
  lowest (flBreaks (r.map (·.tier)) e ++
    [(flUsesTier e && r.isNone, 0x0005),
     (flKind e == 6 && r.any (·.atomic == 0), 0x0005),
     (!flInWindow e, 0x000A),
     (!inVariant g x.1.tables (flStart e + flDuration e), 0x000A),
     (before.any (fun y => sameHearth x.1 y.1
       && slotsMeet (flStart e) (flDuration e) (flStart y.2) (flDuration y.2)), 0x000A),
     (before.any (fun y => y.1.tables == x.1.tables && (flKind e == 6 || flKind y.2 == 6) && cacheOverlap g e y.2
       && slotsMeet (flStart e) (flDuration e) (flStart y.2) (flDuration y.2)), 0x000A),
     ((burstLoads f g e).any (fun z => overloads (burstPositions z.key) (upTo.flatMap (fun y => burstLoads f g y.2)) z), 0x000A),
     ((portLoads x.1 e).any (fun z => overloads (portHalf z.key) (upTo.flatMap (fun y => portLoads y.1 y.2)) z), 0x000A),
     (writeMisplaced g l x.1 e, 0x000D),
     (flKind e == 7 && decide (ringSlot < copiedUpTo l x.1.tables i), 0x000D),
     (flKind e == 2 && r.any (·.role == 7), 0x000E)])

/-- The FLUE section (R149). -/
def flueVerdict (f : FenceMap) (g : Image) (bs : Bytes) : Option (Nat × Nat) :=
  let l := flueRecords bs
  firstBad l.length (flueCode f g l)

/-! LINKS -/

/-- The link slot table entries with their places. -/
def linkRecords (bs : Bytes) : List (RecordPlace × BitVec 128) :=
  (List.range (bs.length / 16)).map (fun i => (Config.recordPlace bs i, BitVec.ofNat 128 (leAt bs (16 * i) 16)))

/-- The entries of a variant's normal table, or of its table for a lost link (R150). -/
def linkTableOf (bs : Bytes) (tables : Nat) (down : Option Nat) : List (BitVec 128) :=
  ((linkRecords bs).filter (fun x => x.1.tables == tables && x.1.down == down)).map (·.2)

/-- Cells that entries of the record's own table place, up to it, where f holds. -/
def placedCells (upTo : List (RecordPlace × BitVec 128)) (f : BitVec 128 → Bool) : Nat :=
  ((upTo.filter (fun y => f y.2)).map (fun y => leCells y.2)).sum

/-- One link slot table entry, alone and with the records before it. A direction with transmit entries needs a one-link-down
table for each of its links that is connected (R150; 11, R217; log 152). -/
def linkCode (s : State) (g : Image) (l : List (RecordPlace × BitVec 128)) (i : Nat) : Option Nat :=
  let x := l.getD i default
  let e := x.2
  let d := dirOf (leLink e)
  let upTo := (l.take (i + 1)).filter (fun y => y.1.tables == x.1.tables && y.1.down == x.1.down)
  let here := fun y => !leReceive y && leSlot y == leSlot e
  lowest [
    (leF e 0 56 != 0 || decide (5 < leClass e), 0x0005),
    (decide (4031 < leSlot e % 4096), 0x000A),
    (!inVariant g x.1.tables (leSlot e + 1), 0x000A),
    (leCells e == 0 || decide (52 < leCells e) || !isConnected s (leLink e), 0x000B),
    (x.1.down == some (leLink e), 0x000B),
    (!leReceive e && decide (52 < placedCells upTo (fun y => here y && leLink y == leLink e)), 0x000B),
    (!leReceive e && x.1.down.isNone && decide (364 < placedCells upTo (fun y => here y && dirOf (leLink y) == d)), 0x000B),
    (leDeadline e && decide (1024 < placedCells upTo (fun y => leDeadline y && leLink y == leLink e
      && leReceive y == leReceive e && leSlot y / 4096 == leSlot e / 4096)), 0x000B),
    (!leReceive e && x.1.down.isNone && (dirLinks d).any (fun k => isConnected s k
      && !l.any (fun y => y.1.tables == x.1.tables && y.1.down == some k)), 0x000B),
    (leClass e == 2 && (leDeadline e || decide (leSlot e < 64) || decide (1087 < leSlot e)
      || (kindsAt g x.1.tables).any (· != 7)), 0x000D)]

/-- The LINKS section (R150; 10, R203; 11, R232). -/
def linksVerdict (s : State) (g : Image) (bs : Bytes) : Option (Nat × Nat) :=
  let l := linkRecords bs
  firstBad l.length (linkCode s g l)

/-! SPINE -/

/-- The SPINE section (R151). -/
def spineVerdict (g : Image) (bs : Bytes) : Option (Nat × Nat) :=
  firstBad (bs.length / 16) (fun i =>
    let e := leAt bs (16 * i) 16
    lowest (spineBreaks e ++ [(!inVariant g (Config.recordPlace bs i).tables (bits e 96 32 + 1), 0x000A)]))

/-! A section, and the whole image -/

/-- The earlier of two failures: the lower record, and at one record the lower code (R144, R398). -/
def firstOf : Option (Nat × Nat) → Option (Nat × Nat) → Option (Nat × Nat)
  | none, y => y
  | some x, none => some x
  | some x, some y => if y.2 < x.2 || (y.2 == x.2 && decide (y.1 < x.1)) then some y else some x

/-- The rules on a section that join its records with what the image does not record (log 9). -/
def openVerdict (b : Bytes) (x : Sect) : Option (Nat × Nat) :=
  let t := Config.tableVerdict b
  if t.1 != 0 && t.2.1 == x.index then some (t.1, t.2.2) else none

/-- The records of one section (R144, step 6). -/
def sectVerdict (s : State) (b : Bytes) (g : Image) (x : Sect) : Verdict :=
  let bs := sectBytes b x
  let v : Option (Nat × Nat) :=
    match x.typ with
    | 1 => firstOf (programsVerdict b g) (openVerdict b x)
    | 2 => paramsVerdict bs
    | 3 => firstOf (flueVerdict s.fence g bs) (openVerdict b x)
    | 4 => firstOf (linksVerdict s g bs) (openVerdict b x)
    | 5 => firstOf (spineVerdict g bs) (openVerdict b x)
    | 6 => relayVerdict bs
    | 7 => regionsVerdict s.fence b g bs
    | 8 =>
      match tierCode s.fence bs 0 0 with
      | some c => some (c, 0)
      | none => (tierCode s.fence bs (farBlock bs) 8).map (fun c => (c, 1))
    | 9 => planVerdict g x bs
    | 10 => variantsVerdict g bs
    | 11 => remapVerdict s.fence g
    | 12 => constantsVerdict g x bs
    | _ => none
  v.map (fun y => (y.1, x.index, y.2))

/-! The plan joined with the variant directory, step 7 (R152, R153) -/

/-- The levels that a plan entry's layer can select. An entry whose LAYER has no entry in the layer table (0xFFF, or at or above
LAYER_COUNT) selects level 0 alone, which the spec does not say (the model's choice, log 136). -/
def entryLevels (g : Image) (e : PlanEntry) : List Nat :=
  if e.kind = 1 || e.kind = 2 || e.kind = 3 || e.kind = 8 then
    match g.layers[e.layer]? with
    | some l => (List.range 3).filter (fun v => l.floor ≤ v && v ≤ l.ceil)
    | none => [0]
  else [0]

/-- The recompute keys that a plan entry can select. -/
def entryRecs (e : PlanEntry) : List Nat := if e.kind = 2 || e.kind = 3 then [0, 1] else [0]

/-- The variant of a key. -/
def variantOf (g : Image) (seg level rec : Nat) : Option Variant :=
  g.variants.find? (fun v => v.segment == seg && v.level == level && v.recompute == rec)

/-- The variants that a plan entry can select. -/
def selectable (g : Image) (e : PlanEntry) : List (Option Variant) :=
  (entryLevels g e).flatMap (fun l => (entryRecs e).map (variantOf g e.segment l))

/-- Most of a measure over a list of variants. -/
def mostOf (f : Variant → Nat) (l : List (Option Variant)) : Nat := (l.map (fun v => v.elim 0 f)).foldl max 0

/-- The most stash that a layer takes in recompute, at whichever of its levels needs most, over all its FWD entries (R153). -/
def layerStash (g : Image) (layer : Nat) : Nat :=
  let es := g.plan.filter (fun e => e.kind == 2 && e.layer == layer)
  ((entryLevels g { kind := 2, layer := layer, segment := 0 }).map (fun l =>
    (es.map (fun e => (variantOf g e.segment l 1).elim 0 (·.stash))).sum)).foldl max 0

/-- Step 7 of R144, recorded in the PLAN section (R153). Where several of its checks fail the spec gives no order: the model
takes a missing variant first, then the statistics slot, then stash and step length (the model's choice, log 136). -/
def joinVerdict (g : Image) (plan : Nat) : Verdict :=
  let fwd := (List.range g.plan.length).find? (fun i => (g.plan.getD i default).kind == 2)
  match (List.range g.plan.length).find? (fun i => (selectable g (g.plan.getD i default)).any (·.isNone)) with
  | some i => some (0x000D, plan, i)
  | none =>
    match (List.range g.plan.length).find? (fun i =>
        let e := g.plan.getD i default
        e.kind == 7 && (selectable g e).any (fun v => v.elim true (fun w => decide (w.frames < 2)))) with
    | some i => some (0x000D, plan, i)
    | none =>
      let layers := ((g.plan.filter (·.kind == 2)).map (·.layer)).eraseDups
      let stash := (layers.map (layerStash g)).sum
      let frames := (g.plan.map (fun e => mostOf (·.frames) (selectable g e))).sum
      if g.stashBudget < stash || g.stepFramesMax < frames then some (0x000D, plan, fwd.getD 0) else none

/-! Retained regions, step 8 (12, R261) -/

/-- The interleave of a region's tier. -/
def tierOf (g : Image) (r : Region) : TierMap := if r.tier = 0 then g.nearMap else g.farMap

/-- One RETAINED region against the records. -/
def retainedBad (s : State) (g : Image) (r : Region) : Bool :=
  match recordOf s r with
  | some n =>
    let k := retainedOf s n
    k.state != 3 || k.digest != g.digests.getD r.hashIndex [] || k.interleave != tierOf g r
  | none =>
    (List.range 16).any (fun n => (retainedOf s n).placement.any (overlaps r))

/-- Step 8 of R144, recorded in the REGIONS section (R398). -/
def retainedVerdict (s : State) (g : Image) (sect : Nat) : Verdict :=
  (g.regions.find? (fun r => r.role == 7 && retainedBad s g r)).map (fun r => (0x000E, sect, r.hashIndex))

/-- The verification of R144 over the bytes of an image. -/
def verifyImage (s : State) (relay : Bool) (b : Bytes) : Verdict :=
  (headerVerdict b).or <| (tableVerdict b relay).or <| (signatureVerdict s b).or <| (hashVerdict b).or <|
    (placeVerdict s b).or <|
      let g := parseImage b
      ((sectTable b).findSome? (sectVerdict s b g)).or <|
        if relay then none
        else (joinVerdict g (sectOf b 9).index).or (retainedVerdict s g (sectOf b 7).index)

end Sys2Proof.Machine
end

