-- ==== Sys2Proof/Machine/Sequencer.lean ====
section
/-! DEFINITION. The step sequencer: seeds, learning rates, the assembly of a step, the start of a step and of a
segment, the chunks and their commit and restore, and what the end of a step leaves (05, R96, R97; 07, R152 to R154;
08; 09; 10, R205, R208 to R212). -/

namespace Sys2Proof.Machine

/-! Position in the schedule (07, R134) -/

/-- Length of a frame in ns at the rate in force. -/
def frameNs (s : State) : Nat := 16777216 / s.rate.n
/-- Start of a slot of the frame in progress. -/
def slotTime (s : State) (slot : Nat) : Nat := s.seq.frameStart + 4096 * slot / s.rate.n
/-- Slot of the variant in progress, as the image's tables count. -/
def variantSlot (s : State) : Nat := 4096 * s.seq.segFrame + s.seq.slot

/-- First plan entry of one of some kinds. -/
def firstEntry (g : Image) (kinds : List Nat) : Nat :=
  ((List.range g.plan.length).find? (fun i => kinds.contains (g.plan.getD i default).kind)).getD 0

/-- First FWD plan entry; without one, the first entry after CAST (08, Table 8.5; log 166). -/
def firstFwd (g : Image) : Nat :=
  if g.plan.any (·.kind == 2) then firstEntry g [2] else firstEntry g [2, 3, 4, 5]

/-- Plan entry of chunk k; STATS after the last chunk (09, R196). -/
def chunkEntry (g : Image) (k : Nat) : Nat :=
  (((List.range g.plan.length).filter (fun i => (g.plan.getD i default).kind == 6))[k]?).getD (firstEntry g [7])

/-- PHASE of a plan kind (Table 8.9). -/
def phaseOf (kind : Nat) : BitVec 3 :=
  match kind with
  | 1 => 1 | 2 => 2 | 3 => 3 | 4 => 4 | 5 => 4 | 6 => 5 | 7 => 6 | 8 => 7 | _ => 0

/-! Seeds and rates of a step -/

/-- An FP32 code as an integer count of 2^-149. -/
def units149 (x : BitVec 32) : Int :=
  match ofF32 x.toNat with
  | .fin neg m e => scaled neg m e (-149)
  | _ => 0

/-- The knot interval that holds step n, and the rate there (09, R185). -/
def lrWithin (n : Nat) : List (Nat × BitVec 32) → BitVec 32
  | (s0, l0) :: (s1, l1) :: t =>
    if s1 ≤ n then lrWithin n ((s1, l1) :: t)
    else
      let d : Int := ((s1 - s0 : Nat) : Int)
      let x := units149 l0 * d + (units149 l1 - units149 l0) * ((n - s0 : Nat) : Int)
      BitVec.ofNat 32 (roundFrac fp32 divRne false (decide (x < 0)) x.natAbs (s1 - s0) (-149)).code
  | [(_, l0)] => l0
  | [] => 0

/-- LR_NOW of a set for step n (09, R185). -/
def lrNow (h : HyperSet) (n : Nat) : BitVec 32 :=
  let ks := ((h.knotSteps.map (·.toNat)).zip h.knotLrs).take h.knotCount.toNat
  match ks with
  | (s0, l0) :: t => if n < s0 then l0 else lrWithin n ((s0, l0) :: t)
  | [] => 0

/-- 1 / (1 - β^n), evaluated exactly and rounded once (09, R186). -/
def biasOf (beta : BitVec 32) (n : Nat) : BitVec 32 :=
  match ofF32 beta.toNat with
  | .fin _ m e =>
    let d := 2 ^ ((-e).toNat * n)
    BitVec.ofNat 32 (roundFrac fp32 divRne false false d (d - m ^ n) 0).code
  | _ => 0x3F800000

/-- BIAS_CORR of a set for step n (09, R186). -/
def biasCorr (h : HyperSet) (n : Nat) : BitVec 64 :=
  if h.flags.getLsbD 2 then BitVec.ofNat 64 ((biasOf h.beta1 n).toNat * 2 ^ 32 + (biasOf h.beta2 n).toNat)
  else 0x3F8000003F800000

/-- A set as step n freezes it. -/
def setForStep (n : Nat) (h : HyperSet) : HyperSet := { h with lrNow := lrNow h n, biasCorr := biasCorr h n }

/-- The 16 sets as step n freezes them. -/
def setsForStep (s : State) (n : Nat) : Sparse HyperSet :=
  sofList {} 0 ((List.range 16).map (fun i => setForStep n (setOf s i)))

/-- CRC-32 over the frozen contents of the 16 sets, each in the layout of Table 13.10 (09, R184; log 140). -/
def setsCrc (t : Sparse HyperSet) : BitVec 32 :=
  crc32 ((List.range 16).flatMap (fun i => setBytes (sget {} t i)))

/-! Assembly of a step (07, R153; 08, R163, R179) -/

/-- The variant of a key, or one of no length. -/
def variantKey (g : Image) (seg level rec : Nat) : Variant := (variantOf g seg level rec).getD default

/-- FWD entries in forward order. -/
def fwdEntries (g : Image) : List PlanEntry := g.plan.filter (·.kind == 2)

/-- Stash bytes of a FWD entry. -/
def fwdStash (g : Image) (lev : Nat → Nat) (recs : List Nat) (e : PlanEntry) : Nat :=
  (variantKey g e.segment (lev e.layer) (b2n (recs.contains e.layer))).stash

/-- Layers put in recompute, latest first, until the stash fits the budget. -/
def chooseRecompute (g : Image) (lev : Nat → Nat) : List PlanEntry → List Nat → List Nat
  | [], r => r
  | e :: t, r =>
    if ((fwdEntries g).map (fwdStash g lev r)).sum ≤ g.stashBudget then r
    else chooseRecompute g lev t (insertNat r e.layer)

/-- The layers in recompute: all of them when it is forced (R179). -/
def recomputeSet (g : Image) (lev : Nat → Nat) (forced : Bool) : List Nat :=
  if forced then (fwdEntries g).foldl (fun r e => insertNat r e.layer) []
  else chooseRecompute g lev (fwdEntries g).reverse []

/-- Stash base and length of the n-th FWD entry of a layer (R163; log 43). -/
def stashOf (g : Image) (lev : Nat → Nat) (recs : List Nat) (layer n : Nat) : Nat × Nat :=
  let l := fwdEntries g
  let i := (((List.range l.length).filter (fun i => (l.getD i default).layer == layer))[n]?).getD l.length
  (((l.take i).map (fwdStash g lev recs)).sum, (l[i]?).elim 0 (fwdStash g lev recs))

/-- The segment of plan entry i. -/
def segOf (g : Image) (lev : Nat → Nat) (recs : List Nat) (i : Nat) : Seg :=
  let e := g.plan.getD i default
  let level := if e.kind = 1 || e.kind = 2 || e.kind = 3 || e.kind = 8 then lev e.layer else 0
  let rc := if e.kind = 2 || e.kind = 3 then b2n (recs.contains e.layer) else 0
  let v := variantKey g e.segment level rc
  let n := ((g.plan.take i).filter (fun q => q.kind == e.kind && q.layer == e.layer)).length
  let st := if e.kind = 2 || e.kind = 3 then stashOf g lev recs e.layer n else (0, 0)
  { entry := i, kind := e.kind, layer := e.layer, level := level, recompute := rc, frames := v.frames
    stashBase := st.1, stashLen := st.2, tables := v.tables }

/-- The watchdog tracks record n (10, R199, R210). -/
def tracksSilence (g : Image) (n : Nat) : Bool := g.statMap.any (fun m => m.stat == n && m.silence)

/-- EVAL entries are due after step n (R154; 07, Table 7.9). -/
def evalDue (g : Image) (n : Nat) : Bool := g.evalInterval != 0 && n % g.evalInterval == 0

/-- The segment list of step n with the EVAL entries due after it. -/
def assemble (g : Image) (lev : Nat → Nat) (recs : List Nat) (n : Nat) : List Seg :=
  ((List.range g.plan.length).map (segOf g lev recs)).filter (fun x => x.kind != 8 || evalDue g n)

/-- Frames of a step: EVAL frames belong to none (R154). -/
def stepLength (l : List Seg) : Nat := ((l.filter (·.kind != 8)).map (·.frames)).sum

/-! Levels -/

/-- The levels that a step assembles with. -/
def levelFn (t : Sparse Level) (l : Nat) : Nat := (sget {} t l).level.toNat

/-- INITIAL_LEVEL of every layer (10, R208). -/
def initialLevels (g : Image) : Sparse Level :=
  sofList {} 0 (g.layers.map (fun l => { level := BitVec.ofNat 2 l.initial }))

/-- A successful restore gave the job its state since LOAD (13, R285). -/
def isRestored (s : State) : Bool := s.ctx.restoreTried && s.ctx.result == 1

/-- The level table with RECOMPUTE as a step assembles it (Table 10.12). -/
def markRecompute (g : Image) (t : Sparse Level) (recs : List Nat) : Sparse Level :=
  sofList {} 0 ((List.range g.layers.length).map (fun l => { sget {} t l with recompute := recs.contains l }))

/-- LEVEL_COUNTS: layers at L0, L1 and L2 (Table 10.11). -/
def levelCounts (g : Image) (t : Sparse Level) : BitVec 64 :=
  let n := fun v => ((List.range g.layers.length).filter (fun l => levelFn t l == v)).length
  BitVec.ofNat 64 (n 0 * 2 ^ 32 + n 1 * 2 ^ 16 + n 2)

/-- The correctly rounded FP32 square root of a W48 value (08, R170; 10, R201). -/
def sqrtW48 (x : BitVec 48) : BitVec 32 :=
  match (ofW48c x.toNat).1 with
  | .fin neg m e => if m = 0 then 0 else if neg then 0x7FC00000 else BitVec.ofNat 32 (sqrtPos m e)
  | .inf neg => if neg then 0x7FC00000 else 0x7F800000
  | .nan => 0x7FC00000

/-- WATCH_NORMS from the nodes of the totals (10, R201, R215). -/
def normWords (t : Totals) : Sparse (BitVec 32) :=
  sofList 0x7FC00000 0 (t.norms.flatMap (fun n => [sqrtW48 n.1, sqrtW48 n.2.1, sqrtW48 n.2.2]))

/-- The decision of the last statistics slot takes effect (10, R205, R209, R210; log 81). -/
def applyDecision (s : State) : State :=
  match s.tele.decision with
  | none => s
  | some d =>
    let t := s.tele
    let s1 := { s with tele := { t with
      decision := none
      decidedStep := d.step
      levels := d.levels
      cleanRuns := d.cleanRuns
      silence := d.silence
      risen := BitVec.ofNat 13 d.risen
      fallen := BitVec.ofNat 13 d.fallen
      pinned := t.pinned || d.pinnedAny
      storm := t.storm || d.stormHit
      storms := if d.stormHit then satInc t.storms else t.storms
      growth := BitVec.ofInt 32 d.growth
      silenceAlarm := t.silenceAlarm || !d.silenceIds.isEmpty
      watchNorms := t.lastTotals.elim t.watchNorms normWords } }
    let s2 := if d.stormHit then detect s1 (occNone 0x0602) else s1
    d.silenceIds.foldl (fun s _ => detect s (occNone 0x0603)) s2

/-! The chimney record (10, R211, Tables 10.7 and 10.8) -/

/-- 64 bytes of a record. -/
def statBytes (x : Stat8) : Bytes :=
  [x.c0, x.c1, x.c2, x.c3, x.c4, x.c5, x.c6, x.c7].flatMap (fun c => natLe 8 c.toNat)

/-- One chimney item with its header. -/
def chimneyItem (typ : Nat) (body : Bytes) : Bytes := natLe 2 typ ++ [0, 0] ++ natLe 4 body.length ++ body

/-- Items of conversion records by STAT_ID. -/
def convItem (g : Image) (t : Sparse Stat8) : Bytes :=
  g.statMap.flatMap (fun m => natLe 2 m.stat ++ [0, 0] ++ statBytes (sget {} t m.stat))

/-- LEVELS byte of a layer (Table 10.12). -/
def levelByte (l : Level) : Byte :=
  BitVec.ofNat 8 (l.level.toNat + 4 * b2n l.recompute + 8 * b2n l.rose + 16 * b2n l.fell + 32 * b2n l.pinned)

/-- STATUS of FALLBACK_STATUS (Table 10.11). -/
def fallbackStatus (t : Telemetry) : BitVec 32 :=
  BitVec.ofNat 32 (t.risen.toNat * 2 ^ 19 + t.fallen.toNat * 2 ^ 6 + 4 * b2n t.silenceAlarm + 2 * b2n t.storm +
    b2n t.pinned)

/-- The eight event STAT_IDs of the STEP item (R210). -/
def eventIds (d : List Nat) : Bytes :=
  ((d ++ List.replicate 8 0xFFFFFFFF).take 8).flatMap (natLe 4)

/-- The contents of item type t of step n's record; s holds the state after the decision took effect, ids the events
of the decision and time the start of slot 1,088 of the statistics frame. -/
def itemBody (s : State) (g : Image) (tot : Totals) (replays : Nat) (frames : Nat) (ids : List Nat) (t : Nat) : Bytes :=
  match t with
  | 1 => convItem g tot.conv
  | 2 => convItem g s.tele.lastConv
  | 3 => (List.range 1024).flatMap (fun i => statBytes (sget {} tot.vec i))
  | 4 => (List.range g.layers.length).flatMap (fun i => (statBytes (sget {} tot.prod i)).take 32)
  | 5 => (List.range g.layers.length).map (fun i => levelByte (sget {} s.tele.levels i))
  | 6 => (List.range g.watch.length).flatMap (fun i => natLe 2 (g.watch.getD i 0) ++ [0, 0] ++
      (List.range 3).flatMap (fun j => natLe 4 (sget 0x7FC00000 s.tele.watchNorms (3 * i + j)).toNat))
  | 7 => (g.statMap.filter (·.silence)).flatMap (fun m => natLe 2 m.stat ++ [0, 0] ++
      natLe 4 (sget 0 s.tele.silence m.stat).toNat)
  | 8 => natLe 4 frames ++ natLe 4 s.seq.nextFrames.toNat ++ natLe 4 s.rate.n ++ natLe 4 replays ++
      natLe 8 s.train.normSq.toNat ++ natLe 4 s.train.clip.toNat ++ natLe 4 (fallbackStatus s.tele).toNat ++
      natLe 4 s.tele.growth.toNat ++ eventIds ids ++ [0, 0, 0, 0]
  | _ => []

/-- ITEMS of CHIMNEY_CONFIG as a list of types. -/
def chimneyItems (s : State) : List Nat := ((List.range 8).filter (fun t => s.tele.chimneyCfg.getLsbD t)).map (· + 1)

/-- The record of step n (R211). -/
def chimneyRecord (s : State) (g : Image) (tot : Totals) (n time replays frames : Nat) (ids : List Nat) : Bytes :=
  let items := (chimneyItems s).flatMap (fun t => chimneyItem t (itemBody s g tot replays frames ids t))
  natLe 4 0x48434D59 ++ natLe 4 (32 + items.length) ++ natLe 8 n ++ natLe 8 time ++ natBe 4 (coordWord s).toNat ++
    natLe 2 (s.tele.chimneyCfg.toNat % 256) ++ [0, 0] ++ items

/-- After every EVERY-th completed step, with ENABLE 1 and a chimney channel open, the record of the step is put into
the chimney (R211, R212). -/
def chimneyStep (s : State) (n time replays frames : Nat) (ids : List Nat) : State :=
  if s.tele.chimneyCfg.getLsbD 31 && (channelKind s 4 true).isSome then
    let c := s.tele.chimneySteps + 1
    if c < bits s.tele.chimneyCfg.toNat 16 8 then { s with tele := { s.tele with chimneySteps := c } }
    else
      match s.tele.lastTotals with
      | some tot => chimneyPut { s with tele := { s.tele with chimneySteps := 0 } }
          (chimneyRecord s (imageOf s) tot n time replays frames ids)
      | none => s
  else s

/-! Beginning a segment and a step -/

/-- The records as the CAST segments left them are kept when the first segment after them begins (08, R177). -/
def keepBase (t : Telemetry) : Telemetry :=
  { t with baseConv := t.conv, baseVec := t.vec, baseProd := t.prod }

/-- Segment pos is the first after the CAST segments. -/
def afterCast (l : List Seg) (pos : Nat) : Bool :=
  ((l[pos]?).getD default).kind != 1 && (pos == 0 || ((l[pos - 1]?).getD default).kind == 1)

/-- Enter segment pos: its plan entry, phase and link tables (07, R150, R154; log 9). -/
def enterSeg (s : State) (pos : Nat) : State :=
  let x := (s.seq.segs[pos]?).getD default
  let links := (imageOf s).linkSection
  { s with
    tele := if afterCast s.seq.segs pos then keepBase s.tele else s.tele
    seq := { s.seq with pos := pos, segFrame := 0, planEntry := BitVec.ofNat 32 x.entry, phase := phaseOf x.kind }
    fabric := { s.fabric with
      table := linkTableOf links x.tables none
      downEntries := sofList [] 0 ((List.range 64).map (fun k => linkTableOf links x.tables (some k))) }
    jobRecord := { s.jobRecord with planEntry := BitVec.ofNat 32 x.entry, inUpdate := x.kind == 6 } }

/-- The records that a step fills anew, or its replay from the first CAST entry (08, R177). -/
def clearStats (s : State) : State :=
  { s with tele := { s.tele with
      conv := [], vec := [], prod := [], frozenConv := [], frozenVec := [], frozenProd := []
      payload := none, totals := none } }

/-- The records that a replay from after CAST fills anew: the CAST segments' counts stay (08, R177; log 44). -/
def clearAfterCast (s : State) : State :=
  { s with tele := { s.tele with
      conv := s.tele.baseConv, vec := s.tele.baseVec, prod := s.tele.baseProd
      frozenConv := [], frozenVec := [], frozenProd := [], payload := none, totals := none } }

/-- The digest CRCs start anew (08, R180). -/
def clearDigests (s : State) : State :=
  { s with hearths := smap {} (fun (k : Hearth) => { k with crc := 0xFFFFFFFF }) s.hearths }

/-- The hearths' U occurrences of the step return to 0 (14, R292). -/
def clearStepCounts (s : State) : State :=
  { s with
    hearths := smap {} (fun (k : Hearth) => { k with stepU := 0 }) s.hearths
    faults := { s.faults with spineMismatches := 0 } }

/-- Links that have held LINK_UP at both ends for two frames return to data, and their direction to its normal
entries (11, R230). -/
def returnLinks (s : State) : State :=
  (List.range 64).foldl (fun s k =>
    let l := linkOf s k
    if l.state = 3 && l.width = 4 && l.upFrame.any (fun f => decide (f + 2 ≤ s.seq.frame) || s.seq.frame == 0) then
      let s1 := modLink s k (fun l => { l with
        data := true, lost := false, upSent := false, upSeen := false, upFrame := none, events := l.events ||| 8 })
      if sget 0xFF s.fabric.downTables (dirOf k) = memberOf k then
        { s1 with fabric := { s1.fabric with downTables := sput 0xFF s1.fabric.downTables (dirOf k) 0xFF } }
      else s1
    else s) s

/-- The batch buffer, 0 or 1, that a STAGE channel's region is. -/
def batchOf (s : State) (region : Nat) : Option Nat :=
  match regionNo s region with
  | some r => if r.role = 5 then some 0 else if r.role = 6 then some 1 else none
  | none => none

/-- STAGE channels into the batch buffer of step n close at the first frame of the step or replay (16, R344). -/
def closeStages (s : State) (n : Nat) : State :=
  (s.host.channels.filter (fun c => c.kind == 2 && batchOf s c.region == some (n % 2))).foldl
    (closeChannel 4 0x0301) s

/-- The per-step values of the job record (13, R275). -/
def recordStep (s : State) (n : Nat) : State :=
  { s with jobRecord := { s.jobRecord with
      valid := true, step := BitVec.ofNat 64 n, inUpdate := false, committedChunk := -1, jobId := s.dev.jobId
      completedStep := s.train.completedStep, jobSeed := s.rng.jobSeed, sets := s.sets, maxNorm := s.train.maxNorm
      thresholds := s.tele.thresholds, nanLimit := s.tele.nanLimit, silenceCfg := s.tele.silenceCfg
      levels := s.tele.levels, cleanRuns := s.tele.cleanRuns, silence := s.tele.silence } }

/-- The levels that the step to begin runs at. -/
def stepLevels (s : State) : Sparse Level :=
  if s.train.completedStep = 0 && s.tele.decidedStep = 0 && !isRestored s then initialLevels (imageOf s)
  else s.tele.levels

/-- Step n begins (07, R154; 08, R160, R163; 09, R184 to R186, R193; 10, R205, R208, R211; log 80). -/
def beginStep (s0 : State) (n : Nat) : State :=
  let g := imageOf s0
  let ids := s0.tele.decision.elim [] (·.silenceIds)
  let ended := s0.tele.decision.isSome
  let slot1088 := s0.seq.statTime
  let s1 := applyDecision (returnLinks (remapFenced s0))
  let lev := stepLevels s1
  let recs := recomputeSet g (levelFn lev) false
  let marked := markRecompute g lev recs
  let m1 := { s1 with tele := { s1.tele with levels := marked } }
  let s2 := if ended then chimneyStep m1 (n - 1) slot1088 s0.train.stepReplays.toNat s0.seq.stepFrames.toNat ids else m1
  let segs := assemble g (levelFn lev) recs n
  let sets := setsForStep s2 n
  let first := s2.rng.stepSeed = 0
  let seed := if first then seedOf s2.rng.jobSeed n else s2.rng.nextSeed
  let s3 := clearStepCounts (clearDigests (clearStats { s2 with
    seq := { s2.seq with
      step := n, segs := segs, next := [], stepFrames := BitVec.ofNat 32 (stepLength segs)
      recomputeLayers := BitVec.ofNat 32 recs.length, began := s2.seq.frame, holdReason := 0, diagRun := false }
    train := { s2.train with
      stepReplays := 0, forcedRecompute := false, forceNext := false, skip := false, setHold := false, frozen := sets
      nodes := [] }
    links := smap {} (fun (l : Link) => { l with missing := [], awaited := [] }) s2.links
    upd := { s2.upd with
      committed := -1, chunks := BitVec.ofNat 8 (chunkCount g), ring0 := 0, ring1 := 0, states := [], pending := []
      copies := [], childCount := [], frontier := -1, gradientLost := false }
    rng := { s2.rng with stepSeed := seed, stepNumber := BitVec.ofNat 64 n }
    sets := sets
    tele := { s2.tele with levels := marked, levelCounts := levelCounts g marked } }))
  closeStages (recordStep (enterSeg s3 0) n) n

/-! Chunks (09) -/

/-- Take the bytes of a copy back from the ring (R196); an uncorrectable ring burst loses update state (R197). -/
def restoreCopy (s : State) (c : UndoCopy) : State :=
  match regionNo s c.region, roleRegion s 4 with
  | some r, some ring =>
    let s1 := { s with mem := regionWrite s r c.offset (regionRead s ring c.ring c.length) }
    match regionPoison s ring c.ring c.length with
    | p :: _ => detect { s1 with upd := { s1.upd with stateLost := true } } (occStack 0x020B p.stack p.channel (some 4))
    | [] => s1
  | _, _ => s

/-- The statistics that a chunk holds pending. -/
def chunkPending (u : Update) (k : Nat) : Sparse Stat8 :=
  u.pending.filter (fun x => x.1 / 1024 == k)

/-- Chunk k becomes COMMITTED: its ring slot is free, and its pending statistics and d_t nodes join (R195, R190; 10,
R202). -/
def commitChunk (k : Nat) (s : State) : State :=
  if sget .free s.upd.states k = .committed then s
  else
    let s1 := { s with
      tele := { s.tele with vec := (chunkPending s.upd k).foldl (fun t (x : Nat × Stat8) => smod {} t (x.1 % 1024) (statAdd x.2)) s.tele.vec }
      upd := { setRing (setChunk s.upd k .committed) k 0 with
        committed := max s.upd.committed k
        pending := s.upd.pending.filter (fun x => x.1 / 1024 != k)
        copies := s.upd.copies.filter (fun c => c.chunk != k) }
      train := { s.train with nodes := joinNodes k s.train.nodes } }
    { s1 with jobRecord := { s1.jobRecord with committedChunk := max s1.jobRecord.committedChunk k } }

/-- Chunk k, open above the frontier, is restored from its ring slot, which shows the restore until it ends; its pending
statistics and d_t nodes are discarded (R196; 10, R202). -/
def restoreChunk (k : Nat) (s : State) : State :=
  let s1 := (s.upd.copies.filter (fun c => c.chunk == k)).foldl restoreCopy s
  { s1 with
    upd := { setRing (setChunk s1.upd k .free) k 3 with
      pending := s1.upd.pending.filter (fun x => x.1 / 1024 != k)
      copies := s1.upd.copies.filter (fun c => c.chunk != k) }
    train := { s1.train with nodes := dropNodes k s1.train.nodes } }

/-- A chunk in COPYING returns to FREE; its partial copy is discarded (R193). -/
def dropCopy (k : Nat) (s : State) : State :=
  { s with upd := { setRing (setChunk s.upd k .free) k 0 with copies := s.upd.copies.filter (fun c => c.chunk != k) } }

/-- What the announced frontier does to chunk k (R196; log 142). -/
def settleChunk (f : Int) (s : State) (k : Nat) : State :=
  if (k : Int) ≤ f then commitChunk k s
  else
    match sget .free s.upd.states k with
    | .opened => restoreChunk k s
    | .sent => restoreChunk k s
    | .copying => dropCopy k s
    | _ => s

/-- Every chunk under the announced frontier (R196). -/
def settleChunks (s : State) (f : Int) : State := (List.range (chunkCount (imageOf s))).foldl (settleChunk f) s

/-! The digest (08, R180) -/

/-- XOR of the hearths' CRCs; a hearth that converted nothing has the CRC of no bytes. -/
def digestOf (s : State) : BitVec 32 := s.hearths.foldl (fun acc x => acc ^^^ ~~~ x.2.crc) 0

/-! End of a step -/

/-- STATS of the step has ended (08, R160; 10, R214). -/
def endStats (s : State) : State :=
  let s1 := clearStepCounts s
  { s1 with
    train := { s1.train with completedStep := BitVec.ofNat 64 s.seq.step }
    jobRecord := { s1.jobRecord with completedStep := BitVec.ofNat 64 s.seq.step }
    tele := { s1.tele with
      lastConv := s.tele.frozenConv, lastVec := s.tele.frozenVec
      lastTotals := s.tele.totals } }

/-- The device enters HELD with a reason (13, R271): no segment is executed. -/
def enterHeld (s : State) (reason : BitVec 4) : State :=
  { s with
    dev := { s.dev with
      mode := .held, heldReason := reason
      holdRequested := if reason = 1 then false else s.dev.holdRequested }
    seq := { s.seq with phase := 0, stopped := false, halt := none, holdReason := 0, replay := none, announceDue := false
                        haltFresh := false } }

end Sys2Proof.Machine
end

