-- ==== Sys2Proof/Machine/Lifecycle.lean ====
section
/-! DEFINITION. The life of the device: job markers, the resets, boot, zeroisation, and the entry into BANKED and
FAULTED (13, R268, R273 to R277; 14, R305 to R309; 15, R322; 17, R351; 18, R366 to R370; 19, R381 to R383). -/

namespace Sys2Proof.Machine

/-! Jobs -/

/-- A job holds the device: its image is loaded and it has not been suspended, banked or faulted (13, Table 13.1). -/
def jobHeld (s : State) : Bool :=
  s.image.loaded.isSome && !s.dev.jobSuspended &&
    (s.dev.mode == .loaded || s.dev.mode == .armed || s.dev.mode == .running || s.dev.mode == .held)

/-- JOB_END with a REASON for a job that stops holding the device (15, R322; log 148). -/
def pushEnd (reason : Nat) (s : State) : State :=
  if jobHeld s then
    { s with markers := s.markers ++ [⟨false, s.dev.jobId, BitVec.ofNat 64 s.time.now, s.image.hash, BitVec.ofNat 32 reason⟩] }
  else s

/-- JOB_START when the device enters RUNNING from ARMED, at the fabric time of frame 0 (15, R322). -/
def pushStart (s : State) : State :=
  { s with markers := s.markers ++ [⟨true, s.dev.jobId, s.time.startTime, s.image.hash, 0⟩] }

/-- The job record as its values stand: each is written when it changes (13, R275; log 94). -/
def recordJob (s : State) : State :=
  if s.image.loaded.isSome then
    { s with jobRecord := { s.jobRecord with
        valid := true, inUpdate := s.jobRecord.inUpdate || inLastRound s, jobId := s.dev.jobId
        completedStep := s.train.completedStep, jobSeed := s.rng.jobSeed, sets := s.sets, maxNorm := s.train.maxNorm
        thresholds := s.tele.thresholds, nanLimit := s.tele.nanLimit, silenceCfg := s.tele.silenceCfg
        levels := s.tele.levels, cleanRuns := s.tele.cleanRuns, silence := s.tele.silence } }
  else s

/-- An export or restore in progress ends with a RESULT (13, Table 13.11). -/
def endContext (result : BitVec 8) (s : State) : State :=
  if s.ctx.inProgress then { s with ctx := { s.ctx with result := result, inProgress := false } } else s

/-- An open context channel that carries the operation in progress closes with REASON 0x05 (16, R343; log 87). -/
def closeContext (s : State) : State := if s.ctx.inProgress then closeKinds [3] 5 s else s

/-- A hash cut short gives no result: its record returns to STAGING (12, R261). -/
def cutHash (k : Retained) : Retained := if k.state = 2 then { k with state := 1 } else k

/-- Every hash in progress is cut short. -/
def cutHashes (s : State) : State := { s with mem := { s.mem with retained := smap {} cutHash s.mem.retained } }

/-- Every hearth unmapped (17, Table 17.13; log 72). -/
def unmapAll (s : State) : State :=
  { s with hearths := smap {} (fun (k : Hearth) => { k with logical := 0x7FF }) s.hearths }

/-! Zeroisation (12, R260) -/

/-- Logical channel that a physical channel of a stack holds, or mirrors. -/
def logicalOf (k : Stack) (phys : Nat) : Option Nat :=
  let p := if k.rotPhase = 1 ∧ phys = k.rotTo then k.rotFrom else phys
  (List.range 32).find? (fun l => physOf k l == p)

/-- Position of an entry in an interleave. -/
def entryIndex (m : TierMap) (e : Nat × Nat) : Option Nat :=
  (List.range m.entries.length).find? (fun i => m.entries[i]? == some e)

/-- The burst of DRAM byte address key belongs to a record's region. -/
def inRecord (m : Memory) (key : Nat) (k : Retained) : Bool :=
  let n := key / (2048 * 2 ^ 23 * 64)
  let phys := key / (2048 * 2 ^ 23) % 64
  let burst := key / 2048 % 2 ^ 23
  match k.placement, logicalOf (sget {} m.stackTable n) phys with
  | some r, some l =>
    let first := if r.tier = 0 then 0 else 8
    match entryIndex k.interleave (n - first, l) with
    | some i =>
      let a := (burst - k.interleave.localBursts) * k.interleave.entries.length + i
      decide (first ≤ n) && decide (n < first + 8) && decide (k.interleave.localBursts ≤ burst) &&
        decide (r.base ≤ a) && decide (a < r.base + r.length)
    | none => false
  | _, _ => false

/-- The byte survives zeroisation: it lies in an INTACT retained region. -/
def survives (m : Memory) (key : Nat) : Bool := m.retained.any (fun x => x.2.state == 3 && inRecord m key x.2)

/-- Zeroisation: every burst outside INTACT retained regions, every scratchpad, cache burst and cache line (R260). -/
def zeroise (s : State) : State :=
  let m := s.mem
  { s with
    hearths := smap {} (fun (k : Hearth) => { k with program := [], progOp := 0, progPar := 0 }) s.hearths
    splitRows := []
    mem := { m with
      spad := [], spadPoison := [], cacheTier := [], lines := [], lastData := [], lastWritten := []
      dram := m.dram.filter (fun c => survives m c.1), poison := m.poison.filter (fun c => survives m (64 * c)) } }

/-! Stacks through a reset (12, R252 to R254) -/

/-- Physical channels of stack n that are not retired, rising. -/
def workingChannels (n : Nat) (retired : List Nat) : List Nat :=
  (List.range (physChannels n)).filter (fun p => !retired.contains p)

/-- The channel map that training makes over the working channels: each logical channel on its own physical channel,
the spare in the place of one that is retired, and the working channels in order where the stack has shrunk. -/
def trainedMap (n active : Nat) (retired : List Nat) : Sparse (Option Nat) × Option Nat :=
  let full := if n < 8 then 32 else 8
  let lost := (List.range full).filter retired.contains
  let w := workingChannels n retired
  if lost = [] then ([], if retired.contains full then none else some 255)
  else if active = full then
    (sofList none 0 ((List.range full).map (fun l => if retired.contains l then some full else none)), none)
  else
    (sofList none 0 ((List.range active).map (fun l => w[l]?)), w[active]?)

/-- Stack n trained from scratch: contents gone (cold reset, POWER_UP; log 83). -/
def freshStack (f : FenceMap) (n : Nat) (k : Stack) : Stack :=
  let m := trainedMap n (activeOf f n) k.retired
  { map := m.1, spare := m.2, spareOk := m.2.isSome, retired := k.retired, selfRefresh := false }

/-- Stack n through a warm reset: contents, map and repairs stay, a rotation is abandoned (R253; log 83). -/
def warmStack (k : Stack) : Stack :=
  let spare := if k.rotPhase = 2 then some k.rotFrom else k.spare
  { map := k.map, spare := spare, spareOk := spare.isSome, retired := k.retired, laneRepairs := k.laneRepairs
    selfRefresh := true }

/-- Cells outside n bytes of DRAM from key on. -/
def outside (key n : Nat) (m : List Host.Cell) : List Host.Cell := mbelow m key ++ mfrom m (key + n)

/-- A logical channel of stack n whose contents were lost gets the spare at the next reset, with zeroed contents
(R254; log 133). -/
def replaceLost (active n : Nat) (m : Memory) : Memory :=
  let k : Stack := sget {} m.stackTable n
  match (List.range active).find? (fun l => k.retired.contains (physOf k l)), spareOf n k with
  | some l, some q =>
    let key := dramKey n q 0
    let len := 2048 * 2 ^ 23
    { m with
      stackTable := sput {} m.stackTable n { k with map := sput none k.map l (if q = l then none else some q), spare := none, spareOk := false }
      dram := outside key len m.dram
      poison := m.poison.filter (fun c => decide (64 * c < key) || decide (key + len ≤ 64 * c)) }
  | _, _ => m

/-- Every stack with its lost channel replaced. -/
def replaceAll (f : FenceMap) (m : Memory) : Memory := (List.range 16).foldl (fun m n => replaceLost (activeOf f n) n m) m

/-- Every stack through f, near 0 to 7 and far 8 to 15. -/
def allStacks (f : Nat → Stack → Stack) (t : Sparse Stack) : Sparse Stack :=
  sofList {} 0 ((List.range 16).map (fun n => f n (sget {} t n)))

/-- Every stack enters self-refresh. -/
def selfRefreshAll (s : State) : State :=
  { s with mem := { s.mem with stackTable := allStacks (fun _ k => { k with selfRefresh := true }) s.mem.stackTable } }

/-- A rotation in progress is abandoned (R253): the map stays, the spare retrains before the next. -/
def dropRotation (k : Stack) : Stack :=
  { k with
    rotPhase := 0, rotLogical := 0, repairs := [], routine := false, spareOk := k.spareOk && k.rotPhase == 0
    spare := if k.rotPhase = 2 then some k.rotFrom else k.spare }

/-! What a reset keeps -/

/-- Entry 0x1100:01 to :08, held in MRAM (16, R332), and what was sent before. -/
def keptPort (p : Port) : Port :=
  { config := p.config, pfcConfig := p.pfcConfig, ipv4 := p.ipv4, ipv4Prefix := p.ipv4Prefix
    ipv4Gateway := p.ipv4Gateway, ipv6 := p.ipv6, ipv6Prefix := p.ipv6Prefix, ipv6Gateway := p.ipv6Gateway, tx := p.tx }

/-- The security regions of MRAM after any cold or warm reset: the policy installed takes effect and raises counter 3 to its
version (log 60), key and quote are discarded (18, R368, R370; 17, R357, R358). -/
def keptSecurity (c : Security) : Security :=
  { c with
    policy := c.policyNext.elim c.policy (·.1), policyHash := c.policyNext.elim c.policyHash (·.2), policyNext := none
    rollback := smod 0 c.rollback 3 (max (c.policyNext.elim 0 (fun x => bits x.1.toNat 16 16)))
    jobKey := none, keyId := List.replicate 32 0, quote := [], quoteStatus := 0, quoteBody := [], bootVerified := false }

/-- An enrolment takes effect at a cold reset: owner replaced, policy removed (18, R368). -/
def enrolOwner (c : Security) : Security :=
  match c.enrolment with
  | none => c
  | some k => { c with
      owner := some k, ownerId := sha256 (keyBytes k), enrolment := none, policy := 0
      policyHash := List.replicate 32 0 }

/-- Counters of a link that a warm reset keeps (11, R238; 13, R274). -/
def keptCounters (l : Link) : Link :=
  { fecCorrected := l.fecCorrected, fecSymbols := l.fecSymbols, fecBad := l.fecBad, cellErrors := l.cellErrors
    requested := l.requested, retried := l.retried }

/-- A hearth whose counts since the last delivery stay: nothing outside Assay alters the counts in flight (01, R12). -/
def countedHearth (k : Hearth) : Hearth := { workClocks := k.workClocks }

/-- Counters of a hearth that a warm reset keeps (17, R360), and its counts in flight (01, R12). -/
def keptHearth (k : Hearth) : Hearth :=
  { spCorrected := k.spCorrected, uOccurrences := k.uOccurrences, stepU := k.stepU, workClocks := k.workClocks }

/-- A cold reset (13, R273, R274; 14, R294, R299; 17, R353): LAST_RESET code, then BOOT. -/
def coldReset (s0 : State) (code : BitVec 4) : State :=
  let s := drain s0
  { pins := { s.pins with errN := false, railEnA := false, railEnB := false, uartTx := true }
    dev := { mode := .boot, lastReset := code, bootCount := satInc s.dev.bootCount }
    hearths := smap {} countedHearth s.hearths
    fence := s.fence
    fabric := { id := s.fabric.id }
    mem := { stackTable := allStacks (freshStack s.fence) s.mem.stackTable }
    faults := {
      log := if s.sec.enrolment.isSome then [] else s.faults.log
      thermTripped := s.faults.thermTripped, mgmtWatchdog := s.faults.mgmtWatchdog }
    port := keptPort s.port
    sec := enrolOwner (keptSecurity s.sec)
    assay := s.assay
    markers := s.markers
    fresh := s.fresh
    pending := s.pending }

/-- A warm reset (13, R273 to R275): the job recorded, the stacks in self-refresh, then BOOT. -/
def warmReset (s0 : State) : State :=
  let s := endContext 7 (pushEnd 1 (recordJob (drain s0)))
  let m : Memory := {
    dram := s.mem.dram, poison := s.mem.poison, retained := smap {} cutHash s.mem.retained
    stackTable := allStacks (fun _ k => warmStack k) s.mem.stackTable }
  { pins := { s.pins with errN := false, uartTx := true }
    dev := { mode := .boot, lastReset := 3, bootCount := s.dev.bootCount, bootWarm := true,
             jobSuspended := s.image.loaded.isSome }
    ctx := s.ctx
    rate := { changes := s.rate.changes }
    image := { store := s.image.store, storeLen := s.image.storeLen, complete := s.image.complete
               loaded := s.image.loaded }
    upd := { states := s.upd.states, copies := s.upd.copies }
    hearths := smap {} keptHearth s.hearths
    fence := s.fence
    links := smap {} keptCounters s.links
    fabric := { id := s.fabric.id }
    mem := replaceAll s.fence m
    faults := {
      countC := s.faults.countC, countU := s.faults.countU, countF := s.faults.countF, log := s.faults.log
      thermTripped := s.faults.thermTripped, mgmtWatchdog := s.faults.mgmtWatchdog
      sources := smap {} (fun (x : Source) => { count := x.count }) s.faults.sources }
    port := keptPort s.port
    sec := keptSecurity s.sec
    assay := s.assay
    markers := s.markers
    jobRecord := s.jobRecord
    fresh := s.fresh
    pending := s.pending }

/-- MASK and REACTION of every source at their defaults (14, R302). -/
def plainSources (t : Sparse Source) : Sparse Source :=
  smap {} (fun (x : Source) => { x with mask := false, reaction := none }) t

/-- A job reset (13, R273, R274; 16, R343): the job unloaded, its entries at their defaults, zeroisation begun
(log 84, 85). -/
def jobReset (s0 : State) : State :=
  let s := unmapAll (cutHashes (endContext 7 (closeKinds [1, 2, 3] 5 (pushEnd 0 (drain s0)))))
  { s with
    dev := { s.dev with
      heldReason := 0, lastReset := 4, startMissed := false, armPending := false, holdRequested := false
      jobSuspended := false, activity := 4, jobId := 0, holdAfter := 0 }
    ctx := { s.ctx with restoreTried := false }
    rate := { changes := s.rate.changes, dieGate := s.rate.dieGate }
    image := {}
    seq := {}
    hearths := smap {} (fun (k : Hearth) => { k with katBoot := false }) s.hearths
    splitRows := []
    links := smap {} (fun (l : Link) => { l with upFrame := l.upFrame.map (fun _ => 0) }) s.links
    train := {}
    upd := { depthExceeded := s.upd.depthExceeded }
    rng := {}
    sets := []
    tele := {}
    mem := { s.mem with zeroising := true }
    fabric := { s.fabric with
      epoch := 0, haltSent := none, haltHeld := [], table := [], downEntries := []
      downTables := s.fabric.downPending.foldl putDown s.fabric.downTables, downPending := [] }
    faults := { s.faults with imageStopped := false, sources := plainSources s.faults.sources, spineMismatches := 0 }
    sec := { s.sec with jobKey := none, keyId := List.replicate 32 0, quote := [], quoteStatus := 0, quoteBody := [] }
    jobRecord := {} }

/-! Power and training of a device that boots or powers up (13, R276; 11, R226; 12, R251) -/

/-- A link of a device whose link dies have just been powered: unconnected, fenced, or in phase T1 (R217, R226). -/
def poweredLink (s : State) (k : Nat) (l : Link) : Link :=
  if !isConnected s k then { l with state := 0 }
  else if s.fence.links.contains k then { l with state := 4 }
  else if l.forceDown then { l with state := 1 }
  else { l with state := 2, phase := 1, tryLanes := 0xF }

/-- Every link begins training. -/
def startLinks (s : State) : State :=
  { s with links := sofList {} 0 ((List.range 64).map (fun k => poweredLink s k (linkOf s k))) }

/-- Every stack not fenced trained (12, R262, R263). -/
def trainStacks (s : State) : State :=
  { s with mem := { s.mem with
      trained := true
      stackTable := allStacks (fun n k => { k with trained := activeOf s.fence n != 0, selfRefresh := false }) s.mem.stackTable } }

/-- The master under FREE locks to its own time at IDLE; any other device acquires (07, R128, R133). -/
def lockAtIdle (s : State) : State :=
  if s.time.master then
    (if s.time.source = 0 ∨ s.time.sourcePresent then { s with time := { s.time with lock := 2, everLocked := true } }
     else { s with time := { s.time with lock := 1 } })
  else { s with time := { s.time with lock := if s.time.lock = 0 then 1 else s.time.lock } }

/-! BANKED and FAULTED (14, R305 to R309) -/

/-- What entering either state ends: restores, exports, hashes, pending starts (log 87). -/
def leaveJob (s : State) : State :=
  let s1 := cutHashes (endContext 7 (closeContext (selfRefreshAll (recordJob s))))
  { s1 with
    dev := { s1.dev with heldReason := 0, armPending := false, holdRequested := false, activity := 0, poweredUp := false, selftests := [] }
    mem := { s1.mem with zeroising := false }
    seq := { s1.seq with
      halt := if isMaster s1 then s1.seq.halt else none, stopped := true, replay := none, bankDue := none
      stopDue := false, holdReason := 0, phase := 0 } }

/-- Enter BANKED with a cause; the link dies relay at once, or, from RUNNING, from the first frame boundary after the
stop (R305). -/
def enterBanked (cause : BitVec 4) (s : State) : State :=
  if s.dev.mode = .banked ∨ s.dev.mode = .faulted then s
  else
    let run := s.dev.mode == .running
    let s1 := leaveJob (pushEnd 3 s)
    diesOff { s1 with
      dev := { s1.dev with mode := .banked }
      pins := { s1.pins with railEnA := false, railEnB := true }
      mem := { s1.mem with stackTable := allStacks (fun _ k => dropRotation k) s1.mem.stackTable }
      fabric := { s1.fabric with relaying := !run }
      faults := { s1.faults with bankCause := cause } }

/-- Enter FAULTED after a class F occurrence of a source (R308; 19, R382): the enables fall after 0x0503 and 0x0504, and
ERR_N stays low (log 90). -/
def enterFaulted (code : Nat) (s : State) : State :=
  if s.dev.mode = .faulted then s
  else
    let lower := code == 0x0503 || code == 0x0504
    let s1 := leaveJob (pushEnd 4 s)
    let s2 := { s1 with
      dev := { s1.dev with mode := .faulted }
      pins := { s1.pins with
        railEnA := s1.pins.railEnA && !lower, railEnB := s1.pins.railEnB && !lower, errN := false }
      faults := { s1.faults with errHeld := true } }
    diesOff { s2 with fabric := { s2.fabric with relaying := linksPowered s2 } }

/-! Boot (13, R276; 18, R366) -/

/-- A firmware component passes: present, and at or above its counter. The objects of a bank were verified when they
were installed (R365). -/
def componentOk (c : Component) (counter : Nat) : Bool := c.present && decide (counter ≤ c.securityVersion)

/-- A bank passes with all three components (R366). -/
def bankOk (s : State) (b : Bank) : Bool :=
  componentOk b.mgmt (sget 0 s.sec.rollback 0) && componentOk b.dieCtl (sget 0 s.sec.rollback 1) &&
    componentOk b.linkDie (sget 0 s.sec.rollback 2)

/-- The bank of a marker. -/
def bankNo (s : State) (b : Bool) : Bank := if b then s.sec.bankB else s.sec.bankA

/-- Firmware chosen at boot: PREFERRED, else the other bank, else none (R366, R367). -/
def verifyFirmware (s : State) : State :=
  let p := s.sec.preferB
  if bankOk s (bankNo s p) then { s with sec := { s.sec with bootVerified := true, bootedB := p } }
  else if bankOk s (bankNo s (!p)) then { s with sec := { s.sec with bootVerified := true, bootedB := !p } }
  else { s with sec := { s.sec with bootVerified := false } }

/-- Counters 0 to 2 raised to what booted, when the device reaches STANDBY (R366). -/
def raiseCounters (s : State) : State :=
  let b := bankNo s s.sec.bootedB
  let up := fun (t : Sparse Nat) (x : Nat × Nat) => smod 0 t x.1 (max x.2)
  let l := [(0, b.mgmt.securityVersion), (1, b.dieCtl.securityVersion), (2, b.linkDie.securityVersion)]
  if s.sec.bootVerified then { s with sec := { s.sec with rollback := l.foldl up s.sec.rollback } } else s

/-- A failed self-test or known-answer test of a hearth (Table 14.1): classified at once, and the hearth fenced. -/
def failHearth (code : Nat) (s : State) (h : Nat) : State :=
  fenceHearth (classify s { occ := occAt code 1 h, forced := false, time := s.time.now, step := loggedStep s
                            epoch := s.fabric.epoch, planEntry := s.seq.planEntry, state := BitVec.ofNat 8 (modeCode s.dev.mode)
                            kind := 0 }).1 h

/-- The self-tests of a boot: every hearth's result and its time, failures fenced (13, Table 13.8). -/
def bootTests (b : BootReport) (s : State) : State :=
  let s1 := { s with hearths := sofList {} 0 ((List.range 1152).map (fun h =>
    let bad := (b.selftestFailed.map (·.val)).contains h
    { hearthOf s h with
      selftest := if bad then 2 else 1, katFailed := (b.katFailed.map (·.val)).contains h
      katBoot := (b.katFailed.map (·.val)).contains h
      selftestTime := BitVec.ofNat 64 s.time.now })) }
  let s2 := (b.selftestFailed.map (·.val)).foldl (failHearth 0x0107) s1
  (b.katFailed.map (·.val)).foldl (failHearth 0x0108) s2

/-- What a warm boot returns from the job record to its entries (13, R274, R275). -/
def returnJob (s : State) : State :=
  let r := s.jobRecord
  if s.dev.jobSuspended && r.valid then
    { s with
      dev := { s.dev with jobId := r.jobId }
      train := { s.train with completedStep := r.completedStep, maxNorm := r.maxNorm }
      rng := { s.rng with jobSeed := r.jobSeed }
      sets := r.sets
      tele := { s.tele with
        thresholds := r.thresholds, nanLimit := r.nanLimit, silenceCfg := r.silenceCfg, levels := r.levels
        cleanRuns := r.cleanRuns, silence := r.silence } }
  else s

/-- ERR_N at the end of boot: high unless a qualifying occurrence was classified during it (14, R294). -/
def riseErr (s : State) : State := { s with pins := { s.pins with errN := !s.faults.errHeld } }

end Sys2Proof.Machine
end

