-- ==== Sys2Proof/Machine/Halt.lean ====
section
/-! DEFINITION. Halts, replay starts and the reactions to faults (07, R157; 08, R176 to R180; 09, R196, R197; 11, R229,
R233, R234; 14, R290 to R293). -/

namespace Sys2Proof.Machine

/-! Restart points (Table 8.5) -/

/-- Plan entry at which a HALT restarts the step, from the KIND of its origin, its source and the region's role. -/
def restartEntry (g : Image) (kind code : Nat) (role : Option (BitVec 8)) : Nat :=
  if kind = 1 then firstEntry g [1]
  else if kind = 6 then
    (if isMemoryError code && role == some 0x0D then firstFwd g else firstEntry g [6])
  else if kind = 7 then firstEntry g [7]
  else if kind = 8 then firstEntry g [8]
  else if (isMemoryError code && role == some 0x0A) || code == 0x0209 then firstEntry g [1]
  else firstFwd g

/-- The earlier of a halt in progress and a new one (R176). -/
def earlier (old : Option Halt) (new : Halt) : Halt :=
  match old with
  | some h => if h.restart ≤ new.restart then h else new
  | none => new

/-- HALT_STATUS of a HALT (Table 11.13). -/
def haltWord (epoch : BitVec 8) (h : Halt) : BitVec 64 :=
  BitVec.ofNat 64 (epoch.toNat * 2 ^ 56 + h.restart % 2 ^ 20 * 2 ^ 36 + h.origin % 2 ^ 20 * 2 ^ 16 + h.source.toNat)

/-- A HALT has been sent in this epoch with an equal or lower restart point (R233). -/
def alreadySent (s : State) (restart : Nat) : Bool := s.fabric.haltSent.any (fun r => decide (r ≤ restart))

/-- The halt is noted: the earliest restart point holds, and the master will announce a replay start after the next
frame boundary (Table 7.23; log 98). -/
def noteHalt (s : State) (h : Halt) : State :=
  { s with
    seq := { s.seq with
      halt := some (earlier s.seq.halt h)
      announceDue := s.seq.announceDue || isMaster s
      haltFresh := if s.seq.announceDue then s.seq.haltFresh else isMaster s
      heldRestart := if s.dev.mode = .held then min s.seq.heldRestart h.restart else s.seq.heldRestart }
    train := { s.train with forceNext := s.train.forceNext || h.source == 0x0205 }
    rng := { s.rng with mismatch := s.rng.mismatch || h.source == 0x0209, recompute := s.rng.recompute || h.source == 0x0209 }
    fabric := { s.fabric with haltStatus := haltWord s.fabric.epoch h } }

/-- Note that the first run's digest is held and the replay is a diagnostic one (R180). -/
def startDiag (s : State) : State :=
  if s.seq.diagRun then s
  else { s with
    seq := { s.seq with diagRun := true }
    train := { s.train with digests := (digestOf s ++ (0 : BitVec 32)) } }

/-- A replay start has been announced and not begun, and it restarts no later than this (R291). -/
def sameReplay (s : State) (restart : Nat) : Bool :=
  s.seq.stopped && s.seq.replay.any (fun r => decide (r.entry ≤ restart))

/-- Raise a HALT in RUNNING (R157, R233): noted here, and sent on every link unless an equal or lower one has been
(log 139). -/
def raiseHalt (h : Halt) (s : State) : State :=
  if s.dev.mode != .running || sameReplay s h.restart then s
  else
    let s1 := noteHalt (if h.diag then startDiag s else s) h
    if alreadySent s h.restart then s1
    else queueHalt (mkHalt s s.fabric.epoch.toNat (if h.diag then 2 else 1) h.restart h.origin h.source.toNat)
      { s1 with fabric := { s1.fabric with haltSent := some h.restart } }

/-- The HALT of an occurrence (R176, R233). -/
def haltOf (s : State) (c : Classified) : Halt :=
  { restart := restartEntry (imageOf s) c.kind c.info.code c.occ.role, origin := c.planEntry
    source := BitVec.ofNat 16 c.info.code, diag := false }

/-- The HALT of reaction 1, with what it marks: a lost gradient waits for the announcement (09, R399). -/
def haltFor (c : Classified) (s : State) : State :=
  let lost := isMemoryError c.info.code && c.occ.role == some 0x0D && c.kind == 6
  raiseHalt (haltOf s c) { s with upd := { s.upd with gradientLost := s.upd.gradientLost || (lost && s.dev.mode == .running) } }

/-! Image stop and fences (R292, R293) -/

/-- Image stop: IMAGE_STOPPED, and in RUNNING the halt that takes the device to HELD (log 86). -/
def imageStop (s : State) : State :=
  if jobHeld s then
    { s with
      faults := { s.faults with imageStopped := true }
      seq := { s.seq with stopDue := s.seq.stopDue || s.dev.mode == .running } }
  else s

/-- A die has fewer free spares than fenced hearths that wait for one (01, R14). -/
def sparesShort (s : State) (d : Nat) : Bool :=
  decide (((dieHearths d).filter (fun h => !isFenced s h && !isMapped s h)).length <
    ((dieHearths d).filter (fun h => isFenced s h && isMapped s h)).length)

/-- Fence a hearth (R293); a die whose spares no longer suffice stops the image (R292). -/
def reactHearth (h : Nat) (s : State) : State :=
  if isFenced s h then s
  else
    let s1 := fenceHearth s h
    if sparesShort s1 (dieOfHearth h) then imageStop s1 else s1

/-- A direction is on the one-link-down table of another link, or another link of it waits for one. -/
def directionDown (s : State) (k : Nat) : Bool :=
  let t := sget 0xFF s.fabric.downTables (dirOf k)
  (t != 0xFF && t != memberOf k) ||
    s.fabric.downPending.any (fun x => x.1 == dirOf k && x.2.1 != memberOf k)

/-- The direction's table replaces its entries from frame f + 2 on, from the earlier of two detection frames (R229). -/
def scheduleDown (k f : Nat) (s : State) : State :=
  let rest := s.fabric.downPending.filter (fun x => x.1 != dirOf k)
  let old := (s.fabric.downPending.find? (fun x => x.1 == dirOf k)).map (·.2.2)
  if directionDown s k then s
  else { s with fabric := { s.fabric with downPending := (dirOf k, memberOf k, old.elim (f + 2) (min (f + 2))) :: rest } }

/-- The direction of a link goes on its one-link-down table, from a loss in frame f (R229); with no frame grid at once
(log 55). -/
def downDirection (k f : Nat) (s : State) : State :=
  if directionDown s k then s
  else if s.seq.grid then scheduleDown k f s
  else { s with fabric := { s.fabric with downTables := sput 0xFF s.fabric.downTables (dirOf k) (memberOf k) } }

/-- Fence a link: its direction on the one-link-down table, or an image stop where it already runs on another one
(R292). -/
def reactLink (k : Nat) (s : State) : State := if directionDown s k then imageStop s else downDirection k s.seq.frame s

/-- Below this many channels a stack is fenced whole (12, R254). -/
def leastChannels (n : Nat) : Nat := if n < 8 then 24 else 6

/-- The fence-map byte of a stack after working channels are found (12, R254). -/
def stackByte (n working : Nat) : Nat := if working < leastChannels n then 0 else working

/-- Set a stack's byte. -/
def fenceStack (n count : Nat) (s : State) : State :=
  { s with
    fence := setActive s.fence n (stackByte n count)
    mem := { s.mem with stackFenced := true } }

/-- Fence what reaction 5 names: a stack, one channel fewer unless the unit has set its byte; or, for source 0x0607, a
die's 144 hearths and its near stack (R290). A stack fence during UPDATE loses the update state (09, R197; log 91,
92). -/
def reactStack (c : Classified) (applied : Bool) (s : State) : State :=
  let num := c.occ.number.toNat
  let s1 :=
    if c.info.code = 0x0607 then fenceStack num 0 ((dieHearths num).foldl fenceHearth s)
    else if c.occ.kind = 3 ∨ c.occ.kind = 4 then
      let n := if c.occ.kind = 3 then num else num + 8
      (if applied then { s with mem := { s.mem with stackFenced := true } } else fenceStack n (activeOf s.fence n - 1) s)
    else s
  let s2 := imageStop s1
  if c.kind = 6 ∧ s.dev.mode = .running then
    detect s2 (if c.occ.kind = 3 ∨ c.occ.kind = 4 then { c.occ with source := 0x020B, role := none } else occNone 0x020B)
  else s2

/-- BANK_CAUSE of a source (Table 14.6; log 93). -/
def bankCauseOf (code : Nat) : BitVec 4 :=
  if code = 0x0406 then 2 else if code = 0x0605 ∨ code = 0x0206 then 3 else if code = 0x0606 then 4 else 0

/-- Enter BANKED: at the stop of the halt in RUNNING, at once in the other states that have it (R305, Table 13.6); in
boot it is taken when boot ends (R309). -/
def reactBank (cause : BitVec 4) (s : State) : State :=
  match s.dev.mode with
  | .running => { s with seq := { s.seq with bankDue := some cause } }
  | .idle => enterBanked cause s
  | .loaded => enterBanked cause s
  | .armed => enterBanked cause s
  | .held => enterBanked cause s
  | .boot => { s with dev := { s.dev with causePersists := some .banked } }
  | _ => s

/-- Enter FAULTED from STANDBY and every later state (R308); in boot it takes effect when boot ends. -/
def reactFault (code : Nat) (s : State) : State :=
  match s.dev.mode with
  | .off => s
  | .boot =>
    let lower := code == 0x0503 || code == 0x0504
    { s with
      dev := { s.dev with bootFatal := true }
      pins := { s.pins with railEnA := s.pins.railEnA && !lower, railEnB := s.pins.railEnB && !lower } }
  | _ => enterFaulted code s

/-- What a thermal trip does besides (R296): THERMTRIP_N low, clocks gated, stacks in self-refresh, THERM_TRIPPED. -/
def tripEffects (s : State) : State :=
  selfRefreshAll { s with
    pins := { s.pins with thermtripN := false }
    faults := { s.faults with thermTripped := true } }

/-- The reaction of a classified occurrence (Table 14.3). -/
def react (applied : Bool) (c : Classified) (s0 : State) : State :=
  let s := if c.info.code = 0x0503 then tripEffects s0 else s0
  if c.reaction = 0 then s
  else
    let h := haltFor c s
    match c.reaction with
    | 3 => (hearthAt c.occ).elim h (fun n => reactHearth n h)
    | 4 => if c.occ.kind = 2 then reactLink c.occ.number.toNat h else h
    | 5 => reactStack c applied h
    | 6 => reactBank (bankCauseOf c.info.code) h
    | 7 => reactFault c.info.code h
    | _ => h

/-- Classify one occurrence and carry out its reaction (R289 to R292). -/
def collect (s : State) (d : Detected) (applied : Bool) : State :=
  match classify s d with
  | (s1, some c) => react applied c s1
  | (s1, none) => s1

/-- What an occurrence reported now holds (Table 14.4). -/
def detectedNow (s : State) (o : Occ) (forced : Bool) : Detected :=
  { occ := o, forced := forced, time := s.time.now, step := loggedStep s, epoch := s.fabric.epoch
    planEntry := if s.dev.mode = .running then s.seq.planEntry else 0, state := BitVec.ofNat 8 (modeCode s.dev.mode)
    kind := originKind s }

/-! What a memory unit notes with an occurrence that it reports (12, R248, R251, R254, R255, R257; 08, R163) -/

/-- A corrected codeword of logical channel l of stack n: counted, and at CE_THRESHOLD within 1,024 frames a repair rotation
of the channel is queued. -/
def noteCorrected (n l : Nat) (s : State) : State :=
  let k := stackOf s n
  let w := (sget [] k.ceWindow l).filter (fun f => decide (s.seq.frame < f + 1024)) ++ [s.seq.frame]
  let full := decide (s.mem.ceThreshold.toNat ≤ w.length)
  modStack s n (fun k => { k with
    ceCount := k.ceCount + 1
    ceWindow := sput [] k.ceWindow l (if full then [] else w)
    repairs := if full && !k.repairs.contains l then k.repairs ++ [l] else k.repairs })

/-- Contents of logical channel l of stack n are lost: its physical channel is never used again. -/
def loseChannel (n l : Nat) (s : State) : State :=
  modStack s n (fun k => { k with retired := insertNat k.retired (physOf k l) })

/-- Maintenance work has found a codeword of logical channel l of stack n uncorrectable and written it back poisoned: which
codeword of the channel is free (12, R248; log 154). A RETAINED region that holds it loses its record's INTACT state. -/
def poisonOne (n l : Nat) (s : State) : State :=
  let w := Config.struckWord s.fresh % (32 * channelBursts n)
  let s1 := { s with
    fresh := s.fresh + 1
    mem := { s.mem with poison := insertNat s.mem.poison (dramKey n (physOf (stackOf s n) l) 0 / 64 + w) } }
  ((imageOf s).regions.filter (fun r => (regionPoison s1 r 0 (regionBytes r)).contains ⟨n, l, w / 32⟩)).foldl stageRecord s1

/-- A word of hearth h's scratchpad holds an uncorrectable error: which word, and what it reads as, is free (06, R110; log
154). -/
def strikeWord (h : Nat) (s : State) : State :=
  let a := 2097152 * h + 8 * (Config.struckWord s.fresh % 262144)
  { s with
    fresh := s.fresh + 1
    mem := { s.mem with
      spad := mwrite s.mem.spad a ((List.range 8).map (Config.lostByte s.fresh))
      spadPoison := insertNat s.mem.spadPoison (a / 8) } }

/-- What the unit at a stack notes; lost contents are a loss of update state too (09, R197). -/
def stackNotes (code n l : Nat) (s : State) : State :=
  let ue := modStack s n (fun k => { k with ueCount := k.ueCount + 1 })
  match code with
  | 0x0301 => noteCorrected n l s
  | 0x0302 => ue
  | 0x0303 => poisonOne n l { ue with mem := { ue.mem with ueLatent := true } }
  | 0x0304 => { s with mem := { s.mem with channelRetired := true } }
  | 0x0306 => detect (loseChannel n l s) (occStack 0x020B n l none)
  | 0x030A =>
    let s1 := modStack s n (fun k => { k with hot := true })
    { s1 with mem := { s1.mem with farHot := true } }
  | _ => s

/-- What the unit notes with an occurrence (log 96). -/
def unitNotes (o : Occ) (s : State) : State :=
  if o.kind = 3 then stackNotes o.source.toNat (o.number.toNat % 8) o.channel.toNat s
  else if o.kind = 4 then stackNotes o.source.toNat (8 + o.number.toNat % 8) o.channel.toNat s
  else
    match o.source.toNat with
    | 0x0101 => (hearthAt o).elim s (fun h => strikeWord h s)
    | 0x0205 => { s with train := { s.train with stashOverrun := true } }
    | 0x0309 => { s with mem := { s.mem with lastOverflow := true } }
    | _ => s

/-- FAULT_OCCURRENCE (14, R289): the occurrence given, or the oldest detected one, is classified, counted, logged and
reacted to. The device takes none while it is off. -/
def execFaultOccurrence (o : Option Occ) (s : State) : Host.Outcome State Fault Refusal :=
  match o with
  | some x => if s.dev.mode = .off then .next s else .next (collect (unitNotes x s) (detectedNow s x false) false)
  | none =>
    match s.faults.detected with
    | d :: t => .next (collect { s with faults := { s.faults with detected := t } } d (!d.forced))
    | [] => .next s

/-! The stop -/

/-- The stop of a halt (07, R157; 08, R178; 14, R292, R305): the device banks, or enters HELD for an image stop or at the
replay limit, or waits for the replay start (log 76). -/
def stopNow (s : State) : State :=
  let s1 := { s with seq := { s.seq with stopped := true } }
  match s.seq.bankDue, s.seq.halt with
  | some cause, _ => enterBanked cause s1
  | none, some h =>
    if s.seq.stopDue then
      let e := enterHeld s1 3
      { e with seq := { e.seq with
          stopDue := false, heldRestart := h.restart, halt := if isMaster s then some h else none
          announceDue := s.seq.announceDue, haltFresh := s.seq.haltFresh } }
    else if s.train.replayLimit.toNat ≤ s.train.stepReplays.toNat then
      let e := enterHeld (detect s1 (occNone 0x020E)) 3
      { e with seq := { e.seq with heldRestart := h.restart } }
    else s1
  | none, none => s1

/-! Replay starts (07, Table 7.23; 08, R176 to R179; 09, R196; 11, R234) -/

/-- Entry that the master announces for a restart point, under the frontier it holds (R196, R197). -/
def announcedEntry (s : State) (restart : Nat) : Nat :=
  let k := ((imageOf s).plan.getD restart default).kind
  if k = 7 ∨ k = 8 then restart
  else if k = 6 ∨ 0 ≤ s.upd.frontier then chunkEntry (imageOf s) (s.upd.frontier + 1).toNat
  else restart

/-- The payload of REPLAY_START (Table 11.5). -/
def replayPayload (frame entry : Nat) (frontier : Int) (epoch : BitVec 8) : Bytes :=
  natBe 8 frame ++ natBe 4 entry ++ natBe 4 (BitVec.ofInt 32 frontier).toNat ++ [epoch]

/-- The device takes part in the job's replays: RUNNING or HELD, and not image-stopped (R292). -/
def takesPart (s : State) : Bool :=
  (s.dev.mode == .running || s.dev.mode == .held) && !s.faults.imageStopped

/-- What the announcement does to the job of a device that takes part (R196, R197, R233): a lost gradient loses the update
state where chunks have committed, and otherwise the replay forms it anew (09, R399). -/
def applyReplay (r : Replay) (s : State) : State :=
  let s1 := settleChunks { s with seq := { s.seq with
    replay := some r, halt := none, stopped := true, announceDue := false, haltFresh := false } } r.frontier
  let s2 := { s1 with upd := { s1.upd with gradientLost := false } }
  if s.upd.gradientLost && decide (0 ≤ r.frontier) then
    detect { s2 with upd := { s2.upd with stateLost := true } } (occNone 0x020B)
  else s2

/-- Handle a HALT of the present epoch (R157, R233): note it, forward it unless an equal or lower one has been sent. -/
def handleHalt (s : State) (c : Cell) : State :=
  let h : Halt := { restart := hdrF c 88 20, origin := hdrF c 68 20, source := BitVec.ofNat 16 (hdrF c 52 16), diag := hdrF c 108 4 == 2 }
  let mine := s.dev.mode == .running || s.dev.mode == .held || isMaster s
  let s1 :=
    if mine then noteHalt (if h.diag && s.dev.mode == .running then startDiag s else s) h
    else { s with fabric := { s.fabric with haltStatus := haltWord s.fabric.epoch h } }
  if alreadySent s h.restart then s1
  else forwardHalt c { s1 with fabric := { s1.fabric with haltSent := some h.restart } }

/-- A replay start is received or, on the master, announced: the epoch counts it, the job takes it, and HALTs held for
the new epoch are handled (R233; log 99). -/
def takeReplay (r : Replay) (s : State) : State :=
  let s1 := if takesPart s then applyReplay r s
    else { s with seq := { s.seq with halt := none, announceDue := false, haltFresh := false } }
  let held := s1.fabric.haltHeld
  held.foldl handleHalt { s1 with fabric := { s1.fabric with epoch := r.epoch, haltSent := none, haltHeld := [] } }

/-- The master announces a replay start of an entry at a frame (R234, R272). -/
def announceReplay (frame entry : Nat) (s : State) : State :=
  let e := s.fabric.epoch + 1
  takeReplay ⟨frame, entry, s.upd.frontier, e⟩ (originate 4 (replayPayload frame entry s.upd.frontier e) s)

/-- The master may announce now (Table 7.23; 12, R255; 08, R178), once each of its children has told it in a time code that
it is locked (07, R133; log 103). -/
def announceReady (s : State) : Bool :=
  isMaster s && s.seq.announceDue && !s.seq.haltFresh && s.seq.halt.isSome &&
    !(List.range 8).any (fun i => (stackOf s (8 + i)).hot) && (childLinks s).all (fun k => (linkOf s k).peerLocked) &&
    decide (s.train.stepReplays.toNat < s.train.replayLimit.toNat)

/-- The announcement at the master's HALT position: it names the next frame boundary (Table 7.23). A master that takes no
part counts the replays that it announces (log 77). -/
def announceNow (s : State) : State :=
  match s.seq.halt with
  | some h =>
    let s1 := announceReplay (s.seq.frame + 1) (announcedEntry s h.restart) s
    if takesPart s then s1
    else { s1 with train := { s1.train with stepReplays := satInc s1.train.stepReplays } }
  | none => s

/-- The segment of a plan entry in the list in force. -/
def segIndex (l : List Seg) (entry : Nat) : Nat := ((List.range l.length).find? (fun i => (l.getD i default).entry == entry)).getD 0

/-- The records that a replay from a segment of a KIND fills anew (R177); a replay of STATS keeps those that the first run
froze (10, R205). -/
def clearFor (kind : Nat) (s : State) : State :=
  if kind = 1 then clearStats s
  else if kind ≤ 5 then clearAfterCast s
  else if kind = 6 then { s with tele := { s.tele with payload := none, totals := none } }
  else if kind = 7 then { s with tele := { s.tele with totals := none } }
  else s

/-- The segment list of a replay: recompute forced after a stash overrun (R179). -/
def replayList (s : State) : State :=
  if s.train.forceNext && !s.train.forcedRecompute then
    let g := imageOf s
    let recs := recomputeSet g (levelFn s.tele.levels) true
    let segs := assemble g (levelFn s.tele.levels) recs s.seq.step
    { s with
      seq := { s.seq with segs := segs, stepFrames := BitVec.ofNat 32 (stepLength segs), recomputeLayers := BitVec.ofNat 32 recs.length }
      train := { s.train with forcedRecompute := true, forceNext := false }
      tele := { s.tele with levels := markRecompute g s.tele.levels recs } }
  else { s with train := { s.train with forceNext := false } }

/-- Every LAST line invalidated (12, R257). -/
def dropLast (s : State) : State :=
  { s with mem := { s.mem with lines := s.mem.lines.filter (fun l => !l.last), lastData := [], lastWritten := [] } }

/-- The decision of a statistics slot that runs again is taken again (10, R205). -/
def dropDecision (kind : Nat) (s : State) : State :=
  if kind ≤ 7 then { s with
    tele := { s.tele with decision := none }
    seq := { s.seq with holdReason := 0, next := [] } } else s

/-- The seeds concerned are computed again before a replay after a seed mismatch (05, R98). -/
def freshSeeds (s : State) : State :=
  if s.rng.recompute then { s with rng := { s.rng with
    recompute := false, stepSeed := seedOf s.rng.jobSeed s.seq.step, nextSeed := seedOf s.rng.jobSeed (s.seq.step + 1) } }
  else s

/-- A replay begins at the frame boundary that REPLAY_START names (R177 to R179, R196; log 75). -/
def beginReplay (s : State) (r : Replay) : State :=
  let kind := ((imageOf s).plan.getD r.entry default).kind
  let fromHeld := s.dev.mode == .held
  let count := if fromHeld then (0 : BitVec 4) else s.train.stepReplays
  let s1 := { s with
    dev := { s.dev with mode := .running, heldReason := 0 }
    train := { s.train with
      stepReplays := satInc count, replays := satInc s.train.replays, restartKind := BitVec.ofNat 4 kind
      skip := s.train.skip && decide (6 ≤ kind), setHold := s.train.setHold && decide (6 ≤ kind) }
    upd := { s.upd with
      rollbacks := if kind = 6 then satInc s.upd.rollbacks else s.upd.rollbacks
      lastRollback := if kind = 6 then BitVec.ofInt 8 (r.frontier + 1) else s.upd.lastRollback
      childCount := [] }
    links := smap {} (fun (l : Link) => { l with kept := [], missing := [], awaited := [], pendRelay := [] }) s.links }
  let s2 := dropDecision kind (dropLast (clearFor kind (replayList (returnLinks (remapFenced (freshSeeds s1))))))
  let s3 := if kind ≤ 5 then clearDigests s2 else s2
  let s4 := enterSeg { s3 with seq := { s3.seq with
    replay := none, stopped := false, began := s.seq.frame } } (segIndex s3.seq.segs r.entry)
  closeStages s4 s4.seq.step

/-- The announced replay start arrives: from HELD after a completed step the next step begins (13, R272), else the
replay. A halt that has arrived since stops it at once (R176). -/
def replayArrives (s : State) (r : Replay) : State :=
  let s1 :=
    if s.dev.mode = .held ∧ s.dev.heldReason ≠ 3 then
      beginStep { s with
        dev := { s.dev with mode := .running, heldReason := 0 }
        seq := { s.seq with replay := none, stopped := false } } (s.train.completedStep.toNat + 1)
    else beginReplay s r
  if s1.seq.halt.isSome then stopNow s1 else s1

/-! Cells that carry halts and replay starts -/

/-- A cell whose CRC fails: counted (11, R225). -/
def badCell (s : State) (k : Nat) : State := modLink s k (fun l => { l with cellErrors := l.cellErrors + 1 })

/-- The link dies take cells of link k: powered, and the link up. -/
def linkTakes (s : State) (k : Nat) : Bool := linksPowered s && isUp s k

/-- HALT (11, R233): by its epoch the cell is handled, held for the next epoch, or discarded. -/
def execHaltCell (k : Fin 64) (cell : Cell) (s : State) : Host.Outcome State Fault Refusal :=
  let e := BitVec.ofNat 8 (hdrF cell 112 8)
  if !linkTakes s k.val || cellType cell != 2 then .next s
  else if !cellOk cell then .next (badCell s k.val)
  else if e = s.fabric.epoch then .next (handleHalt s cell)
  else if e = s.fabric.epoch + 1 then
    .next { s with fabric := { s.fabric with haltHeld := s.fabric.haltHeld ++ [cell] } }
  else .next s

end Sys2Proof.Machine
end

