-- ==== Sys2Proof/Machine/Statistics.lean ====
section
/-! DEFINITION. The statistics slot's payload: the watched norms, the device's own part, its bytes, its children's parts, and
the totals that a device holds (08, R175; 10, R201 to R203; 13, R271). -/

namespace Sys2Proof.Machine

/-! The watched norms (R201) -/

/-- Trained tensors of a layer in norm-list order. -/
def layerTensors (g : Image) (l : Nat) : List Nat := (normOrder g).filter (fun t => (g.tensors.getD t default).layer == l)

/-- Casting tensors of a layer (log 159). -/
def layerCastings (g : Image) (l : Nat) : List Nat :=
  (List.range g.tensors.length).filter (fun t =>
    let e := g.tensors.getD t default
    e.layer == l && (g.regions[e.region]?).any (fun r => r.role == 0x0A))

/-- The canonical tree over a layer's tensors of their trees of a sort, as a W48 code; where this device's nodes do not give
it, a free value (log 53). -/
def layerNode (s : State) (i sort : Nat) (ts : List Nat) : BitVec 48 :=
  match rootOver (ts.map (tensorRoot s sort)) with
  | some v => BitVec.ofNat 48 (encodeF w48 v)
  | none => Config.watchNode s.fresh (3 * i + sort)

/-- WSQ, GSQ and USQ of watch entry i as this device's nodes give them; the increments of a skipped update are +0. -/
def ownNorms (s : State) : List (BitVec 48 × BitVec 48 × BitVec 48) :=
  let g := imageOf s
  (List.range g.watch.length).map (fun i =>
    let l := g.watch.getD i 0
    (layerNode s i 0 (layerCastings g l), layerNode s i 1 (layerTensors g l),
      if s.train.skip then 0 else layerNode s i 2 (layerTensors g l)))

/-! The payload (Table 10.4) -/

/-- This device's flags: bit 0 the batch of the next step is not ready (08, R175), bit 1 hold (13, R271). -/
def ownFlags (s : State) : BitVec 64 :=
  let late := decide (s.train.stagedStep.toNat < s.seq.step + 1)
  let hold := s.seq.holdFrozen || (s.dev.holdAfter != 0 && decide (s.dev.holdAfter.toNat ≤ s.seq.step))
  BitVec.ofNat 64 (b2n late + 2 * b2n hold)

/-- This device's payload, from its frozen records; the thresholds are those that it froze (log 144). -/
def ownTotals (s : State) : Totals :=
  let g := imageOf s
  { masterNextSeed := s.rng.nextSeed, flags := ownFlags s
    conv := sofList {} 0 ((List.range 4095).map (fun i =>
      if g.statMap.any (·.stat == i) then sget {} s.tele.frozenConv i else {}))
    vec := s.tele.frozenVec, prod := s.tele.frozenProd
    thresholds := s.tele.frozenCfg.1, nanLimit := s.tele.frozenCfg.2.1, silence := s.tele.frozenCfg.2.2
    norms := ownNorms s }

/-- Records of a table as bytes. -/
def tableBytes (t : Sparse Stat8) (ids : List Nat) : Bytes := ids.flatMap (fun i => statBytes (sget {} t i))

/-- STAT_IDs whose conversion records the payload carries, in order. -/
def statIds (g : Image) : List Nat := (List.range 4095).filter (fun i => g.statMap.any (·.stat == i))

/-- A payload as bytes (Table 10.4), the master's thresholds after it (Table 10.3; log 168). -/
def totalsBytes (g : Image) (t : Totals) : Bytes :=
  natLe 8 t.masterNextSeed.toNat ++ natLe 8 t.flags.toNat ++ tableBytes t.conv (statIds g) ++
    tableBytes t.vec (List.range 1024) ++
    (List.range g.layers.length).flatMap (fun i => (statBytes (sget {} t.prod i)).take 32) ++
    t.norms.flatMap (fun n => natLe 8 n.1.toNat ++ natLe 8 n.2.1.toNat ++ natLe 8 n.2.2.toNat) ++
    natLe 4 t.thresholds.toNat ++ natLe 4 t.nanLimit.toNat ++ natLe 4 t.silence.toNat

/-- Bytes of a payload with the thresholds. -/
def totalsLength (g : Image) : Nat := 16 + 64 * ((statIds g).length + 1024) + 32 * g.layers.length + 24 * g.watch.length + 12

/-- Counter j of the record at an offset of a payload. -/
def counterAt (bs : Bytes) (o j : Nat) : BitVec 64 := BitVec.ofNat 64 (leAt bs (o + 8 * j) 8)

/-- The record at an offset, with its first n counters. -/
def recordFrom (n : Nat) (bs : Bytes) (o : Nat) : Stat8 :=
  let c := fun j => if j < n then counterAt bs o j else 0
  { c0 := c 0, c1 := c 1, c2 := c 2, c3 := c 3, c4 := c 4, c5 := c 5, c6 := c 6, c7 := c 7 }

/-- A table read from an offset: one record of so many bytes for each key. -/
def tableFrom (n : Nat) (bs : Bytes) (o : Nat) (ids : List Nat) : Sparse Stat8 :=
  ((List.range ids.length).zip ids).foldl (fun t x => sput {} t x.2 (recordFrom n bs (o + 8 * n * x.1))) []

/-- The W48 node at an offset. -/
def nodeFrom (bs : Bytes) (o : Nat) : BitVec 48 := BitVec.ofNat 48 (leAt bs o 8)

/-- The payload that bytes spell. -/
def totalsFrom (g : Image) (bs : Bytes) : Totals :=
  let v := 16 + 64 * (statIds g).length
  let p := v + 65536
  let w := p + 32 * g.layers.length
  let h := w + 24 * g.watch.length
  { masterNextSeed := BitVec.ofNat 64 (leAt bs 0 8), flags := BitVec.ofNat 64 (leAt bs 8 8)
    conv := tableFrom 8 bs 16 (statIds g), vec := tableFrom 8 bs v (List.range 1024)
    prod := tableFrom 4 bs p (List.range g.layers.length)
    thresholds := BitVec.ofNat 32 (leAt bs h 4), nanLimit := BitVec.ofNat 32 (leAt bs (h + 4) 4)
    silence := BitVec.ofNat 32 (leAt bs (h + 8) 4)
    norms := (List.range g.watch.length).map (fun i =>
      (nodeFrom bs (w + 24 * i), nodeFrom bs (w + 24 * i + 8), nodeFrom bs (w + 24 * i + 16))) }

/-! Summing (Tables 10.3 and 10.4) -/

/-- The sum of two tables of records, each counter modulo 2^64. -/
def tableSum (a b : Sparse Stat8) : Sparse Stat8 := b.foldl (fun t x => smod {} t x.1 (statAdd x.2)) a

/-- The sum of two W48 nodes. -/
def nodeSum (a b : BitVec 48) : BitVec 48 :=
  BitVec.ofNat 48 (encodeF w48 (wadd (decodeF w48 a.toNat) (decodeF w48 b.toNat)))

/-- A device's part with a child's: flags by OR, counters by sums, nodes by W48 sums; the seed is the device's own. -/
def joinTotals (a b : Totals) : Totals :=
  { a with
    flags := a.flags ||| b.flags
    conv := tableSum a.conv b.conv, vec := tableSum a.vec b.vec, prod := tableSum a.prod b.prod
    norms := (a.norms.zip b.norms).map (fun x =>
      (nodeSum x.1.1 x.2.1, nodeSum x.1.2.1 x.2.2.1, nodeSum x.1.2.2 x.2.2.2)) }

/-- The device's payload with those of its children as far as their cells have brought them (spine OP 0x2, 0x3, 0x4). -/
def payloadSum (s : State) : Totals :=
  (childLinks s).foldl (fun t k => joinTotals t (totalsFrom (imageOf s) (sget [] s.tele.statIn k)))
    (s.tele.payload.getD (ownTotals s))

/-- The master's totals: the sums with its own thresholds as frozen at slot 64 (Table 10.3). -/
def withThresholds (s : State) (t : Totals) : Totals :=
  if isMaster s then { t with
    thresholds := s.tele.frozenCfg.1, nanLimit := s.tele.frozenCfg.2.1, silence := s.tele.frozenCfg.2.2 }
  else t

/-- The totals that the device holds: on the master the sums, elsewhere what its time parent has sent whole. -/
def heldTotals (s : State) : Option Totals :=
  if isMaster s then some (withThresholds s (payloadSum s))
  else
    match s.time.parent with
    | some k =>
      let bs := sget [] s.tele.statIn k
      if totalsLength (imageOf s) ≤ bs.length then some (totalsFrom (imageOf s) bs) else none
    | none => none

/-- The statistics slot's summing half, slots 64 to 575, runs. -/
def sumsNow (s : State) : Bool := currentKind s == 7 && s.seq.segFrame == 0 && decide (s.seq.slot < 576)

/-- What class-2 cells of link k carry: the sums toward the time parent, then the totals toward a child (Table 10.3). -/
def statStream (s : State) (k : Nat) : Option Bytes :=
  if currentKind s != 7 || s.seq.segFrame != 0 then none
  else if sumsNow s then (if s.time.parent = some k then some (totalsBytes (imageOf s) (payloadSum s)) else none)
  else if (linkOf s k).child then (heldTotals s).map (totalsBytes (imageOf s))
  else none

/-- Slot 64 of the first STATS frame: the records, the thresholds and the hold flag freeze, and the payload forms (R203; 13,
R271). A replay of STATS keeps the records of the first run (R205). -/
def freezeRecords (s : State) : State :=
  let t := s.tele
  let held := t.payload.isSome
  let s1 := { s with
    tele := { t with
      frozenConv := if held then t.frozenConv else t.conv, frozenVec := if held then t.frozenVec else t.vec
      frozenProd := if held then t.frozenProd else t.prod
      frozenCfg := if held then t.frozenCfg else (t.thresholds, t.nanLimit, t.silenceCfg)
      statIn := [], statOut := [] }
    seq := { s.seq with holdFrozen := s.dev.holdRequested } }
  { s1 with tele := { s1.tele with payload := some (ownTotals s1) }, fresh := s1.fresh + 1 }

end Sys2Proof.Machine
end

