-- ==== Sys2Proof/Machine/Cells.lean ====
section
/-! DEFINITION. Scheduled cells: the link slot tables, data cells, retries and relay (07, R150; 11, R224, R225, R231, R232,
R236), and the commit cells (09, R194, R195). -/

namespace Sys2Proof.Machine

/-! The entries in force (07, R150; 11, R229) -/

/-- The entries in force for a direction: its normal ones, or those of the one-link-down table (11, R229). -/
def directionEntries (s : State) (d : Nat) : List (BitVec 128) :=
  let m := sget 0xFF s.fabric.downTables d
  let t := if m = 0xFF then s.fabric.table else sget [] s.fabric.downEntries (8 * d + m)
  t.filter (fun e => dirOf (leLink e) == d)

/-- The entries in force. -/
def entriesNow (s : State) : List (BitVec 128) := (List.range 8).flatMap (directionEntries s)

/-- Link k carries scheduled data: width 4, up, not lost, not held by the host (11, R227). -/
def carriesData (s : State) (k : Nat) : Bool := isUp s k && (linkOf s k).data

/-! Sending -/

/-- Fabric time at which the slot in progress ends. -/
def slotEnd (s : State) : Nat := slotTime s (s.seq.slot + 1)

/-- Payload of cell i of a transmit entry: the share of its buffer; in the statistics class the next bytes of what the link
carries there (10, R203; log 168); in the norm class toward the time parent the step's seed stands in the first 8 bytes (05,
R98; log 169). -/
def entryBytes (s : State) (e : BitVec 128) (i : Nat) : Bytes :=
  let bs := mread s.fabric.buffers (bufferKey (leBuffer e) + 256 * i) 256
  if leClass e = 2 then
    match statStream s (leLink e) with
    | some st => slice st (sget 0 s.tele.statOut (leLink e) + 256 * i) 256
    | none => bs
  else if leClass e = 3 ∧ i = 0 ∧ s.time.parent = some (leLink e) then natLe 8 s.rng.stepSeed.toNat ++ bs.drop 8
  else bs

/-- The data cells of a transmit entry in this slot (11, R223). Commit-class entries carry the round's own cells (09,
R194). -/
def entryCells (s : State) (e : BitVec 128) : List Cell :=
  if leClass e = 4 then []
  else (List.range (leCells e)).map (fun i => dataCell 1 (leClass e) s.seq.frame s.seq.slot i s.fabric.epoch.toNat (entryBytes s e i))

/-- A relayed cell waits on its output link for this slot, in this buffer (11, R231). -/
def waitsHere (s : State) (e : BitVec 128) (x : Nat × Cell) : Bool :=
  x.1 == leBuffer e && cellFrame x.2 == s.seq.frame % 2 ^ 16 && cellSlot x.2 == s.seq.slot

/-- The cells of a transmit entry in this slot: data cells, or, in the relay class, the cells handed over (R231). -/
def cellsToSend (s : State) (e : BitVec 128) : List Cell :=
  if leClass e = 1 then ((linkOf s (leLink e)).pendRelay.filter (waitsHere s e)).map (·.2) else entryCells s e

/-- The bytes of the statistics slot that an entry's cells have taken. -/
def countStat (s : State) (e : BitVec 128) : State :=
  if leClass e = 2 ∧ (statStream s (leLink e)).isSome then
    { s with tele := { s.tele with statOut := smod 0 s.tele.statOut (leLink e) (· + 256 * leCells e) } }
  else s

/-- Transmit one entry, in the slot's free positions (07, R136). Copies of DEADLINE = 1 cells are kept (R232). -/
def transmitEntry (s : State) (e : BitVec 128) : State :=
  let k := leLink e
  if carriesData s k then
    let cs := cellsToSend s e
    modLink (countStat s e) k (fun l => placeCells (slotTime s s.seq.slot) (slotEnd s) cs { l with
      kept := if leDeadline e then l.kept ++ cs else l.kept
      pendRelay := if leClass e = 1 then l.pendRelay.filter (fun x => !waitsHere s e x) else l.pendRelay })
  else s

/-- A receive entry expects its cells: those of DEADLINE = 1 by the end of the make-up window, the others 64 ns after the
slot (07, R138, R402; 11, R232). -/
def expectEntry (s : State) (e : BitVec 128) : State :=
  let cs := (List.range (leCells e)).map (fun i => (s.seq.slot, i))
  modLink s (leLink e) (fun l =>
    if leDeadline e then { l with missing := l.missing ++ cs } else { l with awaited := l.awaited ++ cs })

/-- The cells of a slot: transmit entries send, receive entries expect. Only slots 0 to 4,031 carry data cells (07, R150),
and a skipped update runs none (08, R170). -/
def slotCells (s : State) : State :=
  if 4031 < s.seq.slot ∨ updateSkips s then s
  else
    let es := (entriesNow s).filter (fun e => leSlot e == variantSlot s)
    (es.filter leReceive).foldl expectEntry ((es.filter (fun e => !leReceive e)).foldl transmitEntry s)

/-- Cells of link k that are missing at their deadline (07, R138): of DEADLINE = 0 those of slots before n, of DEADLINE = 1
all of them once the make-up window has ended. -/
def missedCells (s : State) (k n : Nat) : Bool :=
  (linkOf s k).awaited.any (fun x => decide (x.1 < n)) || (decide (4064 ≤ n) && !(linkOf s k).missing.isEmpty)

/-- Missing cells of link k at their deadline are a slot miss, source 0x0203 with the link, once (R138, R402). -/
def missCells (n : Nat) (s : State) (k : Nat) : State :=
  if missedCells s k n then
    detect (modLink s k (fun l => { l with
      awaited := l.awaited.filter (fun x => !decide (x.1 < n))
      missing := if 4064 ≤ n then [] else l.missing
      events := l.events ||| 4 })) (occAt 0x0203 2 k)
  else s

/-- The deadlines that have passed when a slot begins: that of the slot before last, and at slot 4,065 that of the make-up
window. -/
def deadlines (s : State) : State := (List.range 64).foldl (missCells (s.seq.slot - 1)) s

/-- One retry request cell (R232). -/
def requestCell (l : List (Nat × Nat)) : Cell :=
  mkCell (4 * 2 ^ 92 + l.length * 2 ^ 82) (fill256 (l.flatMap (fun x => natBe 4 (x.1 * 2 ^ 20 + x.2 * 2 ^ 14))))

/-- Lists of up to 63 items. -/
def by63 : Nat → List (Nat × Nat) → List (List (Nat × Nat))
  | 0, _ => []
  | f + 1, l => if l.isEmpty then [] else l.take 63 :: by63 f (l.drop 63)

/-- One more slot on a link whose peer is banked: its cells come a slot after the one they name (R224). -/
def slotLag (s : State) (k : Nat) : Nat := b2n (linkOf s k).peerBanked

/-- Slot 4,033: the receiver asks for every DEADLINE = 1 cell that failed or is missing, by the slot that the cell names
(Table 11.8). -/
def sendRequests (s : State) (k : Nat) : State :=
  let m := by63 17 ((linkOf s k).missing.map (fun x => (x.1 - slotLag s k, x.2)))
  modLink s k (fun l => placeCells (slotTime s s.seq.slot) (slotEnd s) (m.map requestCell) { l with
    requested := satAdd l.requested (m.map (·.length)).sum })

/-- Slots 4,034 to 4,063: requested cells leave in request order, 52 a slot (Table 11.8). -/
def sendRetries (s : State) (k : Nat) : State :=
  modLink s k (fun l =>
    placeCells (slotTime s s.seq.slot) (slotEnd s) (l.pendData.take 52) { l with pendData := l.pendData.drop 52 })

/-- Slot 4,064: the copies are discarded (Table 11.8). -/
def dropCopies (s : State) (k : Nat) : State :=
  modLink s k (fun l => { l with kept := [], pendData := [] })

/-- The make-up window's work of a slot on every link that is up (R232). -/
def makeUp (s : State) : State :=
  if s.seq.slot = 4033 then (upLinks s).foldl sendRequests s
  else if 4034 ≤ s.seq.slot ∧ s.seq.slot ≤ 4063 then (upLinks s).foldl sendRetries s
  else if s.seq.slot = 4064 then (List.range 64).foldl dropCopies s
  else s

/-! Receiving -/

/-- Frames of the schedule from a cell's frame, low 16 bits, to this one. -/
def framesSince (s : State) (c : Cell) : Nat := (s.seq.frame + 2 ^ 16 - cellFrame c) % 2 ^ 16

/-- Slot of the variant in which a cell is received: the slot it names, or the one after it where the peer is banked
(11, R224). -/
def arrivalSlot (s : State) (k : Nat) (c : Cell) : Nat :=
  4096 * (s.seq.segFrame - framesSince s c) + cellSlot c + slotLag s k

/-- The receive entry that a cell matches (R224, R225); a skipped update runs no link cell (08, R170). -/
def matchEntry (s : State) (k : Nat) (c : Cell) : Option (BitVec 128) :=
  if framesSince s c ≤ s.seq.segFrame ∧ !updateSkips s then
    (directionEntries s (dirOf k)).find? (fun e =>
      leReceive e && leLink e == k && leSlot e == arrivalSlot s k c && decide (cellIndex c < leCells e))
  else none

/-- The device runs its schedule and its cells (R157). -/
def schedules (s : State) : Bool := s.dev.mode == .running && !s.seq.stopped

/-- A relay-class cell is handed to OUT_LINK for the slot after its receive entry's, with FRAME and SLOT rewritten and the
entry's BUFFER (R231). -/
def handOver (s : State) (e : BitVec 128) (c : Cell) : State :=
  let slot := leSlot e + 1
  let frame := s.seq.frame - s.seq.segFrame + slot / 4096
  modLink s (leOut e) (fun l => { l with
    pendRelay := l.pendRelay ++ [(leBuffer e, dataCell 1 (cellClass c) frame (slot % 4096) (cellIndex c) (cellEpoch c) c.payload)] })

/-- Cell (slot, index) of link k has arrived. -/
def arrived (s : State) (k slot index : Nat) : State :=
  modLink s k (fun l => { l with
    missing := l.missing.filter (fun x => x != (slot, index)), awaited := l.awaited.filter (fun x => x != (slot, index)) })

/-- What a class-2 cell brings of the statistics slot: the sums of a child, or the totals of the time parent (10, R203). -/
def takeStat (s : State) (k : Nat) (c : Cell) : State :=
  if currentKind s = 7 ∧ s.seq.segFrame = 0 then
    { s with tele := { s.tele with statIn := smod [] s.tele.statIn k (· ++ slice c.payload 0 256) } }
  else s

/-- A matched cell is no longer missing, and is written into its buffer share or handed over (R224, R231). -/
def acceptCell (s : State) (k : Nat) (e : BitVec 128) (c : Cell) : State :=
  let s1 := arrived s k (leSlot e % 4096) (cellIndex c)
  if leClass e = 1 then handOver s1 e c
  else
    let s2 := { s1 with fabric := { s1.fabric with
      buffers := mwrite s1.fabric.buffers (bufferKey (leBuffer e) + 256 * cellIndex c) (slice c.payload 0 256) } }
    if leClass e = 2 then takeStat s2 k c else s2

/-- RELAY byte of a link (11, R237): the image's, else the straight map. -/
def relayOf (s : State) (k : Nat) : Option Nat := sget (some (peerLinkOf k)) s.fabric.relay k

/-- The link and position in which a banked device forwards a cell of link k: the first free one within 256 ns (R236). -/
def relayPlace (s : State) (k : Nat) : Option (Nat × Nat) :=
  ((relayOf s k).filter (isUp s)).bind (fun o => (freePosition (linkOf s o) s.time.now (s.time.now + 257)).map (fun p => (o, p)))

/-- A banked device forwards a cell unchanged, or discards and counts it (11, R236). -/
def relayCell (s : State) (k : Nat) (c : Cell) : State :=
  match relayPlace s k with
  | some (o, p) => modLink s o (putCell p c)
  | none =>
    detect (modLink { s with fabric := { s.fabric with relayDrops := satInc s.fabric.relayDrops } } k
      (fun l => { l with events := l.events ||| 2 })) (occAt 0x0405 2 k)

/-- A data or retry cell of a TYPE arrives (R224, R225, R236): a broken one is discarded whole, relayed or not. -/
def arrive (s : State) (k : Nat) (c : Cell) : State :=
  if !cellOk c then badCell s k
  else if s.fabric.relaying then relayCell s k c
  else if !schedules s || BitVec.ofNat 8 (cellEpoch c) != s.fabric.epoch then badCell s k
  else
    match matchEntry s k c with
    | some e => acceptCell s k e c
    | none => badCell s k

/-- DATA_CELL (11, R224). -/
def execDataCell (k : Fin 64) (cell : Cell) (s : State) : Host.Outcome State Fault Refusal :=
  if linkTakes s k.val && cellType cell == 1 then .next (arrive s k.val cell) else .next s

/-- The retry carries a cell that this end still misses. -/
def isMissing (s : State) (k : Nat) (c : Cell) : Bool :=
  (linkOf s k).missing.contains (cellSlot c + slotLag s k, cellIndex c)

/-- RETRY (11, R232): a retry received intact is counted and taken as the cell it repeats. -/
def execRetryCell (k : Fin 64) (cell : Cell) (s : State) : Host.Outcome State Fault Refusal :=
  if !linkTakes s k.val || cellType cell != 5 then .next s
  else if !s.fabric.relaying && cellOk cell && isMissing s k.val cell then
    .next (arrive (modLink s k.val (fun l => { l with retried := satInc l.retried })) k.val cell)
  else .next (arrive s k.val cell)

/-- The entries of a retry request (R232). -/
def requestEntries (c : Cell) : List (Nat × Nat) :=
  (List.range (hdrF c 114 6)).map (fun i => (beAt c.payload (4 * i) 4 / 2 ^ 20, beAt c.payload (4 * i) 4 / 2 ^ 14 % 64))

/-- A kept cell as a retry cell: bit for bit apart from TYPE and CRC (R223). -/
def asRetry (c : Cell) : Cell := mkCell ((c.hdr.toNat / 2 ^ 32) % 2 ^ 92 + 5 * 2 ^ 92) c.payload

/-- RETRY_REQUEST (11, R232): the kept cells it names are sent again in the make-up window; others are ignored. A banked
device keeps no copies. -/
def execRetryRequest (k : Fin 64) (cell : Cell) (s : State) : Host.Outcome State Fault Refusal :=
  if !linkTakes s k.val || cellType cell != 4 then .next s
  else if !cellOk cell then .next (badCell s k.val)
  else if !schedules s then .next s
  else
    .next (modLink s k.val (fun l => { l with pendData := l.pendData ++ (requestEntries cell).filterMap (fun x =>
      (l.kept.find? (fun c => cellSlot c == x.1 && cellIndex c == x.2)).map asRetry) }))

/-- IDLE (11, R223): equaliser adaptation only; a broken one is a failed cell (R225). -/
def execIdleCell (k : Fin 64) (cell : Cell) (s : State) : Host.Outcome State Fault Refusal :=
  if linkTakes s k.val && !cellOk cell then .next (badCell s k.val) else .next s

/-! The commit round (09, R194, R195) -/

/-- A commit-class cell of step n and chunk k (log 50). -/
def commitCellOf (s : State) (n k count : Nat) : Cell :=
  dataCell 1 4 s.seq.frame s.seq.slot 0 s.fabric.epoch.toNat (natBe 8 n ++ natBe 4 k ++ natBe 4 count)

/-- Step, chunk and COUNT of a commit-class cell. -/
def commitFields (c : Cell) : Nat × Nat × Nat := (beAt c.payload 0 8, beAt c.payload 8 4, beAt c.payload 12 4)

/-- The chunk whose commit round runs in this frame: that of the UPDATE segment before (R194). -/
def roundChunk (s : State) : Option Nat :=
  if s.seq.segFrame = 0 ∧ 0 < s.seq.pos ∧ ((s.seq.segs.getD (s.seq.pos - 1) default).kind = 6) ∧ !s.train.skip then
    some (((s.seq.segs.take s.seq.pos).filter (·.kind == 6)).length - 1)
  else none

/-- COUNT that this device has for chunk k. -/
def countOf (s : State) (k : Nat) : Nat := 1 + sget 0 s.upd.childCount k

/-- This device's chunk k is in SENT: it takes part in the round (R194; log 69). -/
def isSent (s : State) (k : Nat) : Bool := sget .free s.upd.states k == .sent

/-- A commit-class cell leaves on a link in the slot's first free position. -/
def sendCommitOn (c : Cell) (s : State) (l : Nat) : State :=
  modLink s l (placeCells s.time.now (max (slotEnd s) (s.time.now + 257)) [c])

/-- The device sends its token at slot 31 - d, where its chunk is in SENT (R194). -/
def sendToken (s : State) (k : Nat) : State :=
  match s.time.parent with
  | some p => if isSent s k then sendCommitOn (commitCellOf s s.seq.step k (countOf s k)) s p else s
  | none => s

/-- The master compares COUNT with the number of devices in slot 31 (R195). -/
def compareCount (s : State) (k : Nat) : State :=
  if countOf s k = deviceCount s then s else detect { s with upd := { s.upd with countMismatch := true } } (occNone 0x020A)

/-- The master sends COMMIT in slot 32, recorded first (Table 9.8). -/
def sendCommit (s : State) (k : Nat) : State :=
  if countOf s k = deviceCount s then
    let s1 := commitChunk k { s with upd := { s.upd with frontier := k } }
    (childLinks s1).foldl (sendCommitOn (commitCellOf s s.seq.step k (countOf s k))) s1
  else s

/-- The commit round's work of a slot (Table 9.8). A device deeper than 31, or without a path, has no token slot
(R403). -/
def commitSlot (s : State) : State :=
  match roundChunk s with
  | some k =>
    if isMaster s then (if s.seq.slot = 31 then compareCount s k else if s.seq.slot = 32 then sendCommit s k else s)
    else if s.time.depth.any (fun d => decide (d ≤ 31) && s.seq.slot == 31 - d) then sendToken s k
    else s
  | none => s

/-- A commit-class cell that this device takes now: whole, of this epoch and step, in a running schedule (R225). -/
def takesCommit (s : State) (c : Cell) : Bool :=
  cellOk c && schedules s && BitVec.ofNat 8 (cellEpoch c) == s.fabric.epoch && (commitFields c).1 == s.seq.step &&
    decide ((commitFields c).2.1 < chunkCount (imageOf s))

/-- COMMIT_TOKEN (09, R194): a child's COUNT joins this device's. -/
def execCommitToken (k : Fin 64) (cell : Cell) (s : State) : Host.Outcome State Fault Refusal :=
  if !linkTakes s k.val || cellType cell != 1 then .next s
  else if !cellOk cell then .next (badCell s k.val)
  else if s.fabric.relaying then .next (relayCell s k.val cell)
  else if !takesCommit s cell then .next (badCell s k.val)
  else
    let f := commitFields cell
    let s1 := arrived s k.val (cellSlot cell + slotLag s k.val) (cellIndex cell)
    .next { s1 with upd := { s.upd with childCount := smod 0 s.upd.childCount f.2.1 (· + f.2.2) } }

/-- COMMIT (09, R195): the chunk becomes COMMITTED, and the cell goes on to this device's children (log 70). -/
def execCommitCell (k : Fin 64) (cell : Cell) (s : State) : Host.Outcome State Fault Refusal :=
  if !linkTakes s k.val || cellType cell != 1 then .next s
  else if !cellOk cell then .next (badCell s k.val)
  else if s.fabric.relaying then .next (relayCell s k.val cell)
  else if !takesCommit s cell then .next (badCell s k.val)
  else
    let f := commitFields cell
    let s1 := commitChunk f.2.1 (arrived s k.val (cellSlot cell + slotLag s k.val) (cellIndex cell))
    .next ((childLinks s1).foldl (sendCommitOn (commitCellOf s f.1 f.2.1 f.2.2)) s1)

end Sys2Proof.Machine
end

