-- ==== Sys2Proof/Machine/Schedule.lean ====
section
/-! DEFINITION. The schedule: rate, slot and frame boundaries, the advance from segment to segment and step to step,
the start of a job, and the flooding of control cells (07, R134 to R140, R153, R154; 08, R180; 10, R203; 11, R229, R234;
13, R269 to R271). -/

namespace Sys2Proof.Machine

/-! Rate requests (07, R139, R140) -/

/-- Requests combined: the largest downward one wins, up only when every one is up (R140). -/
def combineRequests (l : List (BitVec 4)) : BitVec 4 :=
  if l.contains 2 then 2 else if l.contains 1 then 1 else if l.all (· == 0xF) && !l.isEmpty then 0xF else 0

/-- The request of an evaluator: hold for 16 frames after a change of N. -/
def requestOf (s : State) (u : Nat) : BitVec 4 := if 0 < s.rate.holdFrames then 0 else sget 0 s.rate.requests u

/-- The latest requests received from the children. -/
def childRequests (s : State) : List (BitVec 4) := (childLinks s).filterMap (fun k => sget none s.rate.children k)

/-- This device's combined request (log 135). -/
def combinedRequest (s : State) : BitVec 4 := combineRequests ((List.range 9).map (requestOf s) ++ childRequests s)

/-- REQ_LOCAL follows the combination; a change is due on the time parent link (R140). -/
def refreshRequest (s : State) : State :=
  let c := combinedRequest s
  if c = s.rate.reqLocal then s else { s with rate := { s.rate with reqLocal := c, requestDue := !isMaster s } }

/-- N that a combined request and RATE_CAP give (R140). -/
def nextN (n cap : Nat) (req : BitVec 4) : Nat :=
  min (if req = 0xF then n + 1 else if req = 0 then n else max 8 (n - req.toNat)) cap

/-- The payload of RATE_ANNOUNCE (Table 11.5). -/
def ratePayload (n frame : Nat) : Bytes := [BitVec.ofNat 8 n, 0, 0, 0] ++ natBe 8 frame

/-- A banked or faulted master holds its N (14, R307). -/
def holdsN (s : State) : Bool := s.dev.mode == .banked || s.dev.mode == .faulted

/-- The master at the start of frame f: it combines, and announces the N of frame f + 1 (R140). -/
def announceRate (f : Nat) (s : State) : State :=
  if isMaster s then
    let req := combinedRequest s
    let n := if holdsN s then s.rate.n else nextN s.rate.n s.rate.cap req
    originate 2 (ratePayload n (f + 1)) { s with rate := { s.rate with reqFabric := req, announced := some (n, f + 1) } }
  else s

/-- An announced N takes effect at its frame; any change makes every evaluator hold for 16 frames (R139, R140). -/
def applyRate (f : Nat) (s : State) : State :=
  match s.rate.announced with
  | some (n, g) =>
    if g = f then
      (if n = s.rate.n then { s with rate := { s.rate with announced := none, holdFrames := s.rate.holdFrames - 1 } }
       else { s with rate := { s.rate with announced := none, n := n, changes := satInc s.rate.changes, holdFrames := 16 } })
    else { s with rate := { s.rate with holdFrames := s.rate.holdFrames - 1 } }
  | none => { s with rate := { s.rate with holdFrames := s.rate.holdFrames - 1 } }

/-! Staging in DRAM maintenance windows (07, R135; 12, R242) -/

/-- Write one waiting unit of a STAGE channel to its region. -/
def stageUnit (c : Channel) (r : Region) (s : State) (u : Nat) : State :=
  let n := if c.final.any (fun f => f.1 == u) then c.final.elim 1024 (·.2) else 1024
  let bs := mread (sget [] s.host.inbox c.id.toNat) (1024 * u) n
  { s with
    mem := regionWrite s r (c.offset + 1024 * u) bs
    host := { s.host with inbox := sput [] s.host.inbox c.id.toNat (mzero (sget [] s.host.inbox c.id.toNat) (1024 * u) 1024) } }

/-- Write every waiting unit whose 2 KiB burst is complete (16, R404); once the stream has arrived whole and stands in
DRAM, the channel closes (16, R343). -/
def flushStage (s : State) (c : Channel) : State :=
  match regionNo s c.region with
  | some r =>
    let us := c.waiting.filter (fun u => hasUnit c (u ^^^ 1))
    let s1 := modChannel (drainUnits (us.foldl (stageUnit c r) s) us.length) c.id
      (fun x => { x with waiting := x.waiting.filter (fun u => !us.contains u) })
    if allArrived c then closeChannel 0 0 s1 c else s1
  | none => s

/-- Every STAGE channel's waiting units. -/
def flushStages (s : State) : State := (s.host.channels.filter (·.kind == 2)).foldl flushStage s

/-- Host transfers may touch DRAM now (12, R242). -/
def hostMayWrite (s : State) : Bool := s.dev.mode != .running || decide (3520 ≤ s.seq.slot)

/-- Patrol scrub: one whole pass ends with each SCRUB_PERIOD (12, R249; log 51): every poisoned codeword of a region that
the image places is met by maintenance work (12, R248). -/
def patrolScrub (s : State) : State :=
  if s.mem.scrubbed + 1000000000 * s.mem.scrubPeriod.toNat ≤ s.time.now then
    let bad := if s.mem.poison.isEmpty then [] else (imageOf s).regions.flatMap (fun r => (regionPoison s r 0 (regionBytes r)).map (fun p => (r, p)))
    let s1 := bad.foldl (fun s (x : Region × Place) => stageRecord (noteLatent x.1.role s x.2) x.1) s
    { s1 with mem := { s1.mem with scrubbed := s.time.now } }
  else s

/-! Slot work -/

/-- What the statistics frame does at a slot (Table 10.3). -/
def statsSlot (s : State) : State :=
  if currentKind s = 7 ∧ s.seq.segFrame = 0 then
    (if s.seq.slot = 64 then freezeRecords s
     else if s.seq.slot = 1088 then { s with seq := { s.seq with statTime := s.time.now } }
     else s)
  else s

/-- The last line of a monitor response: OK with values, most significant byte first, or ERR with the refusal code (15,
R324). -/
def monLine (code : BitVec 16) (value : Bytes) : Tx :=
  if code = 0 then .uart "OK" value else .uart "ERR" (natBe 2 code.toNat)

/-- The bytes a PEEK may read: 16 to 2,048 within one burst of a region of the tier (15, R324). -/
def peekOk (r : Region) (tier offset len : Nat) : Bool :=
  r.tier == tier && decide (16 ≤ len) && decide (len ≤ 2048) && offset / 2048 == (offset + len - 1) / 2048 &&
    decide (offset + len ≤ regionBytes r)

/-- Code and bytes of a PEEK of a tier, region, offset and length: a poisoned codeword gives 0x0202 and stays as it is (15,
R325). -/
def peekRead (s : State) (x : Nat × Nat × Nat × Nat) : BitVec 16 × Bytes :=
  match regionNo s x.2.1 with
  | some r =>
    if peekOk r x.1 x.2.2.1 x.2.2.2 && (regionPoison s r x.2.2.1 x.2.2.2).isEmpty then (0, regionRead s r x.2.2.1 x.2.2.2)
    else (0x0202, [])
  | none => (0x0202, [])

/-- Answer the PEEK commands that wait (15, R325). -/
def servePeeks (s : State) : State :=
  s.port.peeks.foldl (fun s x => send { s with dev := { s.dev with lastCode := (peekRead s x).1 } } (monLine (peekRead s x).1 (peekRead s x).2))
    { s with port := { s.port with peeks := [] } }

/-- Maintenance work that begins with slot 3,520 (Table 7.5): scrub, then host transfers, then control accesses (12, R242). -/
def maintenance (s : State) : State :=
  let s1 := if s.seq.slot = 3520 then flushStages (patrolScrub s) else s
  if hostMayWrite s1 then servePeeks s1 else s1

/-- A chimney channel sends in the control maintenance window (16, R342). -/
def chimneyWindow (s : State) : State :=
  if s.seq.slot = 4064 then (channelKind s 4 true).elim s (fun c => pump s c.id) else s

/-- A lost link of a device whose training waits for the windows begins it with the control maintenance window (11, R226,
R228). -/
def beginTraining (s : State) : State :=
  if s.seq.slot = 4064 ∧ linksPowered s then
    { s with links := smap {} (fun (l : Link) => if l.state = 1 ∧ l.phase = 1 then { l with state := 2 } else l) s.links }
  else s

/-- A halt, an image stop or a banking is due at this slot boundary (07, R157). -/
def stopIsDue (s : State) : Bool :=
  s.dev.mode == .running && ((s.seq.halt.isSome && !s.seq.stopped) || s.seq.bankDue.isSome || s.seq.stopDue)

/-- The work of the slot that begins. -/
def slotWork (s0 : State) : State :=
  let s := if stopIsDue s0 then stopNow s0 else s0
  let s1 := beginTraining (chimneyWindow (maintenance { s with splitRows := [] }))
  if schedules s1 then makeUp (slotCells (commitSlot (statsSlot (deadlines s1)))) else s1

/-! Segments and steps -/

/-- The diagnostic HALT at the end of NORM, and, at the end of the replay's NORM, the digests compared (08, R180). -/
def normEnd (s : State) : State :=
  if s.seq.diagRun then
    let first := BitVec.ofNat 32 (s.train.digests.toNat / 2 ^ 32)
    let second := digestOf s
    let s1 := { s with
      seq := { s.seq with diagRun := false }
      train := { s.train with
        digests := first ++ second, diagStep := 0, diagMismatch := s.train.diagMismatch || first != second } }
    if first = second then s1 else detect s1 (occNone 0x020D)
  else if s.train.diagStep ≠ 0 ∧ s.train.completedStep + 1 = s.train.diagStep then
    raiseHalt ⟨firstFwd (imageOf s), s.seq.planEntry.toNat, 0, true⟩ s
  else s

/-- The chunk of the UPDATE segment that ends is ready for its token where it is open: it stands in SENT from here on (09,
R193, R194; log 69). -/
def endChunk (s : State) : State :=
  let k := ((s.seq.segs.take s.seq.pos).filter (·.kind == 6)).length
  if sget .free s.upd.states k = .opened then { s with upd := setChunk s.upd k .sent } else s

/-- What the end of a segment of a KIND does. -/
def endSeg (s : State) : State :=
  if currentKind s = 5 then normEnd s
  else if currentKind s = 6 then endChunk s
  else if currentKind s = 7 then endStats s
  else s

/-- The end of a step and of the EVAL entries due after it: HELD for a reason, or the next step (13, R271). -/
def endStep (s : State) : State :=
  if s.seq.holdReason = 0 then beginStep s (s.seq.step + 1) else enterHeld s s.seq.holdReason

/-- One frame on in the segment list. -/
def advance (s : State) : State :=
  if s.seq.segFrame + 1 < (currentSeg s).frames then { s with seq := { s.seq with segFrame := s.seq.segFrame + 1 } }
  else
    let s1 := endSeg s
    if s.seq.pos + 1 < s.seq.segs.length then enterSeg s1 (s.seq.pos + 1) else endStep s1

/-- One-link-down tables due at frame f (11, R229). -/
def applyDown (f : Nat) (s : State) : State :=
  let due := s.fabric.downPending.filter (fun x => decide (x.2.2 ≤ f))
  { s with fabric := { s.fabric with
    downTables := due.foldl putDown s.fabric.downTables
    downPending := s.fabric.downPending.filter (fun x => !decide (x.2.2 ≤ f)) } }

/-- What the sequencer does at the frame that begins: an announced replay start, a stop, or the advance. -/
def frameSequence (s : State) : State :=
  match s.seq.replay.filter (fun r => decide (r.frame ≤ s.seq.frame)) with
  | some r => if takesPart s then replayArrives s r else s
  | none => if schedules s && !stopIsDue s then advance s else s

/-- The next frame and its slot 0 (R134, Table 7.23). -/
def nextFrame (s : State) : State :=
  let f := s.seq.frame + 1
  let start := s.seq.frameStart + frameNs s
  let s1 := { s with
    time := { s.time with now := clock64 (max s.time.now start) }
    seq := { s.seq with frame := f, slot := 0, frameStart := start, haltFresh := false }
    fabric := { s.fabric with relaying := s.fabric.relaying || s.dev.mode == .banked } }
  let s2 := refreshRequest (announceRate f (applyRate f s1))
  let s3 := { s2 with rate := { s2.rate with requestDue := !isMaster s2 } }
  slotWork (frameSequence (applyDown f s3))

/-- A mismatch of the spine dies' lockstep, whose copies compare in every slot while they are powered (01, R12; Table 14.1;
log 52). -/
def lockstep (ok : Bool) (s : State) : State := if !ok && isPowered s then detect s (occAt 0x0206 8 0) else s

/-- A slot at which the model has work: the commit round, the statistics slot, the maintenance windows, the make-up
window, or a cell of a link table or its deadline. -/
def busySlot (s : State) (k : Nat) : Bool :=
  let here := fun (e : BitVec 128) => leSlot e == 4096 * s.seq.segFrame + k || leSlot e + 2 == 4096 * s.seq.segFrame + k
  k ≤ 64 || k == 1088 || k == 3520 || (4033 ≤ k && k ≤ 4065) || s.fabric.table.any here ||
    s.fabric.downEntries.any (fun x => x.2.any here)

/-- Slot k of the frame in progress begins. -/
def runSlot (s : State) (k : Nat) : State :=
  slotWork { s with seq := { s.seq with slot := k }, time := { s.time with now := clock64 (max s.time.now (slotTime s k)) } }

/-- The slots of the frame in progress that are still to come run: the next one, at which a halt stops, and every one with
work. -/
def restOfFrame (s : State) : State :=
  ((List.range 4096).filter (fun k => decide (s.seq.slot < k) && (k == s.seq.slot + 1 || busySlot s k))).foldl runSlot s

/-- SLOT_BOUNDARY (R134): the next slot of the frame grid; without one, the next multiple of 256 ns (14, R304). -/
def execSlotBoundary (lockstepOk : Bool) (s : State) : Host.Outcome State Fault Refusal :=
  let s1 := lockstep lockstepOk s
  if !s.seq.grid then .next (servePeeks { s1 with time := { s1.time with now := clock64 ((s.time.now / 256 + 1) * 256) } })
  else if s.seq.slot < 4095 then
    .next (runSlot s1 (s.seq.slot + 1))
  else .next (nextFrame s1)

/-- FRAME_BOUNDARY (R134): the rest of the frame runs and the next frame of the grid begins; without a grid no frame
begins. -/
def execFrameBoundary (s : State) : Host.Outcome State Fault Refusal :=
  if s.seq.grid then .next (nextFrame (restOfFrame s)) else .next s

/-- The schedule gives hearth h work: it is mapped and not fenced (01, R14). -/
def isScheduled (s : State) (h : Nat) : Bool := isMapped s h && !isFenced s h

/-- SLOT_MISS (07, R138): the late unit's slot miss, while the schedule runs. A hearth or flue that the schedule gives no work
has none to be late with; a link misses where cells that it expects have passed their deadline in the slot in progress. -/
def execSlotMiss (m : MissUnit) (s : State) : Host.Outcome State Fault Refusal :=
  if !schedules s then .next s
  else
    match m with
    | .hearth h => .next (if isScheduled s h.val then detect s (occAt 0x0201 1 h.val) else s)
    | .flue h => .next (if isScheduled s h.val then detect s (occAt 0x0202 1 h.val) else s)
    | .cell k => .next (missCells s.seq.slot s k.val)
    | .spine d => .next (detect s (occAt 0x0204 8 d.val))

/-! The start of a job (13, R269, R270) -/

/-- Every RETAINED region of the loaded image has an INTACT record (12, R261). -/
def retainedIntact (s : State) : Bool :=
  ((imageOf s).regions.filter (·.role == 7)).all (fun r => (recordOf s r).any (fun n => (retainedOf s n).state == 3))

/-- The conditions of ARM other than START_TIME (R269; 14, R292). -/
def armReady (s : State) : Bool :=
  s.time.lock == 2 && !s.upd.depthExceeded && retainedIntact s && !s.ctx.inProgress &&
    (!s.ctx.restoreTried || s.ctx.result == 1) &&
    decide (s.train.completedStep.toNat + 1 ≤ s.train.stagedStep.toNat) && !s.faults.imageStopped

/-- START_TIME is known and at least 1 ms ahead (R269). -/
def startAhead (s : State) : Bool := s.time.startKnown && decide (s.time.now + 1000000 ≤ s.time.startTime.toNat)

/-- START_TIME_REACHED (R270): ARMED devices enter RUNNING and frame 0 begins; a device still LOADED has missed it. A banked or
faulted device that knows START_TIME computes the boundaries with the others, and a master announces its N (07, R134; 14,
R307). The steps are numbered from 1: no command or plan entry runs an initialisation segment, and step 0 is left out (05,
R96; log 162). -/
def execStartTimeReached (s : State) : Host.Outcome State Fault Refusal :=
  let at0 := { s with
    time := { s.time with now := clock64 (max s.time.now s.time.startTime.toNat) }
    seq := { s.seq with grid := true, frame := 0, slot := 0, frameStart := s.time.startTime.toNat } }
  if (s.dev.mode == .banked || s.dev.mode == .faulted) && s.time.startKnown && !s.seq.grid then .next (announceRate 0 at0)
  else if !s.time.startKnown || s.image.loaded.isNone || s.dev.activity == 4 then .next s
  else if s.dev.mode = .armed then
    .next (slotWork (beginStep (announceRate 0 (pushStart { at0 with dev := { at0.dev with mode := .running } }))
      (s.train.completedStep.toNat + 1)))
  else if s.dev.mode = .loaded then .next { at0 with dev := { at0.dev with startMissed := true, armPending := false } }
  else .next s

/-! Flooded control cells (11, R234) -/

/-- A flooded cell is new: by its SEQ against the highest one and those recorded below it. -/
def isNewSeq (f : Fabric) (q : BitVec 16) : Bool :=
  match f.seqHigh with
  | none => true
  | some h =>
    let up := (q - h).toNat
    (decide (1 ≤ up) && decide (up ≤ 32767)) || (decide ((h - q).toNat ≤ 255) && !f.seqSeen.contains q)

/-- SEQ recorded; the record moves with the highest. -/
def recordSeq (f : Fabric) (q : BitVec 16) : Fabric :=
  let h := match f.seqHigh with
    | none => q
    | some h => if decide (1 ≤ (q - h).toNat) && decide ((q - h).toNat ≤ 32767) then q else h
  { f with seqHigh := some h, seqSeen := (q :: f.seqSeen).filter (fun x => decide ((h - x).toNat ≤ 255)) }

/-- A master-originated control cell of a CODE arrives on link k: where it is new it is forwarded on every other up link
(R234), and then f acts on it. A broken cell is lost (R225). -/
def flooded (s : State) (k code : Nat) (c : Cell) (f : State → State) : State :=
  if !linkTakes s k || cellType c != 3 || ctlCode c != code then s
  else if !cellOk c then badCell s k
  else if isMaster s || !isNewSeq s.fabric (ctlSeq c) then s
  else f (floodBut (some k) c { s with fabric := recordSeq s.fabric (ctlSeq c) })

/-- RATE_ANNOUNCE (07, R139): the N of a later frame is kept; one that differs for a frame that has begun is a rate
mismatch. -/
def execRateAnnounce (k : Fin 64) (cell : Cell) (s : State) : Host.Outcome State Fault Refusal :=
  .next (flooded s k.val 2 cell (fun s =>
    let n := beAt cell.payload 0 1
    let f := beAt cell.payload 4 8
    if s.seq.grid && decide (f ≤ s.seq.frame) then
      (if n = s.rate.n then s else detect s (occNone 0x0208))
    else { s with rate := { s.rate with announced := some (n, f) } }))

/-- START_TIME (07, R134; 13, R269): known from now on; it completes or ends a pending ARM. -/
def execStartTimeCell (k : Fin 64) (cell : Cell) (s : State) : Host.Outcome State Fault Refusal :=
  .next (flooded s k.val 3 cell (fun s =>
    let s1 := { s with time := { s.time with startTime := BitVec.ofNat 64 (beAt cell.payload 0 8), startKnown := true } }
    if s1.dev.armPending then
      { s1 with dev := { s1.dev with
          armPending := false
          mode := if s1.dev.mode == .loaded && armReady s1 && startAhead s1 then .armed else s1.dev.mode } }
    else s1))

/-- REPLAY_START (09, R196; 11, R233, R234). -/
def execReplayStart (k : Fin 64) (cell : Cell) (s : State) : Host.Outcome State Fault Refusal :=
  let p := cell.payload
  .next (flooded s k.val 4 cell (takeReplay
    ⟨beAt p 0 8, beAt p 8 4 % 2 ^ 20, (BitVec.ofNat 32 (beAt p 12 4)).toInt, BitVec.ofNat 8 (beAt p 16 1)⟩))

/-- RATE_REQUEST (07, R140): a child's combined request. -/
def execRateRequest (k : Fin 64) (cell : Cell) (s : State) : Host.Outcome State Fault Refusal :=
  if !linkTakes s k.val || cellType cell != 3 || ctlCode cell != 1 then .next s
  else if !cellOk cell then .next (badCell s k.val)
  else
    .next (refreshRequest { s with rate := { s.rate with
      children := sput none s.rate.children k.val (some (BitVec.ofNat 4 (beAt cell.payload 0 1))) } })

/-! HALT positions (07, R136) -/

/-- What HALT position p of link k carries: a HALT cell; the device's rate request where it is due, which goes in the first
HALT position (R140); another control cell; or idle. -/
def positionCell (p : Nat) (s : State) (k : Nat) : State :=
  match (linkOf s k).pendHalt with
  | h :: t => modLink s k (fun l => putCell p h { l with pendHalt := t })
  | [] =>
    if s.rate.requestDue && s.time.parent == some k then
      modLink { s with rate := { s.rate with requestDue := false } } k
        (putCell p (mkControl 1 0 [BitVec.ofNat 8 (combinedRequest s).toNat]))
    else
      match (linkOf s k).pendControl with
      | c :: t => modLink s k (fun l => putCell p c { l with pendControl := t })
      | [] => modLink s k (putCell p mkIdle)

/-- Position p of link k begins now or is still to come, and carries nothing yet. -/
def positionOpen (s : State) (k p : Nat) : Bool :=
  decide (7 * s.time.now < 32 * (p + 1)) && !(linkOf s k).sent.any (fun x => x.1 == p)

/-- HALT_POSITION (R136): a position whose number is a multiple of 16 begins, at 32 / 7 ns times its number of fabric time. A
replay start that the master owes is announced at its first one (Table 7.23). A position that has passed, or that a
forwarded HALT has taken, carries nothing more. -/
def execHaltPosition (k : Fin 64) (pos : Nat) (s : State) : Host.Outcome State Fault Refusal :=
  if pos % 16 ≠ 0 ∨ !linkTakes s k.val ∨ !positionOpen s k.val pos then .next s
  else
    let s1 := { s with time := { s.time with now := clock64 (max s.time.now (32 * pos / 7)) } }
    .next (positionCell pos (if announceReady s1 then announceNow s1 else s1) k.val)

/-- A force is due at this slot boundary (14, R304). -/
def forceDue (s : State) (x : Nat × Source) : Bool := x.2.force.any (fun f => !s.seq.grid || decide (f.1.toNat ≤ s.time.now))

/-- FORCED_OCCURRENCE (14, R304): the first source whose force is due is classified, counted, logged and reacted to as a
detected one; nothing stored is altered. Without a frame grid the boundary is a multiple of 256 ns (log 97). -/
def execForcedOccurrence (s : State) : Host.Outcome State Fault Refusal :=
  if s.dev.mode = .off || s.dev.mode = .boot then .next s
  else
    match s.faults.sources.find? (forceDue s) with
    | some (code, x) =>
      let due := max s.time.now (x.force.elim 0 (·.1.toNat))
      let now := if s.seq.grid then s.time.now else clock64 ((due + 255) / 256 * 256)
      let s1 := modSource { s with time := { s.time with now := now } } code (fun y => { y with force := none })
      match (sourceInfo code).bind (fun i => forceOcc i (x.force.elim 0 (·.2.toNat))) with
      | some o => .next (collect s1 (detectedNow s1 o true) false)
      | none => .next s1
    | none => .next s

end Sys2Proof.Machine
end

