-- ==== Sys2Proof/Machine/Fallback.lean ====
section
/-! DEFINITION. The decisions of a step: the clip factor in the norm slot, the next seed, and the statistics slot's levels,
storm, silence, hold and next segment list (05, R97, R98; 08, R170, R175; 09, R184; 10, R200 to R210; 13, R271). -/

namespace Sys2Proof.Machine

/-! The norm slot (08, R169, R170; 09, R184; 05, R98) -/

/-- A W48 value that cannot be normalised: NaN or an infinity (R170). -/
def isBroken (q : BitVec 48) : Bool := !visFin (ofW48c q.toNat).1

/-- The clip factor c of a norm n (R170). -/
def clipOf (n maxNorm : BitVec 32) : BitVec 32 :=
  if vle (ofF32 n.toNat) (ofF32 maxNorm.toNat) then 0x3F800000 else BitVec.ofNat 32 (fdivc maxNorm.toNat n.toNat)

/-- The hyperparameter sets differ somewhere: the update is skipped and the job is held after STATS (09, R184). -/
def setsDiffer (s : State) (r : NormReport) : Bool := r.othersDiffer || setsCrc s.train.frozen != r.masterCrc

/-- What differing sets do. -/
def noteSets (s : State) (r : NormReport) : State :=
  if setsDiffer s r then
    detect { s with upd := { s.upd with setMismatch := true }, train := { s.train with setHold := true } } (occNone 0x0604)
  else s

/-- The seed of the step against the master's (05, R98). -/
def noteSeed (s : State) (r : NormReport) : State :=
  let mine := s.rng.stepSeed != r.masterSeed
  let s1 := if mine || r.othersSeedDiffer then { s with rng := { s.rng with mismatch := true, recompute := true } } else s
  if mine then detect s1 (occNone 0x0209) else s1

/-- Q arrives on a device that runs NORM (R170). -/
def takeNorm (q : BitVec 48) (r : NormReport) (s : State) : State :=
  let n := sqrtW48 q
  let skip := isBroken q || n == 0x7FC00000 || n == 0x7F800000 || setsDiffer s r
  let s1 := { s with train := { s.train with
    normSq := q, skip := skip, updateSkipped := s.train.updateSkipped || skip
    clip := if skip then 0x7FC00000 else clipOf n s.train.maxNorm } }
  noteSeed (noteSets s1 r) r

/-- Q of the step: on a device that is the whole fabric the root of its own nodes, where they give it, else what arrives
(R169). -/
def normOf (q : BitVec 48) (s : State) : BitVec 48 := if isWholeFabric s then (ownNorm s).getD q else q

/-- CLIP_FACTOR (08, R170): outside NORM nothing receives Q. -/
def execClipFactor (q : BitVec 48) (r : NormReport) (s : State) : Host.Outcome State Fault Refusal :=
  if schedules s && currentKind s == 5 then .next (takeNorm (normOf q s) r s) else .next s

/-- NEXT_SEED_DELIVERY (05, R97): the management processor delivers the seed of the next step while one runs. -/
def execNextSeedDelivery (s : State) : Host.Outcome State Fault Refusal :=
  if s.dev.mode = .running ∧ s.seq.step ≠ 0 ∧ mgmtRuns s then
    .next { s with rng := { s.rng with nextSeed := seedOf s.rng.jobSeed (s.seq.step + 1) } }
  else .next s

/-! The statistics slot (10, R203 to R210) -/

/-- ENABLE of the thresholds (Table 10.9). -/
def fbEnable (t : Totals) : Bool := t.thresholds.getLsbD 31
/-- LOWER_AFTER. -/
def lowerAfter (t : Totals) : Nat := bits t.thresholds.toNat 8 8
/-- SILENCE_ALARM (Table 10.10). -/
def alarmAt (t : Totals) : Nat := bits t.silence.toNat 16 16

/-- The totals of the records of a layer with some KINDs, summed exactly: ELEMENTS, FLUSHED, SATURATED, NAN. Records of LAYER
0xFFF are of no layer (R199, R206). -/
def sideSum (g : Image) (t : Totals) (l : Nat) (kinds : List Nat) : Nat × Nat × Nat × Nat :=
  let rs := (g.statMap.filter (fun m => m.layer == l && m.layer != 0xFFF && kinds.contains m.kind)).map (fun m => sget {} t.conv m.stat)
  let total := fun (f : Stat8 → BitVec 64) => (rs.map (fun x => (f x).toNat)).sum
  (total (·.c0), total (·.c2), total (·.c4), total (·.c6))

/-- A side breaches (R206). -/
def sideBreach (t : Totals) (x : Nat × Nat × Nat × Nat) : Bool :=
  decide (x.1 < x.2.2.1 * 2 ^ bits t.thresholds.toNat 24 5) || decide (x.1 < x.2.1 * 2 ^ bits t.thresholds.toNat 16 5) ||
    decide (t.nanLimit.toNat < x.2.2.2)

/-- A layer breaches: its forward side, KIND 1 and 2, or its gradient side, KIND 3 and 4 (R199, R206). -/
def layerBreach (g : Image) (t : Totals) (l : Nat) : Bool :=
  sideBreach t (sideSum g t l [1, 2]) || sideBreach t (sideSum g t l [3, 4])

/-- Level byte and clean run of a layer after a decision (R207, Table 10.5). -/
def nextLevel (t : Totals) (y : Layer) (breach : Bool) (v : Level) (run : BitVec 8) : Level × BitVec 8 :=
  let plain : Level := { level := v.level }
  if !fbEnable t then (plain, if breach then 0 else satInc run)
  else if breach then
    (if v.level.toNat < y.ceil then ({ level := v.level + 1, rose := true }, 0) else ({ level := v.level, pinned := true }, 0))
  else if lowerAfter t ≤ run.toNat + 1 ∧ y.floor < v.level.toNat then ({ level := v.level - 1, fell := true }, 0)
  else (plain, satInc run)

/-- Every layer's level byte and clean run for the next step. -/
def nextLevels (s : State) (g : Image) (t : Totals) : List (Level × BitVec 8) :=
  (List.range g.layers.length).map (fun l =>
    nextLevel t (g.layers.getD l default) (layerBreach g t l) (sget {} s.tele.levels l) (sget 0 s.tele.cleanRuns l))

/-- The step is silent for a record (R210). -/
def isSilent (t : Totals) (x : Stat8) : Bool :=
  decide (0 < x.c0.toNat) &&
    decide ((x.c0.toNat - x.c1.toNat - x.c6.toNat) * 2 ^ bits t.silence.toNat 0 5 < x.c0.toNat)

/-- The silence count of a record after a step (R210). -/
def nextSilence (t : Totals) (x : Stat8) (count : BitVec 32) : BitVec 32 :=
  if x.c0 = 0 then count else if isSilent t x then satInc count else 0

/-- The records that the watchdog tracks. -/
def silenceIdsOf (g : Image) : List Nat := (g.statMap.filter (·.silence)).map (·.stat)

/-- The silence counts of every record after the step. -/
def nextSilences (s : State) (g : Image) (t : Totals) : Sparse (BitVec 32) :=
  (silenceIdsOf g).foldl (fun c i => sput 0 c i (nextSilence t (sget {} t.conv i) (sget 0 c i))) s.tele.silence

/-- The STAT_IDs whose count becomes equal to SILENCE_ALARM in this step. -/
def alarmIds (s : State) (g : Image) (t : Totals) : List Nat :=
  (silenceIdsOf g).filter (fun i =>
    let old := sget 0 s.tele.silence i
    let new := nextSilence t (sget {} t.conv i) old
    alarmAt t != 0 && new != old && new.toNat == alarmAt t)

/-- The decision of the statistics slot of step n, and the next step's segment list (R205 to R210; 07, R153). -/
def decideStep (s : State) (t : Totals) : State :=
  let g := imageOf s
  let ls := nextLevels s g t
  let lev := sofList {} 0 (ls.map (·.1))
  let runs := sofList 0 0 (ls.map (·.2))
  let risen := (ls.filter (·.1.rose)).length
  let segs := assemble g (levelFn lev) (recomputeSet g (levelFn lev) false) (s.seq.step + 1)
  let len := stepLength segs
  { s with
    seq := { s.seq with next := segs, nextFrames := BitVec.ofNat 32 len }
    tele := { s.tele with
      totals := some t
      decision := some {
        step := BitVec.ofNat 64 s.seq.step, levels := lev, cleanRuns := runs, silence := nextSilences s g t
        risen := risen, fallen := (ls.filter (·.1.fell)).length, pinnedAny := ls.any (·.1.pinned)
        silenceIds := alarmIds s g t, stormHit := fbEnable t && decide (g.layers.length < 2 * risen)
        growth := (len : Int) - (s.seq.stepFrames.toNat : Int) } } }

/-- HELD_REASON of the totals: the lowest of the reasons that hold (13, R271; 08, R175; 09, R184). -/
def holdReasonOf (s : State) (t : Totals) : BitVec 4 :=
  if t.flags.getLsbD 1 then 1 else if t.flags.getLsbD 0 then 2 else if s.train.setHold then 4 else 0

/-- What the combined flags and the master's seed for the next step do (05, R98; 08, R175; 13, R271). -/
def takeFlags (s : State) (t : Totals) : State :=
  let s1 := { s with
    seq := { s.seq with holdReason := holdReasonOf s t }
    train := { s.train with batchLate := s.train.batchLate || t.flags.getLsbD 0 } }
  if s.rng.nextSeed = t.masterNextSeed then s1
  else detect { s1 with rng := { s1.rng with mismatch := true, recompute := true } } (occNone 0x0209)

/-- Slots 64 and 1,088 of the statistics frame have begun. -/
def slotPassed (s : State) : State :=
  let s1 := if s.seq.slot < 64 then freezeRecords s else s
  if s1.seq.slot < 1088 then { s1 with seq := { s1.seq with statTime := max s1.time.now (slotTime s1 1088) } } else s1

/-- Totals reported to the device as it takes them: they hold its own flags (08, R175), four counters of a layer's products
(R200) and the nodes of the watch list, and on the master its own thresholds. -/
def reportedTotals (s : State) (t : Totals) : Totals :=
  withThresholds s { t with
    flags := t.flags ||| ownFlags s
    prod := smap {} (fun (x : Stat8) => { x with c4 := 0, c5 := 0, c6 := 0, c7 := 0 }) t.prod
    norms := t.norms.take (imageOf s).watch.length }

/-- The totals that the decision uses: those reported, else those that the cells have brought (R203). -/
def totalsNow (t : Option Totals) (s : State) : Option Totals := (t.map (reportedTotals s)).orElse (fun _ => heldTotals s)

/-- FALLBACK_DECISION (10, R206): in the first frame of STATS, once the device holds the totals. -/
def execFallbackDecision (t : Option Totals) (s : State) : Host.Outcome State Fault Refusal :=
  if schedules s && currentKind s == 7 && s.seq.segFrame == 0 && s.tele.decision.isNone then
    let s1 := slotPassed s
    match totalsNow t s1 with
    | some tot => .next (decideStep (takeFlags s1 tot) tot)
    | none => .next s1
  else .next s

end Sys2Proof.Machine
end

