-- ==== Sys2Proof/Machine/Frames.lean ====
section
/-! DEFINITION. The frames of a link period: markers, the Reed-Solomon code, the dealing over the lanes, scrambling and PAM4
levels (11, R219 to R222). -/

namespace Sys2Proof.Machine

/-! The code RS(136,128) over GF(2^10) (R222) -/

/-- x times a field element, modulo x^10 + x^3 + 1. -/
def symDouble (a : Nat) : Nat := if 512 ≤ a then (2 * a) ^^^ 0x409 else 2 * a

/-- Product of two field elements, over the bits of the second from the top: n bits are left. -/
def symMulAux (a b : Nat) : Nat → Nat → Nat
  | 0, acc => acc
  | n + 1, acc => symMulAux a b n (symDouble acc ^^^ (if b.testBit n then a else 0))

/-- Product of two field elements. -/
def symMul (a b : Nat) : Nat := symMulAux a b 10 0

/-- The power α^i. -/
def symPow : Nat → Nat
  | 0 => 1
  | i + 1 => symDouble (symPow i)

/-- A polynomial, highest coefficient first, times x - r. -/
def polyStep (p : List Nat) (r : Nat) : List Nat := ((p ++ [0]).zip (0 :: p)).map (fun (x : Nat × Nat) => x.1 ^^^ symMul r x.2)

/-- The generator polynomial without its leading 1: g(x) is the product of x - α^i for i from 0 to 7. -/
def rsGenerator : List Nat := (((List.range 8).map symPow).foldl polyStep [1]).drop 1

/-- One message symbol into the eight parity symbols. -/
def rsStep (g r : List Nat) (m : Nat) : List Nat :=
  let f := m ^^^ r.headD 0
  ((r.drop 1 ++ [0]).zip g).map (fun (x : Nat × Nat) => x.1 ^^^ symMul f x.2)

/-- Parity symbols of a message. -/
def rsParity (msg : List Nat) : List Nat := msg.foldl (rsStep rsGenerator) (List.replicate 8 0)

/-- A codeword: the message and its parity. -/
def rsEncode (msg : List Nat) : List Nat := msg ++ rsParity msg

/-! A period (R220) -/

/-- The n low bits of a number, first bit on top. -/
def bitsOf (n x : Nat) : List Bool := (List.range n).map (fun i => x.testBit (n - 1 - i))

/-- Bits cut into numbers of n bits; the fuel bounds how many. -/
def groupBits (n : Nat) : Nat → List Bool → List Nat
  | 0, _ => []
  | f + 1, l => if l.isEmpty then [] else (l.take n).foldl (fun a b => 2 * a + b2n b) 0 :: groupBits n f (l.drop n)

/-- The codewords of payload bytes: 128 message symbols each. -/
def codewordsOf (payload : Bytes) : List (List Nat) :=
  let symbols := groupBits 10 (payload.length * 8) (payload.flatMap (fun b => bitsOf 8 b.toNat))
  (List.range (symbols.length / 128)).map (fun i => rsEncode ((symbols.drop (128 * i)).take 128))

/-- Wire bytes of a cell frame. -/
def frameBytes (c : Cell) : Bytes := natBe 16 c.hdr.toNat ++ slice c.payload 0 256

/-- What a carried position of a link carries: the cell sent in it, else idle (R223). -/
def cellAt (sent : List (Nat × Cell)) (p : Nat) : Cell := ((sent.find? (fun x => x.1 == p)).map (·.2)).getD mkIdle

/-- Carried positions of period n at a width (R221). -/
def carriedIn (w n : Nat) : List Nat := ((List.range 56).map (56 * n + ·)).filter (isCarried w)

/-- Reserved bytes of a period's payload (Table 11.1). -/
def reservedBytes (w : Nat) : Nat := 32 * (w - 2)

/-- Payload of period n: the time-code block, reserved bytes and the cell frames of its carried positions. -/
def periodPayload (w n : Nat) (code : Bytes) (sent : List (Nat × Cell)) : Bytes :=
  code ++ List.replicate (reservedBytes w) 0 ++ (carriedIn w n).flatMap (fun p => frameBytes (cellAt sent p))

/-- The symbols that the round-robin puts on lane i of w: symbol j of the stream goes on lane j mod w. -/
def dealTo (w i : Nat) (stream : List Nat) : List Nat :=
  ((stream.zip (List.range stream.length)).filter (fun x => x.2 % w == i)).map (·.1)

/-- Bits added modulo 2 to PRBS31 from a state (R219). -/
def scramble : List Bool → BitVec 31 → List Bool
  | [], _ => []
  | b :: t, x => (b != (prbsStep x).1) :: scramble t (prbsStep x).2

/-- The PAM4 level of two bits, by Gray code (R219). -/
def pamLevel (a b : Bool) : BitVec 2 := if a then (if b then 2 else 3) else (if b then 1 else 0)

/-- The PAM4 levels of bits taken two at a time. -/
def pamLevels : List Bool → List (BitVec 2)
  | a :: b :: t => pamLevel a b :: pamLevels t
  | _ => []

/-- The marker word of a logical lane (R220). -/
def markerWord (lane width period : Nat) : BitVec 128 :=
  BitVec.ofNat 128 (0x3C5A96F00F69A5C3 * 2 ^ 64 + lane * 2 ^ 56 + width * 2 ^ 48 + period % 2 ^ 48)

/-- Levels of logical lane i in a period of symbols dealt: the marker as it is, the rest scrambled. -/
def laneLevels (w n i : Nat) (stream : List Nat) : List (BitVec 2) :=
  pamLevels (bitsOf 128 (markerWord i w n).toNat ++
    scramble ((dealTo w i stream).flatMap (bitsOf 10)) (BitVec.ofNat 31 (0x12345678 + i)))

/-- Levels of every logical lane in period n. -/
def periodLevels (w n : Nat) (code : Bytes) (sent : List (Nat × Cell)) : List (List (BitVec 2)) :=
  let stream := (codewordsOf (periodPayload w n code sent)).flatMap id
  (List.range w).map (fun i => laneLevels w n i stream)

end Sys2Proof.Machine
end

