-- ==== Sys2Proof/Machine/Links.lean ====
section
/-! DEFINITION. Fabric time and the link ends: time codes, lock, sources, losses, training and fences (07, R127 to R133;
11, R219 to R230, R235). -/

namespace Sys2Proof.Machine

/-! Fabric time (07, R128, R133; 19, R388) -/

/-- Fabric time runs and the device can lock: powered, banked or faulted with its links. -/
def keepsTime (s : State) : Bool := linksPowered s

/-- The master's source as its SOURCE field names it. -/
def usesPps (s : State) : Bool := s.time.master && s.time.source.toNat / 2 == 1
/-- The master takes PTP. -/
def usesPtp (s : State) : Bool := s.time.master && s.time.source.toNat % 2 == 1

/-- The master's source is present: it is locked (R133). -/
def sourceFound (s : State) : State :=
  { s with time := { s.time with
      sourcePresent := true
      lock := if keepsTime s then 2 else s.time.lock
      everLocked := s.time.everLocked || keepsTime s } }

/-- The master has lost its source: holdover and REF_LOST (R133). -/
def sourceLost (s : State) : State :=
  { s with time := { s.time with
      sourcePresent := false, refLost := true, lock := if keepsTime s then 3 else s.time.lock } }

/-- PTP is followed: a transmitter of the PTP timescale is received (16, R331). -/
def ptpFollowed (s : State) : Bool := s.port.ptpReceiving && s.time.ptpTimescale

/-- The whole second that an edge marks: the one nearest to it on the time base, and later than the last edge's (log 165). -/
def edgeSecond (early : Int) (s : State) : Nat :=
  let near := (((s.time.now : Int) + early + 500000000) / 1000000000).toNat * 1000000000
  s.time.lastPps.elim near (fun p => max near (p + 1000000000))

/-- An accepted TIME_PPS edge (R128): a pending TAI_SET is the fabric time of the edge, and otherwise the time base takes its
phase from the edge (Table 7.1). -/
def acceptPps (early : Int) (s : State) : State :=
  let now := clock64 (((if s.time.source = 2 then s.time.taiPending else none).map (·.toNat)).getD (edgeSecond early s))
  let s1 := { s with time := { s.time with
    now := now, lastPps := some now, taiPending := if s.time.source = 2 then none else s.time.taiPending } }
  if s.time.source = 2 ∨ ptpFollowed s then sourceFound s1 else s1

/-- TIME_PPS_EDGE (19, R388): early is how far from the expected second the edge arrives, in ns; more than 100 us off it is
ignored, as it is where TIME_PPS is no source. -/
def execTimePpsEdge (early : Int) (s : State) : Host.Outcome State Fault Refusal :=
  if s.dev.mode = .off ∨ s.dev.mode = .boot ∨ !usesPps s ∨ 100000 < early.natAbs then .next s else .next (acceptPps early s)

/-- PPS_TIMEOUT (07, R133): three seconds without an accepted edge. -/
def execPpsTimeout (s : State) : Host.Outcome State Fault Refusal :=
  if s.dev.mode = .off ∨ s.dev.mode = .boot ∨ !usesPps s then .next s
  else .next (sourceLost { s with time := { s.time with lastPps := none } })

/-- PTP_SOURCE_LOSS (07, R133). -/
def execPtpSourceLoss (s : State) : Host.Outcome State Fault Refusal :=
  let s1 := { s with
    port := { s.port with ptpReceiving := false }
    time := { s.time with ptpTimescale := false, ptpSync := none, ptpAwait := none } }
  if s.dev.mode = .off ∨ s.dev.mode = .boot then .next s
  else if usesPtp s then .next (sourceLost s1) else .next s1

/-! Time codes (11, R235) -/

/-- Bytes 0 to 59 of a time-code block (Table 11.4). -/
def codeBody (t : TimeCode) : Bytes :=
  natBe 8 t.markerTime.toNat ++ natBe 8 t.rxTime.toNat ++ natBe 8 t.rxMarkerTime.toNat ++
    [t.hops, t.flags, t.link, t.width] ++ natBe 4 t.coord.toNat ++ List.replicate 28 0

/-- The block's CRC matches. -/
def codeOk (t : TimeCode) : Bool := crc32 (codeBody t) == t.crc

/-- Half of a difference of timestamps, which the spec does not round (log 54). -/
def halfOf (x : Int) : Int := x / 2 + (if x % 2 = 1 && Config.roundHalf x then 1 else 0)

/-- (t2 - t1) and (t4 - t3) of R235, in 1/16 ns. -/
def codeSpans (t : TimeCode) : Int × Int :=
  ((t.rxTime.toNat : Int) - 16 * (t.rxMarkerTime.toNat : Int), (t.localRx.toNat : Int) - 16 * (t.markerTime.toNat : Int))

/-- One-way delay, 1/16 ns. -/
def codeDelay (t : TimeCode) : Int := halfOf ((codeSpans t).1 + (codeSpans t).2)
/-- The peer's offset, 1/16 ns. -/
def codeOffset (t : TimeCode) : Int := halfOf ((codeSpans t).1 - (codeSpans t).2)

/-- A measured delay: more than 10 ns one way is LONG_LINK (07, R131). -/
def noteDelay (s : State) (k : Nat) (d : Int) : State :=
  let long := decide (160 < d)
  let s1 := modLink s k (fun l => { l with delay := BitVec.ofInt 32 d, longLink := l.longLink || long })
  { s1 with time := { s1.time with longLink := s1.time.longLink || long } }

/-- The time base steered by the parent's offset, in 1/16 ns (R130): it stays where the offset is within 2 ns, and otherwise
moves until the offset that is left, which the spec does not give, is within 2 ns (R132; log 107). -/
def steer (s : State) (o : Int) : State :=
  if o.natAbs ≤ 32 then s
  else
    let rest : Int := ((Config.steerRest s.fresh % 49 : Nat) : Int) - 32
    { s with
      fresh := s.fresh + 1
      time := { s.time with now := clock64 ((s.time.now : Int) + (o - rest) / 16).toNat } }

/-- The offset to the time parent (R133): 4,096 codes in a row within 2 ns lock the device; beyond 8 ns in RUNNING is an
excursion, and the device acquires again (log 103). -/
def noteOffset (s0 : State) (o : Int) : State :=
  let out := s0.dev.mode == .running && decide (128 < o.natAbs)
  let s := steer s0 o
  let run := if o.natAbs ≤ 32 then s.time.lockRun + 1 else 0
  let s1 := { s with time := { s.time with
    parentOffset := BitVec.ofInt 32 o, lockRun := run, excursion := s.time.excursion || out
    lock := if out then 1 else if 4096 ≤ run then 2 else s.time.lock
    everLocked := s.time.everLocked || decide (4096 ≤ run) } }
  if out then detect s1 (occNone 0x0207) else s1

/-- What a valid block tells: the peer's marker, hops and flags (Table 11.4). -/
def takeCode (s : State) (k : Nat) (t : TimeCode) : State :=
  modLink s k (fun l => { l with
    lastMarker := t.markerTime, lastRx := t.localRx, peerBanked := t.flags.getLsbD 2, child := t.flags.getLsbD 1
    peerLocked := t.flags.getLsbD 0, peerHops := t.hops })

/-- The link carries time codes: it is up, or its training has reached them (Table 11.6). -/
def carriesCodes (s : State) (k : Nat) : Bool :=
  linksPowered s && (isUp s k || ((linkOf s k).state == 2 && decide (4 ≤ (linkOf s k).phase)))

/-- TIME_CODE (11, R235): a block whose CRC fails tells nothing. The peer returns no timestamp before it has received a
marker (log 54). -/
def execTimeCode (k : Fin 64) (tc : TimeCode) (s : State) : Host.Outcome State Fault Refusal :=
  if !carriesCodes s k.val || !codeOk tc then .next s
  else
    let s1 := takeCode s k.val tc
    let s2 := if tc.rxTime = 0 then s1 else noteDelay s1 k.val (codeDelay tc)
    let s3 := if tc.rxTime != 0 && s2.time.parent == some k.val then noteOffset s2 (codeOffset tc) else s2
    .next (refreshRequest (refreshDepth (refreshParent s3)))

/-- LOCK_ACQUIRED (07, R133): the offset to the parent has stayed within 2 ns for 4,096 time codes. -/
def execLockAcquired (s : State) : Host.Outcome State Fault Refusal :=
  if keepsTime s && !isMaster s && s.time.parent.isSome then
    .next { s with time := { s.time with lock := 2, everLocked := true, lockRun := max s.time.lockRun 4096 } }
  else .next s

/-- Lanes of a set. -/
def laneCount (l : BitVec 4) : Nat := ((List.range 4).filter (fun i => l.getLsbD i)).length

/-- Width at which a link sends: its trained width, or in training the lanes that are left (R220, R226). -/
def sendWidth (l : Link) : Nat := if l.state = 3 then l.width.toNat else laneCount l.tryLanes

/-- The link sends markers: it is trained, or its training has reached T3 (Table 11.6). -/
def sendsMarkers (s : State) (k : Nat) : Bool := isUp s k || ((linkOf s k).state == 2 && decide (3 ≤ (linkOf s k).phase))

/-- HOPS that this device sends: 0xFF without a path to the master (Table 11.4). -/
def sentHops (s : State) : BitVec 8 :=
  if isMaster s then 0 else if s.time.depth.isSome then s.time.hops.zeroExtend 8 else 0xFF

/-- The time-code block that link k sends in a period (Table 11.4). -/
def codeToSend (s : State) (k t : Nat) : TimeCode :=
  let l := linkOf s k
  let banked := s.dev.mode == .banked || s.dev.mode == .faulted
  let x : TimeCode := {
    markerTime := BitVec.ofNat 64 t, rxTime := l.lastRx, rxMarkerTime := l.lastMarker, hops := sentHops s
    flags := BitVec.ofNat 8 (b2n (s.time.lock == 2) + 2 * b2n (s.time.parent == some k) + 4 * b2n banked)
    link := BitVec.ofNat 8 k, width := BitVec.ofNat 8 (sendWidth l), coord := coordWord s, crc := 0, localRx := 0 }
  { x with crc := crc32 (codeBody x) }

/-- What the lanes of a link carried in the period of its last time-code block, now that the period has ended (R219 to R222). -/
def closePeriod (l : Link) : List (List (BitVec 2)) :=
  match l.codeOut with
  | some c => periodLevels c.width.toNat (c.markerTime.toNat / 256) (codeBody c ++ natBe 4 c.crc.toNat) l.sent
  | none => []

/-- What link k has sent when a period begins at time t: its markers and, from T4 on, its time-code block (Table 11.6). -/
def sentIn (s : State) (k t : Nat) (l : Link) : Link :=
  { l with
    markersOut := (List.range (sendWidth l)).map (fun i => markerWord i (sendWidth l) (t / 256))
    lanesOut := closePeriod l
    codeOut := if carriesCodes s k then some (codeToSend s k t) else none }

/-- The links that send in a period. -/
def sendingLinks (s : State) : List Nat := (List.range 64).filter (sendsMarkers s)

/-- Start of the link period that begins now, or of the next one where this one's codes have been sent (log 10). -/
def periodStart (s : State) : Nat :=
  let t := (s.time.now + 255) / 256 * 256
  if (sendingLinks s).any (fun k => (linkOf s k).codeOut.any (fun c => c.markerTime.toNat == t)) then t + 256 else t

/-- LINK_PERIOD (11, R220): every trained link, and every link that trains from T3 on, sends its markers and its time-code
block; the period before is whole. -/
def execLinkPeriod (s : State) : Host.Outcome State Fault Refusal :=
  if linksPowered s then
    let t := periodStart s
    .next ((sendingLinks s).foldl (fun s k => modLink s k (sentIn s k t)) { s with time := { s.time with now := clock64 t } })
  else .next s

/-! Losses (R228, R229) -/

/-- "During a job": training runs in control maintenance windows only (R226). -/
def trainsInWindows (s : State) : Bool :=
  s.seq.grid && (s.dev.mode == .running || s.dev.mode == .held ||
    (s.seq.step != 0 && (s.dev.mode == .banked || s.dev.mode == .faulted)))

/-- A link that carries no cells: what it knew of its peer and what waited on it are gone. -/
def quietLink (l : Link) : Link :=
  { l with
    lanes := 0, width := 0, data := false, child := false, peerBanked := false, peerHops := 0xFF, upSent := false
    peerLocked := false, upSeen := false, upFrame := none, kept := [], missing := [], awaited := [], pendHalt := []
    pendControl := [], pendData := [], pendRelay := [], markersOut := [], codeOut := none }

/-- A link that begins training at T1: at once, or with the next control maintenance window (R226, R228). -/
def toTraining (s : State) (l : Link) : Link :=
  { l with state := if trainsInWindows s then 1 else 2, phase := 1, tryLanes := 0xF }

/-- LINK_DOWN for link k on the lowest other link of its direction that is up (R229). -/
def sendLinkDown (k f : Nat) (s : State) : State :=
  match (dirLinks (dirOf k)).find? (fun j => j != k && isUp s j) with
  | some j => queueControl (mkControl 5 0 ([BitVec.ofNat 8 k, 0, 0, 0] ++ natBe 8 f)) s j
  | none => s

/-- The time parent and the requests as the links now stand. -/
def refreshTree (s : State) : State := refreshRequest (refreshDepth (refreshParent s))

/-- Link k is lost (R228): it stops at once, and retrains. -/
def loseLink (k : Nat) (s : State) : State :=
  let s1 := modLink s k (fun l => toTraining s { quietLink l with lost := true, events := l.events ||| 0x20 })
  refreshTree (detect s1 (occAt 0x0402 2 k))

/-- Conditions of R228. -/
def isLoss (r : LossReport) : Bool := decide (2 ≤ r.markerPeriods) || decide (4 ≤ r.badWords) || decide (4 ≤ r.codePeriods)

/-- LINK_LOST (11, R228, R229): a loss, or the sight of the own link degraded; the peer hears of it and the direction goes
on the link's one-link-down table. -/
def execLinkLost (k : Fin 64) (r : LossReport) (s0 : State) : Host.Outcome State Fault Refusal :=
  if !linkTakes s0 k.val then .next s0
  else
    let s := modLink s0 k.val (fun l => { l with fecBad := satAdd l.fecBad r.badWords })
    if isLoss r then .next (downDirection k.val s.seq.frame (sendLinkDown k.val s.seq.frame (loseLink k.val s)))
    else if r.degraded && decide ((linkOf s k.val).width.toNat < 4) then
      .next (downDirection k.val s.seq.frame (sendLinkDown k.val s.seq.frame
        (detect (modLink s k.val (fun l => { l with lost := true })) (occAt 0x0402 2 k.val))))
    else .next s

/-- The peer has reported its end of link n lost (R229): this end is lost too, with its own link-lost fault. A link that is
degraded here stays up, as R227 has it (log 55). -/
def peerLoses (n : Nat) (s : State) : State :=
  if !isUp s n then s
  else if (linkOf s n).width = 4 then loseLink n s
  else
    let s1 := modLink s n (fun l => { l with lost := true, events := l.events ||| 0x20 })
    if (linkOf s n).lost then s1 else detect s1 (occAt 0x0402 2 n)

/-- LINK_DOWN (11, R229): the peer of link k's direction reports that its end of a link is lost. -/
def execLinkDown (k : Fin 64) (cell : Cell) (s : State) : Host.Outcome State Fault Refusal :=
  let n := peerLinkOf (beAt cell.payload 0 1)
  let f := min (if s.seq.grid then s.seq.frame else 0) (beAt cell.payload 4 8)
  if !linkTakes s k.val || cellType cell != 3 || ctlCode cell != 5 then .next s
  else if !cellOk cell then .next (badCell s k.val)
  else if dirOf n ≠ dirOf k.val ∨ n = k.val then .next s
  else .next (downDirection n f (peerLoses n s))

/-- Both ends hold each other's LINK_UP (R230). -/
def noteUp (s : State) (k : Nat) : State :=
  modLink s k (fun l => if l.upSent && l.upSeen && l.upFrame.isNone then
    { l with upFrame := some (if s.seq.grid then s.seq.frame else 0) } else l)

/-- LINK_UP (11, R230): the peer's end of this link has retrained at width 4. -/
def execLinkUp (k : Fin 64) (cell : Cell) (s : State) : Host.Outcome State Fault Refusal :=
  if !linkTakes s k.val || cellType cell != 3 || ctlCode cell != 6 then .next s
  else if !cellOk cell then .next (badCell s k.val)
  else if beAt cell.payload 0 1 ≠ peerLinkOf k.val then .next s
  else .next (noteUp (modLink s k.val (fun l => { l with upSeen := true })) k.val)

/-- FEC_ALARM (11, R222): corrected codewords and symbols counted; above 2^-13 of the symbols received, the alarm. -/
def execFecAlarm (k : Fin 64) (words symbols received : Nat) (s : State) : Host.Outcome State Fault Refusal :=
  if !linkTakes s k.val then .next s
  else
    let alarm := decide (received < symbols * 2 ^ 13)
    let s1 := modLink s k.val (fun l => { l with
      fecCorrected := satAdd l.fecCorrected words, fecSymbols := satAdd l.fecSymbols symbols
      events := if alarm then l.events ||| 1 else l.events })
    .next (if alarm then detect s1 (occAt 0x0401 2 k.val) else s1)

/-! Training and fences (R226, R227, R230) -/

/-- A link is fenced: never trained again, its bit set in the fence map (R230). -/
def fenceLinkNow (k : Nat) (s : State) : State :=
  let wasUp := isUp s k
  let s1 := modLink s k (fun l => { quietLink l with state := 4, phase := 0, retrain := false })
  let s2 := refreshTree (detect { s1 with fence := { s1.fence with links := insertNat s1.fence.links k } } (occAt 0x0404 2 k))
  if wasUp then downDirection k s.seq.frame s2 else s2

/-- A training attempt fails: DOWN until it tries again, or the fence after RETRAIN_LIMIT attempts in a row (R226,
R230; log 100). -/
def failAttempt (k : Nat) (s : State) : State :=
  let n := (linkOf s k).failures + 1
  if s.fabric.retrainLimit.toNat ≤ n then fenceLinkNow k s
  else modLink s k (fun l => { l with state := 1, phase := 0, failures := n, retrain := false })

/-- A failure at T4: held in DOWN without retries, WIRING, and the wiring event (R226). -/
def failWiring (k : Nat) (s : State) : State :=
  detect (modLink s k (fun l => { l with
    state := 1, phase := 0, wiringHold := true, retrain := false, events := l.events ||| 0x40 })) (occAt 0x0403 2 k)

/-- The link is trained (T6): at full width it carries data at once unless it is lost, and then it sends LINK_UP; below
width 4 it is degraded, and the sequencer treats it as a lost link: the peer hears of it and the direction goes on the link's
one-link-down table (R227, R229, R230; log 143). -/
def linkTrained (k : Nat) (lanes : BitVec 4) (s : State) : State :=
  let w := laneCount lanes
  let back := w == 4 && (linkOf s k).lost
  let s1 := modLink s k (fun l => { l with
    state := 3, phase := 0, failures := 0, retrain := false, lanes := lanes, width := BitVec.ofNat 4 w
    data := w == 4 && !l.lost, upSent := back, events := if w < 4 then l.events ||| 0x10 else l.events })
  let f := if s.seq.grid then s.seq.frame else 0
  let s2 :=
    if back then noteUp (queueControl (mkControl 6 0 [BitVec.ofNat 8 k]) s1 k) k
    else if w < 4 then downDirection k f (sendLinkDown k f (modLink s1 k (fun l => { l with lost := true })))
    else s1
  refreshTree s2

/-- The peer is the one that R216 gives (T4). -/
def peerAgrees (s : State) (k : Nat) (r : PhaseReport) : Bool := r.peerCoord == peerCoordOf s k && r.peerLink.toNat == peerLinkOf k

/-- A phase ends with every remaining lane passing. -/
def phasePassed (k : Nat) (r : PhaseReport) (s : State) : State :=
  let next := modLink s k (fun l => { l with phase := r.phase + 1 })
  if r.phase = 4 then
    let s1 := modLink next k (fun l => { l with peerCoord := r.peerCoord, peerLink := r.peerLink })
    if peerAgrees s k r then s1 else failWiring k s1
  else if r.phase = 6 then linkTrained k (linkOf s k).tryLanes (noteDelay s k r.delay)
  else next

/-- Link k is in a training phase now. -/
def inTraining (s : State) (k : Nat) : Bool := linksPowered s && (linkOf s k).state == 2

/-- TRAINING_PHASE_DONE (11, R226): a phase that some lanes fail restarts training at T3 with the others (log 102). -/
def execTrainingPhaseDone (k : Fin 64) (r : PhaseReport) (s : State) : Host.Outcome State Fault Refusal :=
  let l := linkOf s k.val
  let ok := r.lanes &&& l.tryLanes
  if !inTraining s k.val || l.phase != r.phase then .next s
  else if ok = l.tryLanes then .next (phasePassed k.val r s)
  else if laneCount ok < 2 then .next (failAttempt k.val s)
  else .next (modLink s k.val (fun l => { l with phase := 3, tryLanes := ok }))

/-- TRAINING_PHASE_TIMEOUT (11, R226): no lane has passed within the phase's limit; at T4 that is a wiring error
(log 101). -/
def execTrainingPhaseTimeout (k : Fin 64) (s : State) : Host.Outcome State Fault Refusal :=
  if !inTraining s k.val then .next s
  else if (linkOf s k.val).phase = 4 then .next (failWiring k.val s)
  else .next (failAttempt k.val s)

/-- The link may train: connected, not fenced, not held in DOWN. -/
def mayTrain (s : State) (k : Nat) : Bool :=
  let l := linkOf s k
  linksPowered s && isConnected s k && l.state != 4 && !l.wiringHold && !l.forceDown

/-- TRAINING_RETRY_TIMER (11, R226): a link that is down tries again from T1. -/
def execTrainingRetryTimer (k : Fin 64) (s : State) : Host.Outcome State Fault Refusal :=
  if mayTrain s k.val && (linkOf s k.val).state == 1 then
    .next (modLink s k.val (fun l => { l with state := 2, phase := 1, tryLanes := 0xF }))
  else .next s

end Sys2Proof.Machine
end

