-- ==== Sys2Proof/Machine/Stacks.lean ====
section
/-! DEFINITION. Temperatures, gates and the DRAM stacks: the dampers, PWRCAP_N, refresh, rotations, retraining, and the
ends of a hash and of a chunk restore (07, R140, R141, R158; 09, R196; 12, R250 to R255, R261). -/

namespace Sys2Proof.Machine

/-! Dampers (07, R140, R141; 12, R250, R255). Temperatures are in 1/16 degree C. -/

/-- The hottest of some readings. -/
def hottest : List Int → Int
  | [] => 0
  | [x] => x
  | x :: t => max x (hottest t)

/-- Every reading is below a limit. -/
def allBelow (l : List Int) (t : Int) : Bool := l.all (fun x => decide (x < t))

/-- An evaluator's request (Table 7.6): since is the frame from which every sensor has been below 90 C. -/
def dampRequest (l : List Int) (frame : Nat) (since : Option Nat) : BitVec 4 :=
  if 1600 ≤ hottest l then 2 else if 1520 ≤ hottest l then 1
  else if since.any (fun f => decide (f + 256 ≤ frame)) then 0xF else 0

/-- The evaluator takes its readings (R140). -/
def evaluate (u : Nat) (l : List Int) (s : State) : State :=
  let since := if allBelow l 1440 then some ((sget none s.rate.coolSince u).getD s.seq.frame) else none
  { s with rate := { s.rate with
      coolSince := sput none s.rate.coolSince u since
      requests := sput 0 s.rate.requests u (dampRequest l s.seq.frame since) } }

/-- A stack's readings: TEMPERATURE, and the doubled refresh from 85 C on (12, R250). -/
def readStack (n : Nat) (t : Int) (s : State) : State :=
  modStack s n (fun k => { k with
    temperature := BitVec.ofInt 32 t, refresh2x := k.refresh2x || decide (1360 ≤ t)
    coolSince := if t < 1312 then some (k.coolSince.getD s.seq.frame) else none })

/-- The local emergency gate of a die: on at 105 C, off when die and stack are below 100 C (R141). -/
def gateDie (d : Nat) (l : List Int) (s : State) : State :=
  let old := sget false s.rate.dieGate d
  let hot := l.any (fun x => decide (1680 ≤ x))
  let new := if hot then true else if allBelow l 1600 then false else old
  let s1 := { s with rate := { s.rate with dieGate := sput false s.rate.dieGate d new } }
  if new && !old then detect s1 (occAt 0x0501 5 d) else s1

/-- A far stack at 105 C sets FAR_HOT and faults once for each rise; it is re-armed below 100 C (12, R255). -/
def watchFar (i : Nat) (t : Int) (s : State) : State :=
  let n := 8 + i
  if 1680 ≤ t ∧ !(stackOf s n).hot then
    detect (modStack { s with mem := { s.mem with farHot := true } } n (fun k => { k with hot := true }))
      (occAt 0x030A 4 i)
  else if t < 1600 then modStack s n (fun k => { k with hot := false })
  else s

/-- One far stack's reading. -/
def readFar (s : State) (x : Nat × Int) : State := watchFar x.1 x.2 (readStack (8 + x.1) x.2 s)

/-- DAMPER_EVALUATION (07, R140): unit d below 8 is compute die d with near stack d, unit 8 the management processor with
the bridge dies and the far stacks 0 to 7 in order. Dies without power have no readings. -/
def execDamperEvaluation (d : Damper) (s : State) : Host.Outcome State Fault Refusal :=
  let l := d.dieTemp :: d.stackTemps
  if !isPowered s then .next s
  else if d.unit.val < 8 then
    let s1 := if d.stackTemps.isEmpty then s else readStack d.unit.val (hottest d.stackTemps) s
    .next (refreshRequest (gateDie d.unit.val l (evaluate d.unit.val l s1)))
  else
    let far := (List.range 8).zip d.stackTemps
    .next (refreshRequest (evaluate 8 l (far.foldl readFar s)))

/-- REFRESH_NORMAL (12, R250): every sensor of the stack has been below 82 C for 4,096 frames. -/
def execRefreshNormal (stack : Fin 16) (s : State) : Host.Outcome State Fault Refusal :=
  if isPowered s && (stackOf s stack.val).coolSince.isSome then
    .next (modStack s stack.val (fun k => { k with refresh2x := false }))
  else .next s

/-! PWRCAP_N (07, R141, R158; 19, R388) -/

/-- The pulse is recognised: from 20 ns on, never below one REFCLK period (10 ns), free between (log 47). -/
def capRecognised (s : State) (width : Nat) : Bool := decide (20 ≤ width) || (decide (10 ≤ width) && Config.capTaken s.fresh)

/-- PWRCAP_ASSERT (07, R158): the hearths of every die are gated; without hearth power the level changes nothing. -/
def execPwrcapAssert (width : Nat) (s : State) : Host.Outcome State Fault Refusal :=
  let s1 := if 10 ≤ width ∧ width < 20 then { s with fresh := s.fresh + 1 } else s
  if !capRecognised s width || !s.pins.pwrcapN then .next s1
  else
    let s2 := { s1 with pins := { s1.pins with pwrcapN := false } }
    .next (if isPowered s then detect s2 (occNone 0x0502) else s2)

/-- PWRCAP_RELEASE (07, R158): the hearth clocks resume. -/
def execPwrcapRelease (s : State) : Host.Outcome State Fault Refusal :=
  .next { s with pins := { s.pins with pwrcapN := true } }

/-! Rotations (12, R252 to R254) -/

/-- The stack holds a rotation's parts: powered, trained and not fenced. -/
def stackRuns (s : State) (n : Nat) : Bool := isPowered s && activeOf s.fence n != 0 && (stackOf s n).trained

/-- ROTATE_INTERVAL_EXPIRY (12, R252): a routine rotation is queued, where the stack can rotate at all. -/
def execRotateIntervalExpiry (stack : Fin 16) (s : State) : Host.Outcome State Fault Refusal :=
  if stackRuns s stack.val && s.mem.rotateInterval != 0 && (spareOf stack.val (stackOf s stack.val)).isSome then
    .next (modStack s stack.val (fun k => { k with routine := true }))
  else .next s

/-- The rotation of logical channel l begins: writes are mirrored onto the spare. -/
def startRotation (n l : Nat) (k : Stack) : Stack :=
  match spareOf n k with
  | some q => { k with rotPhase := 1, rotLogical := l, rotFrom := physOf k l, rotTo := q }
  | none => k

/-- The rotation that starts next: a repair before a routine one, routine ones from channel 0 upward (R252). -/
def takeRotation (n active : Nat) (k : Stack) : Stack :=
  match k.repairs with
  | l :: t => startRotation n l { k with repairs := t }
  | [] =>
    if k.routine then
      startRotation n (k.nextRoutine % active) { k with routine := false, nextRoutine := (k.nextRoutine + 1) % active }
    else k

/-- ROTATION_START (12, R252): only with a trained spare, no other rotation in the stack, and not in BANKED. -/
def execRotationStart (stack : Fin 16) (s : State) : Host.Outcome State Fault Refusal :=
  let k := stackOf s stack.val
  if stackRuns s stack.val && k.spareOk && k.rotPhase == 0 && (spareOf stack.val k).isSome then
    .next (modStack s stack.val (takeRotation stack.val (activeOf s.fence stack.val)))
  else .next s

/-- Span of one physical channel in the DRAM keys. -/
def channelSpan : Nat := 2048 * 2 ^ 23

/-- The cells of a table with the keys of one span moved to another, which they replace. -/
def moveSpan (src dst len : Nat) (m : List Host.Cell) : List Host.Cell :=
  let part := (m.filter (fun c => decide (src ≤ c.1) && decide (c.1 < src + len))).map (fun c => (c.1 - src + dst, c.2))
  mbelow m dst ++ part ++ mfrom m (dst + len)

/-- The poisoned codewords with those of one channel copied onto another (R248, R252). -/
def movePoison (src dst : Nat) (l : List Nat) : List Nat :=
  let n := channelSpan / 64
  let part := (l.filter (fun c => decide (src / 64 ≤ c) && decide (c < src / 64 + n))).map (fun c => c - src / 64 + dst / 64)
  part.foldl insertNat (l.filter (fun c => decide (c < dst / 64) || decide (dst / 64 + n ≤ c)))

/-- The burst of each poisoned codeword of physical channel p of stack n. -/
def poisonedBursts (s : State) (n p : Nat) : List Nat :=
  (poisonIn s.mem (dramKey n p 0) channelSpan).map (fun c => (64 * c - dramKey n p 0) / 2048)

/-- The copy has met a poisoned codeword of a burst (R248): latent, and a RETAINED region's record goes to STAGING. -/
def copyLatent (n l : Nat) (s : State) (b : Nat) : State :=
  let p : Place := { stack := n, channel := l, burst := b }
  let rs := (imageOf s).regions.filter (fun r => (regionPoison s r 0 (regionBytes r)).contains p)
  match rs with
  | r :: _ => stageRecord (noteLatent r.role s p) r
  | [] => noteLatent 0 s p

/-- ROTATION_SWITCH (12, R252): the copy has ended and the logical channel moves to the spare; the channel it leaves
retrains. -/
def execRotationSwitch (stack : Fin 16) (s : State) : Host.Outcome State Fault Refusal :=
  let n := stack.val
  let k := stackOf s n
  if !stackRuns s n || k.rotPhase != 1 then .next s
  else
    let src := dramKey n k.rotFrom 0
    let dst := dramKey n k.rotTo 0
    let s1 := (poisonedBursts s n k.rotFrom).foldl (copyLatent n k.rotLogical) s
    let s2 := { s1 with mem := { s1.mem with
      dram := moveSpan src dst channelSpan s1.mem.dram, poison := movePoison src dst s1.mem.poison } }
    .next (modStack s2 n (fun k => { k with
      rotPhase := 2, spare := none, spareOk := false, trainFailures := 0
      map := sput none k.map k.rotLogical (if k.rotTo = k.rotLogical then none else some k.rotTo) }))

/-- A channel is retired after two failures in succession (R254). -/
def retire (n p : Nat) (s : State) : State :=
  detect (modStack { s with mem := { s.mem with channelRetired := true } } n (fun k => { k with
    retired := insertNat k.retired p, spare := none, spareOk := false, trainFailures := 0 })) (occStack 0x0304 n 0 none)

/-- The channel that retrains passes: it is the stack's spare. -/
def becomeSpare (n p : Nat) (s : State) : State :=
  modStack s n (fun k => { k with
    spare := if p = (if n < 8 then 32 else 8) then some 255 else some p, spareOk := true, trainFailures := 0 })

/-- The rotation of a stack has ended (log 104). -/
def endRotation (n : Nat) (s : State) : State :=
  modStack s n (fun k => { k with rotPhase := 0, rotLogical := 0, rotations := satInc k.rotations })

/-- The channel that retrains fails: once more, or it is retired. -/
def retrainFailed (n p : Nat) (s : State) : State × Bool :=
  if 1 ≤ (stackOf s n).trainFailures then (retire n p s, true)
  else (modStack s n (fun k => { k with trainFailures := k.trainFailures + 1 }), false)

/-- The stack's second permanent failure: the channel that needed repair is retired, the whole stack retrains, and its
fence-map byte becomes what works (R254). -/
def secondFailure (n l working : Nat) (s : State) : State :=
  let p := physOf (stackOf s n) l
  let count := stackByte n working
  let s1 := { s with fence := setActive s.fence n count, mem := { s.mem with channelRetired := true, stackFenced := true } }
  let s2 := modStack s1 n (fun k =>
    let r := insertNat k.retired p
    let m := trainedMap n count r
    { k with retired := r, repairs := [], routine := false, map := m.1, spare := none, spareOk := false
             trained := count != 0 })
  detect s2 (occStack 0x0305 n l none)

/-- CHANNEL_RETRAIN_DONE (12, R252, R254): the channel rotated out, an abandoned rotation's spare, or, where the stack has
no spare and a channel waits for repair, the whole stack has retrained. -/
def execChannelRetrainDone (stack : Fin 16) (r : ChannelReport) (s0 : State) : Host.Outcome State Fault Refusal :=
  let n := stack.val
  let s := modStack s0 n (fun k => { k with laneRepairs := r.laneRepairs })
  let k := stackOf s n
  if !stackRuns s0 n then .next s0
  else if k.rotPhase = 2 then
    (if r.passed then .next (endRotation n (becomeSpare n k.rotFrom s))
     else
      let f := retrainFailed n k.rotFrom s
      .next (if f.2 then endRotation n f.1 else f.1))
  else
    match spareOf n k, k.repairs with
    | some p, _ =>
      if k.spareOk || k.rotPhase == 1 then .next s0
      else if r.passed then .next (becomeSpare n p s) else .next (retrainFailed n p s).1
    | none, l :: _ => .next (secondFailure n l r.working s)
    | none, [] => .next s0

/-! Ends of memory work -/

/-- CHUNK_RESTORE_DONE (09, R196): the ring slots leave the restoring state. -/
def execChunkRestoreDone (s : State) : Host.Outcome State Fault Refusal :=
  .next { s with upd := { s.upd with
    ring0 := if s.upd.ring0 = 3 then 0 else s.upd.ring0, ring1 := if s.upd.ring1 = 3 then 0 else s.upd.ring1 } }

/-- The hash of a record's region has run over its full length (12, R261; log 105). -/
def endHash (r : Nat) (x : Region) (s : State) : State :=
  let good := (regionPoison s x 0 (regionBytes x)).isEmpty && sha256 (regionRead s x 0 (regionBytes x)) == (retainedOf s r).digest
  let s1 := noteHostRead s x 0 (regionBytes x)
  modRetained s1 r (fun k => { k with state := if good then 3 else 1, hashFail := !good || k.hashFail })

/-- HASH_DONE (12, R261): a record in HASHING becomes INTACT, or returns to STAGING with HASH_FAIL. -/
def execHashDone (r : Fin 16) (s : State) : Host.Outcome State Fault Refusal :=
  let k := retainedOf s r.val
  if k.state = 2 then
    match k.placement with
    | some x => .next (endHash r.val x s)
    | none => .next s
  else .next s

end Sys2Proof.Machine
end

