-- ==== Sys2Proof/Machine/Power.lean ====
section
/-! DEFINITION. Power, boot and the pins: supplies and RST_N, the rails of POWER_UP, self-tests and zeroisation, thermal
trips, the watchdog and ERR_N (13, R268, R276, R277; 14, R294 to R298; 19, R381 to R389). -/

namespace Sys2Proof.Machine

/-! Supplies and resets (13, R268; 19, R383, R388, R389) -/

/-- POWER_ON (13, R268): the supplies are within limits with RST_N high. -/
def execPowerOn (s : State) : Host.Outcome State Fault Refusal :=
  if s.dev.mode = .off then
    .next (coldReset { s with pins := { s.pins with standbySupply := true, rstN := true } } 1)
  else .next s

/-- The device without its standby supplies: what MRAM and Assay hold stays, outputs are undriven (19, Table 19.7). -/
def powerLost (s : State) : State :=
  let c := coldReset s s.dev.lastReset
  { c with
    dev := { c.dev with mode := .off, bootCount := s.dev.bootCount }
    pins := { c.pins with errN := true, thermtripN := true, uartTx := false, standbySupply := false }
    markers := [] }

/-- SUPPLY_REMOVAL (19, R383). -/
def execSupplyRemoval (s : State) : Host.Outcome State Fault Refusal :=
  if s.dev.mode = .off then .next s else .next (powerLost s)

/-- A low of this width on RST_N is a cold reset: from 1 us on, never below 0.9 us, free between (R388; log 47). -/
def resetRecognised (s : State) (width : Nat) : Bool := decide (1000 ≤ width) || (decide (900 ≤ width) && Config.resetTaken s.fresh)

/-- RST_N is low: Assay closes its open record with RESET, and the device is held in reset (R273, R389; 18, Table
18.8). -/
def holdReset (m : Metering) (s : State) : State :=
  let s1 := if assayRuns s && s.assay.record.isSome then closeAt s m 4 0 else s
  if s1.dev.mode = .off then { s1 with pins := { s1.pins with rstN := false } }
  else
    let c := coldReset s1 1
    { c with pins := { c.pins with rstN := false, thermtripN := true } }

/-- RST_N_LOW (19, R388): width in ns (log 147). -/
def execRstNLow (width : Nat) (m : Metering) (s : State) : Host.Outcome State Fault Refusal :=
  let s1 := if 900 ≤ width ∧ width < 1000 then { s with fresh := s.fresh + 1 } else s
  if resetRecognised s width then .next (holdReset m s1) else .next s1

/-- RST_N_RISE (13, R276): boot begins; with the supplies present a device that is off begins it too. -/
def execRstNRise (s : State) : Host.Outcome State Fault Refusal :=
  if s.pins.rstN then .next s
  else
    let s1 := { s with pins := { s.pins with rstN := true } }
    if s.dev.mode = .off ∧ s.pins.standbySupply then .next (coldReset s1 1) else .next s1

/-! Boot (13, R276; 14, R308, R309; 18, R362, R366, R367) -/

/-- Boot after a cold reset ends in STANDBY. -/
def coldBooted (s : State) : State := raiseCounters { s with dev := { s.dev with mode := .standby } }

/-- Boot after a warm reset powers the dies, tests the hearths, trains the stacks and ends in IDLE (13, R276;
log 149). -/
def warmBooted (b : BootReport) (s : State) : State :=
  let s1 := bootTests b s
  let s2 := { s1 with
    dev := { s1.dev with mode := .idle }
    pins := { s1.pins with railEnA := true, railEnB := true } }
  lockAtIdle (returnJob (trainStacks (startLinks s2)))

/-- The condition that caused FAULTED or BANKED persists: the device enters it again (R308, R309). -/
def afterBoot (fatal : Bool) (s : State) : State :=
  if fatal then enterFaulted 0 s
  else if s.dev.causePersists = some .banked then enterBanked s.faults.bankCause s
  else s

/-- The end of boot. A warm boot in which a class F occurrence was classified powers nothing. -/
def bootEnds (b : BootReport) (s0 : State) : State :=
  let fatal := s0.dev.bootFatal
  let s := verifyFirmware { s0 with
    dev := { s0.dev with bootTime := b.micros, bootFatal := false, bootQualified := false, bootWarm := false }
    sec := { s0.sec with pufOk := b.pufOk } }
  let up := s0.dev.bootWarm && s.sec.bootVerified
  let s1 := if !up then (if s.sec.bootVerified then coldBooted s else { s with dev := { s.dev with mode := .standby } })
    else if fatal then returnJob { s with dev := { s.dev with mode := .idle } }
    else warmBooted b s
  let s2 := afterBoot fatal (riseErr s1)
  { s2 with dev := { s2.dev with causePersists := none } }

/-- BOOT_END (13, R276). -/
def execBootEnd (b : BootReport) (s : State) : Host.Outcome State Fault Refusal :=
  if s.dev.mode = .boot ∧ s.pins.rstN then .next (bootEnds b s) else .next s

/-! POWER_UP (13, R276, R277; 19, R381, R382) -/

/-- The level of a group's RAIL_GOOD. -/
def setGood (g : RailGroup) (v : Bool) (s : State) : State :=
  match g with
  | .a => { s with pins := { s.pins with railGoodA := v } }
  | .b => { s with pins := { s.pins with railGoodB := v } }

/-- The enable of a group. -/
def railEn (g : RailGroup) (s : State) : Bool :=
  match g with
  | .a => s.pins.railEnA
  | .b => s.pins.railEnB

/-- The RAIL_GOOD of a group. -/
def railGood (g : RailGroup) (s : State) : Bool :=
  match g with
  | .a => s.pins.railGoodA
  | .b => s.pins.railGoodB

/-- A POWER_UP is in progress. -/
def poweringUp (s : State) : Bool := s.dev.mode == .standby && s.dev.activity == 5

/-- The logic dies have their supplies: links begin training, the hearths test themselves, the stacks train and are
zeroised (Table 13.8; log 73). -/
def logicPowered (s : State) : State :=
  let s1 := trainStacks (startLinks { s with dev := { s.dev with poweredUp := true, activity := 4 } })
  { s1 with
    mem := { s1.mem with trained := false, zeroising := true }
    hearths := sofList {} 0 ((List.range 1152).map (fun h => { hearthOf s1 h with selftest := 3 })) }

/-- RAIL_GOOD_RISE (19, R382): in a POWER_UP group B's rise raises RAIL_EN_A, and group A's powers the logic. -/
def execRailGoodRise (g : RailGroup) (s : State) : Host.Outcome State Fault Refusal :=
  let s1 := setGood g true s
  if !poweringUp s then .next s1
  else
    match g with
    | .b => if s.pins.railEnB then .next { s1 with pins := { s1.pins with railEnA := true } } else .next s1
    | .a => if s.pins.railEnA && s.pins.railGoodB then .next (logicPowered s1) else .next s1

/-- RAIL_GOOD_FALL (19, R382): class F while its enable is high. -/
def execRailGoodFall (g : RailGroup) (s : State) : Host.Outcome State Fault Refusal :=
  let s1 := setGood g false s
  if railEn g s && railGood g s then .next (detect s1 (occNone 0x0504)) else .next s1

/-- RAIL_GOOD_TIMEOUT (19, R382): 10 ms after the enable the input is still low. -/
def execRailGoodTimeout (g : RailGroup) (s : State) : Host.Outcome State Fault Refusal :=
  if railEn g s && !railGood g s then .next (detect s (occNone 0x0504)) else .next s

/-- A hearth's self-test has ended (13, R277; 05, R101; 17, R360): a failure is an occurrence of 0x0107, or of 0x0108 for
the known-answer test, which KAT_FAILED of RNG_STATUS counts where it is that of a POWER_UP. -/
def testEnded (h : Nat) (passed kat : Bool) (s : State) : State :=
  let s1 := modHearth { s with dev := { s.dev with selftests := s.dev.selftests.filter (· != h) } } h (fun k => { k with
    selftest := if passed then 1 else 2, katFailed := !kat
    katBoot := if s.dev.poweredUp then !kat else k.katBoot, selftestTime := BitVec.ofNat 64 s.time.now })
  let s2 := if passed then s1 else detect s1 (occAt 0x0107 1 h)
  if kat then s2 else detect s2 (occAt 0x0108 1 h)

/-- SELFTEST_DONE (13, R277): a self-test that runs, of a HEARTH_RESET or of a POWER_UP. -/
def execSelftestDone (h : Fin 1152) (passed katPassed : Bool) (s : State) : Host.Outcome State Fault Refusal :=
  if (hearthOf s h.val).selftest = 3 then .next (testEnded h.val passed katPassed s) else .next s

/-- Self-tests still running have passed by the end of zeroisation (Table 13.8; log 57). -/
def passRest (s : State) : State :=
  { s with hearths := smap {} (fun (k : Hearth) => if k.selftest = 3 then
      { k with selftest := 1, selftestTime := BitVec.ofNat 64 s.time.now } else k) s.hearths }

/-- IDLE after POWER_UP or a job reset: every burst, scratchpad and cache line zeroed (12, R260; log 74). -/
def zeroised (micros : BitVec 32) (s : State) : State :=
  let z := zeroise s
  { z with
    dev := { z.dev with mode := .idle, activity := 0, poweredUp := false }
    mem := { z.mem with zeroising := false, trained := true, zeroiseTime := micros } }

/-- ZEROISATION_DONE (12, R260). -/
def execZeroisationDone (micros : BitVec 32) (s : State) : Host.Outcome State Fault Refusal :=
  if !s.mem.zeroising then .next s
  else if s.dev.poweredUp then .next (lockAtIdle (zeroised micros (passRest s)))
  else .next (zeroised micros s)

/-! Thermal trip, watchdog, ERR_N (14, R295, R296, R298) -/

/-- Location of a trip comparator (14, Table 14.2). -/
def tripOcc (u : TripUnit) : Occ :=
  match u with
  | .computeDie d => occAt 0x0503 5 d.val
  | .linkDie d => occAt 0x0503 6 d.val
  | .bridgeDie d => occAt 0x0503 7 d.val
  | .spineDie d => occAt 0x0503 8 d.val
  | .managementDie => occNone 0x0503
  | .nearStack d => occAt 0x0503 3 d.val
  | .farStack d => occAt 0x0503 4 d.val

/-- The unit has power. -/
def tripPowered (s : State) (u : TripUnit) : Bool :=
  match u with
  | .managementDie => s.dev.mode != .off
  | .linkDie _ => linksPowered s
  | _ => isPowered s || (s.dev.mode == .faulted && s.pins.railEnA)

/-- THERMAL_TRIP (14, R296): within 10 us of the trip its effects and its log record stand. -/
def execThermalTrip (u : TripUnit) (s : State) : Host.Outcome State Fault Refusal :=
  if tripPowered s u then .next (collect s (detectedNow s (tripOcc u) false) false) else .next s

/-- MGMT_WATCHDOG_EXPIRY (14, R298): the processor restarts; its sessions end without a message (16, R338), its locks and
messages with it (15, R319, R320), and hashes in progress are cut short (12, R261). -/
def execMgmtWatchdogExpiry (s : State) : Host.Outcome State Fault Refusal :=
  if !mgmtRuns s then .next s
  else
    let s1 := selfRefreshAll (cutHashes { s with
      dev := { s.dev with restarting := true }
      host := { bulkSeq := s.host.bulkSeq }
      tele := { s.tele with chimneySending := none, chimneyWaiting := none } })
    .next (clearAbsent (releaseSender 16 (releaseSender 15 (releaseSender 1 s1))))

/-- HEARTBEAT_TIMEOUT (14, R298): the link dies relay on their own. -/
def execHeartbeatTimeout (s : State) : Host.Outcome State Fault Refusal :=
  if s.dev.restarting && linksPowered s then .next { s with fabric := { s.fabric with relaying := true } } else .next s

/-- MGMT_RESTART_DONE (14, R298): the firmware verified again, source 0x0609 logged, MGMT_WATCHDOG set, and FAULTED. -/
def execMgmtRestartDone (s : State) : Host.Outcome State Fault Refusal :=
  if !s.dev.restarting then .next s
  else
    let s1 := verifyFirmware { s with
      dev := { s.dev with restarting := false }, faults := { s.faults with mgmtWatchdog := true } }
    .next (collect s1 (detectedNow s1 (occNone 0x0609) false) false)

/-- ERR_PULSE_END (14, R295): the 10 us minimum has ended; ERR_N rises unless it is held. -/
def execErrPulseEnd (s : State) : Host.Outcome State Fault Refusal :=
  if !s.faults.pulsing then .next s
  else
    .next { s with
      faults := { s.faults with pulsing := false }
      pins := { s.pins with errN := if s.dev.mode = .boot ∨ s.dev.mode = .faulted then s.pins.errN else !s.faults.errHeld } }

end Sys2Proof.Machine
end

