-- ==== Sys2Proof/Machine/Entries.lean ====
section
/-! DEFINITION. The object dictionary as it is read: which entries and subentries exist, their types, access and sizes
(17, R345 to R352), and the value of every readable subentry, least significant byte first (R346). -/

namespace Sys2Proof.Machine

/-! What exists (17, Table 17.3) -/

/-- Access of a subentry (00, Table 0.2): RW, RWS, W1C and per-field entries are writable. -/
inductive Acc where
  | ro | rw | wo | seal
deriving DecidableEq, Repr

/-- A subentry: its type code (16, Table 16.11), its access, and the size of its value in bytes. -/
structure Sub where
  typ : Nat
  acc : Acc
  size : Nat
deriving DecidableEq, Repr

/-- A U8 subentry. -/
def u8 (a : Acc) : Sub := ⟨2, a, 1⟩
/-- A U16 subentry. -/
def u16 (a : Acc) : Sub := ⟨3, a, 2⟩
/-- A U32 subentry. -/
def u32 (a : Acc) : Sub := ⟨4, a, 4⟩
/-- A U64 subentry. -/
def u64 (a : Acc) : Sub := ⟨5, a, 8⟩
/-- An I32 subentry. -/
def i32 (a : Acc) : Sub := ⟨6, a, 4⟩
/-- An F32 subentry. -/
def f32 (a : Acc) : Sub := ⟨7, a, 4⟩
/-- A TIME64 subentry. -/
def t64 (a : Acc) : Sub := ⟨8, a, 8⟩
/-- A DOMAIN subentry of n bytes. -/
def dom (a : Acc) (n : Nat) : Sub := ⟨10, a, n⟩

/-- An entry that has subentries 0x01 upward beside 0x00 (00, R5), or exactly one value at 0x00 (17, R347). -/
structure Entry where
  single : Bool
  subs : List Sub
deriving DecidableEq, Repr

/-- An entry with subentries. -/
def many (l : List Sub) : Option Entry := some ⟨false, l⟩
/-- An entry of one value. -/
def one (x : Sub) : Option Entry := some ⟨true, [x]⟩

/-- The entries of the ranges 0x1000 to 0x2FFF. -/
def entryLow (i : Nat) : Option Entry :=
  match i with
  | 0x1000 => many [⟨9, .ro, 20⟩, ⟨9, .ro, 9⟩, u64 .ro, u16 .ro, u32 .ro, u16 .ro, u32 .ro]
  | 0x1010 => many (u64 .ro :: List.replicate 8 (u8 .ro))
  | 0x1100 => many [u32 .rw, u32 .rw, u32 .rw, u8 .rw, u32 .rw, dom .rw 16, u8 .rw, dom .rw 16, dom .ro 6, u32 .ro, u64 .ro]
  | 0x1110 => many [u32 .rw, u32 .rw, u32 .rw, u32 .rw, u64 .ro]
  | 0x2000 => many [u32 .ro, u32 .ro, u32 .ro, u32 .ro, u64 .ro, u64 .rw]
  | 0x2001 => one (u32 .wo)
  | 0x2010 => many [u32 .ro, u64 .ro, u64 .ro, u32 .ro, u64 .ro]
  | 0x2400 => many [t64 .ro, u64 .ro, t64 .rw, u32 .rw, u32 .rw, t64 .rw, i32 .ro]
  | 0x2410 => many [u32 .rw, u32 .ro]
  | 0x2420 => many [u32 .ro, u32 .ro, dom .ro 32, dom .ro 32]
  | 0x2430 => many [u32 .ro, u32 .ro, u32 .ro, u32 .ro]
  | 0x2440 => many [u64 .rw, u64 .ro, u32 .rw, u64 .rw, u64 .ro, f32 .rw, u64 .ro, u32 .rw]
  | 0x2450 => many [i32 .ro, u32 .rw, u32 .ro]
  | _ => none

/-- The single entries of the ranges 0x3000 to 0x3FFF. -/
def entryMid (i : Nat) : Option Entry :=
  match i with
  | 0x3000 => many [u32 .ro, u32 .ro, u64 .ro, u32 .ro]
  | 0x3010 => many [dom .rw 32, u64 .ro, u64 .ro, u32 .rw]
  | 0x3400 => many [u32 .rw, u32 .rw, u32 .rw]
  | 0x3401 => many [u64 .ro, u32 .rw, u64 .ro, u32 .ro, i32 .ro]
  | 0x3410 => many (u32 .rw :: List.replicate 9 (u64 .ro))
  | 0x3420 => one (dom .ro 4096)
  | 0x3421 => one (dom .ro 4096)
  | 0x3430 => one (dom .ro 16384)
  | 0x3440 => one (dom .ro 3072)
  | 0x3450 => many [u32 .rw, u32 .ro]
  | _ => none

/-- The single entries of the ranges 0x4000 to 0x7FFF. -/
def entryHigh (i : Nat) : Option Entry :=
  match i with
  | 0x4040 => many [u64 .rw, u64 .ro, u64 .ro, u64 .ro, u32 .ro, u32 .rw]
  | 0x4800 => many [u32 .rw, u32 .rw, u32 .rw, u32 .rw, u32 .ro]
  | 0x4830 => many [u64 .ro, u64 .ro, u32 .ro]
  | 0x5000 => many [u64 .ro, u64 .ro, u64 .ro, u64 .ro, u32 .rw, u32 .rw]
  | 0x5010 => one (u32 .rw)
  | 0x5020 => many [u32 .rw, dom .ro 32, u32 .ro, u8 .wo]
  | 0x5030 => many [u16 .rw, u32 .rw, u64 .ro, t64 .rw]
  | 0x5820 => many [u32 .ro, u8 .ro]
  | 0x6000 => many [u32 .ro, dom .ro 32, dom .ro 16, dom .ro 2048]
  | 0x6010 => many [u32 .ro, dom .ro 32]
  | 0x6020 => many [dom .wo 384, dom .ro 32]
  | 0x6030 => many [dom .wo 32, dom .ro 1024, u8 .ro]
  | 0x7000 => many [u32 .seal, dom .seal 32, dom .seal 2048, u32 .seal]
  | 0x7001 => many [u32 .seal, u64 .seal, u64 .seal, u64 .seal]
  | 0x7002 => many [dom .seal 64, dom .seal 16, dom .seal 32]
  | _ => none

/-- n indices from b hold index i. -/
def within (b n i : Nat) : Bool := decide (b ≤ i) && decide (i < b + n)

/-- The entry of an index, if the device implements it (R352). -/
def entryOf (i : Nat) : Option Entry :=
  if within 0x3040 16 i then
    many [u32 .rw, f32 .rw, f32 .rw, f32 .rw, f32 .rw, u8 .rw, dom .rw 64, dom .rw 32, f32 .ro, u64 .ro]
  else if within 0x4000 64 i then
    many [u32 .ro, u32 .ro, i32 .ro, u64 .ro, u64 .ro, u64 .ro, u64 .ro, u32 .ro, u32 .rw, u32 .rw]
  else if within 0x4810 16 i then many [u32 .ro, dom .ro 33, u64 .ro, u64 .ro, i32 .ro, u32 .ro, u8 .wo]
  else if within 0x4840 16 i then many [u8 .ro, dom .ro 16, dom .ro 32, u8 .wo, u8 .rw]
  else if within 0x5800 32 i then many (List.replicate 18 (u32 .rw))
  else if within 0x7080 128 i then many (List.replicate 128 (dom .seal 640))
  else if within 0x8000 1152 i then many [u32 .ro, t64 .ro, u64 .ro, u32 .ro, u8 .ro]
  else if i < 0x3000 then entryLow i else if i < 0x4000 then entryMid i else entryHigh i

/-- The subentry of an entry: 0x00 of one with subentries is a U8, access RO (or SEAL within Assay) (00, R5). -/
def subOf (i : Nat) (e : Entry) (sub : Nat) : Option Sub :=
  if e.single then (if sub = 0 then e.subs[0]? else none)
  else if sub = 0 then some (u8 (if within 0x7000 256 i then .seal else .ro))
  else e.subs[sub - 1]?

/-! Values -/

/-- A U32 as its bytes. -/
def le4 (n : Nat) : Bytes := natLe 4 n
/-- A U64 as its bytes. -/
def le8 (n : Nat) : Bytes := natLe 8 n
/-- The same bytes, n of them, for a missing value. -/
def zeros (n : Nat) : Bytes := List.replicate n 0
/-- A flag at a bit. -/
def flag (b : Bool) (i : Nat) : Nat := b2n b * 2 ^ i

/-- ASCII text as bytes. -/
def text (t : String) : Bytes := t.toList.map (fun c => BitVec.ofNat 8 c.toNat)

/-- Entry 0x1000 (Table 17.4). -/
def readIdentity (s : State) (sub : Nat) : Bytes :=
  match sub with
  | 1 => text "Zalsea Semiconductor"
  | 2 => text "ZB4T-1820"
  | 3 => le8 Config.serial.toNat
  | 4 => natLe 2 Config.stepping.toNat
  | 5 => le4 (bankNo s s.sec.bootedB).mgmt.fwVersion.toNat
  | 6 => natLe 2 1
  | _ => le4 s.dev.bootCount.toNat

/-- Links trained at two lanes or more; while the link dies have no power, those not fenced (01, R16; log 58). -/
def linksUp (s : State) : Nat := if linksPowered s then (upLinks s).length else 64 - s.fence.links.length

/-- GEOMETRY_SUMMARY (01, Table 1.4). -/
def geometrySummary (s : State) : Nat :=
  let ok := fun (b : Nat) => ((List.range 8).filter (fun i => activeOf s.fence (b + i) != 0)).length
  ok 0 * 2 ^ 48 + ok 8 * 2 ^ 40 + linksUp s * 2 ^ 32 + (1152 - s.fence.hearths.length) * 2 ^ 16 +
    ((List.range 8).map (freeSpares s)).sum * 2 ^ 8 + ((List.range 8).filter (fun d => decide (140 ≤ usableOn s d))).length

/-- Entry 0x1010. -/
def readGeometry (s : State) (sub : Nat) : Bytes :=
  if sub = 1 then le8 (geometrySummary s) else natLe 1 (freeSpares s (sub - 2))

/-- PORT_STATUS (16, Table 16.5). -/
def portStatus (s : State) : Nat :=
  s.host.sessions.length * 2 ^ 8 + s.host.channels.length * 2 ^ 4 + flag s.port.ptpReceiving 3 +
    flag s.port.pausing 2 + flag s.port.aligned 1 + b2n s.port.linkUp

/-- Entry 0x1100 (16, Table 16.1). -/
def readPort (s : State) (sub : Nat) : Bytes :=
  let p := s.port
  match sub with
  | 1 => le4 p.config.toNat
  | 2 => le4 p.pfcConfig.toNat
  | 3 => le4 p.ipv4.toNat
  | 4 => natLe 1 p.ipv4Prefix.toNat
  | 5 => le4 p.ipv4Gateway.toNat
  | 6 => natBe 16 p.ipv6.toNat
  | 7 => natLe 1 p.ipv6Prefix.toNat
  | 8 => natBe 16 p.ipv6Gateway.toNat
  | 9 => natBe 6 Config.macAddress.toNat
  | 10 => le4 (portStatus s)
  | _ => le8 p.discards.toNat

/-- Entry 0x1110 (16, Table 16.4). -/
def readProtocol (s : State) (sub : Nat) : Bytes :=
  match sub with
  | 1 => le4 s.port.sessionTimeout.toNat
  | 2 => le4 s.port.ackDelay.toNat
  | 3 => le4 s.port.retxTimeout.toNat
  | 4 => le4 s.port.retryLimit.toNat
  | _ => le8 s.port.authFailures.toNat

/-- DEVICE_STATE (13, Table 13.3). -/
def deviceState (s : State) : Nat :=
  let d := s.dev
  d.heldReason.toNat * 2 ^ 20 + d.lastReset.toNat * 2 ^ 16 + flag d.startMissed 11 + flag d.armPending 10 +
    flag d.holdRequested 9 + flag d.jobSuspended 8 + d.activity.toNat * 2 ^ 4 + modeCode d.mode

/-- Entry 0x2000 (13, Table 13.2). -/
def readDevice (s : State) (sub : Nat) : Bytes :=
  match sub with
  | 1 => le4 (deviceState s)
  | 2 => le4 s.dev.refused.toNat
  | 3 => le4 s.dev.lastRefused.toNat
  | 4 => le4 s.dev.bootTime.toNat
  | 5 => le8 s.dev.jobId.toNat
  | _ => le8 s.dev.holdAfter.toNat

/-- Entry 0x2010 (13, Table 13.11). -/
def readContext (s : State) (sub : Nat) : Bytes :=
  let c := s.ctx
  match sub with
  | 1 => le4 (c.result.toNat * 2 ^ 16 + c.op.toNat * 2 ^ 6 + flag c.inProgress 5)
  | 2 => le8 c.bytesDone.toNat
  | 3 => le8 c.bytesTotal.toNat
  | 4 => le4 c.failSegment.toNat
  | _ => le8 c.exportedStep.toNat

/-- TIME_CONFIG (07, Table 7.3). -/
def timeConfig (s : State) : Nat :=
  s.time.ptpDomain.toNat * 2 ^ 8 + s.time.source.toNat * 2 + b2n s.time.master

/-- TIME_STATUS (07, Table 7.4). -/
def timeStatus (s : State) : Nat :=
  let t := s.time
  t.parent.getD 0 * 2 ^ 20 + t.hops.toNat * 2 ^ 15 + flag t.refLost 7 + flag t.excursion 6 + flag t.parentSwitch 5 +
    flag t.longLink 4 + t.lock.toNat

/-- A job runs on this device. -/
def jobRuns (s : State) : Bool := s.dev.mode == .running || s.dev.mode == .held

/-- Entry 0x2400 (07, Table 7.2). -/
def readTime (s : State) (sub : Nat) : Bytes :=
  match sub with
  | 1 => le8 (if s.time.everLocked then s.time.now else 0)
  | 2 => le8 (if jobRuns s then s.seq.frame else 0)
  | 3 => le8 s.time.startTime.toNat
  | 4 => le4 (timeConfig s)
  | 5 => le4 (timeStatus s)
  | 6 => le8 s.time.taiSet.toNat
  | _ => le4 (if isMaster s then 0 else s.time.parentOffset.toNat)

/-- Entry 0x2410 (07, Table 7.7). -/
def readRate (s : State) (sub : Nat) : Bytes :=
  if sub = 1 then le4 (s.rate.cap * 2 ^ 16 + s.rate.n * 2 ^ 8 + s.rate.reqLocal.toNat * 2 ^ 4 +
    (if isMaster s then s.rate.reqFabric.toNat else 0))
  else le4 s.rate.changes.toNat

/-- Entry 0x2420 (07, R398, Table 7.13). -/
def readImage (s : State) (sub : Nat) : Bytes :=
  match sub with
  | 1 => le4 (s.image.failSection.toNat * 2 ^ 24 + s.image.code.toNat)
  | 2 => le4 s.image.failRecord.toNat
  | 3 => fenceSignature s.fence
  | _ => s.image.hash

/-- Entry 0x2430 (07, Table 7.24). -/
def readStep (s : State) (sub : Nat) : Bytes :=
  match sub with
  | 1 => le4 s.seq.stepFrames.toNat
  | 2 => le4 s.seq.nextFrames.toNat
  | 3 => le4 s.seq.planEntry.toNat
  | _ => le4 s.seq.recomputeLayers.toNat

/-- TRAIN_STATUS (08, Table 8.9). -/
def trainStatus (s : State) : Nat :=
  let t := s.train
  t.replays.toNat * 2 ^ 16 + t.stepReplays.toNat * 2 ^ 12 + t.restartKind.toNat * 2 ^ 8 + flag t.diagMismatch 7 +
    flag t.updateSkipped 6 + flag t.batchLate 5 + flag t.stashOverrun 4 + flag t.forcedRecompute 3 + s.seq.phase.toNat

/-- Entry 0x2440 (08, Table 8.8). -/
def readTrain (s : State) (sub : Nat) : Bytes :=
  let t := s.train
  match sub with
  | 1 => le8 t.stagedStep.toNat
  | 2 => le8 t.completedStep.toNat
  | 3 => le4 (trainStatus s)
  | 4 => le8 t.diagStep.toNat
  | 5 => le8 t.normSq.toNat
  | 6 => le4 t.maxNorm.toNat
  | 7 => le8 t.digests.toNat
  | _ => le4 t.replayLimit.toNat

/-- UPDATE_STATUS (09, Table 9.12). -/
def updateStatus (s : State) : Nat :=
  let u := s.upd
  u.chunks.toNat * 2 ^ 24 + u.lastRollback.toNat * 2 ^ 16 + flag u.stateLost 7 + flag u.countMismatch 6 +
    flag u.setMismatch 5 + flag u.depthExceeded 4 + u.ring1.toNat * 4 + u.ring0.toNat

/-- Entry 0x2450 (09, Table 9.11). -/
def readUpdate (s : State) (sub : Nat) : Bytes :=
  match sub with
  | 1 => le4 (BitVec.ofInt 32 s.upd.committed).toNat
  | 2 => le4 (updateStatus s)
  | _ => le4 s.upd.rollbacks.toNat

/-- Entry 0x3000 (17, Table 17.5). -/
def readArith (sub : Nat) : Bytes :=
  match sub with
  | 1 => le4 0xFF
  | 2 => le4 0x00102020
  | 3 => le8 0x0000200010000800
  | _ => le4 0x00488025

/-- Hearths whose RNG bank failed its known-answer test (05, Table 5.6). -/
def katCount (s : State) : Nat := (s.hearths.filter (·.2.katBoot)).length

/-- Entry 0x3010 (05, Tables 5.5, 5.6). -/
def readRng (s : State) (sub : Nat) : Bytes :=
  match sub with
  | 1 => s.rng.jobSeed
  | 2 => le8 (seedNow s).toNat
  | 3 => le8 s.rng.stepNumber.toNat
  | _ => le4 (flag s.rng.mismatch 16 + katCount s)

/-- Entry 0x3040 + n (09, Table 9.2). -/
def readSet (s : State) (n sub : Nat) : Bytes :=
  let h := setOf s n
  match sub with
  | 1 => le4 h.flags.toNat
  | 2 => le4 h.beta1.toNat
  | 3 => le4 h.beta2.toNat
  | 4 => le4 h.eps.toNat
  | 5 => le4 h.decay.toNat
  | 6 => natLe 1 h.knotCount.toNat
  | 7 => h.knotSteps.flatMap (fun x => le8 x.toNat)
  | 8 => h.knotLrs.flatMap (fun x => le4 x.toNat)
  | 9 => le4 h.lrNow.toNat
  | _ => le8 h.biasCorr.toNat

/-- Entry 0x3400 (10, R213). -/
def readThresholds (s : State) (sub : Nat) : Bytes :=
  le4 (if sub = 1 then s.tele.thresholds.toNat else if sub = 2 then s.tele.nanLimit.toNat else s.tele.silenceCfg.toNat)

/-- Entry 0x3401 (10, Table 10.11). -/
def readFallback (s : State) (sub : Nat) : Bytes :=
  match sub with
  | 1 => le8 s.tele.decidedStep.toNat
  | 2 => le4 (fallbackStatus s.tele).toNat
  | 3 => le8 s.tele.levelCounts.toNat
  | 4 => le4 s.tele.storms.toNat
  | _ => le4 s.tele.growth.toNat

/-- Entry 0x3410 (10, R214). -/
def readStat (s : State) (sub : Nat) : Bytes :=
  if sub = 1 then le4 s.tele.select.toNat
  else if sub = 2 then le8 s.tele.selStep.toNat
  else (statBytes s.tele.selValue).drop (8 * (sub - 3)) |>.take 8

/-- Layers of the loaded image. -/
def layerCount (s : State) : Nat := (imageOf s).layers.length

/-- 4,096 bytes, one a layer; those at or above LAYER_COUNT read 0 (10, R215). -/
def perLayer (s : State) (f : Nat → Byte) : Bytes :=
  (List.range 4096).map (fun l => if l < layerCount s || s.image.loaded.isNone then f l else 0)

/-- Entries 0x3420, 0x3421, 0x3430, 0x3440 (10, R215); a record that the watchdog does not track counts 0. -/
def readStates (s : State) (i : Nat) : Bytes :=
  if i = 0x3420 then perLayer s (fun l => levelByte (sget {} s.tele.levels l))
  else if i = 0x3421 then perLayer s (fun l => sget 0 s.tele.cleanRuns l)
  else if i = 0x3430 then (List.range 4096).flatMap (fun n =>
    le4 (if tracksSilence (imageOf s) n then (sget 0 s.tele.silence n).toNat else 0))
  else (List.range 768).flatMap (fun n => le4 (sget 0x7FC00000 s.tele.watchNorms n).toNat)

/-- Entry 0x3450 (10, Table 10.13). -/
def readChimney (s : State) (sub : Nat) : Bytes :=
  le4 (if sub = 1 then s.tele.chimneyCfg.toNat else s.tele.chimneyDropped.toNat)

/-- LINK_STATE (11, Table 11.10). -/
def linkState (l : Link) : Nat :=
  l.peerLink.toNat * 2 ^ 18 + l.lanes.toNat * 2 ^ 12 + l.width.toNat * 2 ^ 8 + flag l.data 4 + l.state.toNat

/-- Entry 0x4000 + k (11, Table 11.9). -/
def readLink (s : State) (k sub : Nat) : Bytes :=
  let l := linkOf s k
  match sub with
  | 1 => le4 (linkState l)
  | 2 => le4 l.peerCoord.toNat
  | 3 => le4 l.delay.toNat
  | 4 => le8 l.fecCorrected.toNat
  | 5 => le8 l.fecSymbols.toNat
  | 6 => le8 l.fecBad.toNat
  | 7 => le8 l.cellErrors.toNat
  | 8 => le4 (l.requested.toNat * 2 ^ 16 + l.retried.toNat)
  | 9 => le4 l.events.toNat
  | _ => le4 (flag (s.fence.links.contains k) 2 + flag l.retrain 1 + b2n l.forceDown)

/-- Entry 0x4040 (11, Table 11.13). -/
def readFabric (s : State) (sub : Nat) : Bytes :=
  match sub with
  | 1 => le8 s.fabric.id.toNat
  | 2 => le8 (((List.range 64).map (fun k => flag (carriesData s k) k)).sum)
  | 3 => (List.range 8).map (fun d => BitVec.ofNat 8 (sget 0xFF s.fabric.downTables d))
  | 4 => le8 s.fabric.haltStatus.toNat
  | 5 => le4 s.fabric.relayDrops.toNat
  | _ => le4 s.fabric.retrainLimit.toNat

/-- MEM_STATUS (12, Table 12.10). -/
def memStatus (s : State) : Nat :=
  let m := s.mem
  flag m.lastOverflow 7 + flag m.ueLatent 6 + flag m.stackFenced 5 + flag m.channelRetired 4 + flag m.farHot 3 +
    flag m.zeroising 2 + flag (m.retained.any (·.2.state == 2)) 1 + b2n m.trained

/-- Entry 0x4800 (12, Table 12.9). -/
def readMemory (s : State) (sub : Nat) : Bytes :=
  match sub with
  | 1 => le4 (memStatus s)
  | 2 => le4 s.mem.scrubPeriod.toNat
  | 3 => le4 s.mem.rotateInterval.toNat
  | 4 => le4 s.mem.ceThreshold.toNat
  | _ => le4 s.mem.zeroiseTime.toNat

/-- A rotation of the stack is queued (R252). -/
def rotQueued (k : Stack) : Bool := !k.repairs.isEmpty || k.routine

/-- STACK_STATUS (12, Table 12.12). -/
def stackStatus (s : State) (n : Nat) : Nat :=
  let k := stackOf s n
  activeOf s.fence n * 2 ^ 24 + k.rotLogical * 2 ^ 19 + (if k.rotPhase = 0 ∧ rotQueued k then 3 else k.rotPhase) * 2 ^ 17 +
    k.laneRepairs.toNat * 2 ^ 8 + flag (activeOf s.fence n == 0) 3 + flag k.spareOk 2 + flag k.refresh2x 1 + b2n k.trained

/-- CHANNEL_MAP (12, Table 12.11). -/
def channelMap (s : State) (n : Nat) : Bytes :=
  let k := stackOf s n
  (List.range 32).map (fun l => BitVec.ofNat 8 (if l < activeOf s.fence n then physOf k l else 0xFF)) ++
    [BitVec.ofNat 8 ((spareOf n k).getD 0xFF)]

/-- Entries 0x4810 to 0x481F (12, Table 12.11). -/
def readStackEntry (s : State) (n sub : Nat) : Bytes :=
  let k := stackOf s n
  match sub with
  | 1 => le4 (stackStatus s n)
  | 2 => channelMap s n
  | 3 => le8 k.ceCount.toNat
  | 4 => le8 k.ueCount.toNat
  | 5 => le4 k.temperature.toNat
  | _ => le4 k.rotations.toNat

/-- Entry 0x4830 (12, Table 12.13). -/
def readCache (s : State) (sub : Nat) : Bytes :=
  match sub with
  | 1 => le8 s.mem.hits.toNat
  | 2 => le8 s.mem.misses.toNat
  | _ => le4 (s.mem.lines.filter (·.last)).length

/-- Entry 0x4840 + r (12, Table 12.14). -/
def readRetained (s : State) (r sub : Nat) : Bytes :=
  let k := retainedOf s r
  match sub with
  | 1 => natLe 1 k.state.toNat
  | 2 => k.placement.elim (zeros 16) regionEntry
  | 3 => k.digest
  | _ => natLe 1 (b2n k.hashFail)

/-- FAULT_FLAGS (14, Table 14.6). -/
def faultFlags (f : Faults) : Nat :=
  f.bankCause.toNat * 2 ^ 4 + flag f.imageStopped 3 + flag f.thermTripped 2 + flag f.mgmtWatchdog 1

/-- Entry 0x5000 (14, Table 14.5). -/
def readFaults (s : State) (sub : Nat) : Bytes :=
  let f := s.faults
  match sub with
  | 1 => le8 f.countC.toNat
  | 2 => le8 f.countU.toNat
  | 3 => le8 f.countF.toNat
  | 4 => le8 f.lastFault.toNat
  | 5 => le4 (faultFlags f)
  | _ => le4 f.hearthLimit.toNat

/-- ERR_CONTROL (14, Table 14.7). -/
def errControl (f : Faults) : Nat := flag f.cEnable 2 + flag f.pulsing 1 + b2n f.errHeld

/-- Entry 0x5020 (14, Table 14.8). -/
def readLog (s : State) (sub : Nat) : Bytes :=
  match sub with
  | 1 => le4 s.faults.logSelect.toNat
  | 2 => logBytes s.faults.logRecord
  | _ => le4 s.faults.log.length

/-- CONTROL of the selected source (14, Table 14.10). -/
def sourceControl (s : State) : Nat :=
  let code := s.faults.sourceSelect.toNat
  let x := sourceOf s code
  match sourceInfo code with
  | some i => x.unit.toNat * 2 ^ 8 + flag x.force.isSome 7 + flag x.mask 6 + reactionOf s i * 2 ^ 3 + i.cls
  | none => 0

/-- Entry 0x5030 (14, Table 14.9). -/
def readSource (s : State) (sub : Nat) : Bytes :=
  match sub with
  | 1 => natLe 2 s.faults.sourceSelect.toNat
  | 2 => le4 (sourceControl s)
  | 3 => le8 s.faults.sourceCount.toNat
  | _ => le8 s.faults.forceTime.toNat

/-- Agent ID of whoever makes a dictionary access (15, Table 15.1). -/
def agentId (a : Agent) : Nat :=
  match a with
  | .host _ => 15
  | .monitor => 16

/-- Entry 0x5800 + m but for LOCK (15, Table 15.4). -/
def readMail (s : State) (a : Agent) (m sub : Nat) : Bytes :=
  if sub = 2 then le4 (mailControl (mailOf s m)).toNat else le4 (mailWord (mailOf s m) m (agentId a) (sub - 3)).toNat

/-- PENDING_FLAGS (15, R313). -/
def pendingFlags (s : State) : Nat :=
  ((List.range 10).map (fun i => flag ((mailOf s (18 + i)).status == 1) (18 + i))).sum

/-- Entry 0x5820. -/
def readMailHost (s : State) (sub : Nat) : Bytes := if sub = 1 then le4 (pendingFlags s) else [0x0F]

/-- MONITOR of the policy in force (17, Table 17.9). -/
def monitorMode (s : State) : Nat := bits s.sec.policy.toNat 0 2

/-- SECURITY_STATUS (17, Table 17.7). -/
def securityStatus (s : State) : Nat :=
  flag (s.sec.quoteStatus == 2) 4 + flag s.sec.jobKey.isSome 3 + flag (monitorMode s == 2) 2 + flag s.sec.owner.isSome 1 +
    b2n s.sec.bootVerified

/-- ROLLBACK: four U32 counters (17, Table 17.6). -/
def rollbackBytes (s : State) : Bytes := (List.range 4).flatMap (fun i => le4 (sget 0 s.sec.rollback i))

/-- Entries 0x6000 to 0x6030 (17, Tables 17.6 to 17.11). -/
def readSecurity (s : State) (i sub : Nat) : Bytes :=
  if i = 0x6000 then
    (if sub = 1 then le4 (securityStatus s) else if sub = 2 then s.sec.ownerId else if sub = 3 then rollbackBytes s
     else slice Config.identityCert 0 2048)
  else if i = 0x6010 then (if sub = 1 then le4 s.sec.policy.toNat else s.sec.policyHash)
  else if i = 0x6020 then s.sec.keyId
  else if sub = 2 then (if s.sec.quoteStatus = 2 then slice s.sec.quote 0 1024 else zeros 1024)
  else natLe 1 s.sec.quoteStatus.toNat

/-- ASSAY_STATUS (18, Table 18.12). -/
def assayStatus (a : Assay) : Nat :=
  flag a.keyLost 4 + flag a.updatePending 3 + flag a.record.isSome 2 + flag a.selftestOk 1 + b2n a.running

/-- Entries 0x7000 to 0x70FF (18, Tables 18.10 to 18.13, R379). -/
def readAssay (s : State) (i sub : Nat) : Bytes :=
  let a := s.assay
  if i = 0x7000 then
    (if sub = 1 then le4 a.fwVersion.toNat else if sub = 2 then a.fwMeasurement
     else if sub = 3 then slice Config.metrologyCert 0 2048 else le4 a.updateCount.toNat)
  else if i = 0x7001 then
    (if sub = 1 then le4 (assayStatus a) else if sub = 2 then le8 a.time.toNat
     else if sub = 3 then le8 (a.record.elim 0 (·.jobId.toNat)) else le8 a.nextIndex.toNat)
  else if i = 0x7002 then
    (if sub = 1 then (List.range 8).flatMap (fun k => le8 (a.energy.getD k 0).toNat)
     else if sub = 2 then natLe 16 a.workTotal
     else (List.range 8).flatMap (fun k => le4 (a.powerNow.getD k 0).toNat))
  else ringSlotOf a (128 * (i - 0x7080) + (sub - 1))

/-- HEARTH_STATUS (17, Table 17.13). -/
def hearthStatus (s : State) (h : Nat) : Nat :=
  let k := hearthOf s h
  k.logical * 2 ^ 13 + k.selftest.toNat * 2 ^ 6 + flag k.katFailed 5 + flag (gatedBit s h) 3 + flag (isSpare h) 2 +
    flag (isMapped s h) 1 + b2n (isFenced s h)

/-- Entry 0x8000 + h (17, Table 17.12). -/
def readHearth (s : State) (h sub : Nat) : Bytes :=
  let k := hearthOf s h
  match sub with
  | 1 => le4 (hearthStatus s h)
  | 2 => le8 k.selftestTime.toNat
  | 3 => le8 k.spCorrected.toNat
  | 4 => le4 k.uOccurrences.toNat
  | _ => natLe 1 k.stepU.toNat

/-- Values below 0x3000. -/
def readLow (s : State) (i sub : Nat) : Bytes :=
  match i with
  | 0x1000 => readIdentity s sub
  | 0x1010 => readGeometry s sub
  | 0x1100 => readPort s sub
  | 0x1110 => readProtocol s sub
  | 0x2000 => readDevice s sub
  | 0x2010 => readContext s sub
  | 0x2400 => readTime s sub
  | 0x2410 => readRate s sub
  | 0x2420 => readImage s sub
  | 0x2430 => readStep s sub
  | 0x2440 => readTrain s sub
  | _ => readUpdate s sub

/-- Values from 0x3000 to 0x3FFF. -/
def readMid (s : State) (i sub : Nat) : Bytes :=
  if within 0x3040 16 i then readSet s (i - 0x3040) sub
  else
    match i with
    | 0x3000 => readArith sub
    | 0x3010 => readRng s sub
    | 0x3400 => readThresholds s sub
    | 0x3401 => readFallback s sub
    | 0x3410 => readStat s sub
    | 0x3450 => readChimney s sub
    | _ => readStates s i

/-- Values from 0x4000 to 0x57FF. -/
def readFabricMemFault (s : State) (i sub : Nat) : Bytes :=
  if i < 0x4040 then readLink s (i - 0x4000) sub
  else if within 0x4810 16 i then readStackEntry s (i - 0x4810) sub
  else if within 0x4840 16 i then readRetained s (i - 0x4840) sub
  else
    match i with
    | 0x4040 => readFabric s sub
    | 0x4800 => readMemory s sub
    | 0x4830 => readCache s sub
    | 0x5000 => readFaults s sub
    | 0x5010 => le4 (errControl s.faults)
    | 0x5020 => readLog s sub
    | _ => readSource s sub

/-- The value of a readable subentry that exists, by index and subindex; 0x00 of an entry with subentries is the highest
subindex (00, R5). -/
def valueOf (s : State) (a : Agent) (i sub : Nat) (e : Entry) : Bytes :=
  if !e.single && sub == 0 then [BitVec.ofNat 8 e.subs.length]
  else if i < 0x3000 then readLow s i sub
  else if i < 0x4000 then readMid s i sub
  else if i < 0x5800 then readFabricMemFault s i sub
  else if i < 0x5820 then readMail s a (i - 0x5800) sub
  else if i = 0x5820 then readMailHost s sub
  else if i < 0x7000 then readSecurity s i sub
  else if i < 0x8000 then readAssay s i sub
  else readHearth s (i - 0x8000) sub

/-! Reading (16, R339; 17, R345 to R348) -/

/-- Index 0x1000 to 0x1FFF: answered without a session. -/
def isPublic (i : Nat) : Bool := within 0x1000 0x1000 i

/-- The agent is authorised for an index: a host outside a session reads public entries only; the policy authorises the
monitor (R339; 15, R324). -/
def mayRead (a : Agent) (i : Nat) : Bool :=
  match a with
  | .host session => session || isPublic i
  | .monitor => true

/-- The first refusal of a read, 0 for none, with the subentry (R8). -/
def readCheck (a : Agent) (i sub : Nat) : BitVec 16 × Option (Entry × Sub) :=
  match entryOf i with
  | none => (0x0101, none)
  | some e =>
    match subOf i e sub with
    | none => (0x0102, none)
    | some x =>
      if !mayRead a i then (0x0401, none)
      else if x.acc = .wo then (0x0201, none)
      else (0, some (e, x))

/-- The entry is a mailbox LOCK, whose read may acquire it (15, R314). -/
def isLock (i sub : Nat) : Bool := within 0x5800 32 i && sub == 1

/-- Read a readable subentry: the state after it, the code, the type code and the value. A read of LOCK may acquire. -/
def readFound (s : State) (a : Agent) (i sub : Nat) (e : Entry) (x : Sub) : State × BitVec 16 × Nat × Bytes :=
  if isLock i sub then
    let r := lockRead s (i - 0x5800) (agentId a)
    (r.1, 0, x.typ, le4 r.2.toNat)
  else (s, 0, x.typ, valueOf s a i sub e)

/-- Read a whole subentry. -/
def readWhole (s : State) (a : Agent) (i sub : Nat) : State × BitVec 16 × Nat × Bytes :=
  match readCheck a i sub with
  | (_, some (e, x)) => readFound s a i sub e x
  | (c, none) => (s, c, 0, [])

/-- A type whose READ takes OFFSET and COUNT (R339): STRING and DOMAIN. -/
def isLong (typ : Nat) : Bool := decide (9 ≤ typ)

/-- READ of a piece: OFFSET and COUNT are zero but for STRING and DOMAIN, whose COUNT is 1 to 4,096 and whose piece lies
within the entry (R339). -/
def readPiece (s : State) (a : Agent) (i sub offset count : Nat) : State × BitVec 16 × Nat × Bytes :=
  match readCheck a i sub with
  | (_, some (_, x)) =>
    if isLong x.typ then
      (if count < 1 ∨ 4096 < count ∨ x.size < offset + count then (s, 0x0202, 0, [])
       else
         let r := readWhole s a i sub
         (r.1, r.2.1, r.2.2.1, (r.2.2.2.drop offset).take count))
    else if offset ≠ 0 ∨ count ≠ 0 then (s, 0x0202, 0, [])
    else readWhole s a i sub
  | (c, none) => (s, c, 0, [])

end Sys2Proof.Machine
end

