-- ==== Sys2Proof/Machine/Context.lean ====
section
/-! DEFINITION. Context images: their bytes, EXPORT and RESTORE (13, R278 to R287). -/

namespace Sys2Proof.Machine

/-! The tensors of a context (R278, R280) -/

/-- Blocks of a tensor of [ROWS, COLS] in canonical order (R280). -/
def canonBlocks (rows cols : Nat) : Nat := rows * ((cols + 31) / 32)

/-- The planes of update tiles in canonical order, as offset in the tile and bytes a block (Table 9.1, R280); the residue
stands third. -/
def tilePlanes (slots : Nat) : List (Nat × Nat) := (List.range slots).map (fun i => (6144 + 4096 * i, 128))

/-- Bytes of a tensor's canonical planes (R280). -/
def canonBytes (blocks slots : Nat) : Nat := blocks * (256 + 128 * slots)

/-- One plane of n blocks out of a tensor's tiles. -/
def readPlane (s : State) (r : Region) (t : Tensor) (n : Nat) (p : Nat × Nat) : Bytes :=
  ((List.range ((n + 31) / 32)).flatMap (fun j =>
    regionRead s r (t.offset + tileBytes t.stateSlots * j + p.1) (32 * p.2))).take (p.2 * n)

/-- Write one plane of n blocks into a tensor's tiles; blocks beyond the last hold +0 (09, R182). -/
def writePlane (s : State) (r : Region) (t : Tensor) (n : Nat) (p : Nat × Nat) (bs : Bytes) : State :=
  (List.range ((n + 31) / 32)).foldl (fun s j =>
    { s with mem := regionWrite s r (t.offset + tileBytes t.stateSlots * j + p.1) (slice bs (32 * p.2 * j) (32 * p.2)) }) s

/-- Region and offset of a trained tensor's residue in the buffer of a parity: the spec does not give it (log 59). -/
def residueAt (s : State) (parity i : Nat) : Option Region × Nat :=
  let p := Config.residuePlace s.dev.jobId parity i
  (((imageOf s).regions[p.1]?).filter (fun r => r.role == 8 + parity), p.2)

/-- The residue of n blocks in canonical order. -/
def readResidue (s : State) (parity i n : Nat) : Bytes :=
  match residueAt s parity i with
  | (some r, o) => regionRead s r o (64 * n)
  | (none, _) => List.replicate (64 * n) 0

/-- The canonical planes of tensor i of the norm list, number t, for STEP (R280). -/
def tensorData (s : State) (step i t : Nat) : Bytes :=
  let e := tensorNo s t
  let n := canonBlocks (tagRows (tagOf s t)) (tagCols (tagOf s t))
  match regionNo s e.region with
  | some r =>
    readPlane s r e n (0, 128) ++ readPlane s r e n (4096, 64) ++ readResidue s (step % 2) i n ++
      (tilePlanes e.stateSlots).flatMap (readPlane s r e n)
  | none => List.replicate (canonBytes n e.stateSlots) 0

/-! The body (Table 13.10) -/

/-- Bytes padded with zeros to a multiple of 256. -/
def pad256 (bs : Bytes) : Bytes := bs ++ List.replicate (up256 bs.length - bs.length) 0

/-- The job state part. -/
def jobStatePart (s : State) (step : Nat) : Bytes :=
  slice (natLe 8 step ++ slice s.rng.jobSeed 0 32 ++ natLe 4 s.train.maxNorm.toNat ++ natLe 4 s.tele.thresholds.toNat ++
    natLe 4 s.tele.nanLimit.toNat ++ natLe 4 s.tele.silenceCfg.toNat) 0 256

/-- Levels, clean runs and silence counts of the last completed step: in HELD after STATS those of the decision that waits for
the next step (10, R205, R208; R286). -/
def settledLevels (s : State) : Sparse Level × Sparse (BitVec 8) × Sparse (BitVec 32) :=
  match s.tele.decision with
  | some d => if s.dev.mode = .held ∧ s.dev.heldReason ≠ 3 then (d.levels, d.cleanRuns, d.silence)
    else (s.tele.levels, s.tele.cleanRuns, s.tele.silence)
  | none => (s.tele.levels, s.tele.cleanRuns, s.tele.silence)

/-- The five parts of fixed size. -/
def fixedParts (s : State) (step : Nat) : Bytes :=
  jobStatePart s step ++ (List.range 16).flatMap (fun i => setBytes (setOf s i)) ++
    (List.range 4096).map (fun l => (sget {} (settledLevels s).1 l).level.zeroExtend 8) ++
    (List.range 4096).map (fun l => sget 0 (settledLevels s).2.1 l) ++
    (List.range 4096).flatMap (fun n =>
      natLe 4 (if tracksSilence (imageOf s) n then (sget 0 (settledLevels s).2.2 n).toNat else 0))

/-- The offset at which the tensor data begins. -/
def dataStart (retained tensors : Nat) : Nat := up256 (up256 (26880 + 32 * retained) + 32 * tensors)

/-- A directory entry. -/
def dirEntry (s : State) (t offset len : Nat) : Bytes :=
  natLe 4 (tagRows (tagOf s t)) ++ natLe 4 (tagCols (tagOf s t)) ++ natLe 1 (tensorNo s t).stateSlots ++ [0] ++
    natLe 2 (tensorNo s t).layer ++ [0, 0, 0, 0] ++ natLe 8 offset ++ natLe 8 len

/-- The directory for tensors whose data have these lengths, the first at an offset. -/
def directory (s : State) : List (Nat × Nat) → Nat → Bytes
  | [], _ => []
  | (t, len) :: l, o => dirEntry s t o len ++ directory s l (up256 (o + len))

/-- Directory and body of the context as the device holds it (log 146). -/
def contextBody (s : State) (step : Nat) : Bytes × Bytes :=
  let g := imageOf s
  let ts := normOrder g
  let ds := (List.range ts.length).map (fun i => tensorData s step i (ts.getD i 0))
  let dir := directory s (ts.zip (ds.map (·.length))) (dataStart g.digests.length ts.length)
  let front := pad256 (pad256 (fixedParts s step ++ g.digests.flatten) ++ dir)
  (dir, ds.foldl (fun acc d => pad256 acc ++ d) front)

/-! The image (Table 13.9, R281, R282) -/

/-- The header. -/
def contextHeader (s : State) (flags step : Nat) (body dir nonce hash : Bytes) : Bytes :=
  let g := imageOf s
  slice (natLe 4 0x4E435458 ++ natLe 2 1 ++ natLe 2 flags ++ natLe 8 s.dev.jobId.toNat ++ natLe 8 step ++
    natLe 8 body.length ++ slice s.sec.keyId 0 32 ++ slice hash 0 32 ++ sha256 dir ++ slice nonce 0 8 ++
    natLe 4 (normOrder g).length ++ natLe 4 g.layers.length ++ natLe 4 g.digests.length) 0 256

/-- Bytes of a segment. -/
def segmentSize : Nat := 2 ^ 30

/-- The segments encrypted under a key, each followed by its tag. -/
def sealBody (key header nonce body : Bytes) : Bytes :=
  let ps := pieces segmentSize body
  ((List.range ps.length).map (fun i =>
    let x := gcmSeal key (nonce ++ natBe 4 i) (header ++ natBe 4 i) (ps.getD i [])
    x.1 ++ x.2)).flatten

/-- The device identity key; every RSA key has exponent 65,537 (18, R361). -/
def identityKey : PubKey := { modulus := Config.identityModulus, exponent := 65537 }

/-- The trailer over the image before it, signed with the device identity key. -/
def contextTrailer (image salt : Bytes) : Bytes :=
  let t := natLe 4 0x4C525458 ++ [0, 0, 0, 0] ++ natLe 8 (image.length + 512) ++ sha256 image ++
    sha256 (keyBytes identityKey) ++ List.replicate 48 0
  t ++ pssSign Config.identityModulus Config.identitySecret t salt

/-- The bytes of the image store. -/
def storeBytes (s : State) : Bytes := mread s.image.store 0 s.image.storeLen

/-- The context image of the job as it stands (log 110). -/
def contextImage (s : State) (key : Bytes) (flags : Nat) : Bytes :=
  let step := s.train.completedStep.toNat
  let b := contextBody s step
  let nonce := slice (Config.random s.fresh) 0 8
  let hash := if s.dev.jobSuspended then sha256 (storeBytes s) else s.image.hash
  let h := contextHeader s flags step b.2 b.1 nonce hash
  let front := h ++ sealBody key h nonce b.2
  front ++ contextTrailer front (slice (Config.random (s.fresh + 1)) 0 32)

/-! EXPORT (R283, R284; 16, R343) -/

/-- A suspended job's tiles as they are exported: chunks above the frontier restored (R283). -/
def prepareSuspended (s : State) : State :=
  if s.jobRecord.inUpdate then settleChunks { s with upd := { s.upd with pending := [] } } s.jobRecord.committedChunk else s

/-- FLAGS of a suspended job's context (Table 13.9; log 109). -/
def suspendedFlags (s : State) : Nat :=
  if s.dev.jobSuspended then 1 + 2 * b2n (s.jobRecord.inUpdate && decide (0 ≤ s.jobRecord.committedChunk)) else 0

/-- What reading the tensors meets (12, R248). -/
def noteTensors (s : State) : State :=
  (normOrder (imageOf s)).foldl (fun s t =>
    let e := tensorNo s t
    let n := canonBlocks (tagRows (tagOf s t)) (tagCols (tagOf s t))
    (regionNo s e.region).elim s (fun r => noteHostRead s r e.offset (tileBytes e.stateSlots * ((n + 31) / 32)))) s

/-- EXPORT begins on its channel: the stream is the whole image; without a job key it ends at once (R281; log 108). -/
def exportStart (s0 : State) (c : Channel) : State :=
  let s := if s0.dev.jobSuspended then prepareSuspended s0 else s0
  match s.sec.jobKey with
  | none => closeChannel 5 0 { s with ctx := { s.ctx with op := 1, result := 6, inProgress := false, bytesDone := 0, bytesTotal := 0 } } c
  | some key =>
    let im := contextImage s key (suspendedFlags s)
    let s1 := noteTensors { s with
      fresh := s.fresh + 2
      dev := { s.dev with activity := 3 }
      ctx := { s.ctx with op := 1, result := 0, inProgress := true, bytesDone := 0, bytesTotal := BitVec.ofNat 64 im.length } }
    feed s1 c.id im true

/-- Image bytes that an export has sent. -/
def noteSent (s : State) : State :=
  match channelKind s 3 true with
  | some c =>
    if s.ctx.inProgress then
      { s with ctx := { s.ctx with bytesDone := BitVec.ofNat 64 (min c.stream.length (1024 * c.sentUnits)) } } else s
  | none => s

/-- An operation of the context ends with a RESULT. -/
def endOperation (result : BitVec 8) (s : State) : State :=
  if s.ctx.inProgress then { endContext result s with dev := { s.dev with activity := 0 } } else s

/-- The trailer has been sent: the export is done (log 108). -/
def exportDone (s : State) : State :=
  { endOperation 1 s with ctx := { (endOperation 1 s).ctx with exportedStep := s.train.completedStep, bytesDone := s.ctx.bytesTotal } }

/-! RESTORE (R285) -/

/-- RESTORE begins: the restore reads the open channel. -/
def restoreStart (s0 : State) : State :=
  let s := match channelKind s0 3 false with
    | some c => modChannel (drainUnits s0 c.waiting.length) c.id (fun x => { x with waiting := [] })
    | none => s0
  { s with
    dev := { s.dev with activity := 2 }
    ctx := { s.ctx with op := 2, result := 0, inProgress := true, bytesDone := 0, bytesTotal := 0, restoreTried := true } }

/-- n bytes at an offset are zero, as reserved bytes are (00, R4). -/
def zeroAt (b : Bytes) (o n : Nat) : Bool := (slice b o n).all (· == 0)

/-- Step 1 of R285: MAGIC, VERSION and lengths, with the reserved bits of header and trailer zero (00, R1, R4; log 111). -/
def contextShape (b : Bytes) : Bool :=
  let body := leAt b 24 8
  let total := 256 + body + 16 * ((body + segmentSize - 1) / segmentSize) + 512
  decide (768 ≤ b.length) && leAt b 0 4 == 0x4E435458 && leAt b 4 2 == 1 && b.length == total &&
    leAt b (total - 512) 4 == 0x4C525458 && leAt b (total - 504) 8 == total &&
    decide (1 ≤ leAt b 140 4) && decide (leAt b 140 4 ≤ 4096) && decide (leAt b 144 4 ≤ 16) &&
    decide (leAt b 6 2 < 4) && zeroAt b 148 108 && zeroAt b (total - 508) 4 && zeroAt b (total - 432) 48

/-- The public key that a SIGNER_ID names: the device's own, a certified device identity key, or the owner key (R285). -/
def signerKey (s : State) (id : Bytes) : Option PubKey :=
  if id = sha256 (keyBytes identityKey) then some identityKey
  else
    match s.sec.owner with
    | some k => if id = s.sec.ownerId then some k else (Config.certifiedKey id).map (fun x => { modulus := x.1, exponent := x.2 })
    | none => (Config.certifiedKey id).map (fun x => { modulus := x.1, exponent := x.2 })

/-- Step 2: DIGEST and SIGNATURE of the trailer. -/
def trailerOk (s : State) (b : Bytes) : Bool :=
  let front := b.take (b.length - 512)
  let t := b.drop (b.length - 512)
  slice t 16 32 == sha256 front &&
    (signerKey s (slice t 48 32)).any (fun k => pssVerify k (t.take 128) (t.drop 128))

/-- The body decrypted, or the first segment whose tag fails (step 5). -/
def openBody (key b : Bytes) : Nat → Nat → Bytes → Nat ⊕ Bytes
  | 0, _, acc => .inr acc
  | f + 1, i, acc =>
    let o := 256 + i * (segmentSize + 16)
    let left := leAt b 24 8 - i * segmentSize
    if left = 0 then .inr acc
    else
      let n := min left segmentSize
      match gcmOpen key (slice b 128 8 ++ natBe 4 i) (b.take 256 ++ natBe 4 i) (slice b o n) (slice b (o + n) 16) with
      | some p => openBody key b f (i + 1) (acc ++ p)
      | none => .inl i

/-- Directory entry i of a body. -/
def dirAt (b body : Bytes) (i : Nat) : Bytes := slice body (up256 (26880 + 32 * leAt b 144 4) + 32 * i) 32

/-- The reserved bits and bytes of the body's parts are zero (00, R1, R4; Table 13.10; log 111). -/
def bodyClear (b body : Bytes) : Bool :=
  zeroAt body 56 200 && leAt body 44 4 &&& 0x60E000FF == 0 && leAt body 52 4 &&& 0xFFE0 == 0 &&
    (List.range 16).all (fun i =>
      decide (leAt body (256 + 128 * i) 4 < 16) && zeroAt body (277 + 128 * i) 3 && zeroAt body (376 + 128 * i) 8) &&
    (slice body 2304 4096).all (fun x => decide (x.toNat < 4)) &&
    (List.range (leAt b 136 4)).all (fun i => zeroAt (dirAt b body i) 9 1 && zeroAt (dirAt b body i) 12 4)

/-- The body's parts keep the layout of R280. -/
def layoutOk (b body : Bytes) : Bool :=
  let n := leAt b 136 4
  let start := dataStart (leAt b 144 4) n
  bodyClear b body &&
  decide ((if n = 0 then up256 (26880 + 32 * leAt b 144 4) else start) ≤ up256 body.length) &&
    (List.range n).all (fun i =>
      let o := leAt (dirAt b body i) 16 8
      let len := leAt (dirAt b body i) 24 8
      o % 256 == 0 && decide (start ≤ o) && decide (o + len ≤ body.length))

/-- The directory, LAYER_COUNT and retained digests match the loaded image (step 6). -/
def matchesImage (s : State) (b body : Bytes) : Bool :=
  let g := imageOf s
  let ts := normOrder g
  leAt b 140 4 == g.layers.length && leAt b 136 4 == ts.length &&
    (List.range ts.length).all (fun i =>
      let t := ts.getD i 0
      let d := dirAt b body i
      leAt d 0 4 == tagRows (tagOf s t) && leAt d 4 4 == tagCols (tagOf s t) && leAt d 8 1 == (tensorNo s t).stateSlots &&
        leAt d 24 8 == canonBytes (canonBlocks (leAt d 0 4) (leAt d 4 4)) (leAt d 8 1)) &&
    (List.range (leAt b 144 4)).all (fun i => g.digests.contains (slice body (26880 + 32 * i) 32))

/-- Write a tensor's canonical planes into its tiles and its residue into the buffer of STEP mod 2. -/
def restoreTensor (step : Nat) (b body : Bytes) (s : State) (x : Nat × Nat) : State :=
  let e := tensorNo s x.2
  let d := dirAt b body x.1
  let n := canonBlocks (leAt d 0 4) (leAt d 4 4)
  let at_ := fun (o len : Nat) => slice body (leAt d 16 8 + o) len
  let s1 := match regionNo s e.region with
    | some r =>
      let s1 := writePlane s r e n (0, 128) (at_ 0 (128 * n))
      let s2 := writePlane s1 r e n (4096, 64) (at_ (128 * n) (64 * n))
      (List.range e.stateSlots).foldl (fun s j => writePlane s r e n (6144 + 4096 * j, 128) (at_ (256 * n + 128 * n * j) (128 * n))) s2
    | none => s
  match residueAt s (step % 2) x.1 with
  | (some r, o) => { s1 with mem := regionWrite s1 r o (at_ (192 * n) (64 * n)) }
  | (none, _) => s1

/-- The values that a restore sets (R285): levels and runs of the image's layers, counts of the records that it tracks (10,
R215). -/
def restoreValues (step : Nat) (body : Bytes) (s : State) : State :=
  { s with
    train := { s.train with completedStep := BitVec.ofNat 64 step, maxNorm := BitVec.ofNat 32 (leAt body 40 4) }
    rng := { s.rng with jobSeed := slice body 8 32 }
    sets := sofList {} 0 ((List.range 16).map (fun i => setAt (slice body 256 2048) (128 * i)))
    tele := { s.tele with
      thresholds := BitVec.ofNat 32 (leAt body 44 4), nanLimit := BitVec.ofNat 32 (leAt body 48 4)
      silenceCfg := BitVec.ofNat 32 (leAt body 52 4)
      levels := sofList {} 0 ((slice body 2304 (imageOf s).layers.length).map (fun (x : Byte) => ({ level := x.setWidth 2 } : Level)))
      cleanRuns := sofList 0 0 (slice body 6400 (imageOf s).layers.length)
      silence := sofList 0 0 ((List.range 4096).map (fun i =>
        if tracksSilence (imageOf s) i then BitVec.ofNat 32 (leAt body (10496 + 4 * i) 4) else 0)) } }

/-- The checks of R285 and what they end with: the RESULT and the failing segment, or the body (log 111). -/
def restoreCheck (s : State) (b : Bytes) : (BitVec 8 × Nat) ⊕ Bytes :=
  if !contextShape b then .inl (9, 0)
  else if !trailerOk s b then .inl (2, 0)
  else if leAt b 8 8 ≠ (imageOf s).jobId.toNat then .inl (4, 0)
  else if (leAt b 6 2).testBit 1 then .inl (0x0A, 0)
  else
    match s.sec.jobKey with
    | none => .inl (6, 0)
    | some key =>
      match openBody key b (leAt b 24 8 / segmentSize + 1) 0 [] with
      | .inl i => .inl (3, i)
      | .inr body =>
        if !layoutOk b body then .inl (9, 0) else if !matchesImage s b body then .inl (5, 0) else .inr body

/-- A restore ends with a RESULT; its channel closes with REASON 0x00 or 0x05 (16, R343). -/
def restoreEnds (result : BitVec 8) (seg len : Nat) (c : Channel) (s : State) : State :=
  let s1 := endOperation result s
  closeChannel (if result = 1 then 0 else 5) 0 { s1 with ctx := { s1.ctx with
    failSegment := if result = 3 then BitVec.ofNat 32 seg else s1.ctx.failSegment
    bytesDone := BitVec.ofNat 64 len, bytesTotal := BitVec.ofNat 64 len } } c

/-- The restore over the bytes of its channel. -/
def restoreRun (s : State) (c : Channel) (b : Bytes) : State :=
  match restoreCheck s b with
  | .inl (r, i) => restoreEnds r i b.length c s
  | .inr body =>
    let step := leAt b 16 8
    let ts := normOrder (imageOf s)
    let s1 := ((List.range ts.length).zip ts).foldl (restoreTensor step b body) s
    restoreEnds 1 0 b.length c (restoreValues step body s1)

/-- RESTORE_DONE (13, R285): the stream of the restore in progress has arrived whole and been read (log 112). -/
def execRestoreDone (s : State) : Host.Outcome State Fault Refusal :=
  match channelKind s 3 false with
  | some c =>
    if s.dev.activity = 2 ∧ s.ctx.inProgress ∧ allArrived c then
      .next (restoreRun s c (mread (sget [] s.host.inbox c.id.toNat) 0 (streamLength c)))
    else .next s
  | none => .next s

end Sys2Proof.Machine
end

