-- ==== Sys2Proof/Machine/Commands.lean ====
section
/-! DEFINITION. Accesses to the dictionary and the commands of entry 0x2001 (13, R267 to R272, R276, R277; 07, R144; 11,
R237; 14, R305; 19, R383). A reply is the state after an access and its refusal code, 0x0000 where it is accepted
(16, R335); the last code stands in State too. -/

namespace Sys2Proof.Machine

/-! Accesses -/

/-- Whoever makes the access is heard: the management processor runs, and the policy lets the monitor run; the recovery
loader runs no monitor (15, R323, R326; 18, R367; log 106). -/
def isHeard (s : State) (a : Agent) : Bool :=
  mgmtRuns s && (match a with
    | .host _ => true
    | .monitor => (monitorMode s == 1 || monitorMode s == 2) && s.sec.bootVerified)

/-- The agent may write: a host needs a session, the policy authorises the monitor (16, R339; 15, R324). -/
def mayWrite (a : Agent) : Bool :=
  match a with
  | .host session => session
  | .monitor => true

/-- The code that the last access answered. -/
def setCode (r : State × BitVec 16) : State := { r.1 with dev := { r.1.dev with lastCode := r.2 } }

/-- An access by an agent: without effect while it is not heard. -/
def access (a : Agent) (f : State → State × BitVec 16) (s : State) : Host.Outcome State Fault Refusal :=
  if isHeard s a then .next (setCode (f s)) else .next s

/-- The refusals 0x0301, 0x0202 and 0x0302 in the order of R8, else the new state. -/
def guarded (conflict range busy : Bool) (s t : State) : State × BitVec 16 :=
  if conflict then (s, 0x0301) else if range then (s, 0x0202) else if busy then (s, 0x0302) else (t, 0)

/-! Legality (R267, Table 13.5) -/

/-- Every state from STANDBY. -/
def fromStandby (m : Mode) : Bool := m != .off && m != .boot

/-- The command is legal in the present state; none for an unknown CODE. -/
def commandLegal (s : State) (code : Nat) : Option Bool :=
  let m := s.dev.mode
  let whole := m == .idle && !s.dev.jobSuspended
  match code with
  | 0x0001 => some (m == .standby)
  | 0x0002 => some whole
  | 0x0010 => some (whole || m == .banked)
  | 0x0011 => some (m == .loaded)
  | 0x0012 => some (m == .held || (m == .idle && s.dev.jobSuspended))
  | 0x0020 => some (m == .loaded)
  | 0x0021 => some (m == .running)
  | 0x0022 => some (m == .held)
  | 0x0030 => some (m == .idle || m == .loaded || m == .armed || m == .held)
  | 0x0031 => some (m == .idle || m == .loaded || m == .held)
  | 0x0032 => some (m == .idle)
  | 0x0040 => some (m == .idle || m == .loaded || m == .armed || m == .held)
  | 0x00F0 => some (fromStandby m)
  | 0x00F1 => some (fromStandby m)
  | _ => none

/-- ARG is what the command takes: 0, or a hearth; UNFENCE_HEARTH asks for a fenced hearth that passed (R277). -/
def argOk (s : State) (code arg : Nat) : Bool :=
  if code = 0x0031 then decide (arg < 1152)
  else if code = 0x0032 then decide (arg < 1152) && isFenced s arg && (hearthOf s arg).selftest == 1
  else arg == 0

/-- The commands that are accepted whatever ACTIVITY is. -/
def ignoresActivity (code : Nat) : Bool := code == 0x0030 || code == 0x00F0 || code == 0x00F1

/-- A refusal with 0x0301: counted, noted, and the state-conflict event raised (R266, R267). -/
def refuseState (code : Nat) (s : State) : State :=
  detect { s with dev := { s.dev with
    refused := satInc s.dev.refused
    lastRefused := BitVec.ofNat 32 (modeCode s.dev.mode * 2 ^ 24 + code) } } (occNone 0x0601)

/-- A command of a CODE: refused under R8, or its effect. conflict is what the command asks besides the state. -/
def commandRun (code arg : Nat) (denied conflict : Bool) (f : State → State) (s : State) : State × BitVec 16 :=
  if denied then (s, 0x0201)
  else
    match commandLegal s code with
    | none => (s, 0x0202)
    | some ok =>
      if !ok || conflict then (refuseState code s, 0x0301)
      else if !argOk s code arg then (s, 0x0202)
      else if s.dev.activity != 0 && !ignoresActivity code then (s, 0x0302)
      else (f s, 0)

/-! Effects -/

/-- POWER_UP: group B is switched on first (19, Table 19.3). -/
def powerUpNow (s : State) : State :=
  { s with dev := { s.dev with activity := 5 }, pins := { s.pins with railEnB := true } }

/-- A link end without power: its counters and events stay, and FORCE_DOWN (17, R351). -/
def unpoweredLink (l : Link) : Link := { keptCounters l with events := l.events, forceDown := l.forceDown }

/-- POWER_DOWN (13, Table 13.5; 12, R260; 17, R351; 19, R383): only the management die and Assay keep power (log 82). -/
def powerDownNow (s0 : State) : State :=
  let s := closeKinds [1, 3] 5 s0
  diesOff { s with
    dev := { s.dev with mode := .standby, activity := 0, selftests := [], poweredUp := false }
    pins := { s.pins with railEnA := false, railEnB := false }
    time := { s.time with
      lock := 0, parent := none, depth := none, hops := 0, parentOffset := 0, lockRun := 0 }
    rate := { changes := s.rate.changes, cap := s.rate.cap }
    image := {}
    links := smap {} unpoweredLink s.links
    fabric := { id := s.fabric.id, retrainLimit := s.fabric.retrainLimit, relay := s.fabric.relay }
    hearths := smap {} keptHearth s.hearths
    upd := {}
    mem := {
      lastOverflow := s.mem.lastOverflow, ueLatent := s.mem.ueLatent, stackFenced := s.mem.stackFenced
      channelRetired := s.mem.channelRetired, farHot := s.mem.farHot, scrubPeriod := s.mem.scrubPeriod
      rotateInterval := s.mem.rotateInterval, ceThreshold := s.mem.ceThreshold, zeroiseTime := s.mem.zeroiseTime
      stackTable := allStacks (freshStack s.fence) s.mem.stackTable } }

/-- The store holds a relay image: SECTION_COUNT 2, RELAY and SIGNATURE (11, R237). -/
def isRelayImage (s : State) : Bool :=
  s.image.complete && sectCount (storeBytes s) == 2 &&
    (sectTable (storeBytes s)).all (fun x => x.typ == 6 || x.typ == 0xFF)

/-- LOAD begins the verification (07, R144). -/
def loadStart (s : State) : State := { s with dev := { s.dev with activity := 1 } }

/-- ARM: the device is armed, or on a device that does not know START_TIME the arm is pending (R269). -/
def armNow (s : State) : State :=
  if s.time.startKnown then { s with dev := { s.dev with mode := .armed } }
  else { s with dev := { s.dev with armPending := true } }

/-- What ARM asks besides LOADED (R269): the conditions, on the master a START_TIME, and a known one 1 ms ahead. -/
def armConflict (s : State) : Bool :=
  !armReady s || (if s.time.startKnown then !startAhead s else isMaster s)

/-- The first frame boundary at or after a time, as the rate now known places the boundaries (07, R134, R139). -/
def boundaryFrom (s : State) (time : Nat) : Nat → Nat → Nat → Nat → Nat
  | 0, frame, _, _ => frame
  | fuel + 1, frame, start, n =>
    if time ≤ start then frame
    else
      let n1 := match s.rate.announced with
        | some (v, f) => if f ≤ frame + 1 then v else n
        | none => n
      boundaryFrom s time fuel (frame + 1) (start + 16777216 / n) n1

/-- RESUME (R272): the entry is the first of the next step, or the restart point at which the devices stopped. -/
def resumeNow (s : State) : State :=
  let f := boundaryFrom s (s.time.now + 10000000) 16 s.seq.frame s.seq.frameStart s.rate.n
  announceReplay f (if s.dev.heldReason = 3 then announcedEntry s s.seq.heldRestart else 0) s

/-- HEARTH_RESET (R277): fenced, reset, its self-test begun. -/
def hearthResetNow (h : Nat) (s0 : State) : State :=
  let s := reactHearth h s0
  modHearth { s with
    dev := { s.dev with selftests := insertNat s.dev.selftests h }
    mem := { s.mem with
      spad := mzero s.mem.spad (2097152 * h) 2097152, spadPoison := restored s.mem.spadPoison h 0 2097152 } } h (fun k => { k with
      selftest := 3, program := [], progOp := 0, progPar := 0, amax := 0, crc := 0xFFFFFFFF })

/-- UNFENCE_HEARTH (R277). -/
def unfenceNow (h : Nat) (s : State) : State :=
  { s with fence := { s.fence with hearths := s.fence.hearths.filter (· != h) } }

/-- A command by CODE and ARG, as a write of entry 0x2001:00 gives it (R267). -/
def deviceCommand (code arg : Nat) (s : State) : State × BitVec 16 :=
  let run := commandRun code arg
  match code with
  | 0x0001 => run false false powerUpNow s
  | 0x0002 => run false false powerDownNow s
  | 0x0010 => run false (s.dev.mode == .banked && !isRelayImage s) loadStart s
  | 0x0011 => run false (channelKind s 3 false).isNone restoreStart s
  | 0x0012 => run false (channelKind s 3 true).isNone (fun s => (channelKind s 3 true).elim s (exportStart s)) s
  | 0x0020 => run false (armConflict s) armNow s
  | 0x0021 => run false false (fun s => { s with dev := { s.dev with holdRequested := true } }) s
  | 0x0022 => run (!isMaster s) s.faults.imageStopped resumeNow s
  | 0x0030 => run false false jobReset s
  | 0x0031 => run false false (hearthResetNow arg) s
  | 0x0032 => run false false (unfenceNow arg) s
  | 0x0040 => run false false (enterBanked 1) s
  | 0x00F0 => run false false warmReset s
  | 0x00F1 => run false false (fun s => coldReset (pushEnd 2 s) 2) s
  | _ => run false false id s

/-- A command of an agent. -/
def sendCommand (a : Agent) (code arg : Nat) (s : State) : Host.Outcome State Fault Refusal :=
  access a (fun s => if mayWrite a then deviceCommand code arg s else (s, 0x0401)) s

/-- POWER_UP (13, R267, R276). -/
def execPowerUp (a : Agent) (arg : BitVec 16) (s : State) : Host.Outcome State Fault Refusal := sendCommand a 0x0001 arg.toNat s
/-- POWER_DOWN (13, R267; 19, R383). -/
def execPowerDown (a : Agent) (arg : BitVec 16) (s : State) : Host.Outcome State Fault Refusal := sendCommand a 0x0002 arg.toNat s
/-- LOAD (07, R144). -/
def execLoad (a : Agent) (arg : BitVec 16) (s : State) : Host.Outcome State Fault Refusal := sendCommand a 0x0010 arg.toNat s
/-- RESTORE (13, R285). -/
def execRestoreContext (a : Agent) (arg : BitVec 16) (s : State) : Host.Outcome State Fault Refusal := sendCommand a 0x0011 arg.toNat s
/-- EXPORT (13, R283). -/
def execExportContext (a : Agent) (arg : BitVec 16) (s : State) : Host.Outcome State Fault Refusal := sendCommand a 0x0012 arg.toNat s
/-- ARM (13, R269). -/
def execArm (a : Agent) (arg : BitVec 16) (s : State) : Host.Outcome State Fault Refusal := sendCommand a 0x0020 arg.toNat s
/-- HOLD (13, R271). -/
def execHold (a : Agent) (arg : BitVec 16) (s : State) : Host.Outcome State Fault Refusal := sendCommand a 0x0021 arg.toNat s
/-- RESUME (13, R272). -/
def execResume (a : Agent) (arg : BitVec 16) (s : State) : Host.Outcome State Fault Refusal := sendCommand a 0x0022 arg.toNat s
/-- JOB_RESET (13, R273, R274). -/
def execJobReset (a : Agent) (arg : BitVec 16) (s : State) : Host.Outcome State Fault Refusal := sendCommand a 0x0030 arg.toNat s
/-- HEARTH_RESET (13, R277). -/
def execHearthReset (a : Agent) (arg : BitVec 16) (s : State) : Host.Outcome State Fault Refusal := sendCommand a 0x0031 arg.toNat s
/-- UNFENCE_HEARTH (13, R277). -/
def execUnfenceHearth (a : Agent) (arg : BitVec 16) (s : State) : Host.Outcome State Fault Refusal := sendCommand a 0x0032 arg.toNat s
/-- BANK (14, R305). -/
def execBank (a : Agent) (arg : BitVec 16) (s : State) : Host.Outcome State Fault Refusal := sendCommand a 0x0040 arg.toNat s
/-- WARM_RESET (13, R275). -/
def execWarmReset (a : Agent) (arg : BitVec 16) (s : State) : Host.Outcome State Fault Refusal := sendCommand a 0x00F0 arg.toNat s
/-- COLD_RESET (13, R273). -/
def execColdReset (a : Agent) (arg : BitVec 16) (s : State) : Host.Outcome State Fault Refusal := sendCommand a 0x00F1 arg.toNat s

/-! The end of a LOAD (07, R143, R144, R155; 12, R261) -/

/-- Store the verdict of a LOAD in IMAGE_STATUS and FAIL_RECORD (07, R398). -/
def noteVerdict (v : Nat × Nat × Nat) (s : State) : State :=
  { s with
    dev := { s.dev with activity := 0 }
    image := { s.image with
      code := BitVec.ofNat 16 v.1, failSection := BitVec.ofNat 8 v.2.1, failRecord := BitVec.ofNat 32 v.2.2 } }

/-- The RELAY map of an image: its section, else the straight map (R237). -/
def relayMap (b : Bytes) : Sparse (Option Nat) :=
  if (sectTable b).any (·.typ == 6) then
    let r := sectBytes b (sectOf b 6)
    (List.range 64).foldl (fun t k =>
      let v := leAt r k 1
      sput (some (peerLinkOf k)) t k (if v < 64 then some v else none)) []
  else []

/-- A retained record that the image does not pair is dropped and its region zeroised (12, R261). -/
def dropRecord (g : Image) (s : State) (r : Nat) : State :=
  let k := retainedOf s r
  if k.placement.isNone || k.placement.any (fun p => g.regions.any (fun x => x.role == 7 && x == p)) then s
  else
    { s with mem := { s.mem with
      dram := s.mem.dram.filter (fun c => !inRecord s.mem c.1 k)
      poison := s.mem.poison.filter (fun c => !inRecord s.mem (64 * c) k)
      retained := sput {} s.mem.retained r {} } }

/-- An unpaired RETAINED region gets a new record, in STAGING (log 145). -/
def addRecord (g : Image) (s : State) (x : Region) : State :=
  if (recordOf s x).isSome then s
  else
    match (List.range 16).find? (fun r => (retainedOf s r).placement.isNone) with
    | some r => modRetained s r (fun _ => {
        state := 1, placement := some x, digest := g.digests.getD x.hashIndex [], interleave := tierOf g x })
    | none => s

/-- The retained records under a newly loaded image. -/
def pairRecords (g : Image) (s : State) : State :=
  (g.regions.filter (·.role == 7)).foldl (addRecord g) ((List.range 16).foldl (dropRecord g) s)

/-- LOGICAL of every hearth from the remap table (07, R155). -/
def mapHearths (g : Image) (s : State) : State :=
  (List.range g.remap.length).foldl (fun s l => modHearth s (g.remap.getD l 0) (fun k => { k with logical := l })) (unmapAll s)

/-- Write an initial-data record, its last burst filled with zeros (07, R143). -/
def writeInit (b : Bytes) (s : State) (d : InitData) : State :=
  match regionNo s d.region with
  | some r =>
    let bs := slice b (d.at_ + 32) d.length
    { s with mem := regionWrite s r d.offset (slice bs 0 ((d.length + 2047) / 2048 * 2048)) }
  | none => s

/-- T32 of every tag holds the canonical NaN until the converter writes it (02, R39). -/
def unsetTags (g : Image) (s : State) : State :=
  ((List.range g.tensors.length).drop 1).foldl (fun s t => { s with mem := tagWrite s t 0x7FC00000 }) s

/-- Contents of the program region of compute die d: the op records of its logical hearths in section order, then, at the next
multiple of 2,048 bytes, the parameter records (07, R148; log 164). -/
def programBytes (g : Image) (d : Nat) : Bytes :=
  let ops := ((List.range (g.programs.length / 32)).filter (fun i =>
    (Config.recordPlace g.programs i).hearth / 140 == d)).flatMap (fun i => slice g.programs (32 * i) 32)
  slice ops 0 ((ops.length + 2047) / 2048 * 2048) ++ g.params

/-- The records in the near-stack program regions (07, R148; 12, Table 12.4). -/
def writePrograms (g : Image) (s : State) : State :=
  (g.regions.filter (·.role == 1)).foldl (fun s r =>
    { s with mem := regionWrite s r 0 ((programBytes g r.stack).take (regionBytes r)) }) s

/-- The verified image becomes the loaded one: LOADED (07, R144; 09, R184; 13, R268). -/
def enterLoaded (b : Bytes) (s : State) : State :=
  let g := parseImage b
  let cx := sectOf b 12
  let s1 := noteVerdict (0, 0, 0) { s with
    dev := { s.dev with mode := .loaded, jobId := g.jobId }
    ctx := { s.ctx with restoreTried := false }
    image := { s.image with loaded := some g, hash := sha256 b }
    rng := { s.rng with jobSeed := g.jobSeed }
    sets := sofList {} 0 g.sets
    fabric := { s.fabric with relay := relayMap b } }
  let s2 := mapHearths g (pairRecords g s1)
  let s3 := (initData (sectBytes b cx) cx.count 2048).foldl (writeInit (sectBytes b cx)) s2
  refreshTree (writePrograms g (unsetTags g s3))

/-- The verdict on the image store: without a complete image the first step fails (07, R397). -/
def storeVerdict (s : State) : Verdict :=
  if s.image.complete then verifyImage s (s.dev.mode == .banked) (storeBytes s) else some (0x0001, 0xFF, 0)

/-- LOAD_DONE (07, R144): a failed image leaves nothing but its code; a relay image in BANKED only replaces RELAY. -/
def execLoadDone (s : State) : Host.Outcome State Fault Refusal :=
  if s.dev.activity ≠ 1 then .next s
  else
    match storeVerdict s with
    | some v => .next (noteVerdict v s)
    | none =>
      if s.dev.mode = .banked then
        .next (noteVerdict (0, 0, 0) { s with fabric := { s.fabric with relay := relayMap (storeBytes s) } })
      else .next (enterLoaded (storeBytes s) s)

end Sys2Proof.Machine
end

