-- ==== Sys2Proof/Machine/Security.lean ====
section
/-! DEFINITION. Keys, quotes and signed objects: WRAPPED_JOB_KEY, NONCE, QUOTE_DONE and what a FIRMWARE channel installs
(17, R357, R358; 18, R362 to R372). -/

namespace Sys2Proof.Machine

/-! The job key (17, R357; 18, R372) -/

/-- The 32 bytes that a wrapped key decrypts to, while the identity key is available (R361, R362). -/
def unwrap (s : State) (ct : Bytes) : Option Bytes :=
  if s.sec.pufOk then (oaepDecrypt Config.identityModulus Config.identitySecret ct).filter (fun k => k.length == 32) else none

/-- A write of WRAPPED_JOB_KEY; fit: the value is a DOMAIN value of its COUNT. -/
def writeJobKey (s : State) (offset : Nat) (key : Bytes) (fit : Bool) : State × BitVec 16 :=
  let m := s.dev.mode
  guarded (m != .idle && m != .loaded && m != .held)
    (!fit || offset != 0 || key.length != 384 || (unwrap s key).isNone) false s
    { s with sec := { s.sec with jobKey := unwrap s key, keyId := sha256 key } }

/-! Quotes (17, R358; 18, R371) -/

/-- Bytes 0 to 511 of a quote (Table 18.5). -/
def quoteBytes (s : State) (nonce : Bytes) : Bytes :=
  let b := bankNo s s.sec.bootedB
  slice (natLe 4 0x54514F51 ++ natLe 2 1 ++ natLe 2 (deviceState s) ++ natLe 8 Config.serial.toNat ++ slice nonce 0 32 ++
    slice b.mgmt.bodyHash 0 32 ++ slice b.dieCtl.bodyHash 0 32 ++ slice b.linkDie.bodyHash 0 32 ++
    slice s.assay.fwMeasurement 0 32 ++ slice s.sec.policyHash 0 32 ++ slice s.sec.ownerId 0 32 ++ slice s.image.hash 0 32 ++
    natLe 8 s.dev.jobId.toNat ++ rollbackBytes s ++ natLe 8 (if s.time.everLocked then s.time.now else 0) ++
    natLe 4 b.mgmt.fwVersion.toNat ++ natLe 4 s.assay.fwVersion.toNat) 0 512

/-- A write of NONCE starts a quote; without the identity key it ends at once with none (R362; log 113, 114). -/
def writeNonce (s : State) (offset : Nat) (bs : Bytes) (fit : Bool) : State × BitVec 16 :=
  let nonce := slice (List.replicate offset 0 ++ bs) 0 32
  guarded false (!fit || decide (32 < offset + bs.length)) (s.sec.quoteStatus == 1) s
    { s with sec := { s.sec with
        quote := [], quoteStatus := if s.sec.pufOk then 1 else 0
        quoteBody := if s.sec.pufOk then quoteBytes s nonce else [] } }

/-- QUOTE_DONE (18, R371): the quote is signed and held. -/
def execQuoteDone (s : State) : Host.Outcome State Fault Refusal :=
  if s.sec.quoteStatus = 1 then
    let sig := pssSign Config.identityModulus Config.identitySecret s.sec.quoteBody (slice (Config.random s.fresh) 0 32)
    .next { s with
      fresh := s.fresh + 1
      sec := { s.sec with quote := s.sec.quoteBody ++ sig, quoteStatus := 2, quoteBody := [] } }
  else .next s

/-- WRAPPED_JOB_KEY (17, R357). -/
def execWrappedJobKey (a : Agent) (offset : Nat) (key : Bytes) (s : State) : Host.Outcome State Fault Refusal :=
  access a (fun s => if mayWrite a then writeJobKey s offset key true else (s, 0x0401)) s

/-- NONCE (17, R358; 18, R371). -/
def execAttestNonce (a : Agent) (nonce : Bytes) (s : State) : Host.Outcome State Fault Refusal :=
  access a (fun s => if mayWrite a then writeNonce s 0 nonce true else (s, 0x0401)) s

/-! Installation (18, R364, R365, R367 to R370, R377) -/

/-- A TYPE of Table 18.3. -/
def objKnown (t : Nat) : Bool := t == 1 || t == 2 || t == 3 || t == 0x10 || t == 0x11 || t == 0x20

/-- MAGIC, VERSION and lengths of an object, with its reserved bytes zero, and FW_VERSION zero where the TYPE has none (R364;
00, R1, R4; log 116). -/
def objShape (b : Bytes) : Bool :=
  decide (896 ≤ b.length) && leAt b 0 4 == 0x4A424F53 && leAt b 4 2 == 1 && b.length == objLength b + 896 &&
    zeroAt b 452 60 && ((objType b != 0x10 && objType b != 0x11) || zeroAt b 12 4)

/-- A TYPE that a channel without a session may install: firmware in the recovery loader, an enrolment else (R367,
R369). -/
def sessionlessType (s : State) (t : Nat) : Bool :=
  if s.sec.bootVerified then t == 0x10 else t == 1 || t == 2 || t == 3

/-- The signer is the key that Table 18.4 asks for. -/
def signerOk (s : State) (b : Bytes) : Bool :=
  let h := sha256 (objSigner b)
  if objType b = 0x11 then s.sec.owner.isSome && h == s.sec.ownerId
  else if objType b = 0x20 then h == Config.metrologyRoot
  else h == Config.vendorRoot

/-- The counter of a TYPE. -/
def counterOf (s : State) (t : Nat) : Nat :=
  if t = 0x10 then 0 else if t = 0x11 then sget 0 s.sec.rollback 3 else if t = 0x20 then s.assay.counter
  else sget 0 s.sec.rollback (t - 1)

/-- The POLICY of an object's body. -/
def objPolicy (b : Bytes) : Nat := leAt (objBody b) 0 4

/-- The TYPE's own checks (Table 18.4; log 117). -/
def ownChecks (s : State) (b : Bytes) : Bool :=
  let n := objLength b
  match objType b with
  | 1 => decide (n ≤ 3 * 2 ^ 20)
  | 0x10 =>
    match s.sec.owner with
    | some k => n == 772 && pssVerify k (b.take (512 + 388)) (slice b (512 + 388) 384)
    | none => n == 388
  | 0x11 => n == 4 && bits (objPolicy b) 4 12 == 0 && bits (objPolicy b) 2 1 == 0 && bits (objPolicy b) 0 2 != 3 &&
      bits (objPolicy b) 16 16 == objVersion b
  | 0x20 => decide (n ≤ 2 ^ 20)
  | _ => decide (n ≤ 512 * 2 ^ 10)

/-- The first failure of R365, 0 for none (log 116). -/
def objVerdict (s : State) (sessionless : Bool) (b : Bytes) : BitVec 16 :=
  let t := objType b
  if !objShape b then 0x0202
  else if sessionless && !sessionlessType s t then 0x0401
  else if !objKnown t then 0x0202
  else if s.dev.mode != .standby && (t == 0x10 || s.dev.mode != .idle) then 0x0301
  else if (objSerial b != 0 && objSerial b != Config.serial.toNat) || !objBodyOk b then 0x0202
  else if !signerOk s b || !objSigned b then 0x0201
  else if objVersion b < counterOf s t then 0x0201
  else if !ownChecks s b then 0x0202
  else 0

/-- The component that an object holds. -/
def componentOf (b : Bytes) : Component :=
  { present := true, securityVersion := objVersion b, fwVersion := objFw b, bodyHash := objHash b }

/-- A bank with the object's component replaced. -/
def bankWith (k : Bank) (b : Bytes) : Bank :=
  match objType b with
  | 1 => { k with mgmt := componentOf b }
  | 2 => { k with dieCtl := componentOf b }
  | _ => { k with linkDie := componentOf b }

/-- The object installed (Table 18.4): firmware goes to the bank that is not PREFERRED, which then is; nothing takes
effect before a reset. -/
def installObject (b : Bytes) (s : State) : State :=
  match objType b with
  | 0x10 => { s with sec := { s.sec with enrolment := some (keyOf (objBody b)) } }
  | 0x11 => { s with sec := { s.sec with policyNext := some (BitVec.ofNat 32 (objPolicy b), sha256 b) } }
  | 0x20 => { s with sec := { s.sec with assayStaging := b } }
  | _ =>
    let k := bankWith (bankNo s s.sec.preferB) b
    if s.sec.preferB then { s with sec := { s.sec with bankA := k, preferB := false } }
    else { s with sec := { s.sec with bankB := k, preferB := true } }

/-- A FIRMWARE channel has received its final unit: installed and closed, or closed with the refusal (R365). -/
def finishFirmware (s : State) (c : Channel) : State :=
  let b := mread (sget [] s.host.inbox c.id.toNat) 0 (streamLength c)
  let v := objVerdict s (c.session == 0) b
  if v = 0 then closeChannel 0 0 (installObject b s) c else closeChannel 4 v s c

end Sys2Proof.Machine
end

