-- ==== Sys2Proof/Machine/Writes.lean ====
section
/-! DEFINITION. Dictionary writes: every writable entry, its field map and its effect (00, R4, R7, R8; 17, R346, R349 to
R352; the field maps of Tables 7.2 to 17.11). -/

namespace Sys2Proof.Machine

/-! Values (17, R346, R349) -/

/-- A value to be written: as a number, as bytes at an offset, and whether it has the entry's shape. -/
structure Put where
  num : Nat
  off : Nat
  bytes : Bytes
  fit : Bool
deriving DecidableEq, Repr

/-- No bit of a mask of reserved bits is set (R4). -/
def clearOf (v mask : Nat) : Bool := v &&& mask == 0

/-- A W1C field of the present value, under a written one. -/
def w1c (present : Bool) (v i : Nat) : Bool := present && !v.testBit i

/-- Bytes with a piece replaced. -/
def patch (old : Bytes) (off : Nat) (bs : Bytes) : Bytes := old.take off ++ bs ++ old.drop (off + bs.length)

/-- The value of bytes of which the first is the top one. -/
def topNat (bs : Bytes) : Nat := beNat bs

/-- An accepted write, or a refusal with 0x0202. -/
def ranged (ok : Bool) (s t : State) : State × BitVec 16 := guarded false (!ok) false s t

/-- An RWS write: refused with 0x0301 outside its states. -/
def inStates (l : List Mode) (ok : Bool) (s t : State) : State × BitVec 16 := guarded (!l.contains s.dev.mode) (!ok) false s t

/-! 0x1100, 0x1110 (16, Tables 16.1 to 16.4) -/

/-- A new PORT_CONFIG (16, R327, R331): a change of MODE takes the link down until it comes up in the new mode, and a
clock that is switched off receives no transmitter (log 122). -/
def portConfigured (v : Nat) (s : State) : State :=
  let p := { s.port with config := BitVec.ofNat 32 v }
  let up := p.linkUp && v.testBit 0 == s.port.config.getLsbD 0
  let s1 := { s with port := { p with linkUp := up, aligned := p.aligned && up } }
  if v.testBit 3 then s1
  else
    let s2 := { s1 with
      port := { s1.port with ptpReceiving := false }
      time := { s1.time with ptpTimescale := false, ptpSync := none, ptpAwait := none } }
    if s.port.ptpReceiving && usesPtp s then sourceLost s2 else s2

/-- A write of entry 0x1100. -/
def writePort (s : State) (sub : Nat) (w : Put) : State × BitVec 16 :=
  let p := s.port
  let v := w.num
  let done := fun (p : Port) => { s with port := p }
  match sub with
  | 1 => inStates [.standby, .idle, .loaded]
      (w.fit && clearOf v 4 && decide (1024 ≤ bits v 16 16) && bits v 4 12 != 0xFFF) s (portConfigured v s)
  | 2 => ranged (w.fit && clearOf v 0xFF007F00) s (done { p with pfcConfig := BitVec.ofNat 32 v })
  | 3 => ranged w.fit s (done { p with ipv4 := BitVec.ofNat 32 v })
  | 4 => ranged (w.fit && decide (1 ≤ v) && decide (v ≤ 30)) s (done { p with ipv4Prefix := BitVec.ofNat 8 v })
  | 5 => ranged w.fit s (done { p with ipv4Gateway := BitVec.ofNat 32 v })
  | 6 => ranged w.fit s (done { p with ipv6 := BitVec.ofNat 128 (topNat (patch (natBe 16 p.ipv6.toNat) w.off w.bytes)) })
  | 7 => ranged (w.fit && decide (1 ≤ v) && decide (v ≤ 127)) s (done { p with ipv6Prefix := BitVec.ofNat 8 v })
  | _ => ranged w.fit s (done { p with ipv6Gateway := BitVec.ofNat 128 (topNat (patch (natBe 16 p.ipv6Gateway.toNat) w.off w.bytes)) })

/-- A write of entry 0x1110. -/
def writeProtocol (s : State) (sub : Nat) (w : Put) : State × BitVec 16 :=
  let p := s.port
  let v := w.num
  let x := BitVec.ofNat 32 v
  match sub with
  | 1 => ranged (w.fit && decide (5 ≤ v) && decide (v ≤ 3600)) s { s with port := { p with sessionTimeout := x } }
  | 2 => ranged (w.fit && decide (5 ≤ v) && decide (v ≤ 1000)) s { s with port := { p with ackDelay := x } }
  | 3 => ranged (w.fit && decide (50 ≤ v) && decide (v ≤ 100000)) s { s with port := { p with retxTimeout := x } }
  | _ => ranged (w.fit && decide (1 ≤ v) && decide (v ≤ 255)) s { s with port := { p with retryLimit := x } }

/-! 0x2000 to 0x27FF -/

/-- A write of HOLD_AFTER (13, Table 13.2). -/
def writeHoldAfter (s : State) (w : Put) : State × BitVec 16 :=
  inStates [.loaded, .armed, .running, .held] w.fit s { s with dev := { s.dev with holdAfter := BitVec.ofNat 64 w.num } }

/-- A write of START_TIME (07, R134): on the master only; the master floods it. -/
def writeStartTime (s : State) (w : Put) : State × BitVec 16 :=
  let t := w.num
  if !isMaster s then (s, 0x0201)
  else inStates [.loaded] (w.fit && t % 256 == 0 && decide (s.time.now + 10000000 ≤ t)) s
    (originate 3 (natBe 8 t) { s with time := { s.time with startTime := BitVec.ofNat 64 t, startKnown := true } })

/-- The role or the source of the time base changes: parent, source and lock are found anew (07, R127, R128, R133;
log 120). -/
def newTimeRole (s : State) : State :=
  let s1 := { s with time := { s.time with
    sourcePresent := false, lastPps := none, taiPending := none, lock := 0, lockRun := 0
    parent := if s.time.master then none else s.time.parent } }
  let s2 := if usesPtp s1 && !usesPps s1 && ptpFollowed s1 then sourceFound s1 else s1
  if keepsTime s then lockAtIdle (refreshTree s2) else s2

/-- A write of TIME_CONFIG (07, Table 7.3). -/
def writeTimeConfig (s : State) (w : Put) : State × BitVec 16 :=
  let v := w.num
  let m := v.testBit 0
  let src := BitVec.ofNat 2 (bits v 1 2)
  let t := { s with time := { s.time with ptpDomain := BitVec.ofNat 8 (bits v 8 8), source := src, master := m } }
  inStates [.standby, .idle] (w.fit && clearOf v 0xFFFF00F8) s
    (if m = s.time.master ∧ src = s.time.source then t else newTimeRole t)

/-- A write of TIME_STATUS (07, Table 7.4). -/
def writeTimeStatus (s : State) (w : Put) : State × BitVec 16 :=
  let v := w.num
  let t := s.time
  ranged (w.fit && clearOf v 0xFC007F0C) s { s with time := { t with
    refLost := w1c t.refLost v 7, excursion := w1c t.excursion v 6, parentSwitch := w1c t.parentSwitch v 5
    longLink := w1c t.longLink v 4 } }

/-- A write of TAI_SET (07, R128). -/
def writeTai (s : State) (w : Put) : State × BitVec 16 :=
  let v := BitVec.ofNat 64 w.num
  let src := s.time.source.toNat
  if !isMaster s then (s, 0x0201)
  else inStates [.idle, .loaded] (w.fit && src % 2 == 0 && (src == 0 || w.num % 1000000000 == 0)) s
    (if src = 0 then { s with time := { s.time with taiSet := v, now := w.num } }
     else { s with time := { s.time with taiSet := v, taiPending := some v } })

/-- A write of entry 0x2400. -/
def writeTime (s : State) (sub : Nat) (w : Put) : State × BitVec 16 :=
  match sub with
  | 3 => writeStartTime s w
  | 4 => writeTimeConfig s w
  | 5 => writeTimeStatus s w
  | _ => writeTai s w

/-- A write of RATE (07, Table 7.7). -/
def writeRate (s : State) (w : Put) : State × BitVec 16 :=
  let cap := bits w.num 16 5
  ranged (w.fit && clearOf w.num 0xFFE0E000 && decide (8 ≤ cap) && decide (cap ≤ 16)) s { s with rate := { s.rate with cap := cap } }

/-- A write of entry 0x2440 (08, R181). -/
def writeTrain (s : State) (sub : Nat) (w : Put) : State × BitVec 16 :=
  let t := s.train
  let v := w.num
  match sub with
  | 1 => ranged (w.fit && decide (t.stagedStep.toNat ≤ v)) s { s with train := { t with stagedStep := BitVec.ofNat 64 v } }
  | 3 => ranged w.fit s { s with train := { t with
      diagMismatch := w1c t.diagMismatch v 7, updateSkipped := w1c t.updateSkipped v 6, batchLate := w1c t.batchLate v 5
      stashOverrun := w1c t.stashOverrun v 4 } }
  | 4 => ranged (w.fit && (v == 0 || decide (t.completedStep.toNat + 1 < v))) s
      { s with train := { t with diagStep := BitVec.ofNat 64 v } }
  | 6 => inStates [.loaded] (w.fit && decide (0 < v) && decide (v ≤ 0x7F800000)) s
      { s with train := { t with maxNorm := BitVec.ofNat 32 v } }
  | _ => ranged (w.fit && decide (1 ≤ v) && decide (v ≤ 15)) s { s with train := { t with replayLimit := BitVec.ofNat 4 v } }

/-- A write of UPDATE_STATUS (09, Table 9.12). -/
def writeUpdate (s : State) (w : Put) : State × BitVec 16 :=
  let u := s.upd
  ranged (w.fit && clearOf w.num 0xFF00) s { s with upd := { u with
    stateLost := w1c u.stateLost w.num 7, countMismatch := w1c u.countMismatch w.num 6, setMismatch := w1c u.setMismatch w.num 5 } }

/-! 0x3000 to 0x37FF -/

/-- A write of entry 0x3010 (05, R100). -/
def writeRng (s : State) (sub : Nat) (w : Put) : State × BitVec 16 :=
  if sub = 1 then inStates [.loaded] w.fit s { s with rng := { s.rng with jobSeed := patch (slice s.rng.jobSeed 0 32) w.off w.bytes } }
  else ranged (w.fit && clearOf w.num 0xFFFE0000) s { s with rng := { s.rng with mismatch := w1c s.rng.mismatch w.num 16 } }

/-- Words of a byte string, n bytes each. -/
def numbersOf (n : Nat) (bs : Bytes) : List Nat := (pieces n bs).map leNat

/-- A hyperparameter set with one subentry written, and whether the value keeps the ranges of Table 9.2 (R184). -/
def setWith (h : HyperSet) (sub : Nat) (w : Put) : HyperSet × Bool :=
  let x := BitVec.ofNat 32 w.num
  match sub with
  | 1 => ({ h with flags := x }, decide (w.num < 16))
  | 2 => ({ h with beta1 := x }, betaOk x)
  | 3 => ({ h with beta2 := x }, betaOk x)
  | 4 => ({ h with eps := x }, decide (0 < w.num) && decide (w.num < 0x7F800000))
  | 5 => ({ h with decay := x }, decide (w.num < 0x7F800000) || x == 0x80000000)
  | 6 => ({ h with knotCount := BitVec.ofNat 8 w.num }, knotsOk { h with knotCount := BitVec.ofNat 8 w.num })
  | 7 =>
    let l := (numbersOf 8 (patch (h.knotSteps.flatMap (fun y => natLe 8 y.toNat)) w.off w.bytes)).map (BitVec.ofNat 64)
    ({ h with knotSteps := l }, knotsOk { h with knotSteps := l })
  | _ =>
    let l := (numbersOf 4 (patch (h.knotLrs.flatMap (fun y => natLe 4 y.toNat)) w.off w.bytes)).map (BitVec.ofNat 32)
    ({ h with knotLrs := l }, l.all isFinite32)

/-- A write of entry 0x3040 + n (09, R184). -/
def writeSet (s : State) (n sub : Nat) (w : Put) : State × BitVec 16 :=
  let h := setWith (setOf s n) sub w
  inStates [.loaded, .held] (w.fit && h.2) s { s with sets := sput {} s.sets n h.1 }

/-- A write of entry 0x3400 (10, R213). -/
def writeThresholds (s : State) (sub : Nat) (w : Put) : State × BitVec 16 :=
  let x := BitVec.ofNat 32 w.num
  let on := [Mode.loaded, .held]
  match sub with
  | 1 => inStates on (w.fit && clearOf w.num 0x60E000FF && bits w.num 8 8 != 0) s { s with tele := { s.tele with thresholds := x } }
  | 2 => inStates on w.fit s { s with tele := { s.tele with nanLimit := x } }
  | _ => inStates on (w.fit && clearOf w.num 0xFFE0) s { s with tele := { s.tele with silenceCfg := x } }

/-- A write of STATUS of entry 0x3401 (10, Table 10.11). -/
def writeFallback (s : State) (w : Put) : State × BitVec 16 :=
  let t := s.tele
  ranged (w.fit && clearOf w.num 0x38) s { s with tele := { t with
    silenceAlarm := w1c t.silenceAlarm w.num 2, storm := w1c t.storm w.num 1, pinned := w1c t.pinned w.num 0 } }

/-- The record that SELECT names, if it may be selected (10, R214): a product record has four counters, and the others read
0. -/
def statSelected (s : State) (v : Nat) : Option Stat8 :=
  let i := bits v 0 12
  let tot := s.tele.lastTotals
  match bits v 28 4 with
  | 0 => if i = 4095 then none else some (sget {} (tot.elim [] (·.conv)) i)
  | 1 => if i = 4095 then none else some (sget {} s.tele.lastConv i)
  | 2 => if 1023 < i then none else some (sget {} (tot.elim [] (·.vec)) i)
  | 3 => if 1023 < i then none else some (sget {} s.tele.lastVec i)
  | 4 =>
    if layerCount s ≤ i then none
    else some { sget {} (tot.elim [] (·.prod)) i with c4 := 0, c5 := 0, c6 := 0, c7 := 0 }
  | _ => none

/-- A write of SELECT of entry 0x3410 latches the record and the last completed step (10, R214). -/
def writeStatSelect (s : State) (w : Put) : State × BitVec 16 :=
  let x := statSelected s w.num
  ranged (w.fit && clearOf w.num 0x0FFFF000 && x.isSome) s { s with tele := { s.tele with
    select := BitVec.ofNat 32 w.num, selStep := s.train.completedStep, selValue := x.getD {} } }

/-- A write of CHIMNEY_CONFIG (10, Table 10.13). -/
def writeChimney (s : State) (w : Put) : State × BitVec 16 :=
  ranged (w.fit && clearOf w.num 0x7F00FF00 && bits w.num 16 8 != 0) s
    { s with tele := { s.tele with chimneyCfg := BitVec.ofNat 32 w.num } }

/-! 0x4000 to 0x47FF (11) -/

/-- A write of LINK_EVENTS (Table 11.11). -/
def writeLinkEvents (s : State) (k : Nat) (w : Put) : State × BitVec 16 :=
  ranged (w.fit && decide (w.num < 128)) s (modLink s k (fun l => { l with events := l.events &&& ~~~ BitVec.ofNat 32 w.num }))

/-- A link that stops carrying data by command in a job needs its direction's table (R229; log 119). -/
def leaveData (k : Nat) (was : State) (s : State) : State :=
  if was.seq.grid && isUp was k then downDirection k was.seq.frame (modLink s k (fun l => { l with lost := true })) else s

/-- RETRAIN: the link trains from T1, its wiring hold ended (R226, Table 11.12); FORCE_DOWN holds it in DOWN all the same. -/
def retrainNow (k : Nat) (s : State) : State :=
  let l := linkOf s k
  if !linksPowered s || l.state == 0 || s.fence.links.contains k then s
  else if l.forceDown then modLink s k (fun l => { l with wiringHold := false })
  else refreshTree (leaveData k s (modLink s k (fun l => toTraining s { quietLink l with wiringHold := false, retrain := true })))

/-- FORCE_DOWN set: the link is held in DOWN (Table 11.12). -/
def forceDownNow (k : Nat) (s : State) : State :=
  let s1 := modLink s k (fun l => { l with forceDown := true })
  let l := linkOf s k
  if !linksPowered s || l.state == 0 || s.fence.links.contains k then s1
  else refreshTree (leaveData k s (modLink s1 k (fun l => { quietLink l with state := 1, phase := 0, retrain := false })))

/-- FORCE_DOWN cleared: the link trains. -/
def releaseDown (k : Nat) (s : State) : State :=
  let s1 := modLink s k (fun l => { l with forceDown := false })
  let l := linkOf s k
  if !linksPowered s || l.state == 0 || s.fence.links.contains k || l.wiringHold then s1
  else modLink s1 k (toTraining s)

/-- The present LINK_CONTROL fields: FENCE, RETRAIN, FORCE_DOWN. -/
def linkControl (s : State) (k : Nat) : Nat := flag (s.fence.links.contains k) 2 + flag (linkOf s k).retrain 1 + b2n (linkOf s k).forceDown

/-- A write of LINK_CONTROL (R230, R349, Table 11.12; log 118). -/
def writeLinkControl (s : State) (k : Nat) (w : Put) : State × BitVec 16 :=
  let v := w.num
  let m := s.dev.mode
  let quiet := m == .idle || m == .loaded || m == .held
  let differs := fun (i : Nat) => v.testBit i != (linkControl s k).testBit i
  let s1 := if differs 2 then fenceLinkNow k s else s
  let s2 := if !differs 0 then s1 else if v.testBit 0 then forceDownNow k s1 else releaseDown k s1
  let s3 := if differs 1 && v.testBit 1 then retrainNow k s2 else s2
  guarded ((differs 2 && !quiet) || ((differs 1 || differs 0) && !quiet && m != .banked))
    (!w.fit || decide (8 ≤ v) || (s.fence.links.contains k && !v.testBit 2)) false s s3

/-- Sizes, coordinates and product of a FABRIC_ID (R239). -/
def fabricIdOk (v : Nat) : Bool :=
  let size := fun (d : Nat) => bits v (56 - 8 * d) 8
  (List.range 4).all (fun d => decide (1 ≤ size d) && decide (size d ≤ if d = 3 then 8 else 16) && decide (bits v (24 - 8 * d) 8 < size d)) &&
    decide (size 0 * size 1 * size 2 * size 3 ≤ 32768)

/-- Link k under a new FABRIC_ID: unconnected, newly connected, or released from its wiring hold (R217, R226). -/
def relink (s : State) (k : Nat) : State :=
  let l := linkOf s k
  if !isConnected s k then modLink s k (fun l => { quietLink l with state := 0, phase := 0, wiringHold := false })
  else if l.state = 0 then modLink s k (poweredLink s k)
  else if l.wiringHold then
    modLink s k (fun l => if l.forceDown then { l with wiringHold := false } else toTraining s { l with wiringHold := false })
  else s

/-- A write of FABRIC_ID (R218, R226, R239). -/
def writeFabricId (s : State) (w : Put) : State × BitVec 16 :=
  let s1 := { s with fabric := { s.fabric with id := BitVec.ofNat 64 w.num } }
  inStates [.standby, .idle] (w.fit && fabricIdOk w.num) s
    (if linksPowered s then refreshTree ((List.range 64).foldl relink s1) else s1)

/-- A write of RETRAIN_LIMIT. -/
def writeRetrainLimit (s : State) (w : Put) : State × BitVec 16 :=
  ranged (w.fit && decide (1 ≤ w.num) && decide (w.num ≤ 15)) s
    { s with fabric := { s.fabric with retrainLimit := BitVec.ofNat 4 w.num } }

/-! 0x4800 to 0x4FFF (12) -/

/-- A write of entry 0x4800 (R262, Tables 12.9, 12.10). -/
def writeMemory (s : State) (sub : Nat) (w : Put) : State × BitVec 16 :=
  let m := s.mem
  let v := w.num
  let x := BitVec.ofNat 32 v
  match sub with
  | 1 => ranged (w.fit && decide (v < 256)) s { s with mem := { m with
      lastOverflow := w1c m.lastOverflow v 7, ueLatent := w1c m.ueLatent v 6, stackFenced := w1c m.stackFenced v 5
      channelRetired := w1c m.channelRetired v 4, farHot := w1c m.farHot v 3 } }
  | 2 => inStates [.standby, .idle] (w.fit && decide (3600 ≤ v) && decide (v ≤ 86400)) s { s with mem := { m with scrubPeriod := x } }
  | 3 => ranged w.fit s { s with mem := { m with rotateInterval := x } }
  | _ => ranged (w.fit && v != 0) s { s with mem := { m with ceThreshold := x } }

/-- A write of ROTATE_REQUEST: a repair rotation is queued (R252, R263). -/
def writeRotate (s : State) (n : Nat) (w : Put) : State × BitVec 16 :=
  let k := stackOf s n
  guarded false (!w.fit || decide (activeOf s.fence n ≤ w.num) || !k.spareOk) (k.rotPhase != 0 || rotQueued k) s
    (modStack s n (fun k => { k with repairs := k.repairs ++ [w.num] }))

/-- A STAGE channel whose RETAINED target leaves STAGING closes with REASON 0x04 and CODE 0x0301 (16, R344). -/
def closeTarget (r : Nat) (s : State) : State :=
  (s.host.channels.filter (fun c => c.kind == 2 && (regionNo s c.region).any (fun x => recordOf s x == some r))).foldl
    (closeChannel 4 0x0301) s

/-- A write of VERIFY: the record enters HASHING (R261, R264). -/
def writeVerify (s : State) (r : Nat) (w : Put) : State × BitVec 16 :=
  guarded (s.dev.mode != .loaded || (retainedOf s r).state != 1) (!w.fit || w.num != 1) false s
    (closeTarget r (modRetained s r (fun k => { k with state := 2 })))

/-- A write of HASH_FAIL. -/
def writeHashFail (s : State) (r : Nat) (w : Put) : State × BitVec 16 :=
  ranged (w.fit && decide (w.num < 2)) s (modRetained s r (fun k => { k with hashFail := w1c k.hashFail w.num 0 }))

/-! 0x5000 to 0x57FF (14) -/

/-- A write of FAULT_FLAGS or HEARTH_LIMIT (Tables 14.5, 14.6). -/
def writeFaults (s : State) (sub : Nat) (w : Put) : State × BitVec 16 :=
  let f := s.faults
  if sub = 5 then ranged (w.fit && clearOf w.num 0xFFFFFF01) s { s with faults := { f with
    thermTripped := w1c f.thermTripped w.num 2, mgmtWatchdog := w1c f.mgmtWatchdog w.num 1 } }
  else ranged (w.fit && decide (1 ≤ w.num) && decide (w.num ≤ 15)) s { s with faults := { f with hearthLimit := BitVec.ofNat 4 w.num } }

/-- A write of ERR_CONTROL: a 1 to ERR_HELD releases ERR_N, which rises now or when the pulse ends (R295, R301). -/
def writeErr (s : State) (w : Put) : State × BitVec 16 :=
  let v := w.num
  let release := v.testBit 0 && s.faults.errHeld
  guarded (s.dev.mode == .faulted && v.testBit 0) (!w.fit || decide (8 ≤ v)) false s { s with
    faults := { s.faults with cEnable := v.testBit 2, errHeld := w1c s.faults.errHeld v 0 }
    pins := { s.pins with errN := if release then !s.faults.pulsing else s.pins.errN } }

/-- A write of SELECT of FAULT_LOG latches the record (R302). -/
def writeLogSelect (s : State) (w : Put) : State × BitVec 16 :=
  ranged (w.fit && decide (w.num < s.faults.log.length)) s { s with faults := { s.faults with
    logSelect := BitVec.ofNat 32 w.num, logRecord := s.faults.log.getD w.num {} } }

/-- A write of CLEAR empties the ring (R302). -/
def writeLogClear (s : State) (w : Put) : State × BitVec 16 :=
  ranged (w.fit && w.num == 1) s { s with faults := { s.faults with log := [] } }

/-- A write of SELECT of SOURCE_CONTROL latches COUNT (R302). -/
def writeSourceSelect (s : State) (w : Put) : State × BitVec 16 :=
  ranged (w.fit && (sourceInfo w.num).isSome) s { s with faults := { s.faults with
    sourceSelect := BitVec.ofNat 16 w.num, sourceCount := (sourceOf s w.num).count } }

/-- FAULT_INJECT of the policy in force (17, Table 17.9). -/
def mayForce (s : State) : Bool := s.sec.policy.getLsbD 3

/-- A CONTROL word with these fields applied to its source (R302, Table 14.10). -/
def controlled (s : State) (i : SourceInfo) (v : Nat) (x : Source) : Source :=
  let unit := BitVec.ofNat 12 (bits v 8 12)
  { x with
    mask := v.testBit 6
    reaction := if bits v 3 3 = i.reaction then none else some (BitVec.ofNat 3 (bits v 3 3))
    unit := unit
    force := if v.testBit 7 then some (s.faults.forceTime, unit) else x.force }

/-- A write of CONTROL of the selected source (R302, R303). -/
def writeSourceControl (s : State) (w : Put) : State × BitVec 16 :=
  let v := w.num
  let code := s.faults.sourceSelect.toNat
  match sourceInfo code with
  | none => (s, 0x0202)
  | some i =>
    if v.testBit 7 && !mayForce s then (s, 0x0201)
    else guarded false
      (!w.fit || !clearOf v 0xFFF00004 || bits v 0 2 != i.cls || decide (bits v 3 3 < i.reaction) || (forceOcc i (bits v 8 12)).isNone)
      (v.testBit 7 && (sourceOf s code).force.isSome) s (modSource s code (controlled s i v))

/-- A write of entry 0x5030. -/
def writeSource (s : State) (sub : Nat) (w : Put) : State × BitVec 16 :=
  match sub with
  | 1 => writeSourceSelect s w
  | 2 => writeSourceControl s w
  | _ => ranged w.fit s { s with faults := { s.faults with forceTime := BitVec.ofNat 64 w.num } }

/-! 0x5800 to 0x5FFF (15) -/

/-- A write of a mailbox entry by a host or the monitor (15, R313). -/
def writeMail (s : State) (a : Agent) (m sub : Nat) (w : Put) : State × BitVec 16 :=
  let r := if sub = 1 then lockWrite s m (agentId a) w.num
    else if sub = 2 then controlWrite s m (agentId a) w.num
    else wordWrite s m (agentId a) (sub - 3) (BitVec.ofNat 32 w.num)
  if r.2 = 0 ∧ (!w.fit ∨ (sub = 2 ∧ !clearOf w.num 0x78C0E000)) then (s, 0x0202) else r

/-! All entries -/

/-- Entries of units without power in BANKED: the sequencer and its statistics on the spine dies, the RNG banks and the
memories (14, R306; log 61). -/
def bankedOff (i : Nat) : Bool :=
  i == 0x2410 || i == 0x2440 || i == 0x2450 || i == 0x3010 || within 0x3040 16 i || i == 0x3400 || i == 0x3401 || i == 0x3410 ||
    i == 0x4800 || within 0x4810 16 i

/-- Writes below 0x3000. -/
def writeLow (s : State) (i sub : Nat) (w : Put) : State × BitVec 16 :=
  match i with
  | 0x1100 => writePort s sub w
  | 0x1110 => writeProtocol s sub w
  | 0x2000 => writeHoldAfter s w
  | 0x2001 => if w.fit then deviceCommand (bits w.num 0 16) (bits w.num 16 16) s else (s, 0x0202)
  | 0x2400 => writeTime s sub w
  | 0x2410 => writeRate s w
  | 0x2440 => writeTrain s sub w
  | _ => writeUpdate s w

/-- Writes from 0x3000 to 0x3FFF. -/
def writeMid (s : State) (i sub : Nat) (w : Put) : State × BitVec 16 :=
  if within 0x3040 16 i then writeSet s (i - 0x3040) sub w
  else
    match i with
    | 0x3010 => writeRng s sub w
    | 0x3400 => writeThresholds s sub w
    | 0x3401 => writeFallback s w
    | 0x3410 => writeStatSelect s w
    | _ => writeChimney s w

/-- Writes from 0x4000 to 0x57FF. -/
def writeHigh (s : State) (i sub : Nat) (w : Put) : State × BitVec 16 :=
  if i < 0x4040 then (if sub = 9 then writeLinkEvents s (i - 0x4000) w else writeLinkControl s (i - 0x4000) w)
  else if within 0x4810 16 i then writeRotate s (i - 0x4810) w
  else if within 0x4840 16 i then (if sub = 4 then writeVerify s (i - 0x4840) w else writeHashFail s (i - 0x4840) w)
  else
    match i with
    | 0x4040 => if sub = 1 then writeFabricId s w else writeRetrainLimit s w
    | 0x4800 => writeMemory s sub w
    | 0x5000 => writeFaults s sub w
    | 0x5010 => writeErr s w
    | 0x5020 => if sub = 1 then writeLogSelect s w else writeLogClear s w
    | _ => writeSource s sub w

/-- The effect of a write of a subentry that may be written. -/
def writeSub (s : State) (a : Agent) (i sub : Nat) (w : Put) : State × BitVec 16 :=
  if s.dev.mode = .banked ∧ bankedOff i then (s, 0x0301)
  else if i < 0x3000 then writeLow s i sub w
  else if i < 0x4000 then writeMid s i sub w
  else if i < 0x5800 then writeHigh s i sub w
  else if i < 0x5820 then writeMail s a (i - 0x5800) sub w
  else if i = 0x6020 then writeJobKey s w.off w.bytes w.fit
  else writeNonce s w.off w.bytes w.fit

/-- The value as it is to be written: a scalar at its own width from offset 0, a DOMAIN piece within the entry (17, R346;
16, R339). -/
def putOf (x : Sub) (v : DictValue) : Put :=
  let fit := if isLong x.typ then decide (1 ≤ v.bytes.length) && decide (v.bytes.length ≤ 4096) && decide (v.offset + v.bytes.length ≤ x.size)
    else v.offset == 0 && v.bytes.length == x.size
  { num := leNat v.bytes, off := v.offset, bytes := v.bytes, fit := fit }

/-- The first refusal of a write before its entry's own checks, with the subentry where there is none (R8). -/
def writeCheck (a : Agent) (i sub typ : Nat) : BitVec 16 × Option Sub :=
  match entryOf i with
  | none => (0x0101, none)
  | some e =>
    match subOf i e sub with
    | none => (0x0102, none)
    | some x =>
      if !mayWrite a then (0x0401, none)
      else if x.acc = .seal then (0x0501, none)
      else if x.acc = .ro then (0x0201, none)
      else if x.typ ≠ typ then (0x0203, some x)
      else (0, some x)

/-- A write that its agent or the policy does not permit: 0x0201 comes before 0x0203 (R8). -/
def writeDenied (s : State) (a : Agent) (i sub : Nat) (w : Put) : Bool := (writeSub s a i sub w).2 == 0x0201

/-- A dictionary write: the state after it and its code (R7, R8). A refused write leaves the state as it is but for what a
refused command counts (R267). -/
def dictWrite (s : State) (a : Agent) (i sub : Nat) (v : DictValue) : State × BitVec 16 :=
  match writeCheck a i sub v.typ.toNat with
  | (c, some x) => if c = 0 then writeSub s a i sub (putOf x v) else if writeDenied s a i sub (putOf x v) then (s, 0x0201) else (s, c)
  | (c, none) => (s, c)

/-- A write of an agent. -/
def agentWrite (a : Agent) (i sub : Nat) (v : DictValue) (s : State) : Host.Outcome State Fault Refusal :=
  access a (fun s => dictWrite s a i sub v) s

/-- A whole scalar value of a type and size. -/
def scalar (x : Sub) (n : Nat) : DictValue := { typ := BitVec.ofNat 8 x.typ, offset := 0, bytes := natLe x.size n }

/-! The commands -/

/-- DICTIONARY_WRITE (17, R349). -/
def execDictionaryWrite (a : Agent) (index : BitVec 16) (sub : BitVec 8) (v : DictValue) (s : State) :
    Host.Outcome State Fault Refusal := agentWrite a index.toNat sub.toNat v s

/-- TAI_SET (07, R128). -/
def execTaiSet (a : Agent) (t : BitVec 64) (s : State) : Host.Outcome State Fault Refusal :=
  agentWrite a 0x2400 6 (scalar (t64 .rw) t.toNat) s

/-- START_TIME_WRITE (07, R134). -/
def execStartTimeWrite (a : Agent) (t : BitVec 64) (s : State) : Host.Outcome State Fault Refusal :=
  agentWrite a 0x2400 3 (scalar (t64 .rw) t.toNat) s

/-- FABRIC_ID (11, R218). -/
def execFabricIdWrite (a : Agent) (id : BitVec 64) (s : State) : Host.Outcome State Fault Refusal :=
  agentWrite a 0x4040 1 (scalar (u64 .rw) id.toNat) s

/-- FENCE (11, R230): LINK_CONTROL with FENCE set and the other fields as they are. -/
def execFenceLink (a : Agent) (k : Fin 64) (s : State) : Host.Outcome State Fault Refusal :=
  agentWrite a (0x4000 + k.val) 10 (scalar (u32 .rw) (linkControl s k.val ||| 4)) s

/-- RETRAIN (11, R226): LINK_CONTROL with RETRAIN set. -/
def execRetrainLink (a : Agent) (k : Fin 64) (s : State) : Host.Outcome State Fault Refusal :=
  agentWrite a (0x4000 + k.val) 10 (scalar (u32 .rw) (linkControl s k.val ||| 2)) s

/-- FORCE_DOWN (11, R238): LINK_CONTROL with FORCE_DOWN as given. -/
def execForceDownLink (a : Agent) (k : Fin 64) (on : Bool) (s : State) : Host.Outcome State Fault Refusal :=
  agentWrite a (0x4000 + k.val) 10 (scalar (u32 .rw) (linkControl s k.val / 2 * 2 + b2n on)) s

/-- STAT_READ_SELECT (10, R214). -/
def execStatReadSelect (a : Agent) (sel : BitVec 32) (s : State) : Host.Outcome State Fault Refusal :=
  agentWrite a 0x3410 1 (scalar (u32 .rw) sel.toNat) s

/-- FAULT_LOG_SELECT (14, R302). -/
def execFaultLogSelect (a : Agent) (sel : BitVec 32) (s : State) : Host.Outcome State Fault Refusal :=
  agentWrite a 0x5020 1 (scalar (u32 .rw) sel.toNat) s

/-- CLEAR (14, R302). -/
def execClearLog (a : Agent) (v : BitVec 8) (s : State) : Host.Outcome State Fault Refusal :=
  agentWrite a 0x5020 4 (scalar (u8 .wo) v.toNat) s

/-- SOURCE_SELECT (14, R302). -/
def execSourceSelect (a : Agent) (code : BitVec 16) (s : State) : Host.Outcome State Fault Refusal :=
  agentWrite a 0x5030 1 (scalar (u16 .rw) code.toNat) s

/-- FORCE (14, R302): a CONTROL write with FORCE = 1. -/
def execForceFault (a : Agent) (ctl : BitVec 32) (s : State) : Host.Outcome State Fault Refusal :=
  agentWrite a 0x5030 2 (scalar (u32 .rw) (ctl.toNat ||| 0x80)) s

/-- ERR_HELD (14, R295): a write of 1 to ERR_HELD with C_ENABLE as it is. -/
def execErrHeldRelease (a : Agent) (s : State) : Host.Outcome State Fault Refusal :=
  agentWrite a 0x5010 0 (scalar (u32 .rw) (flag s.faults.cEnable 2 + 1)) s

/-- ROTATE_REQUEST (12, R252). -/
def execRotateRequest (a : Agent) (stack : Fin 16) (ch : BitVec 8) (s : State) : Host.Outcome State Fault Refusal :=
  agentWrite a (0x4810 + stack.val) 7 (scalar (u8 .wo) ch.toNat) s

/-- VERIFY (12, R261). -/
def execVerifyRetained (a : Agent) (r : Fin 16) (v : BitVec 8) (s : State) : Host.Outcome State Fault Refusal :=
  agentWrite a (0x4840 + r.val) 4 (scalar (u8 .wo) v.toNat) s

end Sys2Proof.Machine
end

