-- ==== Sys2Proof/Machine/Requests.lean ====
section
/-! DEFINITION. Ilutrisil requests: which messages the device takes, sessions and their sequence, and the dictionary and
session requests (16, R327 to R329, R333 to R339; 18, R367). -/

namespace Sys2Proof.Machine

/-! Which messages are taken (R327 to R329, R333, R337) -/

/-- The frame carries no VLAN but the port's (R329; log 62). -/
def vlanTaken (s : State) (f : Frame) : Bool := f.vlan.all (fun v => v.toNat == vlanId s)

/-- The frame and its packet are not discarded (R327 to R329; log 127). -/
def frameTaken (s : State) (f : Frame) : Bool :=
  decide (f.length ≤ 9216) && f.fcsOk && vlanTaken s f && !f.fragmentOrOptions && f.checksumOk

/-- The UDP port of Ilutrisil: the recovery loader's is the default (18, R367). -/
def udpPort (s : State) : Nat := if s.sec.bootVerified then bits s.port.config.toNat 16 16 else 28410

/-- An address of the device takes the datagram: IPv4 while IPV4_ADDRESS is not 0; the recovery loader's is link-local
(R328; 18, R367; log 128). -/
def ipActive (s : State) (e : Endpoint) : Bool := e.v6 || (s.port.ipv4 != 0 && s.sec.bootVerified)

/-- Header and lengths of a message are whole, and the host sent it (R333, R334). -/
def headerOk (m : Msg) : Bool :=
  let tag := if m.session = 0 then 0 else 16
  m.magic == 0x494C && m.version == 1 && m.flags.toNat % 32 == 0 && m.reserved == 0 && !m.flags.getLsbD 7 &&
    m.udpLength == 16 + m.length.toNat + tag && m.body.length == m.length.toNat && m.tag.length == tag

/-- A failed tag or an unknown session (R337). -/
def authFail (s : State) : State := discard { s with port := { s.port with authFailures := satInc s.port.authFailures } }

/-- The message as its session takes it: f gets the session, none without one. -/
def takeMsg (typ : BitVec 8) (m : Msg) (f : Option Session → State → State) (s : State) : State :=
  if !mgmtRuns s then s
  else if !frameTaken s m.frame then discard s
  else if m.dstPort.toNat ≠ udpPort s ∨ !ipActive s m.src ∨ !headerOk m then s
  else if m.session = 0 then f none s
  else
    match sessionOf s m.session with
    | some x => if m.tag = msgTag x.key typ m.session m.seq m.flags m.body then f (some x) s else authFail s
    | none => authFail s

/-! Requests and responses (R334, R337) -/

/-- What a request answers: the body from CODE on, the SESSION of the response's header and the key of its tag. -/
structure Reply where
  body : Bytes
  session : BitVec 32
  key : Option Bytes
deriving DecidableEq, Repr

/-- A response body of a CODE and what follows. -/
def replyBody (code : BitVec 16) (rest : Bytes := []) : Bytes := natBe 2 code.toNat ++ rest

/-- The response to a request, as the settings before it give its tags (R328, R329, R332). -/
def response (s : State) (m : Msg) (typ : BitVec 8) (r : Reply) : Tx :=
  .datagram m.src (sendVlan s) (controlPcp s) typ r.session m.seq 0x80 r.body
    (r.key.elim [] (fun k => msgTag k typ r.session m.seq 0x80 r.body))

/-- Answer with the body that a request's effect gives, and note its CODE. -/
def answer (s : State) (m : Msg) (typ : BitVec 8) (r : State × Reply) : State :=
  send (setCode (r.1, BitVec.ofNat 16 (beAt r.2.body 0 2))) (response s m typ r.2)

/-- A request of SEQ q is to be executed (R337). -/
def isNew (x : Session) (q : Nat) : Bool :=
  decide (x.highest < q) || (decide (q < x.highest) && decide (x.highest ≤ q + 64) && !x.executed.contains q)

/-- The session after it has executed SEQ q with a response (R337). -/
def noteRequest (q : Nat) (body : Bytes) (x : Session) : Session :=
  let h := max x.highest q
  let rs := x.responses ++ [(q, body)]
  { x with
    highest := h
    executed := (q :: x.executed).filter (fun e => decide (h ≤ e + 64))
    responses := rs.drop (rs.length - 64) }

/-- State with session n changed. -/
def modSession (s : State) (n : BitVec 32) (f : Session → Session) : State :=
  { s with host := { s.host with sessions := s.host.sessions.map (fun x => if x.number == n then f x else x) } }

/-- A request within a session: executed once, answered again from the store, or discarded (R337). -/
def inSession (typ : BitVec 8) (m : Msg) (x : Session) (f : State → State × Reply) (s : State) : State :=
  let q := m.seq.toNat
  if isNew x q then
    let r := f s
    modSession (answer s m typ r) x.number (noteRequest q r.2.body)
  else
    match x.responses.find? (fun p => p.1 == q) with
    | some p =>
      if m.flags.getLsbD 6 then send s (response s m typ { body := p.2, session := x.number, key := some x.key }) else discard s
    | none => discard s

/-- The reply of a message's own session. -/
def ownReply (m : Msg) (x : Option Session) (body : Bytes) : Reply := { body := body, session := m.session, key := x.map (·.key) }

/-- A request: f gives the state and the response body. The recovery loader answers READ and BULK_OPEN only (18, R367). -/
def request (typ : BitVec 8) (m : Msg) (f : Option Session → State → State × Bytes) (s : State) :
    Host.Outcome State Fault Refusal :=
  let g := fun (x : Option Session) (s : State) =>
    if !s.sec.bootVerified && typ != 1 && typ != 0x20 then (s, ownReply m x (replyBody 0x0401))
    else ((f x s).1, ownReply m x (f x s).2)
  .next (takeMsg typ m (fun x s => x.elim (answer s m typ (g none s)) (fun y => inSession typ m y (g (some y)) s)) s)

/-- The agent of a request. -/
def hostOf (x : Option Session) : Agent := .host x.isSome

/-! READ and WRITE (R339, Table 16.10) -/

/-- A value as it is sent: scalars most significant byte first, DOMAIN and STRING in stored order (R333). -/
def onWire (typ : Nat) (bs : Bytes) : Bytes := if isLong typ then bs else bs.reverse

/-- The code of a READ whose body does not match its TYPE: what the entry it names refuses comes before 0x0202, and one that
names none reaches no public entry (R339; 00, R8). -/
def brokenRead (a : Agent) (b : Bytes) : BitVec 16 :=
  if b.length < 3 then (if mayWrite a then 0x0202 else 0x0401)
  else
    let c := (readCheck a (beAt b 0 2) (beAt b 2 1)).1
    if c = 0 then 0x0202 else c

/-- READ of a body. -/
def readRequest (a : Agent) (b : Bytes) (s : State) : State × Bytes :=
  let i := beAt b 0 2
  let sub := beAt b 2 1
  if b.length ≠ 12 ∨ beAt b 3 1 ≠ 0 ∨ beAt b 10 2 ≠ 0 then (s, replyBody (brokenRead a b))
  else
    let r := readPiece s a i sub (beAt b 4 4) (beAt b 8 2)
    if r.2.1 = 0 then (r.1, replyBody 0 ([BitVec.ofNat 8 r.2.2.1, 0] ++ onWire r.2.2.1 r.2.2.2)) else (r.1, replyBody r.2.1)

/-- The value of a WRITE body; one whose COUNT, OFFSET or reserved bytes do not fit its TYPE holds no bytes. -/
def writeValue (b : Bytes) : DictValue :=
  let typ := beAt b 3 1
  let bs := b.drop 12
  let fits := beAt b 10 2 == 0 && (if isLong typ then beAt b 8 2 == bs.length else beAt b 4 4 == 0 && beAt b 8 2 == 0)
  { typ := BitVec.ofNat 8 typ, offset := beAt b 4 4, bytes := if fits then onWire typ bs else [] }

/-- WRITE of a body: without a session 0x0401 comes before what the body's shape gives (R8). -/
def writeRequest (a : Agent) (b : Bytes) (s : State) : State × Bytes :=
  if b.length < 12 then (s, replyBody (if mayWrite a then 0x0202 else 0x0401))
  else
    let r := dictWrite s a (beAt b 0 2) (beAt b 2 1) (writeValue b)
    (r.1, replyBody r.2)

/-- READ (16, R339). -/
def execReadEntry (m : Msg) (s : State) : Host.Outcome State Fault Refusal :=
  request 0x01 m (fun x s => readRequest (hostOf x) m.body s) s

/-- WRITE (16, R339). -/
def execWriteEntry (m : Msg) (s : State) : Host.Outcome State Fault Refusal :=
  request 0x02 m (fun x s => writeRequest (hostOf x) m.body s) s

/-! Blocks (R339) -/

/-- The items of a block body, n bytes each. -/
def blockItems (n : Nat) (b : Bytes) : List Bytes := pieces n (b.drop 4)

/-- N and the length of a block body fit. -/
def blockOk (n : Nat) (b : Bytes) : Bool :=
  decide (4 ≤ b.length) && beAt b 2 2 == 0 && decide (1 ≤ beAt b 0 2) && decide (beAt b 0 2 ≤ 64) && b.length == 4 + n * beAt b 0 2

/-- The code of a READ_BLOCK item before it is read. -/
def itemCheck (a : Agent) (x : Bytes) : BitVec 16 :=
  match readCheck a (beAt x 0 2) (beAt x 2 1) with
  | (_, some (_, t)) => if isLong t.typ then 0x0203 else if beAt x 3 1 ≠ 0 then 0x0202 else 0
  | (c, none) => c

/-- One item of a READ_BLOCK; TYPE and VALUE of a refused one are free values (log 63). -/
def readItem (a : Agent) (s : State) (x : Bytes) : State × Bytes :=
  let c := itemCheck a x
  if c = 0 then
    let r := readWhole s a (beAt x 0 2) (beAt x 2 1)
    (r.1, replyBody 0 ([BitVec.ofNat 8 r.2.2.1, 0] ++ natBe 8 (leNat r.2.2.2)))
  else
    ({ s with fresh := s.fresh + 1 },
     replyBody c ([Config.itemByte s.fresh 0, 0] ++ (List.range 8).map (fun i => Config.itemByte s.fresh (i + 1))))

/-- The items of a block body that names an entry the agent may not read, with their codes. -/
def closedItems (a : Agent) (b : Bytes) : List (BitVec 16) :=
  ((blockItems 4 b).filter (fun x => 3 ≤ x.length && !mayRead a (beAt x 0 2))).map (fun x => (readCheck a (beAt x 0 2) (beAt x 2 1)).1)

/-- The code that refuses a READ_BLOCK whole, 0 for none: without a session all its entries are public ones, and of several
codes the first in the order of R8 holds (00, R8; log 124). -/
def blockCode (a : Agent) (b : Bytes) : BitVec 16 :=
  let cs := closedItems a b
  if !cs.isEmpty then (if cs.contains 0x0101 then 0x0101 else if cs.contains 0x0102 then 0x0102 else 0x0401)
  else if blockOk 4 b then 0
  else if mayWrite a || !(blockItems 4 b).isEmpty then 0x0202
  else 0x0401

/-- READ_BLOCK of a body. -/
def blockRead (a : Agent) (b : Bytes) (s : State) : State × Bytes :=
  if blockCode a b ≠ 0 then (s, replyBody (blockCode a b))
  else
    (blockItems 4 b).foldl (fun r x =>
      let q := readItem a r.1 x
      (q.1, r.2 ++ q.2)) (s, replyBody 0)

/-- The value of a WRITE_BLOCK item: a narrower value stands in the least significant bytes, the others zero; an entry
of STRING or DOMAIN has no type that fits. -/
def itemValue (x : Bytes) : DictValue :=
  let v := beAt x 4 8
  match (entryOf (beAt x 0 2)).bind (fun e => subOf (beAt x 0 2) e (beAt x 2 1)) with
  | some t =>
    if isLong t.typ then { typ := 0, offset := 0, bytes := [] }
    else { typ := BitVec.ofNat 8 (beAt x 3 1), offset := 0, bytes := if v < 256 ^ t.size then natLe t.size v else [] }
  | none => { typ := BitVec.ofNat 8 (beAt x 3 1), offset := 0, bytes := [] }

/-- The items of a WRITE_BLOCK in order, up to and including the first refused one, with their codes; none follows a
write that resets the device (log 126). -/
def writeItems (a : Agent) : List Bytes → State → State × List (BitVec 16)
  | [], s => (s, [])
  | x :: t, s =>
    let r := dictWrite s a (beAt x 0 2) (beAt x 2 1) (itemValue x)
    if r.2 ≠ 0 ∨ !mgmtRuns r.1 then (r.1, [r.2])
    else
      let q := writeItems a t r.1
      (q.1, r.2 :: q.2)

/-- WRITE_BLOCK of a body. -/
def blockWrite (a : Agent) (b : Bytes) (s : State) : State × Bytes :=
  if !mayWrite a then (s, replyBody 0x0401)
  else if !blockOk 12 b then (s, replyBody 0x0202)
  else
    let r := writeItems a (blockItems 12 b) s
    (r.1, replyBody 0 (natBe 2 r.2.length ++ r.2.flatMap (fun c => natBe 2 c.toNat)))

/-- READ_BLOCK (16, R339). -/
def execReadBlock (m : Msg) (s : State) : Host.Outcome State Fault Refusal :=
  request 0x03 m (fun x s => blockRead (hostOf x) m.body s) s

/-- WRITE_BLOCK (16, R339). -/
def execWriteBlock (m : Msg) (s : State) : Host.Outcome State Fault Refusal :=
  request 0x04 m (fun x s => blockWrite (hostOf x) m.body s) s

/-! Sessions (R336, R338) -/

/-- A fresh nonce, held; the oldest of nine is dropped. -/
def drawNonce (s : State) : State × Bytes :=
  let n := slice (Config.random s.fresh) 0 32
  let l := s.host.nonces ++ [n]
  ({ s with fresh := s.fresh + 1, host := { s.host with nonces := l.drop (l.length - 8) } }, replyBody 0 n)

/-- SESSION_NONCE (16, R336; log 125). -/
def execSessionNonce (m : Msg) (s : State) : Host.Outcome State Fault Refusal :=
  request 0x10 m (fun x s => if x.isSome ∨ m.body ≠ [] then (s, replyBody 0x0202) else drawNonce s) s

/-- The session key that a SESSION_OPEN brings, where every check passes (R336, Table 16.9). -/
def openKey (s : State) (m : Msg) : Option Bytes :=
  let b := m.body
  match s.sec.owner with
  | some k =>
    if s.host.nonces.contains (slice b 0 32) && slice b 32 32 == s.sec.ownerId &&
        pssVerify k (msgHeader 0x11 m.session m.seq 832 m.flags ++ b.take 448) (slice b 448 384) then unwrap s (slice b 64 384)
    else none
  | none => none

/-- A number from 1 that is not used: the one picked, else the lowest (log 64). -/
def freeNumber (pick : Nat) (used : List Nat) : Nat :=
  if pick = 0 || used.contains pick then
    ((List.range (used.length + 1)).map (· + 1)).find? (fun n => !used.contains n) |>.getD 0
  else pick

/-- A session opens under a key: its nonce is used (R336). -/
def openSession (m : Msg) (key : Bytes) (s : State) : State × Reply :=
  let n := BitVec.ofNat 32 (freeNumber (Config.pick s.fresh % 2 ^ 32) (s.host.sessions.map (·.number.toNat)))
  ({ s with fresh := s.fresh + 1, host := { s.host with
      nonces := s.host.nonces.filter (fun x => x != slice m.body 0 32)
      sessions := s.host.sessions ++ [{
        number := n, key := key, peer := m.src, highest := 0, executed := [], responses := [] }] } },
   { body := replyBody 0 (natBe 4 n.toNat), session := n, key := some key })

/-- SESSION_OPEN without a session: refused, or the session with its first response. -/
def openRequest (m : Msg) (s : State) : State × Reply :=
  let no := fun (s : State) (c : BitVec 16) => (s, ownReply m none (replyBody c))
  if !s.sec.bootVerified then no s 0x0401
  else if m.body.length ≠ 832 then no s 0x0202
  else
    match openKey s m with
    | none => no { s with port := { s.port with authFailures := satInc s.port.authFailures } } 0x0401
    | some key => if 8 ≤ s.host.sessions.length then no s 0x0302 else openSession m key s

/-- SESSION_OPEN (16, R336; log 125). -/
def execSessionOpen (m : Msg) (s : State) : Host.Outcome State Fault Refusal :=
  .next (takeMsg 0x11 m (fun x s => match x with
    | none => answer s m 0x11 (openRequest m s)
    | some y => inSession 0x11 m y (fun s => (s, ownReply m x (replyBody 0x0202))) s) s)

/-- What the end of a channel ends with it: an operation of the context (R343), or a chimney record's transmission. -/
def afterChannel (c : Channel) (s : State) : State :=
  if c.kind = 3 then endOperation 8 s
  else if c.kind = 4 then { s with tele := { s.tele with chimneySending := none, chimneyWaiting := none } }
  else s

/-- The device ends a channel with a REASON. -/
def endChannel (reason : Nat) (s : State) (c : Channel) : State := afterChannel c (closeChannel reason 0 s c)

/-- A session closes (R338): its channels, its mailbox locks, itself (log 115). -/
def closeSession (n : BitVec 32) (s : State) : State :=
  let s1 := releaseSender 15 ((s.host.channels.filter (fun c => c.session == n)).foldl (endChannel 3) s)
  { s1 with host := { s1.host with sessions := s1.host.sessions.filter (fun x => x.number != n) } }

/-- SESSION_CLOSE (16, R338). -/
def execSessionClose (m : Msg) (s : State) : Host.Outcome State Fault Refusal :=
  request 0x12 m (fun x s =>
    if x.isNone then (s, replyBody 0x0401)
    else if m.body ≠ [] then (s, replyBody 0x0202)
    else (closeSession m.session s, replyBody 0)) s

/-- SESSION_TIMEOUT (16, R338). -/
def execSessionTimeout (session : BitVec 32) (s : State) : Host.Outcome State Fault Refusal :=
  if (sessionOf s session).isSome then .next (closeSession session s) else .next s

/-- NONCE_EXPIRY (16, R336): a nonce is kept for 10 s. -/
def execNonceExpiry (nonce : Bytes) (s : State) : Host.Outcome State Fault Refusal :=
  .next { s with host := { s.host with nonces := s.host.nonces.filter (fun x => x != nonce) } }

end Sys2Proof.Machine
end

