-- ==== Sys2Proof/Machine/Bulk.lean ====
section
/-! DEFINITION. Bulk channels as the host drives them: BULK_OPEN, BULK_DATA, BULK_ACK, BULK_CLOSE and their timers (16,
R330, R340 to R344, R404; 18, R364, R367, R369). -/

namespace Sys2Proof.Machine

/-! BULK_OPEN (R340, Table 16.12) -/

/-- The fields of a BULK_OPEN body. -/
structure OpenBody where
  kind : Nat
  dir : Nat
  windows : Nat
  region : Nat
  offset : Nat
  length : Nat
deriving DecidableEq, Repr

/-- The fields of a body. -/
def openBodyOf (b : Bytes) : OpenBody :=
  { kind := beAt b 0 1, dir := beAt b 1 1, windows := beAt b 2 2, region := beAt b 4 2, offset := beAt b 8 8, length := beAt b 16 8 }

/-- Length and reserved bytes of a body fit. -/
def openShape (b : Bytes) : Bool := b.length == 24 && beAt b 6 2 == 0

/-- Every state from LOADED to FAULTED. -/
def fromLoaded (m : Mode) : Bool :=
  m == .loaded || m == .armed || m == .running || m == .held || m == .banked || m == .faulted

/-- The present state allows the KIND; one outside the table is no matter of the state. -/
def kindState (s : State) (x : OpenBody) : Bool :=
  let m := s.dev.mode
  match x.kind with
  | 1 => (m == .idle && !s.dev.jobSuspended) || m == .banked
  | 2 => m == .loaded || m == .armed || m == .running || m == .held
  | 3 => if x.dir = 0 then m == .loaded else if x.dir = 1 then m == .held || (m == .idle && s.dev.jobSuspended) else true
  | 4 => fromLoaded m
  | 5 => m == .standby || m == .idle
  | _ => true

/-- The RETAINED target's record is in HASHING or INTACT. -/
def targetBusy (s : State) (x : OpenBody) : Bool :=
  x.kind == 2 && (regionNo s x.region).any (fun r => r.role == 7 && (recordOf s r).any (fun n => decide (2 ≤ (retainedOf s n).state)))

/-- A STAGE target: a BATCH_0, BATCH_1 or RETAINED region, whole bursts within it (log 65). -/
def stageTarget (s : State) (x : OpenBody) : Bool :=
  (regionNo s x.region).any (fun r => (r.role == 5 || r.role == 6 || r.role == 7) && x.offset % 2048 == 0 &&
    x.length % 2048 == 0 && decide (0 < x.length) && decide (x.offset + x.length ≤ regionBytes r))

/-- DIR, target and length are those of Table 16.12. -/
def targetOk (s : State) (x : OpenBody) : Bool :=
  let plain := x.region == 0 && x.offset == 0
  match x.kind with
  | 1 => x.dir == 0 && plain && decide (512 ≤ x.length) && decide (x.length ≤ 2 ^ 33)
  | 2 => x.dir == 0 && stageTarget s x
  | 3 => decide (x.dir < 2) && plain && x.length == 0
  | 4 => x.dir == 1 && plain && x.length == 0
  | 5 => x.dir == 0 && plain && decide (896 ≤ x.length) && decide (x.length ≤ 3670016)
  | _ => false

/-- A channel without a session is accepted: KIND 0x5 in the recovery loader, or in STANDBY while no owner is enrolled
(18, R367, R369). -/
def sessionlessOpen (s : State) (x : OpenBody) : Bool :=
  x.kind == 5 && (!s.sec.bootVerified || (s.sec.owner.isNone && s.dev.mode == .standby))

/-- Beyond the channels of a session, or of the device for the KIND. -/
def channelsFull (s : State) (session : BitVec 32) (kind : Nat) : Bool :=
  decide (4 ≤ (s.host.channels.filter (fun c => c.session == session)).length) || s.host.channels.any (fun c => c.kind == kind)

/-- The channel that a BULK_OPEN opens, with a number that is not used (log 64). -/
def newChannel (s : State) (m : Msg) (x : OpenBody) : Channel :=
  { id := BitVec.ofNat 16 (freeNumber (Config.pick s.fresh % 2 ^ 16) (s.host.channels.map (·.id.toNat)))
    kind := x.kind, toHost := x.dir == 1, session := m.session, peer := m.src, windows := x.windows, region := x.region, offset := x.offset, length := x.length
    lowest := 0, units := [], final := none, stream := [], sentUnits := 0, acked := [], timeouts := 0, streamEnd := false
    waiting := [] }

/-- BULK_OPEN of a message. -/
def openChannel (session : Bool) (m : Msg) (s : State) : State × Bytes :=
  let x := openBodyOf m.body
  if !session && !sessionlessOpen s x then (s, replyBody 0x0401)
  else
    let c := newChannel s m x
    let r := guarded (openShape m.body && (!kindState s x || targetBusy s x))
      (!openShape m.body || x.windows == 0 || decide (256 < x.windows) || !targetOk s x) (channelsFull s m.session x.kind) s
      { s with fresh := s.fresh + 1, host := { s.host with channels := s.host.channels ++ [c] } }
    (r.1, if r.2 = 0 then replyBody 0 (natBe 2 c.id.toNat) else replyBody r.2)

/-- BULK_OPEN (16, R340). -/
def execBulkOpen (m : Msg) (s : State) : Host.Outcome State Fault Refusal :=
  request 0x20 m (fun x s => openChannel x.isSome m s) s

/-! Bulk messages (R341, R343, Table 16.13) -/

/-- A bulk message of an open channel of its session and direction: f gets the channel; any other is discarded (R343). -/
def bulkMsg (typ : BitVec 8) (m : Msg) (dir : Option Bool) (f : Channel → State → State) (s : State) : State :=
  takeMsg typ m (fun _ s =>
    match channelOf s (BitVec.ofNat 16 (beAt m.body 0 2)) with
    | some c => if c.session = m.session ∧ dir.all (· == c.toHost) then f c s else s
    | none => s) s

/-- The window that a number names, near a channel's lowest one: numbers wrap modulo 2^32 (R341). -/
def absWindow (lowest w : Nat) : Option Nat :=
  let d := (w + 2 ^ 32 - lowest % 2 ^ 32) % 2 ^ 32
  if d < 2 ^ 31 then some (lowest + d) else if 2 ^ 32 - d ≤ lowest then some (lowest - (2 ^ 32 - d)) else none

/-- The fields of a BULK_DATA body: window number, first unit, units, LAST, bytes of the final unit, data. -/
structure DataBody where
  window : Nat
  first : Nat
  units : Nat
  last : Bool
  lastBytes : Nat
  bytes : Bytes
deriving DecidableEq, Repr

/-- The fields of a body. -/
def dataBodyOf (b : Bytes) : DataBody :=
  { window := beAt b 4 4, first := beAt b 8 1, units := beAt b 3 1, last := beAt b 2 1 == 1, lastBytes := beAt b 10 2, bytes := b.drop 16 }

/-- A body keeps Table 16.13. -/
def dataShape (b : Bytes) : Bool :=
  let x := dataBodyOf b
  decide (16 ≤ b.length) && decide (beAt b 2 1 ≤ 1) && decide (1 ≤ x.units) && decide (x.units ≤ 8) &&
    decide (x.first + x.units ≤ 64) && beAt b 9 1 == 0 && beAt b 12 4 == 0 && decide (1 ≤ x.lastBytes) &&
    decide (x.lastBytes ≤ 1024) && (x.last || x.lastBytes == 1024) && x.bytes.length == (x.units - 1) * 1024 + x.lastBytes

/-- The data ends beyond LENGTH, or ends the stream at another length (R404). -/
def lengthBroken (c : Channel) (u : Nat) (x : DataBody) : Bool :=
  let ends := 1024 * (u + x.units - 1) + x.lastBytes
  c.length != 0 && (decide (c.length < ends) || (x.last && ends != c.length))

/-- A STAGE target that refuses data now: the buffer of the step in progress or replayed, or a RETAINED region out of
STAGING (08, R174; R344; log 138). -/
def stageRefused (s : State) (c : Channel) : Bool :=
  let busy := s.dev.mode == .running || (s.dev.mode == .held && s.dev.heldReason == 3)
  (busy && batchOf s c.region == some (s.seq.step % 2)) ||
    (regionNo s c.region).any (fun r => r.role == 7 && (recordOf s r).any (fun n => (retainedOf s n).state != 1))

/-- The data waits in the receive buffer: STAGE data for DRAM, a context for RESTORE (R242, R330, R343). -/
def mustWait (s : State) (c : Channel) : Bool := c.kind == 2 || (c.kind == 3 && !s.ctx.inProgress)

/-- A channel with units received. -/
def withUnits (c : Channel) (u : Nat) (x : DataBody) (wait : Bool) : Channel :=
  let us := ((List.range x.units).map (· + u)).filter (fun v => !hasUnit c v)
  { c with
    units := c.units ++ us
    final := if x.last && c.final.isNone then some (u + x.units - 1, x.lastBytes) else c.final
    waiting := if wait then c.waiting ++ us else c.waiting }

/-- The bytes put where the channel's KIND keeps them: the image store, or the buffer of the channel (R404). -/
def storeData (s : State) (c : Channel) (u : Nat) (bs : Bytes) : State :=
  if c.kind = 1 then
    { s with image := { s.image with store := mwrite s.image.store (1024 * u) bs, storeLen := c.length, complete := false } }
  else { s with host := { s.host with inbox := smod [] s.host.inbox c.id.toNat (fun t => mwrite t (1024 * u) bs) } }

/-- A pause begins when the buffer holds 24 MiB or more (R330). -/
def pauseBulk (s : State) : State :=
  if pfcEnabled s && !s.port.pausing && decide (25165824 ≤ s.port.rxLevel) then
    send { s with port := { s.port with pausing := true } } (.pfc (bulkPcp s) 0xFFFF)
  else s

/-- What the channel does once units have come: DRAM writes, and the end of a whole stream (R343, R365). -/
def afterUnits (s : State) (id : BitVec 16) : State :=
  match channelOf s id with
  | some c =>
    if c.kind = 2 then (if hostMayWrite s then flushStage s c else s)
    else if !allArrived c then s
    else if c.kind = 1 then closeChannel 0 0 { s with image := { s.image with complete := true } } c
    else if c.kind = 5 then finishFirmware s c
    else s
  | none => s

/-- Units taken into a channel: kept, acknowledged where R342 asks for it at once, and acted on. -/
def takeUnits (c : Channel) (w u : Nat) (x : DataBody) (ackNow : Bool) (s : State) : State :=
  let wait := mustWait s c
  let c1 := withUnits c u x wait
  let n := c1.waiting.length - c.waiting.length
  let s1 := modChannel (storeData s c u x.bytes) c.id (fun _ => settle c1)
  let s2 := { s1 with port := { s1.port with rxLevel := s1.port.rxLevel + 1024 * n } }
  let s3 := if windowDone (settle c1) w || ackNow then sendAck s2 (settle c1) w else s2
  pauseBulk (afterUnits s3 c.id)

/-- n more bytes do not fit in the 32 MiB receive buffer (16, R330; log 121). -/
def rxFull (s : State) (n : Nat) : Bool := decide (33554432 < s.port.rxLevel + n)

/-- Units u onward of window w of a channel: acknowledged, discarded, refused, or taken (R342, R344, R404). -/
def unitsAt (m : Msg) (c : Channel) (w u : Nat) (x : DataBody) (s : State) : State :=
  if w < c.lowest then sendAck s c w
  else if c.lowest + c.windows ≤ w then discard s x.units
  else if lengthBroken c u x then closeChannel 4 0x0202 s c
  else if c.kind = 2 ∧ stageRefused s c then closeChannel 4 0x0301 s c
  else if mustWait s c && rxFull s (1024 * x.units) then discard s
  else takeUnits c w u x (m.flags.getLsbD 5) s

/-- A BULK_DATA message on its channel (R342). -/
def dataOn (m : Msg) (c : Channel) (s : State) : State :=
  let x := dataBodyOf m.body
  if !dataShape m.body then s
  else (absWindow c.lowest x.window).elim s (fun w => unitsAt m c w (64 * w + x.first) x s)

/-- BULK_DATA (16, R341, R342, R404). -/
def execBulkData (m : Msg) (s : State) : Host.Outcome State Fault Refusal :=
  .next (bulkMsg 0x21 m (some false) (dataOn m) s)

/-! BULK_ACK (R342, R343) -/

/-- The channel may send now. -/
def maySend (s : State) (c : Channel) : Bool := c.kind != 4 || chimneyMaySend s

/-- Send again, once each, the units of window w already sent whose bit is 0 (log 129). -/
def resend (c : Channel) (w received : Nat) (s : State) : State :=
  ((List.range 64).filter (fun i => !received.testBit i && decide (64 * w + i < c.sentUnits))).foldl
    (fun s i => sendUnits c 0 2 (64 * w + i) 1 s) s

/-- Everything has been sent and acknowledged: an export is done and its channel complete; the chimney sends its next
record (10, R212; R343). -/
def acknowledged (s : State) (id : BitVec 16) : State :=
  match channelOf s id with
  | some c =>
    if c.sentUnits = unitCount c ∧ allAcked c then
      (if c.streamEnd then closeChannel 0 0 (if c.kind = 3 then exportDone s else s) c
       else if c.kind = 4 && s.tele.chimneySending.isSome then chimneyDone s c else s)
    else s
  | none => s

/-- A BULK_ACK of window w on a channel of the device. -/
def ackOn (m : Msg) (c : Channel) (s : State) : State :=
  let received := beAt m.body 8 8
  if m.body.length ≠ 16 ∨ beAt m.body 2 2 ≠ 0 then s
  else
    match absWindow c.lowest (beAt m.body 4 4) with
    | none => s
    | some w =>
      let s1 := modChannel s c.id (fun c => takeAck c w received)
      let s2 := if maySend s c then pump (resend c w received s1) c.id else s1
      acknowledged (noteSent s2) c.id

/-- BULK_ACK (16, R342). -/
def execBulkAck (m : Msg) (s : State) : Host.Outcome State Fault Refusal :=
  .next (bulkMsg 0x22 m (some true) (ackOn m) s)

/-! BULK_CLOSE and the timers (R342, R343) -/

/-- BULK_CLOSE (16, R343): the channel ends for both ends. -/
def execBulkClose (m : Msg) (s : State) : Host.Outcome State Fault Refusal :=
  .next (bulkMsg 0x23 m none (fun c s =>
    if m.body.length = 6 ∧ beAt m.body 3 1 = 0 then afterChannel c (dropChannel s c.id) else s) s)

/-- ACK_DELAY_EXPIRY (16, R342): a window begun and not whole is acknowledged as far as it has come. -/
def execAckDelayExpiry (channel : BitVec 16) (window : Nat) (s : State) : Host.Outcome State Fault Refusal :=
  match channelOf s channel with
  | some c =>
    if !c.toHost && (List.range 64).any (fun i => hasUnit c (64 * window + i)) && !windowDone c window then
      .next (sendAck s c window)
    else .next s
  | none => .next s

/-- The last message of window w that has been sent, as its first unit and their number. -/
def lastMessage (c : Channel) (w : Nat) : Nat × Nat :=
  let u := min c.sentUnits (64 * (w + 1)) - 1
  (u / 8 * 8, u % 8 + 1)

/-- RETX_TIMEOUT (16, R342): the window's last message again with ACK_NOW, or at RETRY_LIMIT the end of the channel. -/
def execRetxTimeout (channel : BitVec 16) (window : Nat) (s : State) : Host.Outcome State Fault Refusal :=
  match channelOf s channel with
  | some c =>
    if !c.toHost || decide (window < c.lowest) || decide (c.sentUnits ≤ 64 * window) then .next s
    else if s.port.retryLimit.toNat ≤ c.timeouts + 1 then .next (endChannel 2 s c)
    else
      let s1 := modChannel s channel (fun c => { c with timeouts := c.timeouts + 1 })
      let x := lastMessage c window
      .next (if maySend s c then sendUnits c 0x20 2 x.1 x.2 s1 else s1)
  | none => .next s

end Sys2Proof.Machine
end

