-- ==== Sys2Proof/Machine/Matrix.lean ====
section
/-! DEFINITION. The matrix array: exact block sums, the group window, the canonical tree and the output stage (03, R46 to
R62), and the MATMUL op (07, Table 7.15). -/

namespace Sys2Proof.Machine

/-- Special state of a sum (03, Tables 3.3, 3.11). -/
inductive Spec where
  | finite
  | inf (neg : Bool)
  | nan
deriving DecidableEq, Repr

/-- Combination of special states (Table 3.11). -/
def specJoin : Spec → Spec → Spec
  | .finite, b => b
  | a, .finite => a
  | .inf a, .inf b => if a = b then .inf a else .nan
  | _, _ => .nan

/-- Special state of an element product (Table 3.10); pads never set it (R47). -/
def specOf : ECls → ECls → Spec
  | .pad, _ => .finite
  | _, .pad => .finite
  | .nan, _ => .nan
  | _, .nan => .nan
  | .inf a, .inf b => .inf (a != b)
  | .inf a, .fin b z => if z then .nan else .inf (a != b)
  | .fin a z, .inf b => if z then .nan else .inf (a != b)
  | .fin _ _, .fin _ _ => .finite

/-- The elements' product enters the sums: both are finite and no pad (R47, R60). -/
def isTerm : ECls → ECls → Bool
  | .fin _ _, .fin _ _ => true
  | _, _ => false

/-- Exact sum of the products of one pass, in units of 2^-32 (R47, R48). -/
def passSum (f g : Elem → Int) (a b : List Elem) : Int :=
  (a.zip b).foldl (fun acc p => if isTerm p.1.cls p.2.cls then acc + f p.1 * g p.2 else acc) 0

/-- A term of the group window: block sum N and scale exponent s (R49). -/
structure Term where
  n : Int
  s : Int
deriving DecidableEq, Repr

/-- The passes of one block in the order of Table 3.5 (R52). -/
def blockTerms (pa pb : Bool) (a b : Block) : List Term :=
  let s := fun (x y : Nat) => (x : Int) + y - 254
  let hh : List Term := [⟨passSum (·.hi) (·.hi) a.elems b.elems, s a.hiX8 b.hiX8⟩]
  let hl : List Term := if pb then [⟨passSum (·.hi) (·.lo) a.elems b.elems, s a.hiX8 b.loX8⟩] else []
  let lh : List Term := if pa then [⟨passSum (·.lo) (·.hi) a.elems b.elems, s a.loX8 b.hiX8⟩] else []
  hh ++ hl ++ lh

/-- Special state of a block over all of its passes (R60). -/
def blockSpec (a b : Block) : Spec :=
  (a.elems.zip b.elems).foldl (fun acc p => specJoin acc (specOf p.1.cls p.2.cls)) .finite

/-- Term exponent of a term with N not zero (R49). -/
def termExp (t : Term) : Int := (Nat.log2 t.n.natAbs : Int) - 32 + t.s

/-- Largest term exponent of the live terms. -/
def windowExp : List Term → Option Int
  | [] => none
  | t :: r =>
    match windowExp r with
    | none => if t.n = 0 then none else some (termExp t)
    | some e => if t.n = 0 then some e else some (max e (termExp t))

/-- A term in the window, truncated toward zero below its bit 0 (R49). -/
def windowTerm (lsb : Int) (t : Term) : Int :=
  let d := lsb - (t.s - 32)
  let mag : Nat := if d ≤ 0 then t.n.natAbs <<< (-d).toNat else t.n.natAbs >>> d.toNat
  if t.n < 0 then -(mag : Int) else mag

/-- The group window: W and the exponent of its bit 0 (R49, R50). -/
def groupWindow (ts : List Term) : Int × Int :=
  match windowExp ts with
  | none => (0, 0)
  | some e => (ts.foldl (fun acc t => if t.n = 0 then acc else acc + windowTerm (e - 120) t) 0, e - 120)

/-- The group result in W48 (R51, R61). -/
def groupResult (pa pb : Bool) (blocks : List (Block × Block)) : Val :=
  match blocks.foldl (fun acc p => specJoin acc (blockSpec p.1 p.2)) .finite with
  | .nan => .nan
  | .inf n => .inf n
  | .finite =>
    let (w, lsb) := groupWindow (blocks.flatMap (fun p => blockTerms pa pb p.1 p.2))
    rne w48 (vint w lsb)

/-- Cut a list into groups of 16 blocks (R36). -/
def groupsAux {α : Type} : Nat → List α → List (List α)
  | 0, _ => []
  | f + 1, l => if l.isEmpty then [] else l.take 16 :: groupsAux f (l.drop 16)

/-- The node of a share's blocks along the reduction axis (R54, R63). -/
def nodeOf (pa pb : Bool) (a b : List Block) : Val :=
  let l := a.zip b
  canonicalTree ((groupsAux l.length l).map (groupResult pa pb))

/-- The scale product P (R55). -/
def scaleProduct (ta tb : Nat) (rotated : Bool) : Val :=
  let p := rne w48 (vmul (ofF32 ta) (ofF32 tb))
  if rotated then vscale (-5) p else p

/-- The output of one element: code and R59 events (R55 to R62). bad: an invalid T32 or a tag mismatch. -/
def outputStage (fmt : Nat) (ovf bad : Bool) (p node : Val) : Rounded :=
  if fmt = 7 then ⟨if bad then nanCode w48 else encodeF w48 node, false, false⟩
  else
    let f := if fmt = 5 then bf16 else fp32
    if bad then ⟨nanCode f, false, false⟩
    else
      let v := vmul node p
      if visZero v then ⟨0, false, false⟩ else roundVal f ovf v

/-- The R59 counts of an output element: NAN, INFINITE, SATURATED, FLUSHED in c0 to c3. -/
def outputCounts (fmt : Nat) (r : Rounded) : Stat8 :=
  if fmt = 7 then {}
  else
    let v := decodeF (if fmt = 5 then bf16 else fp32) r.code
    statOf (b2n (visNan v)) (b2n (visInf v)) (b2n (r.overflows && visFin v)) (b2n r.flushed) 0 0 0 0

/-! The MATMUL op (Table 7.15) -/

/-- Planes of an operand share, as its tag describes them. R40 and R43 lay out a whole tensor: a hearth's share lies as a
tensor of its own, its block 0 first (the model's choice, log 156). -/
def operandPlanes (g fmt rows kb : Nat) : Planes :=
  { fmt := fmt, square := tagBlocking g == 2, packed := tagLayout g == 1,
    outl := tagOutliers g && fmt == 0, rows := rows, kb := kb }

/-- Length of the reduction axis of an operand: COLS, or ROWS where it is read transposed (R35, R37). -/
def reductionLen (g : Nat) (trans : Bool) : Nat := if trans then tagRows g else tagCols g

/-- Length of the other axis of an operand. -/
def otherLen (g : Nat) (trans : Bool) : Nat := if trans then tagCols g else tagRows g

/-- The blocks of one row of an operand: pads beyond the reduction axis, and in square blocks beyond the other axis too
(02, R37; 03, R47; log 156). -/
def rowBlocks (p : Planes) (bs : Bytes) (klen rlen first r : Nat) : List Block :=
  (List.range p.kb).map (fun j =>
    blockAt p bs (fun i => decide (first + 32 * j + i < klen) && (!p.square || decide (r < rlen))) r j)

/-- All rows of an operand share. -/
def operandRows (s : State) (h addr : Nat) (g : Nat) (trans : Bool) (first : Nat) (p : Planes) : List (List Block) :=
  let bs := spadRead s h (planeUnit addr) (planesEnd p)
  (List.range p.rows).map (rowBlocks p bs (reductionLen g trans) (otherLen g trans) first)

/-- The tags of the op's operands agree with its record and hold valid scales (R39, R62). -/
def matmulBad (s : State) (c : OpCmd) : Bool :=
  let ga := tagOf s (mTensorA c)
  let gb := tagOf s (mTensorB c)
  !tagAgrees ga (mFmtA c) (mTransA c) || !tagAgrees gb (mFmtB c) (mTransB c)
    || !t32Valid (tagT32 ga) || !t32Valid (tagT32 gb)

/-- The share of an op with an FP32 or BF16 root is a part of the reduction axis: its other nodes come from other hearths and
devices (08, R165, R166). -/
def rootIsSplit (s : State) (c : OpCmd) : Bool :=
  mFmtOut c != 7 && decide (32 * mKBlocks c < reductionLen (tagOf s (mTensorA c)) (mTransA c))

/-- The root of output element e from the share's own node: joined with the other nodes where the axis is split (08, R165,
R166; log 153). -/
def rootOf (s : State) (c : OpCmd) (e : Nat) (node : Val) : Val :=
  if rootIsSplit s c then
    (Config.otherNodes s.fresh e).foldl (fun acc w => wadd acc (decodeF w48 w.toNat)) node
  else node

/-- The node values of the op's outputs, row by row. An edge tile is computed whole: the record counts tiles, not rows, so
all 16 TILES_M by 16 TILES_N outputs exist, are written and are counted (the model's choice, log 157). -/
def matmulNodes (s : State) (c : OpCmd) : List Val :=
  let ga := tagOf s (mTensorA c)
  let gb := tagOf s (mTensorB c)
  let ra := operandRows s c.hearth.val (opSrc0 c) ga (mTransA c) (mFirstK c)
    (operandPlanes ga (mFmtA c) (mRows c) (mKBlocks c))
  let rb := operandRows s c.hearth.val (opSrc1 c) gb (mTransB c) (mFirstK c)
    (operandPlanes gb (mFmtB c) (mCols c) (mKBlocks c))
  ra.flatMap (fun a => rb.map (fun b => nodeOf (isPair (mFmtA c)) (isPair (mFmtB c)) a b))

/-- The op's outputs, row by row: every output of every tile (log 157). -/
def matmulOut (s : State) (c : OpCmd) : List Rounded :=
  let ga := tagOf s (mTensorA c)
  let gb := tagOf s (mTensorB c)
  let p := scaleProduct (tagT32 ga) (tagT32 gb) (tagRotated ga && tagRotated gb)
  let nodes := matmulNodes s c
  ((List.range nodes.length).zip nodes).map (fun z =>
    outputStage (mFmtOut c) (mOvf c) (matmulBad s c) p (rootOf s c z.1 z.2))

/-- Bytes of an operand share's planes. -/
def operandBytes (s : State) (c : OpCmd) (first : Bool) : Nat :=
  if first then planesEnd (operandPlanes (tagOf s (mTensorA c)) (mFmtA c) (mRows c) (mKBlocks c))
  else planesEnd (operandPlanes (tagOf s (mTensorB c)) (mFmtB c) (mCols c) (mKBlocks c))

/-- The op's streams lie in the scratchpad. -/
def matmulFits (s : State) (c : OpCmd) : Bool :=
  spadFits (planeUnit (opSrc0 c)) (operandBytes s c true)
    && spadFits (planeUnit (opSrc1 c)) (operandBytes s c false)
    && spadFits (opSrc2 c) (mRows c * mCols c * fmtBytes (mFmtOut c))

/-- The tag reads and tag mismatches of the op (R39, source 0x0105). -/
def matmulTags (s : State) (c : OpCmd) : State :=
  let ga := tagOf s (mTensorA c)
  let gb := tagOf s (mTensorB c)
  let s1 := noteTag (noteTag s (mTensorA c)) (mTensorB c)
  let s2 := if tagAgrees ga (mFmtA c) (mTransA c) then s1 else detect s1 (occAt 0x0105 1 c.hearth.val)
  if tagAgrees gb (mFmtB c) (mTransB c) then s2 else detect s2 (occAt 0x0105 1 c.hearth.val)

/-- The product counters after the op: its R59 counts go to the layer of TENSOR_B (10, R200), every output of every tile
among them (log 157). -/
def matmulCounts (s : State) (c : OpCmd) (out : List Rounded) : Sparse Stat8 :=
  if mFmtOut c = 7 then s.tele.prod
  else
    let d := out.foldl (fun acc r => statAdd acc (outputCounts (mFmtOut c) r)) {}
    let l := (tensorNo s (mTensorB c)).layer
    if l = 0xFFF then s.tele.prod else smod {} s.tele.prod l (statAdd d)

/-- MATMUL: the whole op (03; 10, R200; 18, R375). -/
def matmulRun (s : State) (c : OpCmd) : State :=
  let out := matmulOut s c
  let s1 := matmulTags s c
  withEcc c (struckBytes s c.hearth.val (planeUnit (opSrc0 c)) (operandBytes s c true)
      + struckBytes s c.hearth.val (planeUnit (opSrc1 c)) (operandBytes s c false))
    [(opSrc2 c, mRows c * mCols c * fmtBytes (mFmtOut c))]
    { s1 with
      mem := { s1.mem with
        spad := spadWrite s.mem.spad c.hearth.val (opSrc2 c) (codeBytes (fmtBytes (mFmtOut c)) (out.map (·.code))) }
      tele := { s1.tele with prod := matmulCounts s c out }
      fresh := if rootIsSplit s c then s.fresh + 1 else s.fresh
      hearths := smod {} (ranOp s c) c.hearth.val (fun k => { k with workClocks := k.workClocks + mClocks c }) }

/-- MATMUL (03, R46 to R62). A record that breaks a rule, or on a stopped hearth, does nothing (00, R1; 14, R293; log 79,
137). -/
def execMatmul (c : OpCmd) (s : State) : Host.Outcome State Fault Refusal :=
  if opSkipped s 0x01 c then .next s
  else if matmulFits s c then .next (matmulRun s c)
  else .fault .scratchpadRange

end Sys2Proof.Machine
end

