-- ==== Sys2Proof/Machine/Ports.lean ====
section
/-! DEFINITION. The Ethernet port beside Ilutrisil: ARP, Neighbor Discovery, ICMP echo, priority flow control, PTP and
the state of the link (16, R327 to R331). -/

namespace Sys2Proof.Machine

/-! Addresses (R328) -/

/-- The link-local address: fe80::/64 with the modified EUI-64 identifier of MAC_ADDRESS. -/
def linkLocal : BitVec 128 :=
  let mac := Config.macAddress.toNat
  BitVec.ofNat 128 (0xFE80 * 2 ^ 112 + ((mac / 2 ^ 24) ^^^ 0x020000) * 2 ^ 40 + 0xFFFE * 2 ^ 24 + mac % 2 ^ 24)

/-- An IPv6 address of the device: link-local, or the configured one while it is not zero; the recovery loader has the
first only (18, R367). -/
def isOwn6 (s : State) (a : BitVec 128) : Bool :=
  a == linkLocal || (s.port.ipv6 != 0 && a == s.port.ipv6 && s.sec.bootVerified)

/-- The IPv4 address of the device, while it is not zero. -/
def isOwn4 (s : State) (a : BitVec 32) : Bool := s.port.ipv4 != 0 && a == s.port.ipv4 && s.sec.bootVerified

/-- A frame to the management processor: discarded where R327 to R329 say so, else taken by f. -/
def takeFrame (fr : Frame) (f : State → State) (s : State) : Host.Outcome State Fault Refusal :=
  .next (if !mgmtRuns s then s else if frameTaken s fr then f s else discard s)

/-- ARP_REQUEST (16, R328). -/
def execArpRequest (f : Frame) (senderMac : BitVec 48) (senderIp targetIp : BitVec 32) (s : State) :
    Host.Outcome State Fault Refusal :=
  takeFrame f (fun s => if isOwn4 s targetIp then send s (.arpReply (sendVlan s) senderMac senderIp) else s) s

/-- NEIGHBOR_SOLICITATION (16, R328). -/
def execNeighborSolicitation (f : Frame) (senderMac : BitVec 48) (senderIp targetIp : BitVec 128) (s : State) :
    Host.Outcome State Fault Refusal :=
  takeFrame f (fun s =>
    if isOwn6 s targetIp then send s (.neighborAdvertisement (sendVlan s) senderMac senderIp targetIp) else s) s

/-- ICMP_ECHO_REQUEST (16, R328): up to 1,472 payload bytes. -/
def execIcmpEchoRequest (f : Frame) (src : Endpoint) (dst : BitVec 128) (ident : BitVec 32) (payload : Bytes) (s : State) :
    Host.Outcome State Fault Refusal :=
  takeFrame f (fun s =>
    if (if src.v6 then isOwn6 s dst else isOwn4 s (dst.setWidth 32)) && decide (payload.length ≤ 1472) then
      send s (.echoReply (sendVlan s) src ident payload)
    else s) s

/-! Priority flow control (R330) -/

/-- The port has power and its die is out of boot. -/
def portRuns (s : State) : Bool := s.dev.mode != .off && s.dev.mode != .boot

/-- Frames that waited for a priority that is no longer paused are sent. -/
def releaseTx (s : State) : State :=
  { s with port := { s.port with
    tx := s.port.tx ++ s.port.waitTx.filter (fun t => !txWaits s t)
    waitTx := s.port.waitTx.filter (txWaits s) } }

/-- Priority p is paused for quanta; 0 ends a pause. -/
def pausePriority (quanta : BitVec 16) (s : State) (p : Nat) : State :=
  { s with port := { s.port with paused := sput 0 s.port.paused p quanta } }

/-- Priorities of a PFC frame that PFC_PRIORITIES has the device honour. -/
def honoured (s : State) (enables : BitVec 8) : List Nat :=
  (List.range 8).filter (fun p => enables.getLsbD p && s.port.pfcConfig.getLsbD p)

/-- PFC_FRAME (16, R330). -/
def execPfcFrame (f : Frame) (enables : BitVec 8) (quanta : List (BitVec 16)) (s : State) : Host.Outcome State Fault Refusal :=
  if !portRuns s then .next s
  else if !(decide (f.length ≤ 9216) && f.fcsOk) then .next (discard s)
  else if pfcEnabled s then .next (releaseTx ((honoured s enables).foldl (fun s p => pausePriority (quanta.getD p 0) s p) s))
  else .next s

/-- PFC_PAUSE_EXPIRY (16, R330). -/
def execPfcPauseExpiry (priority : Fin 8) (s : State) : Host.Outcome State Fault Refusal :=
  .next (releaseTx (pausePriority 0 s priority.val))

/-- PFC_REPEAT (16, R330): the pause again while the buffer holds 24 MiB or more. -/
def execPfcRepeat (s : State) : Host.Outcome State Fault Refusal :=
  if portRuns s && pfcEnabled s && decide (25165824 ≤ s.port.rxLevel) then
    .next (send { s with port := { s.port with pausing := true } } (.pfc (bulkPcp s) 0xFFFF))
  else .next s

/-- PFC_RESUME (16, R330): drained bytes have left the buffer; below 16 MiB the pause ends. -/
def execPfcResume (drained : Nat) (s : State) : Host.Outcome State Fault Refusal :=
  let s1 := { s with port := { s.port with rxLevel := s.port.rxLevel - drained } }
  if s1.port.pausing && decide (s1.port.rxLevel < 16777216) then
    let s2 := { s1 with port := { s1.port with pausing := false } }
    .next (if portRuns s && pfcEnabled s then send s2 (.pfc (bulkPcp s) 0) else s2)
  else .next s1

/-! PTP (R331) -/

/-- PTP_PCP of PFC_CONFIG. -/
def ptpPcp (s : State) : BitVec 3 := BitVec.ofNat 3 (bits s.port.pfcConfig.toNat 21 3)

/-- An Announce of the time transmitter: followed while it announces the PTP timescale (R331; 07, R133). -/
def ptpAnnounce (tai : Bool) (s : State) : State :=
  let s1 := { s with port := { s.port with ptpReceiving := tai }, time := { s.time with ptpTimescale := tai } }
  if tai then (if usesPtp s && !usesPps s then sourceFound s1 else s1)
  else
    let s2 := { s1 with time := { s1.time with ptpSync := none, ptpAwait := none } }
    if ptpFollowed s && usesPtp s then sourceLost s2 else s2

/-- Origin and receive time of a Sync are known: the delay of the path is asked for (log 66). -/
def ptpSynced (origin rx : Nat) (s : State) : State :=
  send { s with time := { s.time with ptpSync := some (origin, rx), ptpAwait := none } }
    (.ptpDelayReq (sendVlan s) (ptpPcp s) s.time.now)

/-- Offset of the device's time from PTP after a whole exchange, in ns (log 54). -/
def ptpOffset (origin rx requestTx requestRx : Nat) : Int :=
  let x : Int := ((rx : Int) - origin) - ((requestRx : Int) - requestTx)
  x / 2 + (if x % 2 = 1 ∧ Config.roundHalf x then 1 else 0)

/-- The master takes the PTP value as TAI: all of it under PTP, its seconds under PTP_PPS (07, R128; log 66). -/
def ptpSteer (o : Int) (s : State) : State :=
  if !usesPtp s then s
  else
    let step := if usesPps s then (o + 500000000) / 1000000000 * 1000000000 else o
    { s with time := { s.time with now := clock64 ((s.time.now : Int) - step).toNat } }

/-- A PTP message as the clock takes it. -/
def ptpTake (p : Ptp) (s : State) : State :=
  let mine := fun (d : BitVec 8) => d == s.time.ptpDomain
  match p with
  | .announce d tai => if mine d then ptpAnnounce tai s else s
  | .sync d twoStep origin rx =>
    if mine d && ptpFollowed s then
      (if twoStep then { s with time := { s.time with ptpAwait := some rx } } else ptpSynced origin rx s)
    else s
  | .followUp d origin => if mine d && ptpFollowed s then s.time.ptpAwait.elim s (fun rx => ptpSynced origin rx s) else s
  | .delayResp d tx rx =>
    if mine d && ptpFollowed s then s.time.ptpSync.elim s (fun y => ptpSteer (ptpOffset y.1 y.2 tx rx) s) else s
  | .management => s
  | .unicast => s

/-- PTP_MESSAGE (16, R331). -/
def execPtpMessage (f : Frame) (p : Ptp) (s : State) : Host.Outcome State Fault Refusal :=
  if !portRuns s then .next s
  else if !frameTaken s f then .next (discard s)
  else if s.port.config.getLsbD 3 then .next (ptpTake p s)
  else .next s

/-- PORT_LINK_CHANGE (16, R327). -/
def execPortLinkChange (up aligned : Bool) (s : State) : Host.Outcome State Fault Refusal :=
  if portRuns s then .next { s with port := { s.port with linkUp := up, aligned := aligned } } else .next s

end Sys2Proof.Machine
end

