-- ==== Sys2Proof/Machine/Monitor.lean ====
section
/-! DEFINITION. The UART monitor, agent 16: its commands as lines already read, and the lines it answers (15, R323 to
R326). -/

namespace Sys2Proof.Machine

/-! Lines (R324) -/

/-- A monitor command: f gives the state, the code and the values; without effect while the monitor is not heard. -/
def monDo (f : State → State × BitVec 16 × Bytes) (s : State) : Host.Outcome State Fault Refusal :=
  if isHeard s .monitor then
    let r := f s
    .next (send (setCode (r.1, r.2.1)) (monLine r.2.1 r.2.2))
  else .next s

/-- A command that answers OK alone. -/
def plain (r : State × BitVec 16) : State × BitVec 16 × Bytes := (r.1, r.2, [])

/-! RD and WR (Table 15.7) -/

/-- Bytes that an RD of a DOMAIN or STRING reads: COUNT, or without one what follows up to 64 (log 67). -/
def rdCount (x : Sub) (offset count : Nat) : Nat :=
  if isLong x.typ && count == 0 then min 64 (x.size - offset) else count

/-- RD of an entry. -/
def monRead (i sub offset count : Nat) (s : State) : State × BitVec 16 × Bytes :=
  match readCheck .monitor i sub with
  | (_, some (_, x)) =>
    if 64 < count then (s, 0x0202, [])
    else
      let r := readPiece s .monitor i sub offset (rdCount x offset count)
      (r.1, r.2.1, onWire r.2.2.1 r.2.2.2)
  | (c, none) => (s, c, [])

/-- RD (15, R324). -/
def execMonRd (index : BitVec 16) (sub : BitVec 8) (offset count : Nat) (s : State) : Host.Outcome State Fault Refusal :=
  monDo (monRead index.toNat sub.toNat offset count) s

/-- The value of a WR: the entry's own type and size, a DOMAIN whole, least significant byte first (log 67). -/
def wrValue (i sub v : Nat) : DictValue :=
  match (entryOf i).bind (fun e => subOf i e sub) with
  | some x => { typ := BitVec.ofNat 8 x.typ, offset := 0, bytes := if v < 256 ^ x.size then natLe x.size v else [] }
  | none => { typ := 0, offset := 0, bytes := [] }

/-- WR (15, R324). -/
def execMonWr (index : BitVec 16) (sub : BitVec 8) (value : Nat) (s : State) : Host.Outcome State Fault Refusal :=
  monDo (fun s => plain (dictWrite s .monitor index.toNat sub.toNat (wrValue index.toNat sub.toNat value))) s

/-! Mailboxes (R312 to R316) -/

/-- MB LOCK (15, R314). -/
def execMonMbLock (m : Fin 32) (s : State) : Host.Outcome State Fault Refusal :=
  monDo (fun s => ((lockRead s m.val 16).1, 0, natBe 4 (lockRead s m.val 16).2.toNat)) s

/-- Words written to DATA from word i on, up to the first refusal. -/
def putWords (m : Nat) : Nat → List (BitVec 32) → State → State × BitVec 16
  | _, [], s => (s, 0)
  | i, w :: t, s =>
    let r := wordWrite s m 16 i w
    if r.2 = 0 then putWords m (i + 1) t r.1 else r

/-- MB SEND: the words, padded with zero words to 8, then GO (R312; log 131). -/
def mbSend (m : Nat) (code : BitVec 8) (ws : List (BitVec 32)) (s : State) : State × BitVec 16 :=
  let r := putWords m 0 (ws ++ List.replicate (8 - ws.length) 0) s
  if 16 < ws.length then (s, 0x0202)
  else if r.2 = 0 then goWrite r.1 m 16 (BitVec.ofNat 5 (max 8 ws.length)) code
  else r

/-- MB SEND (15, R316). -/
def execMonMbSend (m : Fin 32) (code : BitVec 8) (words : List (BitVec 32)) (s : State) : Host.Outcome State Fault Refusal :=
  monDo (fun s => plain (mbSend m.val code words s)) s

/-- MB SHOW (15, R312). -/
def execMonMbShow (m : Fin 32) (s : State) : Host.Outcome State Fault Refusal :=
  monDo (fun s => (s, 0, natBe 4 (mailControl (mailOf s m.val)).toNat ++
    (List.range 16).flatMap (fun i => natBe 4 (mailWord (mailOf s m.val) m.val 16 i).toNat))) s

/-- MB STATUS (15, R316). -/
def execMonMbStatus (m : Fin 32) (st : MailStatus) (len : BitVec 5) (s : State) : Host.Outcome State Fault Refusal :=
  monDo (fun s => plain (match st with
    | .taken => takenWrite s m.val 16
    | .completed => doneWrite s m.val 16 len
    | .rejected => rejectedWrite s m.val 16)) s

/-- MB FREE (15, R314). -/
def execMonMbFree (m : Fin 32) (s : State) : Host.Outcome State Fault Refusal :=
  monDo (fun s => plain (lockWrite s m.val 16 0)) s

/-! LOG, PEEK, RESET and BAUD -/

/-- LOG (14, R299; 15, R324). -/
def execMonLog (n : Nat) (s : State) : Host.Outcome State Fault Refusal :=
  monDo (fun s => match s.faults.log[n]? with
    | some r => (s, 0, logBytes r)
    | none => (s, 0x0202, [])) s

/-- PEEK: DEBUG only (R325; log 132). -/
def monPeek (tier region offset len : Nat) (s : State) : State × BitVec 16 × Bytes :=
  if monitorMode s ≠ 2 then (s, 0x0201, [])
  else if !isPowered s then (s, 0x0301, [])
  else (s, peekRead s (tier, region, offset, len))

/-- A PEEK is taken in RUNNING, where DRAM is read in the maintenance windows only (12, R242). -/
def peekWaits (s : State) : Bool := monitorMode s == 2 && isPowered s && !hostMayWrite s

/-- PEEK (15, R325): in RUNNING it is served, and answered, in the next DRAM maintenance window. -/
def execMonPeek (tier : BitVec 2) (region : BitVec 16) (offset len : Nat) (s : State) : Host.Outcome State Fault Refusal :=
  if isHeard s .monitor && peekWaits s then
    .next { s with port := { s.port with peeks := s.port.peeks ++ [(tier.toNat, region.toNat, offset, len)] } }
  else monDo (monPeek tier.toNat region.toNat offset len) s

/-- CODE of the command of a reset class (13, Table 13.4). -/
def resetCode (c : ResetClass) : Nat :=
  match c with
  | .cold => 0x00F1
  | .warm => 0x00F0
  | .job => 0x0030

/-- RESET (15, R324): OK is sent before the reset takes effect. -/
def execMonReset (cls : ResetClass) (s : State) : Host.Outcome State Fault Refusal :=
  if isHeard s .monitor then
    let r := deviceCommand (resetCode cls) 0 s
    .next (if r.2 = 0 then (deviceCommand (resetCode cls) 0 (send s (monLine 0 []))).1
           else send (setCode r) (monLine r.2 []))
  else .next s

/-- The rates of R323. -/
def baudRates : List Nat := [115200, 230400, 460800, 921600, 1000000, 2000000, 3000000]

/-- BAUD (15, R323): OK at the old rate, then the new one. -/
def execMonBaud (rate : Nat) (s : State) : Host.Outcome State Fault Refusal :=
  monDo (fun s =>
    if baudRates.contains rate then ({ s with port := { s.port with baud := rate } }, 0, []) else (s, 0x0202, [])) s

end Sys2Proof.Machine
end

