-- ==== Sys2Proof/Machine/Dispatch.lean ====
section
/-! DEFINITION. The dispatch: one arm for each command, one direct call of its meaning. -/

namespace Sys2Proof.Machine

def exec (i : Instr) (s : State) : Host.Outcome State Fault Refusal :=
  match i with
  | .powerUp a arg => Sys2Proof.Machine.execPowerUp a arg s
  | .powerDown a arg => Sys2Proof.Machine.execPowerDown a arg s
  | .load a arg => Sys2Proof.Machine.execLoad a arg s
  | .restoreContext a arg => Sys2Proof.Machine.execRestoreContext a arg s
  | .exportContext a arg => Sys2Proof.Machine.execExportContext a arg s
  | .arm a arg => Sys2Proof.Machine.execArm a arg s
  | .hold a arg => Sys2Proof.Machine.execHold a arg s
  | .resume a arg => Sys2Proof.Machine.execResume a arg s
  | .jobReset a arg => Sys2Proof.Machine.execJobReset a arg s
  | .hearthReset a arg => Sys2Proof.Machine.execHearthReset a arg s
  | .unfenceHearth a arg => Sys2Proof.Machine.execUnfenceHearth a arg s
  | .bank a arg => Sys2Proof.Machine.execBank a arg s
  | .warmReset a arg => Sys2Proof.Machine.execWarmReset a arg s
  | .coldReset a arg => Sys2Proof.Machine.execColdReset a arg s
  | .readEntry m => Sys2Proof.Machine.execReadEntry m s
  | .writeEntry m => Sys2Proof.Machine.execWriteEntry m s
  | .readBlock m => Sys2Proof.Machine.execReadBlock m s
  | .writeBlock m => Sys2Proof.Machine.execWriteBlock m s
  | .sessionNonce m => Sys2Proof.Machine.execSessionNonce m s
  | .sessionOpen m => Sys2Proof.Machine.execSessionOpen m s
  | .sessionClose m => Sys2Proof.Machine.execSessionClose m s
  | .bulkOpen m => Sys2Proof.Machine.execBulkOpen m s
  | .bulkData m => Sys2Proof.Machine.execBulkData m s
  | .bulkAck m => Sys2Proof.Machine.execBulkAck m s
  | .bulkClose m => Sys2Proof.Machine.execBulkClose m s
  | .sessionTimeout session => Sys2Proof.Machine.execSessionTimeout session s
  | .nonceExpiry nonce => Sys2Proof.Machine.execNonceExpiry nonce s
  | .ackDelayExpiry channel window => Sys2Proof.Machine.execAckDelayExpiry channel window s
  | .retxTimeout channel window => Sys2Proof.Machine.execRetxTimeout channel window s
  | .arpRequest f senderMac senderIp targetIp => Sys2Proof.Machine.execArpRequest f senderMac senderIp targetIp s
  | .neighborSolicitation f senderMac senderIp targetIp => Sys2Proof.Machine.execNeighborSolicitation f senderMac senderIp targetIp s
  | .icmpEchoRequest f src dst ident payload => Sys2Proof.Machine.execIcmpEchoRequest f src dst ident payload s
  | .pfcFrame f enables quanta => Sys2Proof.Machine.execPfcFrame f enables quanta s
  | .pfcRepeat => Sys2Proof.Machine.execPfcRepeat s
  | .pfcResume drained => Sys2Proof.Machine.execPfcResume drained s
  | .ptpMessage f p => Sys2Proof.Machine.execPtpMessage f p s
  | .monRd index sub offset count => Sys2Proof.Machine.execMonRd index sub offset count s
  | .monWr index sub value => Sys2Proof.Machine.execMonWr index sub value s
  | .monMbLock m => Sys2Proof.Machine.execMonMbLock m s
  | .monMbSend m code words => Sys2Proof.Machine.execMonMbSend m code words s
  | .monMbShow m => Sys2Proof.Machine.execMonMbShow m s
  | .monMbStatus m st len => Sys2Proof.Machine.execMonMbStatus m st len s
  | .monMbFree m => Sys2Proof.Machine.execMonMbFree m s
  | .monLog n => Sys2Proof.Machine.execMonLog n s
  | .monPeek tier region offset len => Sys2Proof.Machine.execMonPeek tier region offset len s
  | .monReset cls => Sys2Proof.Machine.execMonReset cls s
  | .monBaud rate => Sys2Proof.Machine.execMonBaud rate s
  | .mailLock m agent => Sys2Proof.Machine.execMailLock m agent s
  | .mailRelease m agent => Sys2Proof.Machine.execMailRelease m agent s
  | .mailGo m agent len code => Sys2Proof.Machine.execMailGo m agent len code s
  | .mailboxWithdraw m agent => Sys2Proof.Machine.execMailboxWithdraw m agent s
  | .mailTaken m agent => Sys2Proof.Machine.execMailTaken m agent s
  | .mailDone m agent len => Sys2Proof.Machine.execMailDone m agent len s
  | .mailRejected m agent => Sys2Proof.Machine.execMailRejected m agent s
  | .mailEcho m => Sys2Proof.Machine.execMailEcho m s
  | .jobStart m => Sys2Proof.Machine.execJobStart m s
  | .jobEnd m => Sys2Proof.Machine.execJobEnd m s
  | .recordReady => Sys2Proof.Machine.execRecordReady s
  | .dictionaryWrite a index sub v => Sys2Proof.Machine.execDictionaryWrite a index sub v s
  | .taiSet a t => Sys2Proof.Machine.execTaiSet a t s
  | .startTimeWrite a t => Sys2Proof.Machine.execStartTimeWrite a t s
  | .fabricIdWrite a id => Sys2Proof.Machine.execFabricIdWrite a id s
  | .fenceLink a k => Sys2Proof.Machine.execFenceLink a k s
  | .retrainLink a k => Sys2Proof.Machine.execRetrainLink a k s
  | .forceDownLink a k on => Sys2Proof.Machine.execForceDownLink a k on s
  | .statReadSelect a sel => Sys2Proof.Machine.execStatReadSelect a sel s
  | .faultLogSelect a sel => Sys2Proof.Machine.execFaultLogSelect a sel s
  | .clearLog a v => Sys2Proof.Machine.execClearLog a v s
  | .sourceSelect a code => Sys2Proof.Machine.execSourceSelect a code s
  | .forceFault a ctl => Sys2Proof.Machine.execForceFault a ctl s
  | .errHeldRelease a => Sys2Proof.Machine.execErrHeldRelease a s
  | .rotateRequest a stack ch => Sys2Proof.Machine.execRotateRequest a stack ch s
  | .verifyRetained a r v => Sys2Proof.Machine.execVerifyRetained a r v s
  | .wrappedJobKey a offset key => Sys2Proof.Machine.execWrappedJobKey a offset key s
  | .attestNonce a nonce => Sys2Proof.Machine.execAttestNonce a nonce s
  | .loadDone => Sys2Proof.Machine.execLoadDone s
  | .restoreDone => Sys2Proof.Machine.execRestoreDone s
  | .zeroisationDone micros => Sys2Proof.Machine.execZeroisationDone micros s
  | .selftestDone h passed katPassed => Sys2Proof.Machine.execSelftestDone h passed katPassed s
  | .hashDone r => Sys2Proof.Machine.execHashDone r s
  | .quoteDone => Sys2Proof.Machine.execQuoteDone s
  | .powerOn => Sys2Proof.Machine.execPowerOn s
  | .rstNLow width m => Sys2Proof.Machine.execRstNLow width m s
  | .rstNRise => Sys2Proof.Machine.execRstNRise s
  | .bootEnd b => Sys2Proof.Machine.execBootEnd b s
  | .railGoodRise g => Sys2Proof.Machine.execRailGoodRise g s
  | .railGoodFall g => Sys2Proof.Machine.execRailGoodFall g s
  | .railGoodTimeout g => Sys2Proof.Machine.execRailGoodTimeout g s
  | .pwrcapAssert width => Sys2Proof.Machine.execPwrcapAssert width s
  | .pwrcapRelease => Sys2Proof.Machine.execPwrcapRelease s
  | .thermalTrip u => Sys2Proof.Machine.execThermalTrip u s
  | .timePpsEdge early => Sys2Proof.Machine.execTimePpsEdge early s
  | .ppsTimeout => Sys2Proof.Machine.execPpsTimeout s
  | .assayUpdateRequest => Sys2Proof.Machine.execAssayUpdateRequest s
  | .assayFirmwareInstall => Sys2Proof.Machine.execAssayFirmwareInstall s
  | .vassayReturn m => Sys2Proof.Machine.execVassayReturn m s
  | .assayCheckpoint m => Sys2Proof.Machine.execAssayCheckpoint m s
  | .workCountDelivery => Sys2Proof.Machine.execWorkCountDelivery s
  | .mgmtWatchdogExpiry => Sys2Proof.Machine.execMgmtWatchdogExpiry s
  | .mgmtRestartDone => Sys2Proof.Machine.execMgmtRestartDone s
  | .heartbeatTimeout => Sys2Proof.Machine.execHeartbeatTimeout s
  | .faultOccurrence o => Sys2Proof.Machine.execFaultOccurrence o s
  | .forcedOccurrence => Sys2Proof.Machine.execForcedOccurrence s
  | .errPulseEnd => Sys2Proof.Machine.execErrPulseEnd s
  | .slotBoundary lockstepOk => Sys2Proof.Machine.execSlotBoundary lockstepOk s
  | .frameBoundary => Sys2Proof.Machine.execFrameBoundary s
  | .startTimeReached => Sys2Proof.Machine.execStartTimeReached s
  | .slotMiss m => Sys2Proof.Machine.execSlotMiss m s
  | .damperEvaluation d => Sys2Proof.Machine.execDamperEvaluation d s
  | .matmul c => Sys2Proof.Machine.execMatmul c s
  | .convert c => Sys2Proof.Machine.execConvert c s
  | .vcopy c => Sys2Proof.Machine.execVcopy c s
  | .vcvt c => Sys2Proof.Machine.execVcvt c s
  | .vadd c => Sys2Proof.Machine.execVadd c s
  | .vsub c => Sys2Proof.Machine.execVsub c s
  | .vmul c => Sys2Proof.Machine.execVmul c s
  | .vfma c => Sys2Proof.Machine.execVfma c s
  | .vmin c => Sys2Proof.Machine.execVmin c s
  | .vmax c => Sys2Proof.Machine.execVmax c s
  | .vrelu c => Sys2Proof.Machine.execVrelu c s
  | .vabs c => Sys2Proof.Machine.execVabs c s
  | .vneg c => Sys2Proof.Machine.execVneg c s
  | .vscale2 c => Sys2Proof.Machine.execVscale2 c s
  | .vcmp c => Sys2Proof.Machine.execVcmp c s
  | .vsel c => Sys2Proof.Machine.execVsel c s
  | .vrcp c => Sys2Proof.Machine.execVrcp c s
  | .vrsqrt c => Sys2Proof.Machine.execVrsqrt c s
  | .vexp c => Sys2Proof.Machine.execVexp c s
  | .vexp2 c => Sys2Proof.Machine.execVexp2 c s
  | .vtanh c => Sys2Proof.Machine.execVtanh c s
  | .vsigmoid c => Sys2Proof.Machine.execVsigmoid c s
  | .vsilu c => Sys2Proof.Machine.execVsilu c s
  | .vdiv c => Sys2Proof.Machine.execVdiv c s
  | .vsqrt c => Sys2Proof.Machine.execVsqrt c s
  | .vlog c => Sys2Proof.Machine.execVlog c s
  | .vlog2 c => Sys2Proof.Machine.execVlog2 c s
  | .verf c => Sys2Proof.Machine.execVerf c s
  | .vgelu c => Sys2Proof.Machine.execVgelu c s
  | .vdrop c => Sys2Proof.Machine.execVdrop c s
  | .vinitu c => Sys2Proof.Machine.execVinitu c s
  | .vinitn c => Sys2Proof.Machine.execVinitn c s
  | .vrand c => Sys2Proof.Machine.execVrand c s
  | .vcsum c => Sys2Proof.Machine.execVcsum c s
  | .softmax c => Sys2Proof.Machine.execSoftmax c s
  | .sample c => Sys2Proof.Machine.execSample c s
  | .updSgdm c => Sys2Proof.Machine.execUpdSgdm c s
  | .updAdam c => Sys2Proof.Machine.execUpdAdam c s
  | .updSign c => Sys2Proof.Machine.execUpdSign c s
  | .bmax c => Sys2Proof.Machine.execBmax c s
  | .bmin c => Sys2Proof.Machine.execBmin c s
  | .bamax c => Sys2Proof.Machine.execBamax c s
  | .bargmax c => Sys2Proof.Machine.execBargmax c s
  | .bsum c => Sys2Proof.Machine.execBsum c s
  | .bsumsq c => Sys2Proof.Machine.execBsumsq c s
  | .bprefix c => Sys2Proof.Machine.execBprefix c s
  | .btopk c => Sys2Proof.Machine.execBtopk c s
  | .bnode c => Sys2Proof.Machine.execBnode c s
  | .bmerge c => Sys2Proof.Machine.execBmerge c s
  | .flueTransfer h e => Sys2Proof.Machine.execFlueTransfer h e s
  | .flueAtomic h e => Sys2Proof.Machine.execFlueAtomic h e s
  | .spineCombination e => Sys2Proof.Machine.execSpineCombination e s
  | .dataCell k cell => Sys2Proof.Machine.execDataCell k cell s
  | .retryCell k cell => Sys2Proof.Machine.execRetryCell k cell s
  | .retryRequest k cell => Sys2Proof.Machine.execRetryRequest k cell s
  | .idleCell k cell => Sys2Proof.Machine.execIdleCell k cell s
  | .haltCell k cell => Sys2Proof.Machine.execHaltCell k cell s
  | .rateRequest k cell => Sys2Proof.Machine.execRateRequest k cell s
  | .rateAnnounce k cell => Sys2Proof.Machine.execRateAnnounce k cell s
  | .startTimeCell k cell => Sys2Proof.Machine.execStartTimeCell k cell s
  | .replayStart k cell => Sys2Proof.Machine.execReplayStart k cell s
  | .linkDown k cell => Sys2Proof.Machine.execLinkDown k cell s
  | .linkUp k cell => Sys2Proof.Machine.execLinkUp k cell s
  | .commitToken k cell => Sys2Proof.Machine.execCommitToken k cell s
  | .commitCell k cell => Sys2Proof.Machine.execCommitCell k cell s
  | .timeCode k tc => Sys2Proof.Machine.execTimeCode k tc s
  | .lockAcquired => Sys2Proof.Machine.execLockAcquired s
  | .linkLost k r => Sys2Proof.Machine.execLinkLost k r s
  | .fecAlarm k words symbols received => Sys2Proof.Machine.execFecAlarm k words symbols received s
  | .trainingPhaseDone k r => Sys2Proof.Machine.execTrainingPhaseDone k r s
  | .trainingPhaseTimeout k => Sys2Proof.Machine.execTrainingPhaseTimeout k s
  | .trainingRetryTimer k => Sys2Proof.Machine.execTrainingRetryTimer k s
  | .rotateIntervalExpiry stack => Sys2Proof.Machine.execRotateIntervalExpiry stack s
  | .rotationStart stack => Sys2Proof.Machine.execRotationStart stack s
  | .rotationSwitch stack => Sys2Proof.Machine.execRotationSwitch stack s
  | .channelRetrainDone stack r => Sys2Proof.Machine.execChannelRetrainDone stack r s
  | .refreshNormal stack => Sys2Proof.Machine.execRefreshNormal stack s
  | .nextSeedDelivery => Sys2Proof.Machine.execNextSeedDelivery s
  | .clipFactor q r => Sys2Proof.Machine.execClipFactor q r s
  | .fallbackDecision t => Sys2Proof.Machine.execFallbackDecision t s
  | .linkPeriod => Sys2Proof.Machine.execLinkPeriod s
  | .haltPosition k pos => Sys2Proof.Machine.execHaltPosition k pos s
  | .portLinkChange up aligned => Sys2Proof.Machine.execPortLinkChange up aligned s
  | .ptpSourceLoss => Sys2Proof.Machine.execPtpSourceLoss s
  | .supplyRemoval => Sys2Proof.Machine.execSupplyRemoval s
  | .vassayLoss m => Sys2Proof.Machine.execVassayLoss m s
  | .chunkRestoreDone => Sys2Proof.Machine.execChunkRestoreDone s
  | .assayRestartDone => Sys2Proof.Machine.execAssayRestartDone s
  | .pfcPauseExpiry priority => Sys2Proof.Machine.execPfcPauseExpiry priority s

end Sys2Proof.Machine
end

