-- ==== Sys2Proof/Machine/Idle.lean ====
section
/-! DEFINITION. What the block does when no command waits. -/

namespace Sys2Proof.Machine

/-- An empty queue: the time base counts one nanosecond (07, R127; log 1). -/
def idle (s : State) : State := { s with time := { s.time with now := clock64 (s.time.now + 1) } }

end Sys2Proof.Machine
end

