-- ==== Sys2Proof/WellFormed.lean ====
section
/-! DEFINITION. Well-formed commands: the sizes of what a command carries where its type does not bound them. A
command that is not well-formed stands for nothing that can reach the device's contacts, its links or its units. -/

namespace Sys2Proof

/-- A byte string of at most n bytes. -/
def atMost (n : Nat) (b : Bytes) : Bool := decide (b.length ≤ n)

/-- A dictionary value: at most 4,096 bytes, within the 16,384 bytes of the largest entry (16, R339; 17, R346). -/
def DictValue.wf (v : DictValue) : Bool := atMost 4096 v.bytes && decide (v.offset + v.bytes.length ≤ 16384)

/-- A datagram: a body within a frame of 9,216 bytes and a tag of none or 16 bytes (16, R327, R333). -/
def Msg.wf (m : Msg) : Bool := atMost 9216 m.body && (m.tag.length == 0 || m.tag.length == 16)

/-- A cell: a payload of 256 bytes (11, R223). -/
def Cell.wf (c : Cell) : Bool := c.payload.length == 256

/-- An Assay reading: eight rails (18, Table 18.7). -/
def Metering.wf (m : Metering) : Bool := m.energy.length == 8 && m.powerNow.length == 8

/-- A sensor evaluation: one near-stack reading for a compute die, eight far stacks for the management processor; a fenced
stack has none (07, R140). -/
def Damper.wf (d : Damper) : Bool := decide (d.stackTemps.length ≤ 8)

/-- The totals of a statistics slot: three node sums for each of at most 256 watched layers (10, R201, Table 10.4). -/
def Totals.wf (t : Totals) : Bool := decide (t.norms.length ≤ 256)

/-- A training phase: T1 to T6 (11, Table 11.6). -/
def PhaseReport.wf (r : PhaseReport) : Bool := decide (1 ≤ r.phase) && decide (r.phase ≤ 6)

/-- A retraining: at most 32 channels work (12, R240). -/
def ChannelReport.wf (r : ChannelReport) : Bool := decide (r.working ≤ 32)

/-- The command is well-formed. -/
def Instr.wf (i : Instr) : Bool :=
  match i with
  | .powerUp _ _ => true
  | .powerDown _ _ => true
  | .load _ _ => true
  | .restoreContext _ _ => true
  | .exportContext _ _ => true
  | .arm _ _ => true
  | .hold _ _ => true
  | .resume _ _ => true
  | .jobReset _ _ => true
  | .hearthReset _ _ => true
  | .unfenceHearth _ _ => true
  | .bank _ _ => true
  | .warmReset _ _ => true
  | .coldReset _ _ => true
  | .readEntry m => m.wf
  | .writeEntry m => m.wf
  | .readBlock m => m.wf
  | .writeBlock m => m.wf
  | .sessionNonce m => m.wf
  | .sessionOpen m => m.wf
  | .sessionClose m => m.wf
  | .bulkOpen m => m.wf
  | .bulkData m => m.wf
  | .bulkAck m => m.wf
  | .bulkClose m => m.wf
  | .sessionTimeout _ => true
  | .nonceExpiry nonce => nonce.length == 32
  | .ackDelayExpiry _ _ => true
  | .retxTimeout _ _ => true
  | .arpRequest _ _ _ _ => true
  | .neighborSolicitation _ _ _ _ => true
  | .icmpEchoRequest f _ _ _ payload => atMost 9216 payload && decide (payload.length ≤ f.length)
  | .pfcFrame _ _ quanta => quanta.length == 8
  | .pfcRepeat => true
  | .pfcResume _ => true
  | .ptpMessage _ _ => true
  | .monRd _ _ _ count => decide (count < 2 ^ 64)
  | .monWr _ _ value => decide (value < 256 ^ 120)
  | .monMbLock _ => true
  | .monMbSend _ _ words => decide (words.length ≤ 16)
  | .monMbShow _ => true
  | .monMbStatus _ _ _ => true
  | .monMbFree _ => true
  | .monLog _ => true
  | .monPeek _ _ _ _ => true
  | .monReset _ => true
  | .monBaud _ => true
  | .mailLock _ _ => true
  | .mailRelease _ _ => true
  | .mailGo _ _ _ _ => true
  | .mailboxWithdraw _ _ => true
  | .mailTaken _ _ => true
  | .mailDone _ _ _ => true
  | .mailRejected _ _ => true
  | .mailEcho _ => true
  | .jobStart m => m.wf
  | .jobEnd m => m.wf
  | .recordReady => true
  | .dictionaryWrite _ _ _ v => v.wf
  | .taiSet _ _ => true
  | .startTimeWrite _ _ => true
  | .fabricIdWrite _ _ => true
  | .fenceLink _ _ => true
  | .retrainLink _ _ => true
  | .forceDownLink _ _ _ => true
  | .statReadSelect _ _ => true
  | .faultLogSelect _ _ => true
  | .clearLog _ _ => true
  | .sourceSelect _ _ => true
  | .forceFault _ _ => true
  | .errHeldRelease _ => true
  | .rotateRequest _ _ _ => true
  | .verifyRetained _ _ _ => true
  | .wrappedJobKey _ _ key => atMost 4096 key
  | .attestNonce _ nonce => atMost 4096 nonce
  | .loadDone => true
  | .restoreDone => true
  | .zeroisationDone _ => true
  | .selftestDone _ _ _ => true
  | .hashDone _ => true
  | .quoteDone => true
  | .powerOn => true
  | .rstNLow _ m => m.wf
  | .rstNRise => true
  | .bootEnd _ => true
  | .railGoodRise _ => true
  | .railGoodFall _ => true
  | .railGoodTimeout _ => true
  | .pwrcapAssert _ => true
  | .pwrcapRelease => true
  | .thermalTrip _ => true
  | .timePpsEdge _ => true
  | .ppsTimeout => true
  | .assayUpdateRequest => true
  | .assayFirmwareInstall => true
  | .vassayReturn m => m.wf
  | .assayCheckpoint m => m.wf
  | .workCountDelivery => true
  | .mgmtWatchdogExpiry => true
  | .mgmtRestartDone => true
  | .heartbeatTimeout => true
  | .faultOccurrence _ => true
  | .forcedOccurrence => true
  | .errPulseEnd => true
  | .slotBoundary _ => true
  | .frameBoundary => true
  | .startTimeReached => true
  | .slotMiss _ => true
  | .damperEvaluation d => d.wf
  | .matmul _ => true
  | .convert _ => true
  | .vcopy _ => true
  | .vcvt _ => true
  | .vadd _ => true
  | .vsub _ => true
  | .vmul _ => true
  | .vfma _ => true
  | .vmin _ => true
  | .vmax _ => true
  | .vrelu _ => true
  | .vabs _ => true
  | .vneg _ => true
  | .vscale2 _ => true
  | .vcmp _ => true
  | .vsel _ => true
  | .vrcp _ => true
  | .vrsqrt _ => true
  | .vexp _ => true
  | .vexp2 _ => true
  | .vtanh _ => true
  | .vsigmoid _ => true
  | .vsilu _ => true
  | .vdiv _ => true
  | .vsqrt _ => true
  | .vlog _ => true
  | .vlog2 _ => true
  | .verf _ => true
  | .vgelu _ => true
  | .vdrop _ => true
  | .vinitu _ => true
  | .vinitn _ => true
  | .vrand _ => true
  | .vcsum _ => true
  | .softmax _ => true
  | .sample _ => true
  | .updSgdm _ => true
  | .updAdam _ => true
  | .updSign _ => true
  | .bmax _ => true
  | .bmin _ => true
  | .bamax _ => true
  | .bargmax _ => true
  | .bsum _ => true
  | .bsumsq _ => true
  | .bprefix _ => true
  | .btopk _ => true
  | .bnode _ => true
  | .bmerge _ => true
  | .flueTransfer _ _ => true
  | .flueAtomic _ _ => true
  | .spineCombination _ => true
  | .dataCell _ c => c.wf
  | .retryCell _ c => c.wf
  | .retryRequest _ c => c.wf
  | .idleCell _ c => c.wf
  | .haltCell _ c => c.wf
  | .rateRequest _ c => c.wf
  | .rateAnnounce _ c => c.wf
  | .startTimeCell _ c => c.wf
  | .replayStart _ c => c.wf
  | .linkDown _ c => c.wf
  | .linkUp _ c => c.wf
  | .commitToken _ c => c.wf
  | .commitCell _ c => c.wf
  | .timeCode _ _ => true
  | .lockAcquired => true
  | .linkLost _ _ => true
  | .fecAlarm _ _ _ _ => true
  | .trainingPhaseDone _ r => r.wf
  | .trainingPhaseTimeout _ => true
  | .trainingRetryTimer _ => true
  | .rotateIntervalExpiry _ => true
  | .rotationStart _ => true
  | .rotationSwitch _ => true
  | .channelRetrainDone _ r => r.wf
  | .refreshNormal _ => true
  | .nextSeedDelivery => true
  | .clipFactor _ _ => true
  | .fallbackDecision t => t.all Totals.wf
  | .linkPeriod => true
  | .haltPosition _ pos => decide (pos % 16 = 0)
  | .portLinkChange _ _ => true
  | .ptpSourceLoss => true
  | .supplyRemoval => true
  | .vassayLoss m => m.wf
  | .chunkRestoreDone => true
  | .assayRestartDone => true
  | .pfcPauseExpiry _ => true

end Sys2Proof
end

