-- ==== Sys2Proof/Safety.lean ====
section
/-! DEFINITION. What claims about the block speak of: a safe run, and the invariants of the state. -/

namespace Sys2Proof.Machine

/-- A step is safe when it answers a next state. -/
def SafeStep (s : State) : Prop := ∃ t, step s = .next t

/-- ERR_N is low while ERR_HELD is set (14, R295). -/
def ErrLow (s : State) : Prop := s.faults.errHeld = true → s.pins.errN = false

/-- Every memory of the device is in its canonical form: scratchpads, DRAM, cache tier, LAST lines, the image store and
the link and spine buffers. -/
def MemoryCanonical (s : State) : Prop :=
  s.mem.wf = true ∧ memWf s.image.store = true ∧ memWf s.fabric.buffers = true

/-- Every waiting command is well-formed. -/
def QueueWf (s : State) : Prop := ∀ c ∈ s.pending, c.wf = true

/-- The invariant that every step keeps. -/
def Inv (s : State) : Prop := ErrLow s ∧ MemoryCanonical s ∧ QueueWf s

end Sys2Proof.Machine
end

