-- ==== Sys2Proof/Certificates/Slice0/Obligations.lean ====
section
/-! DEFINITION. The statements about the block for the provers: the queue and the step, the device commands, the
dictionary, sessions and bulk channels, the port, the monitor and the mailboxes, resets, boot and power, time, the step
schedule, the data-path ops, cells and links, memory, faults, security and Assay. -/

namespace Sys2Proof.Claims

open Sys2Proof.Machine

/-- The commands of entry 0x2001 with their CODEs (13, Table 13.5). -/
def deviceCommands : List ((Agent → BitVec 16 → Instr) × Nat) :=
  [(.powerUp, 0x0001), (.powerDown, 0x0002), (.load, 0x0010), (.restoreContext, 0x0011), (.exportContext, 0x0012),
   (.arm, 0x0020), (.hold, 0x0021), (.resume, 0x0022), (.jobReset, 0x0030), (.hearthReset, 0x0031),
   (.unfenceHearth, 0x0032), (.bank, 0x0040), (.warmReset, 0x00F0), (.coldReset, 0x00F1)]

/-- The states of Table 13.5 in which a command is legal; jobs is JOB_SUSPENDED. -/
def legalIn (code : Nat) (jobs : Bool) : List Mode :=
  let idle := if jobs then [] else [Mode.idle]
  match code with
  | 0x0001 => [.standby]
  | 0x0002 => idle
  | 0x0010 => .banked :: idle
  | 0x0011 => [.loaded]
  | 0x0012 => if jobs then [.held, .idle] else [.held]
  | 0x0020 => [.loaded]
  | 0x0021 => [.running]
  | 0x0022 => [.held]
  | 0x0030 => [.idle, .loaded, .armed, .held]
  | 0x0031 => [.idle, .loaded, .held]
  | 0x0032 => [.idle]
  | 0x0040 => [.idle, .loaded, .armed, .held]
  | _ => [.standby, .idle, .loaded, .armed, .running, .held, .banked, .faulted]

/-- The agent's command reaches the device and may be given: the management processor runs, a host holds a session, the
monitor is authorised by the policy (16, R339; 15, R324; 17, R400). -/
def mayCommand (s : State) (a : Agent) : Prop := isHeard s a = true ∧ mayWrite a = true

/-- The state with the code that the last access answered. -/
def coded (s : State) (code : BitVec 16) : State := { s with dev := { s.dev with lastCode := code } }

/-- t is FAULTED after one class F occurrence in s: counted, ERR_N low and held, and what survives is as it was. -/
def FaultedFrom (s t : State) : Prop :=
  t.dev.mode = .faulted ∧ t.pins.errN = false ∧ t.faults.errHeld = true ∧ t.faults.countF = satInc s.faults.countF ∧
    t.dev.activity = 0 ∧ t.mem.dram = s.mem.dram ∧ t.fence = s.fence ∧ t.fabric.id = s.fabric.id ∧ t.assay = s.assay

/-- The command on link k of s was taken and left every other link, the memory and the image as they were in s. -/
def LinkCommanded (s t : State) (k : Nat) : Prop :=
  t.dev = { s.dev with lastCode := 0 } ∧ (∀ j, j ≠ k → linkOf t j = linkOf s j) ∧ t.mem = s.mem ∧ t.image = s.image ∧
    t.faults.log = s.faults.log

/-- The message reaches the device: the management processor runs and the frame, addresses, header and lengths are those
that 16, R327 to R329, R333 and R334 ask for. -/
def Delivered (s : State) (m : Msg) : Prop :=
  mgmtRuns s = true ∧ frameTaken s m.frame = true ∧ m.dstPort.toNat = udpPort s ∧ ipActive s m.src = true ∧
    headerOk m = true

/-- The message is delivered in the open session x with the tag that the session key gives. -/
def InSession (s : State) (typ : BitVec 8) (m : Msg) (x : Session) : Prop :=
  Delivered s m ∧ m.session ≠ 0 ∧ sessionOf s m.session = some x ∧
    m.tag = msgTag x.key typ m.session m.seq m.flags m.body ∧ s.sec.bootVerified = true

/-- The state that has answered a sessionless request of a TYPE with a code and a body. -/
def answered (s : State) (m : Msg) (typ : BitVec 8) (code : BitVec 16) (body : Bytes) : State :=
  send (coded s code) (.datagram m.src (sendVlan s) (controlPcp s) typ 0 m.seq 0x80 body [])

/-- The state that has sent a session's response of a TYPE with a body. -/
def replied (s : State) (m : Msg) (typ : BitVec 8) (x : Session) (body : Bytes) : State :=
  send s (.datagram m.src (sendVlan s) (controlPcp s) typ m.session m.seq 0x80 body
    (msgTag x.key typ m.session m.seq 0x80 body))

/-- The request of SEQ q ran once in session x: noted as executed with its response, which has been sent; memory, links,
faults and the image are as they were. -/
def RanOnce (s t : State) (m : Msg) (typ : BitVec 8) (x : Session) (code : BitVec 16) (rest : Bytes) : Prop :=
  let body := natBe 2 code.toNat ++ rest
  t.dev.lastCode = code ∧ t.port = (replied s m typ x body).port ∧
    (∃ y, sessionOf t m.session = some y ∧ y.key = x.key ∧ y.highest = max x.highest m.seq.toNat ∧
      m.seq.toNat ∈ y.executed ∧ (m.seq.toNat, body) ∈ y.responses) ∧
    t.mem = s.mem ∧ t.links = s.links ∧ t.faults = s.faults ∧ t.image = s.image

/-- Every message command with its TYPE (16, Tables 16.6 to 16.13). -/
def messages : List ((Msg → Instr) × BitVec 8) :=
  [(.readEntry, 0x01), (.writeEntry, 0x02), (.readBlock, 0x03), (.writeBlock, 0x04), (.sessionNonce, 0x10),
   (.sessionOpen, 0x11), (.sessionClose, 0x12), (.bulkOpen, 0x20), (.bulkData, 0x21), (.bulkAck, 0x22), (.bulkClose, 0x23)]

/-- Session n of s has ended in t, with its channels and the locks of agent 15. -/
def SessionEnded (s t : State) (n : BitVec 32) : Prop :=
  t.host.sessions = s.host.sessions.filter (fun x => x.number != n) ∧
    (∀ c ∈ t.host.channels, c ∈ s.host.channels ∧ c.session ≠ n) ∧
    (∀ i < 32, (mailOf t i).owner = 15 → (mailOf t i).status = 2) ∧
    t.image.loaded = s.image.loaded ∧ t.mem.dram = s.mem.dram ∧ t.links = s.links

/-- Channel c is open and the bulk message of a TYPE on it is delivered in its session, with the tag of its key. -/
def OnChannel (s : State) (typ : BitVec 8) (m : Msg) (c : Channel) : Prop :=
  channelOf s (BitVec.ofNat 16 (beAt m.body 0 2)) = some c ∧ c.session = m.session ∧ ∃ x, InSession s typ m x

/-- The body of a BULK_OPEN of an image (16, Table 16.12). -/
def imageOpenBody (windows length : Nat) : Bytes := [1, 0] ++ natBe 2 windows ++ zeros 12 ++ natBe 8 length

/-- Between s and t only the pauses of the port have changed: what waited and is paused no more has been sent. -/
def PausesOnly (s t : State) : Prop :=
  t = { s with port := { s.port with
    paused := t.port.paused
    tx := s.port.tx ++ s.port.waitTx.filter (fun x => !txWaits t x)
    waitTx := s.port.waitTx.filter (fun x => txWaits t x) } }

/-- Between s and t only the time base and the port have changed. -/
def ClockOnly (s t : State) : Prop := t = { s with time := t.time, port := t.port }

/-- Between s and t only mailbox m has changed, to x. -/
def MailboxOnly (s t : State) (m : Nat) (x : Mailbox) : Prop :=
  (∀ i, mailOf t i = if i = m then x else mailOf s i) ∧ t = { s with mail := t.mail }

/-- The open record of s has been closed in t with FLAGS (but KEY_LOST), a fabric end, an end time and a work count: its
fields stand in the ring slot of NEXT_INDEX (18, Table 18.9), every other slot is as it was, and its notice is due. -/
def RecordClosed (s t : State) (flags fabricEnd endTime work : Nat) : Prop :=
  let a := s.assay
  let b := ringSlotOf t.assay (a.nextIndex.toNat % 16384)
  t.assay.record = none ∧ t.assay.nextIndex = a.nextIndex + 1 ∧
    (∀ r, a.record = some r → t.assay.notices = a.notices ++ [(r.jobId, a.nextIndex)] ∧ leAt b 0 4 = 0x52435341 ∧
      leAt b 6 2 = flags + (if a.keyLost then 32 else 0) ∧ leAt b 8 8 = a.nextIndex.toNat ∧ leAt b 16 8 = r.jobId.toNat ∧
      leAt b 56 8 = r.fabricStart.toNat ∧ leAt b 64 8 = fabricEnd ∧ leAt b 72 8 = r.assayStart.toNat ∧
      leAt b 80 8 = endTime ∧ leAt b 152 16 = work % 2 ^ 128) ∧
    ∀ i, i ≠ a.nextIndex.toNat % 16384 → ringSlotOf t.assay i = ringSlotOf s.assay i

/-- The state that has answered a monitor line: OK with values, or ERR with a refusal code (15, R324). -/
def said (s : State) (code : BitVec 16) (value : Bytes) : State :=
  send (coded s code) (if code = 0 then .uart "OK" value else .uart "ERR" (natBe 2 code.toNat))

/-- Between s and t a monitor line has been answered and mailbox m has become x, and nothing else has changed. -/
def SaidAndMail (s t : State) (code : BitVec 16) (value : Bytes) (m : Nat) (x : Mailbox) : Prop :=
  (∀ i, mailOf t i = if i = m then x else mailOf s i) ∧ t = { said s code value with mail := t.mail }

/-- Between s and t every link but k keeps its state, and memory and the device's state are as they were. -/
def OtherLinksKept (s t : State) (k : Nat) : Prop :=
  (∀ j, j ≠ k → (linkOf t j).state = (linkOf s j).state ∧ (linkOf t j).width = (linkOf s j).width) ∧ t.mem = s.mem ∧
    t.dev = s.dev ∧ t.image = s.image

/-- Between s and t only link k has changed, to l. -/
def LinkOnly (s t : State) (k : Nat) (l : Link) : Prop :=
  (∀ i, linkOf t i = if i = k then l else linkOf s i) ∧ t = { s with links := t.links }

/-- The link and spine buffers of t are those of s with the 256 bytes of a cell's payload from address b. -/
def BufferHolds (s t : State) (b : Nat) (c : Cell) : Prop :=
  ∀ a, mget t.fabric.buffers a = if b ≤ a ∧ a < b + 256 then c.payload.getD (a - b) 0 else mget s.fabric.buffers a

/-- Between s and t a cell of entry e on link k has added its payload to what that link brings of the statistics slot, in its
class and slot, and otherwise telemetry is as it was (10, R203). -/
def StatCarried (s t : State) (k : Nat) (e : BitVec 128) (c : Cell) : Prop :=
  if leClass e = 2 ∧ currentKind s = 7 ∧ s.seq.segFrame = 0 then
    (swf [] s.tele.statIn = true → ∀ i, sget [] t.tele.statIn i =
      if i = k then sget [] s.tele.statIn i ++ slice c.payload 0 256 else sget [] s.tele.statIn i) ∧
    t.tele = { s.tele with statIn := t.tele.statIn }
  else t.tele = s.tele

/-- c is a control cell of a CODE that link k takes, whole and new, on a device that is not the master (11, R234). -/
def NewControl (s : State) (k code : Nat) (c : Cell) : Prop :=
  linkTakes s k = true ∧ cellType c = 3 ∧ ctlCode c = code ∧ cellOk c = true ∧ s.time.master = false ∧
    isNewSeq s.fabric (ctlSeq c) = true

/-- The links of t are those of s, with c waiting on every link that is up but k. -/
def Forwarded (s t : State) (k : Nat) (c : Cell) : Prop :=
  ∀ i < 64, linkOf t i = if isUp s i = true ∧ i ≠ k then
    { linkOf s i with pendControl := (linkOf s i).pendControl ++ [c] } else linkOf s i

/-- The units but links whose SLOT_MISS the schedule can raise, with the occurrence, and whether it can (07, R138). -/
def missUnits (s : State) : List (MissUnit × Occ × Bool) :=
  (List.finRange 1152).map (fun h => (.hearth h, occAt 0x0201 1 h.val, isMapped s h.val && !isFenced s h.val)) ++
    (List.finRange 1152).map (fun h => (.flue h, occAt 0x0202 1 h.val, isMapped s h.val && !isFenced s h.val)) ++
    (List.finRange 2).map (fun d => (.spine d, occAt 0x0204 8 d.val, true))

/-- Element e of w bytes at unit a of hearth h's scratchpad, least significant byte first (00, R3). -/
def elemAt (s : State) (h a w e : Nat) : Nat := leNat (mread s.mem.spad (spadKey h a + w * e) w)

/-- Input i of element e of an op that reads n streams, as an FP32 code; 0 for a stream that it does not read. -/
def inAt (s : State) (c : OpCmd) (n i e : Nat) : Nat :=
  if i < n then widen (opFmtIn c) (elemAt s c.hearth.val
    (if i = 0 then opSrc0 c else if i = 1 then opSrc1 c else opSrc2 c) (fmtBytes (opFmtIn c)) e) else 0

/-- Element e of the op's share is active (06, R108, R109). -/
def onAt (s : State) (c : OpCmd) (e : Nat) : Bool := isActive c (maskBytes s c) e

/-- Outside the listed places, key and bytes, the scratchpads of t are those of s. -/
def OnlySpad (s t : State) (l : List (Nat × Nat)) : Prop :=
  ∀ x, (∀ p ∈ l, x < p.1 ∨ p.1 + p.2 ≤ x) → mget t.mem.spad x = mget s.mem.spad x

/-- n bytes from a key lie outside the listed places. -/
def Apart (key n : Nat) (l : List (Nat × Nat)) : Prop := ∀ p ∈ l, key + n ≤ p.1 ∨ p.1 + p.2 ≤ key

/-- Of the uncorrectable scratchpad words of s, t holds those that the listed places, key and bytes, do not cover whole. -/
def Mends (s t : State) (l : List (Nat × Nat)) : Prop :=
  ∀ k, k ∈ t.mem.spadPoison ↔ k ∈ s.mem.spadPoison ∧ ∀ p ∈ l, ¬(p.1 ≤ 8 * k ∧ 8 * k + 8 ≤ p.1 + p.2)

/-- Between s and t a hearth has reported n malformed containers (0x0104), then m uncorrectable scratchpad words (0x0102). -/
def Reports (s t : State) (h n m : Nat) : Prop :=
  t.faults = { s.faults with detected := t.faults.detected } ∧
    t.faults.detected.map (·.occ) = s.faults.detected.map (·.occ) ++ List.replicate n (occAt 0x0104 1 h) ++
      List.replicate m (occAt 0x0102 1 h)

/-- The vector record of an op: pending with its chunk in an UPDATE segment, else the working record. -/
def vecRecord (s x : State) (c : OpCmd) : Stat8 :=
  if currentKind s = 6 then sget {} x.upd.pending (1024 * chunkOf s + pVstatId c) else sget {} x.tele.vec (pVstatId c)

/-- Hearth i of s with the op's records in the program buffer; a bellows op is none that a TAP reads. -/
def streamedAt (s : State) (c : OpCmd) (bellows : Bool) (i : Nat) : Hearth :=
  let k := hearthOf s i
  if i ≠ c.hearth.val then k
  else if bellows then { k with program := streamed k c }
  else { k with program := streamed k c, progOp := c.op, progPar := c.par }

/-- Between s and t an op has changed the scratchpads, its vector record where STAT_EN is 1 (in an UPDATE segment the one
pending with the chunk) and its hearth's program buffer, made the places whole and reported what it met, and nothing else. -/
def OpFrame (s t : State) (c : OpCmd) (bellows : Bool) (whole : List (Nat × Nat)) (bad struck : Nat) : Prop :=
  t = { s with mem := { s.mem with spad := t.mem.spad, spadPoison := t.mem.spadPoison }
               tele := { s.tele with vec := t.tele.vec }, upd := { s.upd with pending := t.upd.pending }
               faults := t.faults, hearths := t.hearths } ∧
    (∀ i, hearthOf t i = streamedAt s c bellows i) ∧
    (∀ i, (pStatEn c = false ∨ currentKind s = 6 ∨ i ≠ pVstatId c) → sget {} t.tele.vec i = sget {} s.tele.vec i) ∧
    (∀ i, (pStatEn c = false ∨ currentKind s ≠ 6 ∨ i ≠ 1024 * chunkOf s + pVstatId c) →
      sget {} t.upd.pending i = sget {} s.upd.pending i) ∧
    Mends s t whole ∧ Reports s t c.hearth.val bad struck

/-- The lists of s that an op reads and writes are canonical. -/
def OpReady (s : State) : Prop :=
  memWf s.mem.spad = true ∧ swf {} s.hearths = true ∧ swf {} s.tele.vec = true ∧ swf {} s.upd.pending = true

/-- The copies, sums, products and bit operations, with their opcode, the streams that they read and the function of state,
op, element number and inputs that 06, Table 6.1 gives them. -/
def simpleOps : List ((OpCmd → Instr) × Nat × Nat × (State → OpCmd → Nat → Nat → Nat → Nat → Nat)) :=
  [(.vcopy, 0x10, 1, fun _ _ _ a _ _ => fcanon a), (.vcvt, 0x11, 1, fun _ _ _ a _ _ => fcanon a),
   (.vadd, 0x12, 2, fun _ _ _ a b _ => fadd a b), (.vsub, 0x13, 2, fun _ _ _ a b _ => fsub a b),
   (.vmul, 0x14, 2, fun _ _ _ a b _ => fmul a b), (.vfma, 0x15, 3, fun _ _ _ a b d => ffma a b d),
   (.vmin, 0x16, 2, fun _ _ _ a b _ => fmin a b), (.vmax, 0x17, 2, fun _ _ _ a b _ => fmax a b),
   (.vrelu, 0x18, 1, fun _ _ _ a _ _ => fmax a 0), (.vabs, 0x19, 1, fun _ _ _ a _ _ => fabs a),
   (.vneg, 0x1A, 1, fun _ _ _ a _ _ => fnegc a), (.vscale2, 0x1B, 1, fun _ c _ a _ _ => fscale2 (sext 32 (pA c)) a)]

/-- The ops with a rounded function of Table 6.2 or a quotient (06, R104 to R106). -/
def functionOps : List ((OpCmd → Instr) × Nat × Nat × (State → OpCmd → Nat → Nat → Nat → Nat → Nat)) :=
  [(.vrcp, 0x1E, 1, fun _ _ _ a _ _ => fn .rcp a), (.vrsqrt, 0x1F, 1, fun _ _ _ a _ _ => fn .rsqrt a),
   (.vexp, 0x20, 1, fun _ _ _ a _ _ => fn .exp a), (.vexp2, 0x21, 1, fun _ _ _ a _ _ => fn .exp2 a),
   (.vtanh, 0x22, 1, fun _ _ _ a _ _ => fn .tanh a), (.vsigmoid, 0x23, 1, fun _ _ _ a _ _ => fn .sigmoid a),
   (.vsilu, 0x24, 1, fun _ _ _ a _ _ => fmul a (fn .sigmoid a)), (.vdiv, 0x25, 2, fun _ _ _ a b _ => fdivc a b),
   (.vsqrt, 0x26, 1, fun _ _ _ a _ _ => fn .sqrt a), (.vlog, 0x27, 1, fun _ _ _ a _ _ => fn .log a),
   (.vlog2, 0x28, 1, fun _ _ _ a _ _ => fn .log2 a), (.verf, 0x29, 1, fun _ _ _ a _ _ => fn .erf a),
   (.vgelu, 0x2A, 1, fun _ _ _ a _ _ => fmul (fmul 0x3F000000 a) (fadd 0x3F800000 (fn .erf (fmul a 0x3F3504F3))))]

/-- The ops that read a mask plane, the generator or a table (06, R108 to R112). -/
def drawnOps : List ((OpCmd → Instr) × Nat × Nat × (State → OpCmd → Nat → Nat → Nat → Nat → Nat)) :=
  [(.vsel, 0x1D, 2, fun s c e a b _ => if planeBit (maskBytes s c) e then fcanon a else fcanon b),
   (.vdrop, 0x2B, 1, fun s c e a _ _ =>
      if elemBits (seedNow s).toNat (pStream c) (rowOf c e) (colOf c e) (pRowLen c) 16 0 16 < pKeepThr c then 0
      else fmul a (pKeepScale c)),
   (.vinitu, 0x2C, 0, fun s c e _ _ _ =>
      ffma (fsub (pB c) (pA c)) (toF32 (.fin false (drawBits s c e / 2 ^ 8) (-24))) (pA c)),
   (.vinitn, 0x2D, 0, fun s c e _ _ _ =>
      initNormal c ((List.range 4097).map (elemAt s c.hearth.val (pAux c) 4)) (drawBits s c e))]

/-- The element-wise ops with float results. -/
def vectorOps : List ((OpCmd → Instr) × Nat × Nat × (State → OpCmd → Nat → Nat → Nat → Nat → Nat)) :=
  simpleOps ++ functionOps ++ drawnOps

/-- An element of update tiles as its planes hold it: FP32 ingot, BF16 filings, FP32 state. -/
def cutElem (x : UpdElem) : UpdElem := ⟨x.a % 2 ^ 32, x.f % 2 ^ 16, x.m % 2 ^ 32, x.v % 2 ^ 32⟩

/-- The reductions to one record a share row: command, opcode, bytes of a record, and the record of a row's elements (06,
R116). -/
def bellowsOps : List ((OpCmd → Instr) × Nat × (OpCmd → Nat) × (OpCmd → List BElem → Bytes)) :=
  [(.bmax, 0x40, fun _ => 4, fun _ r => natLe 4 ((eligCodes r).foldl fmax 0xFF800000)),
   (.bmin, 0x41, fun _ => 4, fun _ r => natLe 4 ((eligCodes r).foldl fmin 0x7F800000)),
   (.bamax, 0x42, fun _ => 4, fun _ r =>
      natLe 4 (((eligCodes r).filter (fun x => visFin (ofF32 x))).foldl (fun acc x => fmax acc (fabs x)) 0)),
   (.bargmax, 0x43, fun _ => 8, fun c r => (rankFill 1 (eligPairs c r)).flatMap pairBytes),
   (.btopk, 0x47, fun c => 8 * pTopK c, fun c r => (rankFill (pTopK c) (eligPairs c r)).flatMap pairBytes)]

/-- The ops of the data path without a list of their own, with their opcodes. -/
def otherOps : List ((OpCmd → Instr) × Nat) :=
  [(.matmul, 0x01), (.convert, 0x08), (.vcmp, 0x1C), (.vrand, 0x2E), (.vcsum, 0x2F), (.softmax, 0x30), (.sample, 0x31),
   (.updSgdm, 0x32), (.updAdam, 0x33), (.updSign, 0x34), (.bsum, 0x44), (.bsumsq, 0x45), (.bprefix, 0x46), (.bnode, 0x48),
   (.bmerge, 0x49)]

/-- The ops of the data path (06, Table 6.1, Table 6.5; 03; 04; 09). -/
def dataOps : List ((OpCmd → Instr) × Nat) :=
  vectorOps.map (fun p => (p.1, p.2.1)) ++ bellowsOps.map (fun p => (p.1, p.2.1)) ++ otherOps

/-- What keeps BANKED and FAULTED from ending by themselves: no zeroisation runs in either, and no activity in FAULTED. -/
def Confined (s : State) : Prop :=
  (s.dev.mode = .banked → s.mem.zeroising = false) ∧
    (s.dev.mode = .faulted → s.mem.zeroising = false ∧ s.dev.activity = 0)

end Sys2Proof.Claims

open Sys2Proof Sys2Proof.Machine Sys2Proof.Claims

/-- A step runs the front command with the rest of the queue; with none it advances time by 1 ns (the model's choice,
log 1). Derived from 00 R1; 07 R127. -/
def Obligations.StepRunsFrontCommand : Prop :=
  (∀ (c : Instr) (rest : List Instr) (s : State),
    step { s with pending := c :: rest } = exec c { s with pending := rest }) ∧
  (∀ s : State, s.pending = [] → step s = .next { s with time := { s.time with now := clock64 (s.time.now + 1) } })

/-- No command changes the queue of waiting commands. Derived from 13 R273. -/
def Obligations.ExecKeepsTheQueue : Prop :=
  ∀ (c : Instr) (s t : State), exec c s = .next t → t.pending = s.pending

/-- Every step keeps ERR_N low while ERR_HELD is set, every memory canonical, and the queue well-formed. Derived from 14
R295; 12 R247. -/
def Obligations.StepKeepsInvariant : Prop :=
  ∀ s t : State, Inv s → step s = .next t → Inv t

/-- The state after reset satisfies the invariant. Derived from 14 R295; 13 R274. -/
def Obligations.ResetSatisfiesInvariant : Prop :=
  Inv State.reset

/-- After reset the device is in STANDBY with the defaults of its entries. Derived from 13 R266; 07 R139; 07 R140; 08
R181; 09 R198; 14 R300; 14 R302; 16 R332; 11 R230; 11 R218. It rests also on the model's choices of log 2, 3, 5. -/
def Obligations.ResetIsStandbyWithDefaults : Prop :=
  let s := State.reset
  s.dev.mode = .standby ∧ s.dev.lastReset = 1 ∧ s.dev.refused = 0 ∧ s.dev.heldReason = 0 ∧ s.dev.activity = 0 ∧
    s.image.loaded = none ∧ s.rate.n = 16 ∧ s.rate.cap = 16 ∧ s.train.replayLimit = 4 ∧ s.upd.committed = -1 ∧
    s.faults.hearthLimit = 2 ∧ s.faults.sourceSelect = 0x0101 ∧ s.port.sessionTimeout = 60 ∧ s.port.ackDelay = 20 ∧
    s.port.retxTimeout = 500 ∧ s.port.retryLimit = 16 ∧ s.fabric.retrainLimit = 3 ∧
    s.fabric.id = 0x0101010100000000 ∧ s.host.sessions = [] ∧ s.host.channels = [] ∧ s.faults.detected = [] ∧
    (∀ h, hearthOf s h = {}) ∧ (∀ k, linkOf s k = {}) ∧ (∀ n, stackOf s n = {}) ∧ (∀ m, mailOf s m = {}) ∧
    ∀ n, setOf s n = {}

/-- A device command outside its legal states is refused with 0x0301, counted and noted, and changes nothing else.
Derived from 13 R267; 13 R266. -/
def Obligations.IllegalCommandIsRefused : Prop :=
  ∀ p ∈ deviceCommands, ∀ (a : Agent) (arg : BitVec 16) (s : State), mayCommand s a →
    s.dev.mode ∉ legalIn p.2 s.dev.jobSuspended → (p.2 = 0x0022 → s.time.master = true) →
    ∃ x : Detected, x.occ.source = 0x0601 ∧ x.forced = false ∧
      exec (p.1 a arg) s = .next { s with
        dev := { s.dev with
          refused := if s.dev.refused = BitVec.allOnes 32 then s.dev.refused else s.dev.refused + 1
          lastRefused := BitVec.ofNat 32 (modeCode s.dev.mode * 2 ^ 24 + p.2), lastCode := 0x0301 }
        faults := { s.faults with detected := s.faults.detected ++ [x] } }

/-- POWER_UP, LOAD, HOLD, ARM and UNFENCE_HEARTH do their effect and nothing else. Derived from 13 R267; 13 R269; 13
R271; 13 R277; 07 R144; 19 R383. -/
def Obligations.CommandsBeginTheirWork : Prop :=
  ∀ (a : Agent) (s : State), mayCommand s a → s.dev.activity = 0 →
    (s.dev.mode = .standby → exec (.powerUp a 0) s = .next (coded { s with
      dev := { s.dev with activity := 5 }, pins := { s.pins with railEnB := true } } 0)) ∧
    (s.dev.mode = .idle → s.dev.jobSuspended = false →
      exec (.load a 0) s = .next (coded { s with dev := { s.dev with activity := 1 } } 0)) ∧
    (s.dev.mode = .running →
      exec (.hold a 0) s = .next (coded { s with dev := { s.dev with holdRequested := true } } 0)) ∧
    (s.dev.mode = .loaded → armConflict s = false → s.time.startKnown = true →
      exec (.arm a 0) s = .next (coded { s with dev := { s.dev with mode := .armed } } 0)) ∧
    (s.dev.mode = .loaded → armConflict s = false → s.time.startKnown = false →
      exec (.arm a 0) s = .next (coded { s with dev := { s.dev with armPending := true } } 0)) ∧
    ∀ arg : BitVec 16, s.dev.mode = .idle → arg.toNat < 1152 → s.fence.hearths.contains arg.toNat = true →
      (hearthOf s arg.toNat).selftest = 1 →
      exec (.unfenceHearth a arg) s = .next (coded { s with
        fence := { s.fence with hearths := s.fence.hearths.filter (· != arg.toNat) } } 0)

/-- WARM_RESET and COLD_RESET put the device in BOOT and leave what the reset classes keep. Derived from 13 R273; 13
R274; 13 R275; 12 R260; 12 R261; 14 R294; 18 R373. It rests also on the model's choices of log 133. -/
def Obligations.ResetsEnterBoot : Prop :=
  ∀ (a : Agent) (s : State), mayCommand s a → s.dev.mode ≠ .off → s.dev.mode ≠ .boot →
    (∃ t, exec (.warmReset a 0) s = .next t ∧ t.dev.mode = .boot ∧ t.dev.lastReset = 3 ∧
      t.dev.jobSuspended = s.image.loaded.isSome ∧ t.image.store = s.image.store ∧ t.pins.errN = false ∧
      t.host = {} ∧ t.mem.spad = [] ∧ t.mem.cacheTier = [] ∧ t.mem.lines = [] ∧ t.fence = s.fence ∧
      t.fabric.id = s.fabric.id ∧ t.assay = s.assay ∧ t.mail = [] ∧
      ((∀ n < 16, (sget {} s.mem.stackTable n).retired = []) → t.mem.dram = s.mem.dram) ∧
      ∀ n < 16, (stackOf t n).selfRefresh = true) ∧
    (∃ t, exec (.coldReset a 0) s = .next t ∧ t.dev.mode = .boot ∧ t.dev.lastReset = 2 ∧ t.dev.jobSuspended = false ∧
      t.image = {} ∧ t.pins.errN = false ∧ t.host = {} ∧ t.mem.spad = [] ∧ t.mem.dram = [] ∧ t.mem.cacheTier = [] ∧
      t.mem.retained = [] ∧ t.fence = s.fence ∧ t.fabric.id = s.fabric.id ∧ t.assay = s.assay ∧ t.mail = [])

/-- JOB_RESET unloads the job, starts zeroisation and keeps time, links, stacks, fences and the job-independent entries.
Derived from 13 R267; 13 R273; 13 R274; 17 R357; 17 R358. It rests also on the model's choices of log 74, 84. -/
def Obligations.JobResetUnloadsTheJob : Prop :=
  ∀ (a : Agent) (s : State), mayCommand s a → s.dev.mode ∈ [Mode.idle, .loaded, .armed, .held] →
    ∃ t, exec (.jobReset a 0) s = .next t ∧ t.dev.mode = s.dev.mode ∧ t.dev.activity = 4 ∧ t.dev.lastReset = 4 ∧
      t.dev.jobId = 0 ∧ t.dev.holdAfter = 0 ∧ t.dev.jobSuspended = false ∧ t.dev.lastCode = 0 ∧ t.image = {} ∧ t.seq = {} ∧
      t.train = {} ∧ t.rng = {} ∧ t.sets = [] ∧ t.tele = {} ∧ t.jobRecord = {} ∧ t.mem.zeroising = true ∧
      t.faults.imageStopped = false ∧ t.sec.jobKey = none ∧ t.sec.quote = [] ∧ t.sec.policy = s.sec.policy ∧
      t.time = s.time ∧ t.rate.changes = s.rate.changes ∧ t.fence = s.fence ∧ t.mem.dram = s.mem.dram ∧
      t.mem.stackTable = s.mem.stackTable ∧ t.assay = s.assay ∧
      (swf {} s.links = true → ∀ k, (linkOf t k).fecCorrected = (linkOf s k).fecCorrected ∧
        (linkOf t k).fecSymbols = (linkOf s k).fecSymbols ∧ (linkOf t k).fecBad = (linkOf s k).fecBad)

/-- POWER_DOWN leaves only the management die and Assay powered, and BANK puts the stacks in self-refresh and records
the job. Derived from 13 R267; 13 R268; 19 R383; 12 R260; 14 R305; 12 R253; 13 R275. It rests also on the model's
choices of log 82. -/
def Obligations.PowerDownAndBank : Prop :=
  (∀ (a : Agent) (s : State), mayCommand s a → s.dev.mode = .idle → s.dev.jobSuspended = false → s.dev.activity = 0 →
    ∃ t, exec (.powerDown a 0) s = .next t ∧ t.dev.mode = .standby ∧ t.dev.lastCode = 0 ∧ t.pins.railEnA = false ∧
      t.pins.railEnB = false ∧ t.image = {} ∧ t.mem.spad = [] ∧ t.mem.dram = [] ∧ t.mem.cacheTier = [] ∧
      t.time.lock = 0 ∧ (∀ c ∈ t.host.channels, c.kind ≠ 1 ∧ c.kind ≠ 3) ∧
      t.host.sessions = s.host.sessions ∧ t.fence = s.fence ∧ t.fabric.id = s.fabric.id ∧ t.rate.cap = s.rate.cap ∧
      t.rate.changes = s.rate.changes ∧ t.sec = s.sec ∧ t.assay = s.assay) ∧
  (∀ (a : Agent) (s : State), mayCommand s a → s.dev.mode ∈ [Mode.idle, .loaded, .armed, .held] → s.dev.activity = 0 →
    ∃ t, exec (.bank a 0) s = .next t ∧ t.dev.mode = .banked ∧ t.dev.lastCode = 0 ∧ t.faults.bankCause = 1 ∧
      t.pins.railEnA = false ∧ t.pins.railEnB = true ∧ t.fabric.relaying = true ∧
      (∀ n < 16, (stackOf t n).selfRefresh = true ∧ (stackOf t n).rotPhase = 0) ∧
      (s.image.loaded.isSome = true → t.jobRecord.valid = true) ∧
      (swf {} s.mem.retained = true → ∀ r, (retainedOf t r).state ≠ 2) ∧ t.mem.dram = s.mem.dram ∧
      t.image.loaded = s.image.loaded ∧ t.fence = s.fence ∧ t.assay = s.assay)

/-- HEARTH_RESET fences, zeroes and tests a hearth, and the result of a self-test is recorded. Derived from 13 R277; 13
R273; 17 R360; 14 R288. -/
def Obligations.HearthResetFencesAndTests : Prop :=
  (∀ (a : Agent) (arg : BitVec 16) (s : State), mayCommand s a → s.dev.mode ∈ [Mode.idle, .loaded, .held] →
    s.dev.activity = 0 → arg.toNat < 1152 → memWf s.mem.spad = true → swf {} s.hearths = true →
    ∃ t, exec (.hearthReset a arg) s = .next t ∧ t.dev.lastCode = 0 ∧ arg.toNat ∈ t.fence.hearths ∧
      arg.toNat ∈ t.dev.selftests ∧ (hearthOf t arg.toNat).selftest = 3 ∧ (hearthOf t arg.toNat).progOp = 0 ∧
      (hearthOf t arg.toNat).progPar = 0 ∧ (∀ h, h ≠ arg.toNat → hearthOf t h = hearthOf s h) ∧
      (∀ x, mget t.mem.spad x = if 2097152 * arg.toNat ≤ x ∧ x < 2097152 * arg.toNat + 2097152 then 0 else mget s.mem.spad x) ∧
      t.mem.dram = s.mem.dram ∧ t.links = s.links ∧ t.mem.stackTable = s.mem.stackTable ∧ t.host = s.host) ∧
  (∀ (h : Fin 1152) (passed kat : Bool) (s : State), swf {} s.hearths = true →
    ((hearthOf s h.val).selftest ≠ 3 → exec (.selftestDone h passed kat) s = .next s) ∧
    ((hearthOf s h.val).selftest = 3 → ∃ t, exec (.selftestDone h passed kat) s = .next t ∧
      hearthOf t h.val = { hearthOf s h.val with
        selftest := if passed then 1 else 2, katFailed := !kat, selftestTime := BitVec.ofNat 64 s.time.now
        katBoot := if s.dev.poweredUp then !kat else (hearthOf s h.val).katBoot } ∧
      (∀ i, i ≠ h.val → hearthOf t i = hearthOf s i) ∧ h.val ∉ t.dev.selftests ∧
      t.faults.detected.map (fun d => (d.occ.source, d.occ.kind, d.occ.number)) =
        s.faults.detected.map (fun d => (d.occ.source, d.occ.kind, d.occ.number)) ++
          (if passed then [] else [(0x0107, 1, BitVec.ofNat 16 h.val)]) ++
          (if kat then [] else [(0x0108, 1, BitVec.ofNat 16 h.val)]) ∧
      t.mem = s.mem ∧ t.links = s.links ∧ t.fence = s.fence))

/-- RESUME announces the replay, and RESTORE and EXPORT begin on the open context channel. Derived from 13 R272; 13
R267; 11 R234; 13 R281; 13 R283; 13 R285; 13 R287; 16 R343. -/
def Obligations.ResumeRestoreAndExportBegin : Prop :=
  (∀ (a : Agent) (s : State), mayCommand s a →
    (s.dev.mode = .held → s.time.master = true → s.dev.activity = 0 → s.faults.imageStopped = false →
      s.fabric.haltHeld = [] →
      ∃ t r, exec (.resume a 0) s = .next t ∧ t.seq.replay = some r ∧
        r.entry = (if s.dev.heldReason = 3 then announcedEntry s s.seq.heldRestart else 0) ∧
        r.frontier = s.upd.frontier ∧ r.epoch = s.fabric.epoch + 1 ∧ t.fabric.epoch = s.fabric.epoch + 1 ∧
        t.fabric.seqOut = s.fabric.seqOut + 1 ∧ t.dev.mode = .held ∧ t.dev.lastCode = 0) ∧
    (s.time.master = false → exec (.resume a 0) s = .next (coded s 0x0201))) ∧
  (∀ (a : Agent) (s : State), mayCommand s a → s.dev.activity = 0 → s.dev.jobSuspended = false →
    (s.dev.mode = .loaded → (channelKind s 3 false).isSome = true →
      ∃ t, exec (.restoreContext a 0) s = .next t ∧ t.dev.activity = 2 ∧ t.ctx.op = 2 ∧ t.ctx.inProgress = true ∧
        t.ctx.result = 0 ∧ t.ctx.bytesDone = 0 ∧ t.ctx.bytesTotal = 0 ∧ t.dev.lastCode = 0 ∧ t.image = s.image ∧
        t.sets = s.sets ∧ t.train = s.train ∧ t.mem = s.mem) ∧
    (s.dev.mode = .held → (channelKind s 3 true).isSome = true →
      ∃ t, exec (.exportContext a 0) s = .next t ∧ t.ctx.op = 1 ∧ t.ctx.inProgress = s.sec.jobKey.isSome ∧
        t.ctx.result = (if s.sec.jobKey.isSome then 0 else 6) ∧
        t.dev.activity = (if s.sec.jobKey.isSome then 3 else 0) ∧ t.dev.lastCode = 0 ∧ t.image = s.image ∧
        t.sets = s.sets ∧ t.train = s.train ∧ t.mem.dram = s.mem.dram) ∧
    (s.dev.mode = .loaded → channelKind s 3 false = none →
      ∃ t, exec (.restoreContext a 0) s = .next t ∧ t.dev.lastCode = 0x0301 ∧ t.ctx = s.ctx) ∧
    (s.dev.mode = .held → channelKind s 3 true = none →
      ∃ t, exec (.exportContext a 0) s = .next t ∧ t.dev.lastCode = 0x0301 ∧ t.ctx = s.ctx))

/-- ZEROISATION_DONE enters IDLE with every scratchpad, cache and burst outside INTACT retained regions zeroed. Derived
from 12 R260; 12 R262; 13 R273. -/
def Obligations.ZeroisationEndsInIdle : Prop :=
  ∀ (micros : BitVec 32) (s : State),
    (s.mem.zeroising = false → exec (.zeroisationDone micros) s = .next s) ∧
    (s.mem.zeroising = true → s.dev.poweredUp = false → memWf s.mem.dram = true →
      ∃ t, exec (.zeroisationDone micros) s = .next t ∧ t.dev.mode = .idle ∧ t.dev.activity = 0 ∧
        t.mem.zeroising = false ∧ t.mem.zeroiseTime = micros ∧ t.mem.spad = [] ∧ t.mem.cacheTier = [] ∧ t.mem.lines = [] ∧
        t.mem.lastData = [] ∧ (∀ x, mget t.mem.dram x = if survives s.mem x then mget s.mem.dram x else 0) ∧
        t.links = s.links ∧ t.mem.stackTable = s.mem.stackTable ∧ t.mem.retained = s.mem.retained ∧ t.fence = s.fence)

/-- BOOT_END leaves boot for STANDBY after a cold reset and for IDLE after a warm one. Derived from 13 R268; 13 R276; 13
R275; 14 R294; 18 R366. It rests also on the model's choices of log 149. -/
def Obligations.BootEndsInStandbyOrIdle : Prop :=
  ∀ (b : BootReport) (s : State),
    (s.dev.mode ≠ .boot → exec (.bootEnd b) s = .next s) ∧
    (s.dev.mode = .boot → s.pins.rstN = true → s.dev.bootFatal = false → s.dev.causePersists = none →
      bankOk s (bankNo s s.sec.preferB) = true →
      (s.dev.bootWarm = false → ∃ t, exec (.bootEnd b) s = .next t ∧ t.dev.mode = .standby ∧ t.dev.bootTime = b.micros ∧
        t.pins.errN = !s.faults.errHeld ∧ t.sec.bootVerified = true ∧ t.sec.bootedB = s.sec.preferB ∧
        t.mem = s.mem ∧ t.image = s.image ∧ t.fence = s.fence) ∧
      (s.dev.bootWarm = true → b.selftestFailed = [] → b.katFailed = [] →
        ∃ t, exec (.bootEnd b) s = .next t ∧ t.dev.mode = .idle ∧ t.dev.bootTime = b.micros ∧
        t.pins.errN = (!s.faults.errHeld) ∧ t.pins.railEnA = true ∧ t.pins.railEnB = true ∧ t.mem.trained = true ∧
        (∀ n < 16, (stackOf t n).selfRefresh = false ∧ (stackOf t n).trained = (activeOf s.fence n != 0)) ∧
        t.mem.dram = s.mem.dram ∧ t.image = s.image ∧
        (s.dev.jobSuspended = true → s.jobRecord.valid = true → t.dev.jobId = s.jobRecord.jobId ∧
          t.train.completedStep = s.jobRecord.completedStep ∧ t.rng.jobSeed = s.jobRecord.jobSeed ∧
          t.sets = s.jobRecord.sets ∧ t.train.maxNorm = s.jobRecord.maxNorm ∧ t.tele.levels = s.jobRecord.levels)))

/-- Supplies and RST_N begin a boot, and the rail events sequence the supplies of a POWER_UP. Derived from 13 R268; 19
R383; 19 R388; 19 R389; 13 R273; 19 R381; 19 R382; 13 R276. It rests also on the model's choices of log 4, 47, 56,
73, 147. -/
def Obligations.SuppliesRailsAndResetPin : Prop :=
  (∀ (m : Metering) (width : Nat) (s : State),
    (s.dev.mode = .off → ∃ t, exec .powerOn s = .next t ∧ t.dev.mode = .boot ∧ t.dev.lastReset = 1 ∧
      t.pins.rstN = true ∧ t.pins.standbySupply = true ∧ t.fence = s.fence ∧ t.assay = s.assay) ∧
    (s.dev.mode ≠ .off → 1000 ≤ width → ∃ t, exec (.rstNLow width m) s = .next t ∧ t.dev.mode = .boot ∧
      t.dev.lastReset = 1 ∧ t.pins.rstN = false ∧ t.pins.thermtripN = true ∧ t.pins.errN = false ∧
      t.image = {} ∧ t.mem.dram = [] ∧ t.fence = s.fence) ∧
    (width < 900 → exec (.rstNLow width m) s = .next s) ∧
    (s.pins.rstN = false → s.dev.mode ≠ .off →
      exec .rstNRise s = .next { s with pins := { s.pins with rstN := true } }) ∧
    (s.dev.mode ≠ .off → ∃ t, exec .supplyRemoval s = .next t ∧ t.dev.mode = .off ∧ t.pins.standbySupply = false ∧
      t.mem.dram = [] ∧ t.image = {} ∧ t.fence = s.fence ∧ t.assay = s.assay ∧ t.fabric.id = s.fabric.id)) ∧
  (∀ (g : RailGroup) (s : State),
    (s.dev.mode = .standby → s.dev.activity = 5 → s.pins.railEnB = true →
      exec (.railGoodRise .b) s = .next { s with pins := { s.pins with railGoodB := true, railEnA := true } }) ∧
    (s.dev.mode = .standby → s.dev.activity = 5 → s.pins.railEnA = true → s.pins.railGoodB = true →
      ∃ t, exec (.railGoodRise .a) s = .next t ∧ t.pins = { s.pins with railGoodA := true } ∧ t.dev.activity = 4 ∧
        t.mem.zeroising = true ∧ (∀ h < 1152, (hearthOf t h).selftest = 3) ∧ t.dev.mode = .standby ∧ t.mem.dram = s.mem.dram) ∧
    (railEn g s = true → railGood g s = true → ∃ t x, exec (.railGoodFall g) s = .next t ∧ railGood g t = false ∧
      t.faults.detected = s.faults.detected ++ [x] ∧ x.occ.source = 0x0504) ∧
    (railEn g s = false → ∃ t, exec (.railGoodFall g) s = .next t ∧ railGood g t = false ∧ t.faults = s.faults) ∧
    (railEn g s = true → railGood g s = false → ∃ x, x.occ.source = 0x0504 ∧
      exec (.railGoodTimeout g) s = .next { s with faults := { s.faults with detected := s.faults.detected ++ [x] } }) ∧
    (railEn g s = false → exec (.railGoodTimeout g) s = .next s))

/-- An occurrence of class C is counted, logged where its source is, and changes no unit. Derived from 14 R289; 14 R295;
14 R299; 14 R300; 14 R301; 17 R360. -/
def Obligations.ClassCIsCountedLoggedAndNoReaction : Prop :=
  ∀ (d : Detected) (rest : List Detected) (i : SourceInfo) (s : State), s.faults.detected = d :: rest →
    sourceInfo d.occ.source.toNat = some i → i.cls = 1 → reactionOf s i = 0 → swf {} s.hearths = true →
    swf {} s.faults.sources = true →
    let masked := (sourceOf s i.code).mask
    let falls := !masked && s.faults.cEnable && !s.faults.errHeld
    ∃ t, exec (.faultOccurrence none) s = .next t ∧ t.faults.detected = rest ∧
      t.faults.countC = satInc s.faults.countC ∧ t.faults.countU = s.faults.countU ∧ t.faults.countF = s.faults.countF ∧
      (∀ c, (sourceOf t c).count = if c = i.code then satInc (sourceOf s c).count else (sourceOf s c).count) ∧
      ((masked = true ∨ i.code = 0x0102 ∨ i.code = 0x0301) → t.faults.log = s.faults.log) ∧
      (masked = false → i.code ≠ 0x0102 → i.code ≠ 0x0301 → ∃ r, t.faults.log = (r :: s.faults.log).take 1024 ∧
        r.time = BitVec.ofNat 64 d.time ∧ r.step = d.step ∧ r.source = d.occ.source ∧ r.epoch = d.epoch ∧
        r.location = locWord d.occ) ∧
      t.pins = { s.pins with errN := s.pins.errN && !falls } ∧
      t.faults.errHeld = (s.faults.errHeld || falls) ∧
      (∀ h, hearthOf t h = if hearthAt d.occ = some h ∧ i.code = 0x0102 then
        { hearthOf s h with spCorrected := satInc (hearthOf s h).spCorrected } else hearthOf s h) ∧
      t.dev.mode = s.dev.mode ∧ t.links = s.links ∧ t.mem = s.mem ∧ t.fence = s.fence ∧ t.image = s.image ∧ t.seq = s.seq

/-- An occurrence of class F, a thermal trip and the restart of the watchdog end in FAULTED. Derived from 14 R289; 14
R290; 14 R296; 14 R298; 14 R308; 14 R297; 19 R382. It rests also on the model's choices of log 90. -/
def Obligations.ClassFEntersFaulted : Prop :=
  ∀ s : State, s.dev.mode ≠ .off → s.dev.mode ≠ .boot → s.dev.mode ≠ .faulted →
    (∀ (d : Detected) (rest : List Detected) (i : SourceInfo), s.faults.detected = d :: rest →
      sourceInfo d.occ.source.toNat = some i → i.cls = 3 → reactionOf s i = 7 →
      ∃ t, exec (.faultOccurrence none) s = .next t ∧ FaultedFrom s t ∧
        t.pins.railEnA = (s.pins.railEnA && !(i.code == 0x0503 || i.code == 0x0504)) ∧
        t.pins.railEnB = (s.pins.railEnB && !(i.code == 0x0503 || i.code == 0x0504))) ∧
    (∀ u : TripUnit, tripPowered s u = true → reactionOf s ⟨0x0503, 3, 7, []⟩ = 7 →
      ∃ t, exec (.thermalTrip u) s = .next t ∧ FaultedFrom s t ∧ t.pins.railEnA = false ∧ t.pins.railEnB = false ∧
        t.pins.thermtripN = false ∧ t.faults.thermTripped = true ∧ ∀ n < 16, (stackOf t n).selfRefresh = true) ∧
    (s.dev.restarting = true → reactionOf s ⟨0x0609, 3, 7, []⟩ = 7 →
      ∃ t, exec .mgmtRestartDone s = .next t ∧ FaultedFrom s t ∧ t.faults.mgmtWatchdog = true ∧
        t.dev.restarting = false ∧ t.pins.railEnA = s.pins.railEnA ∧ t.pins.railEnB = s.pins.railEnB)

/-- The watchdog ends the sessions and refreshes the stacks, a lost heartbeat starts the relay, and the ERR_N pulse
ends. Derived from 14 R298; 14 R295; 16 R338; 12 R261. -/
def Obligations.WatchdogAndPulseEvents : Prop :=
  ∀ s : State,
    (mgmtRuns s = true → ∃ t, exec .mgmtWatchdogExpiry s = .next t ∧ t.dev = { s.dev with restarting := true } ∧
      t.host.sessions = [] ∧ t.host.nonces = [] ∧ t.host.channels = [] ∧ (∀ n < 16, (stackOf t n).selfRefresh = true) ∧
      (swf {} s.mem.retained = true → ∀ r, (retainedOf t r).state ≠ 2) ∧ t.tele.chimneySending = none ∧
      t.image = s.image ∧ t.mem.spad = s.mem.spad ∧ t.mem.dram = s.mem.dram ∧ t.links = s.links ∧ t.fence = s.fence) ∧
    (mgmtRuns s = false → exec .mgmtWatchdogExpiry s = .next s) ∧
    (s.dev.restarting = true → linksPowered s = true →
      exec .heartbeatTimeout s = .next { s with fabric := { s.fabric with relaying := true } }) ∧
    ((s.dev.restarting = false ∨ linksPowered s = false) → exec .heartbeatTimeout s = .next s) ∧
    (s.faults.pulsing = true → s.dev.mode ≠ .boot → s.dev.mode ≠ .faulted → exec .errPulseEnd s =
      .next { s with faults := { s.faults with pulsing := false }, pins := { s.pins with errN := !s.faults.errHeld } }) ∧
    (s.faults.pulsing = true → (s.dev.mode = .boot ∨ s.dev.mode = .faulted) →
      exec .errPulseEnd s = .next { s with faults := { s.faults with pulsing := false } }) ∧
    (s.faults.pulsing = false → exec .errPulseEnd s = .next s)

/-- A SELECT write latches the record it names, CLEAR empties the log, and a value out of range is refused with 0x0202.
Derived from 10 R214; 14 R302; 14 R299; 00 R8. -/
def Obligations.SelectorsLatchTheirRecords : Prop :=
  ∀ (a : Agent) (s : State), mayCommand s a →
    (∀ (sel : BitVec 32) (x : Stat8), s.dev.mode ≠ .banked → clearOf sel.toNat 0x0FFFF000 = true →
      statSelected s sel.toNat = some x → exec (.statReadSelect a sel) s = .next (coded { s with
        tele := { s.tele with select := sel, selStep := s.train.completedStep, selValue := x } } 0)) ∧
    (∀ n : BitVec 32, exec (.faultLogSelect a n) s = .next (if n.toNat < s.faults.log.length then
      coded { s with faults := { s.faults with logSelect := n, logRecord := s.faults.log.getD n.toNat {} } } 0
      else coded s 0x0202)) ∧
    (∀ v : BitVec 8, exec (.clearLog a v) s = .next (if v = 1 then
      coded { s with faults := { s.faults with log := [] } } 0 else coded s 0x0202)) ∧
    ∀ c : BitVec 16, exec (.sourceSelect a c) s = .next (if (sourceInfo c.toNat).isSome then
      coded { s with faults := { s.faults with sourceSelect := c, sourceCount := (sourceOf s c.toNat).count } } 0
      else coded s 0x0202)

/-- FORCE arms the selected source under FAULT_INJECT alone, and a 1 to ERR_HELD releases ERR_N outside FAULTED. Derived
from 14 R302; 14 R303; 14 R295; 14 R301; 00 R8. -/
def Obligations.ForceAndReleaseOfErrN : Prop :=
  ∀ (a : Agent) (s : State), mayCommand s a →
    (∀ (ctl : BitVec 32) (i : SourceInfo), sourceInfo s.faults.sourceSelect.toNat = some i →
      let v := ctl.toNat ||| 0x80
      (s.sec.policy.getLsbD 3 = false → exec (.forceFault a ctl) s = .next (coded s 0x0201)) ∧
      (s.sec.policy.getLsbD 3 = true → clearOf v 0xFFF00004 = true → bits v 0 2 = i.cls → i.reaction ≤ bits v 3 3 →
        (forceOcc i (bits v 8 12)).isSome = true → (sourceOf s i.code).force = none →
        exec (.forceFault a ctl) s = .next (coded (modSource s i.code (fun x => { x with
          mask := v.testBit 6
          reaction := if bits v 3 3 = i.reaction then none else some (BitVec.ofNat 3 (bits v 3 3))
          unit := BitVec.ofNat 12 (bits v 8 12)
          force := some (s.faults.forceTime, BitVec.ofNat 12 (bits v 8 12)) })) 0))) ∧
    (s.dev.mode ≠ .faulted → exec (.errHeldRelease a) s = .next (coded { s with
      faults := { s.faults with errHeld := false }
      pins := { s.pins with errN := if s.faults.errHeld then !s.faults.pulsing else s.pins.errN } } 0)) ∧
    (s.dev.mode = .faulted → exec (.errHeldRelease a) s = .next (coded s 0x0301))

/-- TAI_SET, START_TIME and FABRIC_ID take effect in their states, and the first two on the master alone. Derived from
07 R128; 07 R134; 11 R218; 11 R234; 11 R239; 00 R8. -/
def Obligations.TimeAndFabricIdWrites : Prop :=
  ∀ (a : Agent) (s : State), mayCommand s a →
    (∀ v : BitVec 64, (s.time.master = false → exec (.taiSet a v) s = .next (coded s 0x0201)) ∧
      (s.time.master = true → s.dev.mode = .idle ∨ s.dev.mode = .loaded →
        (s.time.source = 0 → exec (.taiSet a v) s =
          .next (coded { s with time := { s.time with taiSet := v, now := v.toNat } } 0)) ∧
        (s.time.source = 2 → v.toNat % 1000000000 = 0 → exec (.taiSet a v) s =
          .next (coded { s with time := { s.time with taiSet := v, taiPending := some v } } 0)))) ∧
    (∀ v : BitVec 64, (s.time.master = false → exec (.startTimeWrite a v) s = .next (coded s 0x0201)) ∧
      (s.time.master = true → s.dev.mode = .loaded → v.toNat % 256 = 0 → s.time.now + 10000000 ≤ v.toNat →
        swf {} s.links = true → ∃ t, exec (.startTimeWrite a v) s = .next t ∧ t.time.startTime = v ∧
          t.time.startKnown = true ∧ t.fabric.seqOut = s.fabric.seqOut + 1 ∧ t.dev.lastCode = 0 ∧
          (∀ k < 64, linkOf t k = if isUp s k then { linkOf s k with
            pendControl := (linkOf s k).pendControl ++ [mkControl 3 s.fabric.seqOut.toNat (natBe 8 v.toNat)] }
            else linkOf s k) ∧
          t.time.now = s.time.now ∧ t.mem = s.mem ∧ t.image = s.image ∧ t.faults = s.faults)) ∧
    (∀ v : BitVec 64, fabricIdOk v.toNat = true →
      (s.dev.mode = .standby ∨ s.dev.mode = .idle → ∃ t, exec (.fabricIdWrite a v) s = .next t ∧ t.fabric.id = v ∧
        t.dev.lastCode = 0 ∧ t.mem = s.mem ∧ t.image = s.image ∧ t.faults.log = s.faults.log) ∧
      (s.dev.mode ≠ .standby → s.dev.mode ≠ .idle → exec (.fabricIdWrite a v) s = .next (coded s 0x0301)))

/-- FENCE, RETRAIN and FORCE_DOWN act on their link, and a fence is not cleared. Derived from 11 R226; 11 R230; 11 R238;
07 R156. -/
def Obligations.LinkControlActsOnItsLink : Prop :=
  ∀ (a : Agent) (k : Fin 64) (s : State), mayCommand s a → k.val ∉ s.fence.links → (linkOf s k.val).forceDown = false →
    (linkOf s k.val).retrain = false → (linkOf s k.val).state ≠ 0 → swf {} s.links = true →
    (s.dev.mode = .running → exec (.fenceLink a k) s = .next (coded s 0x0301)) ∧
    (s.dev.mode = .idle ∨ s.dev.mode = .loaded ∨ s.dev.mode = .held →
      (∃ t l, exec (.fenceLink a k) s = .next t ∧ LinkCommanded s t k.val ∧ (linkOf t k.val).state = 4 ∧
        k.val ∈ t.fence.links ∧ t.faults.detected = s.faults.detected ++ l ∧ ∃ x ∈ l, x.occ = occAt 0x0404 2 k.val) ∧
      (∃ t, exec (.retrainLink a k) s = .next t ∧ LinkCommanded s t k.val ∧ (linkOf t k.val).retrain = true ∧
        (linkOf t k.val).state = (if trainsInWindows s then 1 else 2) ∧ (linkOf t k.val).phase = 1 ∧
        t.fence = s.fence) ∧
      ∃ t, exec (.forceDownLink a k true) s = .next t ∧ LinkCommanded s t k.val ∧ (linkOf t k.val).forceDown = true ∧
        (linkOf t k.val).state = 1 ∧ t.fence = s.fence)

/-- ROTATE_REQUEST queues a repair rotation, VERIFY starts the hash, and each is refused where its conditions fail.
Derived from 12 R252; 12 R261; 12 R263; 12 R264; 00 R8. -/
def Obligations.RepairAndVerifyRequests : Prop :=
  ∀ (a : Agent) (s : State), mayCommand s a →
    (∀ (n : Fin 16) (ch : BitVec 8), s.dev.mode ≠ .banked →
      exec (.rotateRequest a n ch) s = .next (
        if activeOf s.fence n.val ≤ ch.toNat ∨ (stackOf s n.val).spareOk = false then coded s 0x0202
        else if (stackOf s n.val).rotPhase ≠ 0 ∨ rotQueued (stackOf s n.val) = true then coded s 0x0302
        else coded (modStack s n.val (fun k => { k with repairs := k.repairs ++ [ch.toNat] })) 0)) ∧
    ∀ r : Fin 16,
      (s.dev.mode ≠ .loaded ∨ (retainedOf s r.val).state ≠ 1 → exec (.verifyRetained a r 1) s = .next (coded s 0x0301)) ∧
      (s.dev.mode = .loaded → (retainedOf s r.val).state = 1 → swf {} s.mem.retained = true →
        ∃ t, exec (.verifyRetained a r 1) s = .next t ∧ t.dev.lastCode = 0 ∧ t.dev.mode = .loaded ∧
          (∀ i, retainedOf t i = if i = r.val then { retainedOf s i with state := 2 } else retainedOf s i) ∧
          t.mem.dram = s.mem.dram ∧ t.mem.stackTable = s.mem.stackTable ∧ t.links = s.links ∧ t.image = s.image)

/-- WRAPPED_JOB_KEY installs an unwrapped key with its KEY_ID, NONCE starts a quote, and QUOTE_DONE holds it signed.
Derived from 17 R357; 17 R358; 18 R371; 18 R372; 00 R8. It rests also on the model's choices of log 7, 8, 113, 114. -/
def Obligations.KeysAndQuotes : Prop :=
  ∀ (a : Agent) (s : State), mayCommand s a →
    (s.dev.mode = .idle ∨ s.dev.mode = .loaded ∨ s.dev.mode = .held → ∀ key : Bytes, key.length = 384 →
      (∀ k, unwrap s key = some k → exec (.wrappedJobKey a 0 key) s = .next (coded { s with
        sec := { s.sec with jobKey := some k, keyId := sha256 key } } 0)) ∧
      (unwrap s key = none → exec (.wrappedJobKey a 0 key) s = .next (coded s 0x0202))) ∧
    (∀ nonce : Bytes, nonce.length = 32 →
      (s.sec.quoteStatus = 1 → exec (.attestNonce a nonce) s = .next (coded s 0x0302)) ∧
      (s.sec.quoteStatus ≠ 1 → s.sec.pufOk = true → exec (.attestNonce a nonce) s = .next (coded { s with
        sec := { s.sec with quote := [], quoteStatus := 1, quoteBody := quoteBytes s nonce } } 0))) ∧
    (s.sec.quoteStatus = 1 → ∃ sig, exec .quoteDone s = .next { s with
      fresh := s.fresh + 1
      sec := { s.sec with quote := s.sec.quoteBody ++ sig, quoteStatus := 2, quoteBody := [] } } ∧
      sig = pssSign Config.identityModulus Config.identitySecret s.sec.quoteBody (slice (Config.random s.fresh) 0 32)) ∧
    (s.sec.quoteStatus ≠ 1 → exec .quoteDone s = .next s)

/-- A dictionary write answers the first refusal of R8 that applies, and an accepted one writes the entry alone. Derived
from 00 R8; 00 R7; 13 R271; 16 R332; 12 R249; 17 R352. -/
def Obligations.DictionaryWriteChecksInOrder : Prop :=
  ∀ (a : Agent) (s : State), isHeard s a = true →
    (∀ (i : BitVec 16) (sub : BitVec 8) (v : DictValue),
      (entryOf i.toNat = none → exec (.dictionaryWrite a i sub v) s = .next (coded s 0x0101)) ∧
      (∀ e, entryOf i.toNat = some e → subOf i.toNat e sub.toNat = none →
        exec (.dictionaryWrite a i sub v) s = .next (coded s 0x0102)) ∧
      ∀ e x, entryOf i.toNat = some e → subOf i.toNat e sub.toNat = some x →
        (mayWrite a = false → exec (.dictionaryWrite a i sub v) s = .next (coded s 0x0401)) ∧
        (mayWrite a = true → x.acc = .seal → exec (.dictionaryWrite a i sub v) s = .next (coded s 0x0501)) ∧
        (mayWrite a = true → x.acc = .ro → exec (.dictionaryWrite a i sub v) s = .next (coded s 0x0201))) ∧
    (mayWrite a = true →
      (s.dev.mode ∈ [Mode.loaded, .armed, .running, .held] → ∀ n < 2 ^ 64,
        exec (.dictionaryWrite a 0x2000 6 ⟨5, 0, natLe 8 n⟩) s = .next (coded { s with
          dev := { s.dev with holdAfter := BitVec.ofNat 64 n } } 0)) ∧
      (∀ n < 2 ^ 32, exec (.dictionaryWrite a 0x1110 1 ⟨4, 0, natLe 4 n⟩) s = .next (
        if 5 ≤ n ∧ n ≤ 3600 then coded { s with port := { s.port with sessionTimeout := BitVec.ofNat 32 n } } 0
        else coded s 0x0202)) ∧
      (∀ (typ : BitVec 8) (bs : Bytes), typ ≠ 4 → exec (.dictionaryWrite a 0x1110 1 ⟨typ, 0, bs⟩) s = .next (coded s 0x0203)) ∧
      (s.dev.mode ∉ [Mode.standby, .idle, .banked] → ∀ n, exec (.dictionaryWrite a 0x4800 2 ⟨4, 0, natLe 4 n⟩) s =
        .next (coded s 0x0301)))

/-- Without a session public entries are read, and a write or a read of another entry is refused with 0x0401. Derived
from 16 R339; 16 R334; 16 R335; 17 R345; 00 R8. It rests also on the model's choices of log 124. -/
def Obligations.PublicEntriesAreReadWithoutASession : Prop :=
  ∀ (m : Msg) (s : State), Delivered s m → m.session = 0 → s.sec.bootVerified = true →
    ∀ (i : BitVec 16) (sub : BitVec 8) (e : Entry) (x : Sub), entryOf i.toNat = some e → subOf i.toNat e sub.toNat = some x →
      let a := Agent.host false
      (isPublic i.toNat = true → isLong x.typ = false → m.body = natBe 2 i.toNat ++ natBe 1 sub.toNat ++ zeros 9 →
        exec (.readEntry m) s = .next (answered s m 1 0
          (natBe 2 0 ++ natBe 1 x.typ ++ [0] ++ (valueOf s a i.toNat sub.toNat e).reverse))) ∧
      (isPublic i.toNat = true → isLong x.typ = true → ∀ o n, 1 ≤ n → n ≤ 4096 → o + n ≤ x.size →
        m.body = natBe 2 i.toNat ++ natBe 1 sub.toNat ++ [0] ++ natBe 4 o ++ natBe 2 n ++ [0, 0] →
        exec (.readEntry m) s = .next (answered s m 1 0
          (natBe 2 0 ++ natBe 1 x.typ ++ [0] ++ ((valueOf s a i.toNat sub.toNat e).drop o).take n))) ∧
      (isPublic i.toNat = true → isLong x.typ = false → m.body = [0, 1, 0, 0] ++ natBe 2 i.toNat ++ natBe 1 sub.toNat ++ [0] →
        exec (.readBlock m) s = .next (answered s m 3 0
          (natBe 2 0 ++ natBe 2 0 ++ natBe 1 x.typ ++ [0] ++ natBe 8 (leNat (valueOf s a i.toNat sub.toNat e))))) ∧
      (isPublic i.toNat = false → m.body = natBe 2 i.toNat ++ natBe 1 sub.toNat ++ zeros 9 →
        exec (.readEntry m) s = .next (answered s m 1 0x0401 (natBe 2 0x0401))) ∧
      (isPublic i.toNat = false → m.body = [0, 1, 0, 0] ++ natBe 2 i.toNat ++ natBe 1 sub.toNat ++ [0] →
        exec (.readBlock m) s = .next (answered s m 3 0x0401 (natBe 2 0x0401))) ∧
      (∀ l : Bytes, m.body = natBe 2 i.toNat ++ natBe 1 sub.toNat ++ l → 9 ≤ l.length →
        exec (.writeEntry m) s = .next (answered s m 2 0x0401 (natBe 2 0x0401))) ∧
      exec (.writeBlock m) s = .next (answered s m 4 0x0401 (natBe 2 0x0401))

/-- A request of a session runs once; a repeat gets the stored response or is discarded. Derived from 16 R337; 16 R339;
16 R334; 13 R271. -/
def Obligations.SessionRequestsRunOnce : Prop :=
  ∀ (m : Msg) (x : Session) (s : State) (n : BitVec 64),
    (isNew x m.seq.toNat = true → s.dev.mode ∈ [Mode.loaded, .armed, .running, .held] →
      (InSession s 2 m x → m.body = [0x20, 0x00, 0x06, 0x05] ++ zeros 8 ++ natBe 8 n.toNat →
        ∃ t, exec (.writeEntry m) s = .next t ∧ RanOnce s t m 2 x 0 [] ∧ t.dev = { s.dev with holdAfter := n, lastCode := 0 }) ∧
      (InSession s 4 m x → m.body = [0, 1, 0, 0, 0x20, 0x00, 0x06, 0x05] ++ natBe 8 n.toNat →
        ∃ t, exec (.writeBlock m) s = .next t ∧ RanOnce s t m 4 x 0 (natBe 2 1 ++ natBe 2 0) ∧
          t.dev = { s.dev with holdAfter := n, lastCode := 0 })) ∧
    (isNew x m.seq.toNat = true →
      (InSession s 1 m x → m.body = [0x20, 0x00, 0x06] ++ zeros 9 →
        ∃ t, exec (.readEntry m) s = .next t ∧ RanOnce s t m 1 x 0 ([5, 0] ++ natBe 8 s.dev.holdAfter.toNat) ∧
          t.dev = { s.dev with lastCode := 0 }) ∧
      (InSession s 3 m x → m.body = [0, 1, 0, 0, 0x20, 0x00, 0x06, 0] →
        ∃ t, exec (.readBlock m) s = .next t ∧
          RanOnce s t m 3 x 0 (natBe 2 0 ++ [5, 0] ++ natBe 8 s.dev.holdAfter.toNat) ∧
          t.dev = { s.dev with lastCode := 0 })) ∧
    (isNew x m.seq.toNat = false → ∀ c ∈ messages, c.2.toNat ≤ 0x20 → InSession s c.2 m x →
      (∀ p, x.responses.find? (fun r => r.1 == m.seq.toNat) = some p → m.flags.getLsbD 6 = true →
        exec (c.1 m) s = .next (replied s m c.2 x p.2)) ∧
      ((m.flags.getLsbD 6 = false ∨ x.responses.find? (fun r => r.1 == m.seq.toNat) = none) →
        exec (c.1 m) s = .next { s with port := { s.port with discards := satAdd s.port.discards 1 } }))

/-- A message that the port, its header or its session does not admit is discarded. Derived from 16 R327; 16 R328; 16
R329; 16 R334; 16 R337. It rests also on the model's choices of log 62, 127, 128. -/
def Obligations.MessagesThatAreNotTakenChangeNothing : Prop :=
  ∀ c ∈ messages, ∀ (m : Msg) (s : State),
    let counted := { s with port := { s.port with discards := satAdd s.port.discards 1 } }
    (mgmtRuns s = false → exec (c.1 m) s = .next s) ∧
    (mgmtRuns s = true → frameTaken s m.frame = false → exec (c.1 m) s = .next counted) ∧
    (mgmtRuns s = true → frameTaken s m.frame = true →
      m.dstPort.toNat ≠ udpPort s ∨ ipActive s m.src = false ∨ headerOk m = false → exec (c.1 m) s = .next s) ∧
    (Delivered s m → m.session ≠ 0 →
      (sessionOf s m.session = none ∨
        ∃ x, sessionOf s m.session = some x ∧ m.tag ≠ msgTag x.key c.2 m.session m.seq m.flags m.body) →
      exec (c.1 m) s = .next { s with port := { s.port with
        discards := satAdd s.port.discards 1, authFailures := satInc s.port.authFailures } })

/-- A nonce is drawn, a session opens on it, and a session ends with its channels and locks. Derived from 16 R336; 16
R338; 15 R320; 18 R372. It rests also on the model's choices of log 7, 8, 64, 115. -/
def Obligations.SessionsOpenAndClose : Prop :=
  ∀ (m : Msg) (s : State),
    (Delivered s m → m.session = 0 → s.sec.bootVerified = true → m.body = [] →
      exec (.sessionNonce m) s = .next (answered { s with
        fresh := s.fresh + 1
        host := { s.host with nonces :=
          (s.host.nonces ++ [slice (Config.random s.fresh) 0 32]).drop (s.host.nonces.length + 1 - 8) } } m 0x10 0
        (natBe 2 0 ++ slice (Config.random s.fresh) 0 32))) ∧
    (Delivered s m → m.session = 0 → s.sec.bootVerified = true → m.body.length = 832 →
      (∀ key, openKey s m = some key → s.host.sessions.length < 8 →
        ∃ t n, exec (.sessionOpen m) s = .next t ∧ n ≠ 0 ∧ n ∉ s.host.sessions.map (·.number) ∧
          t.host.sessions = s.host.sessions ++ [⟨n, key, m.src, 0, [], []⟩] ∧
          t.host.nonces = s.host.nonces.filter (· != slice m.body 0 32) ∧ t.host.channels = s.host.channels ∧
          t.dev.lastCode = 0 ∧ t.image = s.image ∧ t.mem = s.mem ∧ t.links = s.links) ∧
      (∀ key, openKey s m = some key → 8 ≤ s.host.sessions.length →
        exec (.sessionOpen m) s = .next (answered s m 0x11 0x0302 (natBe 2 0x0302))) ∧
      (openKey s m = none → exec (.sessionOpen m) s = .next (answered { s with
        port := { s.port with authFailures := satInc s.port.authFailures } } m 0x11 0x0401 (natBe 2 0x0401)))) ∧
    (∀ x, InSession s 0x12 m x → isNew x m.seq.toNat = true → m.body = [] → swf {} s.mail = true →
      ∃ t, exec (.sessionClose m) s = .next t ∧ SessionEnded s t m.session ∧ t.dev.lastCode = 0) ∧
    (∀ n x, sessionOf s n = some x → swf {} s.mail = true →
      ∃ t, exec (.sessionTimeout n) s = .next t ∧ SessionEnded s t n) ∧
    ∀ nonce, exec (.nonceExpiry nonce) s =
      .next { s with host := { s.host with nonces := s.host.nonces.filter (· != nonce) } }

/-- BULK_OPEN opens an image channel, its data lands in the image store, and windows are acknowledged. Derived from 16
R340; 16 R341; 16 R342; 16 R404; 07 R397. It rests also on the model's choices of log 64, 65. -/
def Obligations.BulkChannelsOpenAndReceive : Prop :=
  ∀ (m : Msg) (s : State),
    (∀ x w n, InSession s 0x20 m x → isNew x m.seq.toNat = true → s.dev.mode = .idle → s.dev.jobSuspended = false →
      1 ≤ w → w ≤ 256 → 512 ≤ n → n ≤ 2 ^ 33 → m.body = imageOpenBody w n → s.host.channels.length < 4 →
      (∀ c ∈ s.host.channels, c.kind ≠ 1) →
      ∃ t c, exec (.bulkOpen m) s = .next t ∧ t.host.channels = s.host.channels ++ [c] ∧ c.kind = 1 ∧ c.toHost = false ∧
        c.session = m.session ∧ c.windows = w ∧ c.length = n ∧ c.lowest = 0 ∧ c.units = [] ∧
        (∀ d ∈ s.host.channels, d.id ≠ c.id) ∧ RanOnce s t m 0x20 x 0 (natBe 2 c.id.toNat)) ∧
    (∀ c w, OnChannel s 0x21 m c → c.kind = 1 → c.toHost = false → dataShape m.body = true →
      absWindow c.lowest (dataBodyOf m.body).window = some w → c.lowest ≤ w →
      let x := dataBodyOf m.body
      let u := 64 * w + x.first
      (c.lowest + c.windows ≤ w → exec (.bulkData m) s =
        .next { s with port := { s.port with discards := satAdd s.port.discards x.units } }) ∧
      (w < c.lowest + c.windows → lengthBroken c u x = false → memWf s.image.store = true →
        ∃ t, exec (.bulkData m) s = .next t ∧
          (∀ a, mget t.image.store a = if 1024 * u ≤ a ∧ a < 1024 * u + x.bytes.length then x.bytes.getD (a - 1024 * u) 0
            else mget s.image.store a) ∧
          (∀ i < x.units, ∀ d, channelOf t c.id = some d → hasUnit d (u + i) = true) ∧
          t.image.loaded = s.image.loaded ∧ t.mem = s.mem ∧ t.dev = s.dev ∧ t.links = s.links ∧
          t.port.discards = s.port.discards)) ∧
    ∀ (id : BitVec 16) (w : Nat),
      (∀ c, channelOf s id = some c → c.toHost = false → windowDone c w = false →
        (∃ i < 64, hasUnit c (64 * w + i) = true) →
        exec (.ackDelayExpiry id w) s = .next (sendBulk s c 0x22 0
          (natBe 2 c.id.toNat ++ [0, 0] ++ natBe 4 w ++ natBe 8 (receivedBits c w)))) ∧
      (channelOf s id = none → exec (.ackDelayExpiry id w) s = .next s)

/-- BULK_ACK acknowledges units sent, a timeout sends the last message again or ends the channel, BULK_CLOSE ends it.
Derived from 16 R342; 16 R343; 13 R287. -/
def Obligations.BulkChannelsAcknowledgeAndClose : Prop :=
  ∀ (m : Msg) (s : State),
    (∀ c w, OnChannel s 0x22 m c → c.toHost = true → m.body.length = 16 → beAt m.body 2 2 = 0 →
      absWindow c.lowest (beAt m.body 4 4) = some w →
      ∃ t, exec (.bulkAck m) s = .next t ∧
        (∀ i < 64, (beAt m.body 8 8).testBit i = true → 64 * w + i < c.sentUnits → ∀ d, channelOf t c.id = some d →
          (64 * w + i < 64 * d.lowest ∨ 64 * w + i ∈ d.acked)) ∧
        (∀ d, channelOf t c.id = some d → d.timeouts = 0 ∧ c.lowest ≤ d.lowest ∧ c.sentUnits ≤ d.sentUnits) ∧
        t.mem = s.mem ∧ t.image = s.image ∧ t.host.sessions = s.host.sessions ∧ t.dev.mode = s.dev.mode) ∧
    (∀ (id : BitVec 16) (w : Nat) (c : Channel), channelOf s id = some c → c.toHost = true → c.lowest ≤ w →
      64 * w < c.sentUnits →
      (c.timeouts + 1 < s.port.retryLimit.toNat → c.kind ≠ 4 →
        exec (.retxTimeout id w) s = .next (sendBulk (modChannel s id (fun d => { d with timeouts := d.timeouts + 1 })) c
          0x21 0x20 (dataBody c (lastMessage c w).1 (lastMessage c w).2))) ∧
      (s.port.retryLimit.toNat ≤ c.timeouts + 1 →
        ∃ t, exec (.retxTimeout id w) s = .next t ∧ t.host.channels = s.host.channels.filter (·.id != c.id) ∧
          t.mem = s.mem ∧ t.host.sessions = s.host.sessions)) ∧
    ∀ c, OnChannel s 0x23 m c → m.body.length = 6 → beAt m.body 3 1 = 0 →
      ∃ t, exec (.bulkClose m) s = .next t ∧ t.host.channels = s.host.channels.filter (·.id != c.id) ∧
        (c.kind = 3 → s.ctx.inProgress = true → t.ctx.result = 8 ∧ t.ctx.inProgress = false ∧ t.dev.activity = 0) ∧
        (c.kind ≠ 3 → t.ctx = s.ctx ∧ t.dev = s.dev) ∧ t.mem = s.mem ∧ t.host.sessions = s.host.sessions

/-- ARP, Neighbor Solicitation and echo requests for an own address are answered once, others are ignored. Derived from
16 R327; 16 R328; 16 R329. -/
def Obligations.PortAnswersArpNdAndEcho : Prop :=
  ∀ (f : Frame) (mac : BitVec 48) (s : State), mgmtRuns s = true →
    (frameTaken s f = true →
      (∀ ip target : BitVec 32, exec (.arpRequest f mac ip target) s =
        .next (if isOwn4 s target then send s (.arpReply (sendVlan s) mac ip) else s)) ∧
      (∀ ip target : BitVec 128, exec (.neighborSolicitation f mac ip target) s =
        .next (if isOwn6 s target then send s (.neighborAdvertisement (sendVlan s) mac ip target) else s)) ∧
      ∀ (src : Endpoint) (dst : BitVec 128) (ident : BitVec 32) (payload : Bytes),
        exec (.icmpEchoRequest f src dst ident payload) s =
          .next (if payload.length ≤ 1472 ∧ (if src.v6 then isOwn6 s dst else isOwn4 s (dst.setWidth 32)) = true then
            send s (.echoReply (sendVlan s) src ident payload) else s)) ∧
    (frameTaken s f = false → ∀ ip target : BitVec 32, exec (.arpRequest f mac ip target) s =
      .next { s with port := { s.port with discards := satAdd s.port.discards 1 } }) ∧
    ∀ up aligned, exec (.portLinkChange up aligned) s = .next { s with port := { s.port with linkUp := up, aligned := aligned } }

/-- Priority flow control holds frames back, and PTP and PPS set the master. Derived from 16 R330; 16 R329; 16 R331; 07
R128; 07 R133; 19 R388. It rests also on the model's choices of log 66, 121, 165. -/
def Obligations.FlowControlAndPtp : Prop :=
  (∀ s : State, portRuns s = true → pfcEnabled s = true → swf 0 s.port.paused = true →
    (∀ (f : Frame) (enables : BitVec 8) (quanta : List (BitVec 16)), f.length ≤ 9216 → f.fcsOk = true →
      ∃ t, exec (.pfcFrame f enables quanta) s = .next t ∧ PausesOnly s t ∧
        ∀ p < 8, sget 0 t.port.paused p =
          if enables.getLsbD p && s.port.pfcConfig.getLsbD p then quanta.getD p 0 else sget 0 s.port.paused p) ∧
    (∀ p : Fin 8, ∃ t, exec (.pfcPauseExpiry p) s = .next t ∧ PausesOnly s t ∧
      ∀ q < 8, sget 0 t.port.paused q = if q = p.val then 0 else sget 0 s.port.paused q) ∧
    (25165824 ≤ s.port.rxLevel → exec .pfcRepeat s =
      .next { s with port := { s.port with pausing := true, tx := s.port.tx ++ [.pfc (bulkPcp s) 0xFFFF] } }) ∧
    (s.port.rxLevel < 25165824 → exec .pfcRepeat s = .next s) ∧
    ∀ n, exec (.pfcResume n) s = .next (
      if s.port.pausing ∧ s.port.rxLevel - n < 16777216 then { s with port := { s.port with
        rxLevel := s.port.rxLevel - n, pausing := false, tx := s.port.tx ++ [.pfc (bulkPcp s) 0] } }
      else { s with port := { s.port with rxLevel := s.port.rxLevel - n } })) ∧
  (∀ s : State, s.dev.mode ≠ .off → s.dev.mode ≠ .boot → linksPowered s = true →
    (∀ f : Frame, frameTaken s f = true → s.port.config.getLsbD 3 = true →
      (∀ d, d ≠ s.time.ptpDomain → ∀ x, exec (.ptpMessage f (.announce d x)) s = .next s) ∧
      (∃ t, exec (.ptpMessage f (.announce s.time.ptpDomain true)) s = .next t ∧ t.port.ptpReceiving = true ∧
        (s.time.master = true → s.time.source = 1 → t.time.lock = 2 ∧ t.time.sourcePresent = true) ∧
        t.time.now = s.time.now ∧ ClockOnly s t) ∧
      (ptpFollowed s = true → ∀ origin rx, ∃ t, exec (.ptpMessage f (.sync s.time.ptpDomain false origin rx)) s = .next t ∧
        t.time = { s.time with ptpSync := some (origin, rx), ptpAwait := none } ∧
        t.port = (send s (.ptpDelayReq (sendVlan s) (ptpPcp s) s.time.now)).port ∧ ClockOnly s t)) ∧
    (s.time.master = true → s.time.source = 2 →
      (∀ early : Int, early.natAbs ≤ 100000 → ∃ t, exec (.timePpsEdge early) s = .next t ∧
        t.time.now = clock64 (s.time.taiPending.elim (edgeSecond early s) (·.toNat)) ∧ t.time.lastPps = some t.time.now ∧
        t.time.taiPending = none ∧ t.time.lock = 2 ∧ t.time.sourcePresent = true ∧ ClockOnly s t) ∧
      (∀ early : Int, 100000 < early.natAbs → exec (.timePpsEdge early) s = .next s) ∧
      ∃ t, exec .ppsTimeout s = .next t ∧ t.time.refLost = true ∧ t.time.lock = 3 ∧ t.time.sourcePresent = false ∧
        t.time.lastPps = none ∧ t.time.now = s.time.now ∧ ClockOnly s t) ∧
    (s.time.master = false → (∀ early, exec (.timePpsEdge early) s = .next s) ∧ exec .ppsTimeout s = .next s) ∧
    ∃ t, exec .ptpSourceLoss s = .next t ∧ t.port.ptpReceiving = false ∧
      (s.time.master = true → s.time.source = 1 → t.time.lock = 3 ∧ t.time.refLost = true) ∧
      (s.time.master = false → t.time.lock = s.time.lock) ∧ ClockOnly s t)

/-- A mailbox is locked, filled, sent, withdrawn, taken, ended and released by its owner and its receiver. Derived from
15 R312; 15 R314; 15 R316; 15 R318; 15 R319. It rests also on the model's choices of log 45, 46. -/
def Obligations.MailboxLifeOfAMessage : Prop :=
  ∀ (m : Fin 32) (a : Fin 64) (s : State), swf {} s.mail = true →
    let x := mailOf s m.val
    let r := mailReceiver m.val
    (mailPermits m.val a.val = true → x.owner = 0 → ∃ t, exec (.mailLock m a) s = .next t ∧
      MailboxOnly s t m.val { x with owner := a.val }) ∧
    (mailPermits m.val a.val = false ∨ x.owner ≠ 0 → exec (.mailLock m a) s = .next s) ∧
    (a.val ≠ 0 → x.owner = a.val → mailBusy x = false →
      (∃ t, exec (.mailRelease m a) s = .next t ∧ MailboxOnly s t m.val {}) ∧
      ∀ (len : BitVec 5) (code : BitVec 8), 8 ≤ len.toNat → len.toNat ≤ 16 →
        ∃ t, exec (.mailGo m a len code) s = .next t ∧ MailboxOnly s t m.val
          (if agentPresent s r then { x with status := 1, sender := BitVec.ofNat 6 a.val, length := len, code := code }
           else { x with status := 5, sender := BitVec.ofNat 6 a.val, length := len, code := code, data := [] })) ∧
    (a.val ≠ 0 → x.owner = a.val → x.status = 1 →
      ∃ t, exec (.mailboxWithdraw m a) s = .next t ∧ MailboxOnly s t m.val { x with status := 0 }) ∧
    (a.val = r → x.status = 1 → ∃ t, exec (.mailTaken m a) s = .next t ∧ MailboxOnly s t m.val { x with status := 2 }) ∧
    (a.val = r → x.status = 2 → x.orphan = false → x.owner ≠ 1 → x.owner ≠ 14 →
      (∀ len : BitVec 5, len.toNat = 0 ∨ 8 ≤ len.toNat ∧ len.toNat ≤ 16 →
        ∃ t, exec (.mailDone m a len) s = .next t ∧ MailboxOnly s t m.val { x with status := 3, length := len }) ∧
      ∃ t, exec (.mailRejected m a) s = .next t ∧ MailboxOnly s t m.val { x with status := 4 }) ∧
    (a.val ≠ r → exec (.mailTaken m a) s = .next s ∧ (∀ len, exec (.mailDone m a len) s = .next s) ∧
      exec (.mailRejected m a) s = .next s) ∧
    (a.val ≠ x.owner → exec (.mailRelease m a) s = .next s ∧ exec (.mailboxWithdraw m a) s = .next s ∧
      ∀ len code, exec (.mailGo m a len code) s = .next s)

/-- ECHO returns its words, and Assay opens, counts, checkpoints, closes and announces the record of a job. Derived from
15 R322; 18 R375; 18 R376; 18 R379. It rests also on the model's choices of log 8, 45, 46. -/
def Obligations.EchoAndJobRecords : Prop :=
  ∀ (m : Fin 32) (w : Metering) (s : State), swf {} s.mail = true →
    (m.val < 16 → mailBusy (mailOf s m.val) = true → agentPresent s (mailReceiver m.val) = true →
      (mailOf s m.val).orphan = false →
      ∃ t, exec (.mailEcho m) s = .next t ∧ MailboxOnly s t m.val { mailOf s m.val with
        status := if (mailOf s m.val).code = 1 then 3 else 4 }) ∧
    (assayRuns s = true →
      (∀ x rest, s.markers = x :: rest → x.isStart = true → s.assay.record = none →
        exec (.jobStart w) s = .next { s with markers := rest, assay := { s.assay with
          time := w.assayTime, energy := w.energy, powerNow := w.powerNow, record := some ⟨x.jobId, x.hash, x.time,
            w.assayTime, w.energy, 0, false, w.assayTime, w.energy, 0⟩ } }) ∧
      (∀ x rest r, s.markers = x :: rest → x.isStart = false → s.assay.record = some r →
        (r.jobId ≠ x.jobId → exec (.jobEnd w) s = .next { s with markers := rest }) ∧
        (r.jobId = x.jobId → swf (List.replicate 640 0) s.assay.ring = true →
          ∃ t, exec (.jobEnd w) s = .next t ∧ t = { s with assay := t.assay, markers := rest, fresh := s.fresh + 1 } ∧
            RecordClosed s t (endFlags x.reason + if w.lowPower then 16 else 0) x.time.toNat w.assayTime.toNat r.work)) ∧
      (∀ job i rest, s.assay.notices = (job, i) :: rest → (mailOf s 17).owner = 0 → mgmtRuns s = true →
        ∃ t, exec .recordReady s = .next t ∧ t = { s with mail := t.mail, assay := { s.assay with notices := rest } } ∧
          ∀ j, mailOf t j = if j = 17 then { owner := 14, status := 1, sender := 14, length := 8, code := 0x20
                                             data := wordsOf (natLe 8 job.toNat ++ natLe 8 i.toNat) } else mailOf s j) ∧
      (∃ t, exec .workCountDelivery s = .next t ∧ t = { s with hearths := t.hearths, assay := t.assay } ∧
        t.assay = { s.assay with
          workTotal := (s.assay.workTotal + 8192 * countedClocks s) % 2 ^ 128
          record := s.assay.record.map (fun (r : OpenRecord) => { r with
            work := (r.work + 8192 * countedClocks s) % 2 ^ 128 }) } ∧
        countedClocks t = 0 ∧ (swf {} s.hearths = true → ∀ h, hearthOf t h = { hearthOf s h with workClocks := 0 })) ∧
      exec (.assayCheckpoint w) s = .next { s with assay := { s.assay with
        time := w.assayTime, energy := w.energy, powerNow := w.powerNow
        record := s.assay.record.map (fun (r : OpenRecord) => { r with
          lowPower := w.lowPower, storedTime := w.assayTime, storedEnergy := w.energy, storedWork := r.work }) } })

/-- Assay loses and regains its supply, and installs staged firmware with no record open. Derived from 18 R376; 18 R377;
18 R378; 15 R319. It rests also on the model's choices of log 8, 45. -/
def Obligations.AssayPowerAndFirmware : Prop :=
  ∀ (w : Metering) (s : State), swf {} s.mail = true → swf (List.replicate 640 0) s.assay.ring = true →
    (s.pins.vassay = true → ∃ t, exec (.vassayLoss w) s = .next t ∧
      t = { s with mail := t.mail, pins := { s.pins with vassay := false }, assay := { s.assay with
        running := false, time := w.assayTime, energy := w.energy, powerNow := w.powerNow } } ∧
      mailBusy (mailOf t 16) = false ∧ ∀ i < 32, (mailOf t i).owner = 14 → (mailOf t i).status = 2 ∨ (mailOf t i).status = 5) ∧
    (s.pins.vassay = false → exec (.vassayLoss w) s = .next s ∧
      ∃ t, exec (.vassayReturn w) s = .next t ∧ t.pins = { s.pins with vassay := true } ∧ t.assay.running = true ∧
        t.assay.record = none ∧ t.assay.time = w.assayTime ∧
        (s.assay.record = none → t.assay.nextIndex = s.assay.nextIndex ∧ t.assay.ring = s.assay.ring) ∧
        (∀ r, s.assay.record = some r → RecordClosed s t (8 + if r.lowPower then 16 else 0) 0 r.storedTime.toNat r.storedWork) ∧
        t.dev = s.dev ∧ t.mem = s.mem ∧ t.links = s.links ∧ t.faults = s.faults) ∧
    exec .assayUpdateRequest s = .next { s with pins := { s.pins with assayUpdateN := false }, assay := { s.assay with
      updatePending := s.assay.record.isSome && assayRuns s } } ∧
    (s.pins.assayUpdateN = false → assayRuns s = true →
      (s.assay.record.isSome = true → exec .assayFirmwareInstall s =
        .next { s with assay := { s.assay with updatePending := true } }) ∧
      (s.assay.record = none → assayObjectOk s = true → ∃ t, exec .assayFirmwareInstall s = .next t ∧
        t = { s with mail := t.mail, assay := { s.assay with
          running := false, updatePending := false, updateCount := satInc s.assay.updateCount
          counter := max s.assay.counter (objVersion s.sec.assayStaging)
          installing := some (objFw s.sec.assayStaging, objHash s.sec.assayStaging) } })) ∧
    ∀ v h, s.assay.installing = some (v, h) → s.pins.vassay = true → exec .assayRestartDone s =
      .next { s with assay := { s.assay with running := true, installing := none, fwVersion := v, fwMeasurement := h } }

/-- Monitor RD, WR, LOG, PEEK, BAUD and RESET answer one line and act as their entries and commands do. Derived from 15
R323; 15 R324; 15 R325; 13 R273; 14 R299. It rests also on the model's choices of log 67, 106, 132. -/
def Obligations.MonitorReadsWritesAndResets : Prop :=
  ∀ s : State, isHeard s .monitor = true →
    (∀ (i : BitVec 16) (sub : BitVec 8),
      (entryOf i.toNat = none → ∀ o n, exec (.monRd i sub o n) s = .next (said s 0x0101 [])) ∧
      ∀ e x, readCheck .monitor i.toNat sub.toNat = (0, some (e, x)) → isLong x.typ = false → isLock i.toNat sub.toNat = false →
        exec (.monRd i sub 0 0) s = .next (said s 0 (valueOf s .monitor i.toNat sub.toNat e).reverse)) ∧
    (∀ n < 2 ^ 64, s.dev.mode ∈ [Mode.loaded, .armed, .running, .held] → exec (.monWr 0x2000 6 n) s =
      .next (said { s with dev := { s.dev with holdAfter := BitVec.ofNat 64 n } } 0 [])) ∧
    (∀ n, exec (.monLog n) s = .next ((s.faults.log[n]?).elim (said s 0x0202 []) (fun r => said s 0 (logBytes r)))) ∧
    (∀ (tier : BitVec 2) (n : BitVec 16) (o len : Nat) (r : Region), regionNo s n.toNat = some r →
      (monitorMode s = 2 → isPowered s = true → hostMayWrite s = true → peekOk r tier.toNat o len = true →
        regionPoison s r o len = [] → exec (.monPeek tier n o len) s = .next (said s 0 (regionRead s r o len))) ∧
      (monitorMode s = 2 → isPowered s = true → hostMayWrite s = false → exec (.monPeek tier n o len) s = .next { s with
        port := { s.port with peeks := s.port.peeks ++ [(tier.toNat, n.toNat, o, len)] } }) ∧
      (monitorMode s = 1 → exec (.monPeek tier n o len) s = .next (said s 0x0201 []))) ∧
    (∀ rate, exec (.monBaud rate) s = .next (
      if rate ∈ [115200, 230400, 460800, 921600, 1000000, 2000000, 3000000] then
        said { s with port := { s.port with baud := rate } } 0 [] else said s 0x0202 [])) ∧
    let ok := send s (.uart "OK" [])
    exec (.monReset .warm) s = .next (warmReset ok) ∧ exec (.monReset .cold) s = .next (coldReset (pushEnd 2 ok) 2) ∧
      (s.dev.mode = .idle → exec (.monReset .job) s = .next (jobReset ok))

/-- Monitor MB commands lock, fill, send, show, mark and free a mailbox for agent 16. Derived from 15 R312; 15 R314; 15
R316; 15 R324. It rests also on the model's choices of log 45, 106, 131. -/
def Obligations.MonitorMailboxCommands : Prop :=
  ∀ (m : Fin 32) (s : State), isHeard s .monitor = true → swf {} s.mail = true → swf 0 (mailOf s m.val).data = true →
    let x := mailOf s m.val
    (mailPermits m.val 16 = true → x.owner = 0 → ∃ t, exec (.monMbLock m) s = .next t ∧
      SaidAndMail s t 0 (natBe 4 0) m.val { x with owner := 16 }) ∧
    (x.owner = 16 → mailBusy x = false → mailReceiver m.val ≠ 16 → agentPresent s (mailReceiver m.val) = true →
      ∀ (code : BitVec 8) (ws : List (BitVec 32)), ws.length ≤ 16 →
        ∃ t data, exec (.monMbSend m code ws) s = .next t ∧ SaidAndMail s t 0 [] m.val { x with
          status := 1, sender := 16, length := BitVec.ofNat 5 (max 8 ws.length), code := code, data := data } ∧
          ∀ i, sget 0 data i = if i < max 8 ws.length then ws.getD i 0 else sget 0 x.data i) ∧
    exec (.monMbShow m) s = .next (said s 0 (natBe 4 (mailControl x).toNat ++
      (List.range 16).flatMap (fun i => natBe 4 (mailWord x m.val 16 i).toNat))) ∧
    (mailReceiver m.val = 16 → x.status = 1 → ∀ len, ∃ t, exec (.monMbStatus m .taken len) s = .next t ∧
      SaidAndMail s t 0 [] m.val { x with status := 2 }) ∧
    (mailReceiver m.val = 16 → x.status = 2 → x.orphan = false → x.owner ≠ 1 → x.owner ≠ 14 → ∀ len,
      (len.toNat = 0 → ∃ t, exec (.monMbStatus m .completed len) s = .next t ∧
        SaidAndMail s t 0 [] m.val { x with status := 3, length := len }) ∧
      ∃ t, exec (.monMbStatus m .rejected len) s = .next t ∧ SaidAndMail s t 0 [] m.val { x with status := 4 }) ∧
    (x.owner = 16 → mailBusy x = false → ∃ t, exec (.monMbFree m) s = .next t ∧ SaidAndMail s t 0 [] m.val {})

/-- LOAD_DONE, RESTORE_DONE and HASH_DONE give the verdict and, where it is good, the image, the job state and the
record. Derived from 07 R144; 07 R397; 07 R398; 13 R285; 13 R287; 12 R261; 13 R268. It rests also on the model's
choices of log 9, 71, 105, 111, 136, 152, 163, 164. -/
def Obligations.LoadRestoreAndHashEnd : Prop :=
  ∀ s : State,
    (s.dev.activity ≠ 1 → exec .loadDone s = .next s) ∧
    (s.dev.activity = 1 →
      (s.image.complete = false → exec .loadDone s = .next { s with
        dev := { s.dev with activity := 0 }, image := { s.image with code := 1, failSection := 0xFF, failRecord := 0 } }) ∧
      (∀ c x r, s.image.complete = true → storeVerdict s = some (c, x, r) → exec .loadDone s = .next { s with
        dev := { s.dev with activity := 0 }
        image := { s.image with code := BitVec.ofNat 16 c, failSection := BitVec.ofNat 8 x, failRecord := BitVec.ofNat 32 r } }) ∧
      (storeVerdict s = none → s.dev.mode ≠ .banked →
        let g := parseImage (storeBytes s)
        ∃ t, exec .loadDone s = .next t ∧ t.dev.mode = .loaded ∧ t.dev.activity = 0 ∧ t.dev.jobId = g.jobId ∧
          t.image.loaded = some g ∧ t.image.hash = sha256 (storeBytes s) ∧ t.image.code = 0 ∧ t.rng.jobSeed = g.jobSeed ∧
          (∀ n h, g.sets[n]? = some h → setOf t n = h) ∧ t.links = s.links ∧ t.fence = s.fence ∧ t.pins = s.pins)) ∧
    (∀ c, channelKind s 3 false = some c → s.dev.activity = 2 → s.ctx.inProgress = true → allArrived c = true →
      let b := mread (sget [] s.host.inbox c.id.toNat) 0 (streamLength c)
      ∃ t, exec .restoreDone s = .next t ∧ t.ctx.inProgress = false ∧ t.dev.activity = 0 ∧ t.dev.mode = s.dev.mode ∧
        t.host.channels = s.host.channels.filter (·.id != c.id) ∧ t.links = s.links ∧ t.image = s.image ∧
        (∀ r i, restoreCheck s b = .inl (r, i) → r ≠ 1 ∧ t.ctx.result = r ∧ t.train = s.train ∧ t.rng = s.rng ∧
          t.sets = s.sets ∧ t.tele = s.tele ∧ t.mem = s.mem) ∧
        ∀ body, restoreCheck s b = .inr body → t.ctx.result = 1 ∧ t.train.completedStep = BitVec.ofNat 64 (leAt b 16 8) ∧
          t.train.maxNorm = BitVec.ofNat 32 (leAt body 40 4) ∧ t.rng.jobSeed = slice body 8 32 ∧
          t.tele.thresholds = BitVec.ofNat 32 (leAt body 44 4) ∧
          ∀ n < 16, setOf t n = setAt (slice body 256 2048) (128 * n)) ∧
    ∀ r : Fin 16,
      ((retainedOf s r.val).state ≠ 2 → exec (.hashDone r) s = .next s) ∧
      ∀ x, (retainedOf s r.val).state = 2 → (retainedOf s r.val).placement = some x →
        (regionPoison s x 0 (regionBytes x) = [] → exec (.hashDone r) s = .next (modRetained s r.val (fun k =>
          if sha256 (regionRead s x 0 (regionBytes x)) = (retainedOf s r.val).digest then { k with state := 3 }
          else { k with state := 1, hashFail := true }))) ∧
        (regionPoison s x 0 (regionBytes x) ≠ [] → swf {} s.mem.retained = true →
          ∃ t, exec (.hashDone r) s = .next t ∧ (retainedOf t r.val).state = 1 ∧ (retainedOf t r.val).hashFail = true ∧
            t.mem.dram = s.mem.dram)

/-- A damper evaluation sets the request, the gate and the refresh, and PWRCAP_N gates and releases the hearths. Derived
from 07 R140; 07 R141; 07 R158; 12 R250; 12 R255; 19 R388. It rests also on the model's choices of log 47. -/
def Obligations.TemperaturesAndGates : Prop :=
  ∀ s : State,
    (isPowered s = false → (∀ d, exec (.damperEvaluation d) s = .next s) ∧ ∀ n, exec (.refreshNormal n) s = .next s) ∧
    (isPowered s = true → swf {} s.mem.stackTable = true → swf 0 s.rate.requests = true → swf false s.rate.dieGate = true →
      ∀ d : Damper, ∃ t, exec (.damperEvaluation d) s = .next t ∧
        (let u := d.unit.val
         let hot := d.stackTemps.foldl max d.dieTemp
         let old := sget false s.rate.dieGate u
         (∀ i, sget 0 t.rate.requests i = if i ≠ u then sget 0 s.rate.requests i else if 1600 ≤ hot then 2
           else if 1520 ≤ hot then 1
           else if hot < 1440 ∧ (sget none s.rate.coolSince u).any (fun f => decide (f + 256 ≤ s.seq.frame)) = true then 0xF
           else 0) ∧
         (u < 8 →
           (∀ i, sget false t.rate.dieGate i = if i ≠ u then sget false s.rate.dieGate i else if 1680 ≤ hot then true
             else if hot < 1600 then false else old) ∧
           ((1680 ≤ hot ∧ old = false) →
             ∃ x, t.faults = { s.faults with detected := s.faults.detected ++ [x] } ∧ x.occ = occAt 0x0501 5 u) ∧
           ((hot < 1680 ∨ old = true) → t.faults = s.faults) ∧
           (∀ n, n ≠ u ∨ d.stackTemps = [] → stackOf t n = stackOf s n) ∧
           (∀ x rest, d.stackTemps = x :: rest → (stackOf t u).temperature = BitVec.ofInt 32 (rest.foldl max x) ∧
             (stackOf t u).refresh2x = ((stackOf s u).refresh2x || decide (1360 ≤ rest.foldl max x)))) ∧
         (u = 8 → t.rate.dieGate = s.rate.dieGate ∧ (∀ n < 8, stackOf t n = stackOf s n) ∧
           ∀ i < 8, ∀ x, d.stackTemps[i]? = some x →
             (stackOf t (8 + i)).temperature = BitVec.ofInt 32 x ∧
             (stackOf t (8 + i)).refresh2x = ((stackOf s (8 + i)).refresh2x || decide (1360 ≤ x)) ∧
             (stackOf t (8 + i)).hot = (if 1680 ≤ x then true else if x < 1600 then false else (stackOf s (8 + i)).hot) ∧
             (1680 ≤ x → t.mem.farHot = true ∨ (stackOf s (8 + i)).hot = true) ∧
             (1680 ≤ x → (stackOf s (8 + i)).hot = false → ∃ y ∈ t.faults.detected, y.occ = occAt 0x030A 4 i))) ∧
        t.mem.dram = s.mem.dram ∧ t.links = s.links ∧ t.hearths = s.hearths ∧ t.dev = s.dev ∧ t.rate.n = s.rate.n) ∧
    (∀ n : Fin 16, isPowered s = true → exec (.refreshNormal n) s = .next (
      if (stackOf s n.val).coolSince.isSome then modStack s n.val (fun k => { k with refresh2x := false }) else s)) ∧
    (∀ w, 20 ≤ w → s.pins.pwrcapN = true → ∃ t d, d.occ = occNone 0x0502 ∧ exec (.pwrcapAssert w) s = .next t ∧
      t = { s with pins := { s.pins with pwrcapN := false }, faults := t.faults } ∧
      t.faults = if isPowered s then { s.faults with detected := s.faults.detected ++ [d] } else s.faults) ∧
    (∀ w, w < 10 ∨ (20 ≤ w ∧ s.pins.pwrcapN = false) → exec (.pwrcapAssert w) s = .next s) ∧
    (∀ w, 10 ≤ w → w < 20 → ∃ t, exec (.pwrcapAssert w) s = .next t) ∧
    exec .pwrcapRelease s = .next { s with pins := { s.pins with pwrcapN := true } }

/-- A time code gives delay, offset and hops of its link, LOCK_ACQUIRED locks, and each period every trained link sends.
Derived from 11 R235; 11 R220; 07 R129; 07 R131; 07 R133. It rests also on the model's choices of log 10, 41, 54,
103, 107. -/
def Obligations.TimeCodesAndLinkPeriods : Prop :=
  ∀ s : State, linksPowered s = true → swf {} s.links = true →
    (∀ (k : Fin 64) (c : TimeCode), codeOk c = false → exec (.timeCode k c) s = .next s) ∧
    (∀ (k : Fin 64) (c : TimeCode), carriesCodes s k.val = true → codeOk c = true →
      ∃ t, exec (.timeCode k c) s = .next t ∧
        (let l := linkOf t k.val
         l.lastMarker = c.markerTime ∧ l.lastRx = c.localRx ∧ l.peerHops = c.hops ∧ l.child = c.flags.getLsbD 1 ∧
         l.peerBanked = c.flags.getLsbD 2 ∧ l.peerLocked = c.flags.getLsbD 0 ∧
         (c.rxTime ≠ 0 → l.delay = BitVec.ofInt 32 (codeDelay c) ∧ (160 < codeDelay c → l.longLink = true) ∧
           (s.time.parent = some k.val → t.time.parentOffset = BitVec.ofInt 32 (codeOffset c) ∧
             (32 < (codeOffset c).natAbs → ∃ rest : Int, -32 ≤ rest ∧ rest ≤ 16 ∧
               t.time.now = clock64 ((s.time.now : Int) + (codeOffset c - rest) / 16).toNat) ∧
             (s.dev.mode = .running → 128 < (codeOffset c).natAbs → t.time.excursion = true ∧
               (t.time.lock = 1 ∨ (t.time.lock = 3 ∧ t.time.parent = none)) ∧
               ∃ d ∈ t.faults.detected, d.occ.source = 0x0207)))) ∧
        ((c.rxTime = 0 ∨ s.time.parent ≠ some k.val ∨ (codeOffset c).natAbs ≤ 32) → t.time.now = s.time.now) ∧
        (∀ j, j ≠ k.val → linkOf t j = linkOf s j) ∧ t.mem = s.mem ∧ t.dev = s.dev ∧ t.image = s.image) ∧
    (s.time.master = false → s.time.parent.isSome = true → exec .lockAcquired s = .next { s with
      time := { s.time with lock := 2, everLocked := true, lockRun := max s.time.lockRun 4096 } }) ∧
    ∃ t n, exec .linkPeriod s = .next t ∧ s.time.now ≤ n ∧ n ≤ s.time.now + 511 ∧ n % 256 = 0 ∧ t.time.now = clock64 n ∧
      (∀ k < 64, linkOf t k = if sendsMarkers s k then { linkOf s k with
        markersOut := (List.range (sendWidth (linkOf s k))).map (fun i => markerWord i (sendWidth (linkOf s k)) (n / 256))
        lanesOut := closePeriod (linkOf s k), codeOut := if carriesCodes s k then some (codeToSend s k n) else none }
        else linkOf s k) ∧
      t = { s with links := t.links, time := { s.time with now := t.time.now } }

/-- A rotation mirrors a logical channel onto the spare, moves it there, and its old channel retrains as the spare or is
retired. Derived from 12 R252; 12 R253; 12 R254; 12 R263. It rests also on the model's choices of log 104. -/
def Obligations.RotationsMoveAChannelToTheSpare : Prop :=
  ∀ (n : Fin 16) (s : State), stackRuns s n.val = true → swf {} s.mem.stackTable = true →
    let k := stackOf s n.val
    (s.mem.rotateInterval ≠ 0 → (spareOf n.val k).isSome = true →
      exec (.rotateIntervalExpiry n) s = .next (modStack s n.val (fun k => { k with routine := true }))) ∧
    (s.mem.rotateInterval = 0 → exec (.rotateIntervalExpiry n) s = .next s) ∧
    (∀ q, k.spareOk = true → k.rotPhase = 0 → spareOf n.val k = some q →
      (∀ l rest, k.repairs = l :: rest → exec (.rotationStart n) s = .next (modStack s n.val (fun k => { k with
        repairs := rest, rotPhase := 1, rotLogical := l, rotFrom := physOf k l, rotTo := q }))) ∧
      (k.repairs = [] → k.routine = true →
        let l := k.nextRoutine % activeOf s.fence n.val
        exec (.rotationStart n) s = .next (modStack s n.val (fun k => { k with
          routine := false, nextRoutine := (k.nextRoutine + 1) % activeOf s.fence n.val
          rotPhase := 1, rotLogical := l, rotFrom := physOf k l, rotTo := q })))) ∧
    (k.rotPhase = 1 → poisonedBursts s n.val k.rotFrom = [] → memWf s.mem.dram = true → swf none k.map = true →
      ∃ t, exec (.rotationSwitch n) s = .next t ∧ physOf (stackOf t n.val) k.rotLogical = k.rotTo ∧
        (stackOf t n.val).rotPhase = 2 ∧ (stackOf t n.val).spareOk = false ∧ (stackOf t n.val).spare = none ∧
        (∀ o < channelSpan, mget t.mem.dram (dramKey n.val k.rotTo 0 + o) = mget s.mem.dram (dramKey n.val k.rotFrom 0 + o)) ∧
        (∀ a, (a < dramKey n.val k.rotTo 0 ∨ dramKey n.val k.rotTo 0 + channelSpan ≤ a) →
          mget t.mem.dram a = mget s.mem.dram a) ∧
        (∀ i, i ≠ n.val → stackOf t i = stackOf s i) ∧ t.links = s.links ∧ t.fence = s.fence ∧ t.dev = s.dev) ∧
    ∀ r : ChannelReport, k.rotPhase = 2 → ∃ t, exec (.channelRetrainDone n r) s = .next t ∧
      (stackOf t n.val).laneRepairs = r.laneRepairs ∧ (∀ i, i ≠ n.val → stackOf t i = stackOf s i) ∧
      t.mem.dram = s.mem.dram ∧ t.fence = s.fence ∧
      (r.passed = true → spareOf n.val (stackOf t n.val) = some k.rotFrom ∧ (stackOf t n.val).spareOk = true ∧
        (stackOf t n.val).rotPhase = 0 ∧ (stackOf t n.val).rotations = satInc k.rotations ∧ t.faults = s.faults) ∧
      (r.passed = false → 1 ≤ k.trainFailures → k.rotFrom ∈ (stackOf t n.val).retired ∧
        (stackOf t n.val).spareOk = false ∧ (stackOf t n.val).rotPhase = 0 ∧ t.mem.channelRetired = true ∧
        ∃ d, t.faults.detected = s.faults.detected ++ [d] ∧ d.occ.source = 0x0304) ∧
      (r.passed = false → k.trainFailures = 0 → (stackOf t n.val).rotPhase = 2 ∧ (stackOf t n.val).trainFailures = 1)

/-- A link trains phase by phase, fails to DOWN or FENCED, counts its FEC words, and retrains when it is lost. Derived
from 11 R226; 11 R227; 11 R230; 11 R222; 11 R228; 11 R238. It rests also on the model's choices of log 55, 100, 102,
143. -/
def Obligations.LinksTrainAndAreLost : Prop :=
  ∀ (k : Fin 64) (s : State), swf {} s.links = true → linksPowered s = true →
    let l := linkOf s k.val
    (∀ r : PhaseReport, l.state = 2 → l.phase = r.phase → ∃ t, exec (.trainingPhaseDone k r) s = .next t ∧
      OtherLinksKept s t k.val ∧
      (r.lanes &&& l.tryLanes = l.tryLanes →
        (r.phase ≠ 4 → r.phase ≠ 6 → linkOf t k.val = { l with phase := r.phase + 1 }) ∧
        (r.phase = 4 → peerAgrees s k.val r = true →
          linkOf t k.val = { l with phase := 5, peerCoord := r.peerCoord, peerLink := r.peerLink }) ∧
        (r.phase = 4 → peerAgrees s k.val r = false → (linkOf t k.val).state = 1 ∧ (linkOf t k.val).wiringHold = true ∧
          (linkOf t k.val).events = l.events ||| 0x40 ∧ ∃ d ∈ t.faults.detected, d.occ = occAt 0x0403 2 k.val) ∧
        (r.phase = 6 → (linkOf t k.val).state = 3 ∧ (linkOf t k.val).width = BitVec.ofNat 4 (laneCount l.tryLanes) ∧
          (linkOf t k.val).data = (laneCount l.tryLanes == 4 && !l.lost) ∧ (linkOf t k.val).failures = 0 ∧
          (linkOf t k.val).delay = BitVec.ofInt 32 r.delay)) ∧
      (r.lanes &&& l.tryLanes ≠ l.tryLanes → 2 ≤ laneCount (r.lanes &&& l.tryLanes) →
        linkOf t k.val = { l with phase := 3, tryLanes := r.lanes &&& l.tryLanes })) ∧
    (l.state = 2 → l.phase ≠ 4 → ∃ t, exec (.trainingPhaseTimeout k) s = .next t ∧ OtherLinksKept s t k.val ∧
      (l.failures + 1 < s.fabric.retrainLimit.toNat → (linkOf t k.val).state = 1 ∧ (linkOf t k.val).failures = l.failures + 1 ∧
        t.fence = s.fence) ∧
      (s.fabric.retrainLimit.toNat ≤ l.failures + 1 → (linkOf t k.val).state = 4 ∧ k.val ∈ t.fence.links)) ∧
    (l.state = 1 → mayTrain s k.val = true → exec (.trainingRetryTimer k) s =
      .next (modLink s k.val (fun l => { l with state := 2, phase := 1, tryLanes := 0xF }))) ∧
    (l.state = 3 →
      (∀ words symbols received : Nat, ∃ t, exec (.fecAlarm k words symbols received) s = .next t ∧ OtherLinksKept s t k.val ∧
        (let alarm := decide (received < symbols * 2 ^ 13)
         linkOf t k.val = { l with
           fecCorrected := satAdd l.fecCorrected words, fecSymbols := satAdd l.fecSymbols symbols
           events := if alarm then l.events ||| 1 else l.events } ∧
         (alarm = false → t.faults = s.faults) ∧
         (alarm = true → ∃ d, t.faults.detected = s.faults.detected ++ [d] ∧ d.occ = occAt 0x0401 2 k.val))) ∧
      ∀ r : LossReport, isLoss r = true → ∃ t, exec (.linkLost k r) s = .next t ∧ OtherLinksKept s t k.val ∧
        (linkOf t k.val).state = (if trainsInWindows s then 1 else 2) ∧ (linkOf t k.val).lost = true ∧
        (linkOf t k.val).data = false ∧ (linkOf t k.val).events = l.events ||| 0x20 ∧
        (linkOf t k.val).fecBad = satAdd l.fecBad r.badWords ∧ ∃ d ∈ t.faults.detected, d.occ = occAt 0x0402 2 k.val)

/-- A data cell or retry lands in the buffer share that its entry names, or is relayed; a broken cell is only counted.
Derived from 11 R223; 11 R224; 11 R225; 11 R231; 11 R232; 11 R236. It rests also on the model's choices of log 36,
168. -/
def Obligations.CellsOnALink : Prop :=
  (∀ x : Cell, cellType (asRetry x) = 5 ∧ cellOk (asRetry x) = true ∧ cellSlot (asRetry x) = cellSlot x ∧
    cellIndex (asRetry x) = cellIndex x ∧ cellEpoch (asRetry x) = cellEpoch x ∧ (asRetry x).payload = x.payload) ∧
  ∀ (k : Fin 64) (c : Cell) (s : State), linkTakes s k.val = true → swf {} s.links = true →
    memWf s.fabric.buffers = true →
    let l := linkOf s k.val
    let bad := { l with cellErrors := l.cellErrors + 1 }
    (cellOk c = true → exec (.idleCell k c) s = .next s) ∧
    (cellOk c = false → ∃ t, exec (.idleCell k c) s = .next t ∧ LinkOnly s t k.val bad) ∧
    (∀ p ∈ [(Instr.dataCell, 1), (.retryCell, 5), (.retryRequest, 4), (.commitToken, 1), (.commitCell, 1)],
      cellType c = p.2 → cellOk c = false → ∃ t, exec (p.1 k c) s = .next t ∧ LinkOnly s t k.val bad) ∧
    (∀ p ∈ [(Instr.dataCell, 1), (.retryCell, 5), (.commitToken, 1), (.commitCell, 1)], cellType c = p.2 →
      cellOk c = true → s.fabric.relaying = true →
      (∀ o q, relayOf s k.val = some o → isUp s o = true →
        freePosition (linkOf s o) s.time.now (s.time.now + 257) = some q →
        ∃ t, exec (p.1 k c) s = .next t ∧ LinkOnly s t o { linkOf s o with sent := (linkOf s o).sent ++ [(q, c)] }) ∧
      ((∀ o, relayOf s k.val = some o →
          isUp s o = false ∨ freePosition (linkOf s o) s.time.now (s.time.now + 257) = none) →
        ∃ t d, exec (p.1 k c) s = .next t ∧
        t.fabric = { s.fabric with relayDrops := satInc s.fabric.relayDrops } ∧
        t.faults.detected = s.faults.detected ++ [d] ∧ d.occ = occAt 0x0405 2 k.val ∧
        (∀ i, linkOf t i = if i = k.val then { l with events := l.events ||| 2 } else linkOf s i) ∧ t.mem = s.mem)) ∧
    (s.fabric.relaying = false → cellOk c = true → schedules s = true → BitVec.ofNat 8 (cellEpoch c) = s.fabric.epoch →
      (matchEntry s k.val c = none → cellType c = 1 → ∃ t, exec (.dataCell k c) s = .next t ∧ LinkOnly s t k.val bad) ∧
      ∀ e, matchEntry s k.val c = some e →
        let here := (leSlot e % 4096, cellIndex c)
        let b := bufferKey (leBuffer e) + 256 * cellIndex c
        let got := { l with missing := l.missing.filter (fun x => x != here), awaited := l.awaited.filter (fun x => x != here) }
        (leClass e ≠ 1 → cellType c = 1 → ∃ t, exec (.dataCell k c) s = .next t ∧ BufferHolds s t b c ∧
          (∀ i, linkOf t i = if i = k.val then got else linkOf s i) ∧ StatCarried s t k.val e c ∧
          t = { s with links := t.links, fabric := { s.fabric with buffers := t.fabric.buffers }, tele := t.tele }) ∧
        (leClass e ≠ 1 → cellType c = 5 → isMissing s k.val c = true →
          ∃ t, exec (.retryCell k c) s = .next t ∧ BufferHolds s t b c ∧
          (∀ i, linkOf t i = if i = k.val then { got with retried := satInc l.retried } else linkOf s i) ∧
          StatCarried s t k.val e c ∧
          t = { s with links := t.links, fabric := { s.fabric with buffers := t.fabric.buffers }, tele := t.tele }) ∧
        (leClass e = 1 → cellType c = 1 → leOut e ≠ k.val → ∃ t x, exec (.dataCell k c) s = .next t ∧
          cellType x = 1 ∧ cellOk x = true ∧ cellSlot x = (leSlot e + 1) % 4096 ∧ cellClass x = cellClass c ∧
          cellFrame x = (s.seq.frame - s.seq.segFrame + (leSlot e + 1) / 4096) % 65536 ∧ cellIndex x = cellIndex c ∧
          cellEpoch x = cellEpoch c ∧ x.payload = slice c.payload 0 256 ∧ t = { s with links := t.links } ∧
          ∀ i, linkOf t i = if i = k.val then got
            else if i = leOut e then { linkOf s i with pendRelay := (linkOf s i).pendRelay ++ [(leBuffer e, x)] }
            else linkOf s i)) ∧
    (cellType c = 4 → cellOk c = true → schedules s = false → exec (.retryRequest k c) s = .next s) ∧
    (cellType c = 4 → cellOk c = true → schedules s = true → ∃ t, exec (.retryRequest k c) s = .next t ∧
      LinkOnly s t k.val { l with pendData := l.pendData ++ (requestEntries c).filterMap (fun x =>
        (l.kept.find? (fun y => cellSlot y == x.1 && cellIndex y == x.2)).map asRetry) })

/-- A HALT of the present epoch is noted and sent on, one of the next is held, and LINK_DOWN and LINK_UP act on their
link. Derived from 07 R157; 08 R176; 11 R233; 11 R229; 11 R230. It rests also on the model's choices of log 55, 143. -/
def Obligations.HaltAndLinkCells : Prop :=
  ∀ (k : Fin 64) (c : Cell) (s : State), linkTakes s k.val = true → cellOk c = true → swf {} s.links = true →
    swf 0xFF s.fabric.downTables = true →
    let l := linkOf s k.val
    (cellType c = 2 →
      let e := BitVec.ofNat 8 (hdrF c 112 8)
      let h : Halt := { restart := hdrF c 88 20, origin := hdrF c 68 20, source := BitVec.ofNat 16 (hdrF c 52 16), diag := hdrF c 108 4 == 2 }
      (e ≠ s.fabric.epoch → e ≠ s.fabric.epoch + 1 → exec (.haltCell k c) s = .next s) ∧
      (e = s.fabric.epoch + 1 → exec (.haltCell k c) s = .next { s with
        fabric := { s.fabric with haltHeld := s.fabric.haltHeld ++ [c] } }) ∧
      (e = s.fabric.epoch → ∃ t, exec (.haltCell k c) s = .next t ∧ t.fabric.haltStatus = haltWord s.fabric.epoch h ∧
        ((s.dev.mode = .running ∨ s.dev.mode = .held ∨ s.time.master = true) → ∃ y, t.seq.halt = some y ∧
          y.restart ≤ h.restart ∧ (∀ x, s.seq.halt = some x → y.restart ≤ x.restart) ∧ (y = h ∨ s.seq.halt = some y)) ∧
        (s.dev.mode ≠ .running → s.dev.mode ≠ .held → s.time.master = false → t.seq = s.seq) ∧
        (alreadySent s h.restart = true → t.links = s.links ∧ t.fabric.haltSent = s.fabric.haltSent) ∧
        (alreadySent s h.restart = false → t.fabric.haltSent = some h.restart ∧
          ∀ i < 64, linkOf t i = if isUp s i then
            (let q := haltPlace (linkOf s i) s.time.now
             { linkOf s i with sent := (linkOf s i).sent.filter (fun x => x.1 != q) ++ [(q, c)] }) else linkOf s i) ∧
        t.dev = s.dev ∧ t.mem = s.mem ∧ t.image = s.image ∧ t.fabric.epoch = s.fabric.epoch)) ∧
    (cellType c = 3 → ctlCode c = 5 →
      let n := peerLinkOf (beAt c.payload 0 1)
      let f := min (if s.seq.grid then s.seq.frame else 0) (beAt c.payload 4 8)
      dirOf n = dirOf k.val → n ≠ k.val → isUp s n = true → (linkOf s n).width = 4 →
      ∃ t, exec (.linkDown k c) s = .next t ∧ (linkOf t n).lost = true ∧ (linkOf t n).data = false ∧
        (linkOf t n).state = (if trainsInWindows s then 1 else 2) ∧ (linkOf t n).events = (linkOf s n).events ||| 0x20 ∧
        (∃ d ∈ t.faults.detected, d.occ = occAt 0x0402 2 n) ∧
        (directionDown s n = false → s.seq.grid = false → sget 0xFF t.fabric.downTables (dirOf k.val) = memberOf n) ∧
        (directionDown s n = false → s.seq.grid = true →
          ∃ x ∈ t.fabric.downPending, x.1 = dirOf k.val ∧ x.2.1 = memberOf n ∧ x.2.2 ≤ f + 2) ∧ OtherLinksKept s t n) ∧
    (cellType c = 3 → ctlCode c = 5 →
      let n := peerLinkOf (beAt c.payload 0 1)
      dirOf n = dirOf k.val → n ≠ k.val → isUp s n = true → (linkOf s n).width ≠ 4 →
      ∃ t, exec (.linkDown k c) s = .next t ∧ OtherLinksKept s t n ∧
        linkOf t n = { linkOf s n with lost := true, events := (linkOf s n).events ||| 0x20 } ∧
        ((linkOf s n).lost = false → ∃ d ∈ t.faults.detected, d.occ = occAt 0x0402 2 n)) ∧
    (cellType c = 3 → ctlCode c = 6 →
      (beAt c.payload 0 1 ≠ peerLinkOf k.val → exec (.linkUp k c) s = .next s) ∧
      (beAt c.payload 0 1 = peerLinkOf k.val → ∃ t, exec (.linkUp k c) s = .next t ∧
        LinkOnly s t k.val { l with upSeen := true
                                    upFrame := if l.upSent = true ∧ l.upFrame = none then
                                      some (if s.seq.grid then s.seq.frame else 0) else l.upFrame }))

/-- A new control cell is forwarded once and sets rate, START_TIME or replay; a repeat changes nothing; a rate request
joins. Derived from 11 R234; 11 R233; 07 R139; 07 R140; 07 R134; 13 R269; 09 R196. It rests also on the model's
choices of log 99, 135. -/
def Obligations.ControlCellsAreFloodedOnce : Prop :=
  (∀ (f : Fabric) (q : BitVec 16), isNewSeq (recordSeq f q) q = false) ∧
  ∀ (k : Fin 64) (c : Cell) (s : State), swf {} s.links = true →
    (∀ p ∈ [(Instr.rateAnnounce, 2), (.startTimeCell, 3), (.replayStart, 4)], linkTakes s k.val = true → cellType c = 3 →
      ctlCode c = p.2 → cellOk c = true → (s.time.master = true ∨ isNewSeq s.fabric (ctlSeq c) = false) →
      exec (p.1 k c) s = .next s) ∧
    (NewControl s k.val 2 c →
      let n := beAt c.payload 0 1
      let f := beAt c.payload 4 8
      ((s.seq.grid = false ∨ s.seq.frame < f) → ∃ t, exec (.rateAnnounce k c) s = .next t ∧ Forwarded s t k.val c ∧
        t = { s with links := t.links, fabric := recordSeq s.fabric (ctlSeq c)
                     rate := { s.rate with announced := some (n, f) } }) ∧
      (s.seq.grid = true → f ≤ s.seq.frame → ∃ t, exec (.rateAnnounce k c) s = .next t ∧ Forwarded s t k.val c ∧
        t.rate = s.rate ∧ t.dev = s.dev ∧ t.mem = s.mem ∧ (n = s.rate.n → t.faults = s.faults) ∧
        (n ≠ s.rate.n → ∃ d, t.faults.detected = s.faults.detected ++ [d] ∧ d.occ = occNone 0x0208))) ∧
    (NewControl s k.val 3 c → ∃ t, exec (.startTimeCell k c) s = .next t ∧ Forwarded s t k.val c ∧
      t.time = { s.time with startTime := BitVec.ofNat 64 (beAt c.payload 0 8), startKnown := true } ∧
      (s.dev.armPending = false → t.dev = s.dev) ∧
      (s.dev.armPending = true → t.dev = { s.dev with
        armPending := false
        mode := if s.dev.mode = .loaded ∧ armReady s = true ∧ startAhead t = true then .armed else s.dev.mode }) ∧
      t.mem = s.mem ∧ t.image = s.image ∧ t.seq = s.seq) ∧
    (NewControl s k.val 4 c → s.fabric.haltHeld = [] → ∃ t, exec (.replayStart k c) s = .next t ∧ Forwarded s t k.val c ∧
      t.fabric.epoch = BitVec.ofNat 8 (beAt c.payload 16 1) ∧ t.fabric.haltSent = none ∧ t.seq.halt = none ∧
      t.seq.announceDue = false ∧
      (takesPart s = false → t.seq.replay = s.seq.replay ∧ t.seq.stopped = s.seq.stopped ∧ t.upd = s.upd ∧ t.mem = s.mem) ∧
      (takesPart s = true → t.seq.stopped = true ∧ ∃ r, t.seq.replay = some r ∧ r.frame = beAt c.payload 0 8 ∧
        r.entry = beAt c.payload 8 4 % 2 ^ 20 ∧ r.frontier = (BitVec.ofNat 32 (beAt c.payload 12 4)).toInt) ∧
      t.dev = s.dev ∧ t.image = s.image ∧ t.time = s.time) ∧
    (linkTakes s k.val = true → cellType c = 3 → ctlCode c = 1 → cellOk c = true → swf none s.rate.children = true →
      ∃ t, exec (.rateRequest k c) s = .next t ∧ t = { s with rate := t.rate } ∧
        (∀ j, sget none t.rate.children j =
          if j = k.val then some (BitVec.ofNat 4 (beAt c.payload 0 1)) else sget none s.rate.children j) ∧
        t.rate.reqLocal = combinedRequest t ∧ t.rate.n = s.rate.n ∧ t.rate.requests = s.rate.requests ∧
        (t.rate.reqLocal = s.rate.reqLocal → t.rate.requestDue = s.rate.requestDue) ∧
        (t.rate.reqLocal ≠ s.rate.reqLocal → t.rate.requestDue = !s.time.master))

/-- A commit token adds its COUNT, a COMMIT commits its chunk and goes to the children, and restored ring slots become
free. Derived from 09 R190; 09 R193; 09 R194; 09 R195; 09 R196; 11 R225. It rests also on the model's choices of log
50, 69, 70, 159. -/
def Obligations.CommitRoundCells : Prop :=
  (∀ s : State, exec .chunkRestoreDone s = .next { s with upd := { s.upd with
    ring0 := if s.upd.ring0 = 3 then 0 else s.upd.ring0, ring1 := if s.upd.ring1 = 3 then 0 else s.upd.ring1 } }) ∧
  ∀ (k : Fin 64) (c : Cell) (s : State), linkTakes s k.val = true → cellType c = 1 → s.fabric.relaying = false →
    swf {} s.links = true →
    (takesCommit s c = false → ∀ p ∈ [Instr.commitToken, .commitCell], ∃ t, exec (p k c) s = .next t ∧
      LinkOnly s t k.val { linkOf s k.val with cellErrors := (linkOf s k.val).cellErrors + 1 }) ∧
    (takesCommit s c = true → ∀ n m q, commitFields c = (n, m, q) →
      let here := (cellSlot c + slotLag s k.val, cellIndex c)
      let got := { linkOf s k.val with
        missing := (linkOf s k.val).missing.filter (fun x => x != here)
        awaited := (linkOf s k.val).awaited.filter (fun x => x != here) }
      (swf 0 s.upd.childCount = true → ∃ t, exec (.commitToken k c) s = .next t ∧
        (∀ i, sget 0 t.upd.childCount i = sget 0 s.upd.childCount i + (if i = m then q else 0)) ∧
        (∀ i, linkOf t i = if i = k.val then got else linkOf s i) ∧
        t = { s with links := t.links, upd := { s.upd with childCount := t.upd.childCount } }) ∧
      (swf .free s.upd.states = true → swf {} s.upd.pending = true → swf {} s.tele.vec = true →
        ∃ t, exec (.commitCell k c) s = .next t ∧ sget .free t.upd.states m = .committed ∧
          (∀ i, i ≠ m → sget .free t.upd.states i = sget .free s.upd.states i) ∧
          (sget .free s.upd.states m = .committed → t.upd = s.upd ∧ t.tele = s.tele ∧ t.train = s.train) ∧
          (sget .free s.upd.states m ≠ .committed → t.train = { s.train with nodes := joinNodes m s.train.nodes } ∧
            (if m % 2 = 0 then t.upd.ring0 = 0 ∧ t.upd.ring1 = s.upd.ring1 else t.upd.ring1 = 0 ∧ t.upd.ring0 = s.upd.ring0) ∧
            t.upd.committed = max s.upd.committed m ∧ t.upd.copies = s.upd.copies.filter (fun y => y.chunk != m) ∧
            (∀ i < 1024, sget {} t.upd.pending (1024 * m + i) = {} ∧
              sget {} t.tele.vec i = statAdd (sget {} s.upd.pending (1024 * m + i)) (sget {} s.tele.vec i))) ∧
          (∀ i < 64, linkOf t i =
            (let x := if i = k.val then got else linkOf s i
             if isUp s i = true ∧ (linkOf s i).child = true then
               placeCells s.time.now (max (slotEnd s) (s.time.now + 257)) [commitCellOf s n m q] x else x)) ∧
          t.dev = s.dev ∧ t.mem = s.mem ∧ t.image = s.image ∧ t.faults = s.faults))

/-- Slot and frame boundaries advance the frame grid, take the announced N and the next segment, and stop at a halt.
Derived from 07 R134; 07 R139; 07 R153; 07 R154; 07 R157; 13 R270; 14 R292; 14 R304; 14 R305. It rests also on the
model's choices of log 10, 76, 132, 137, 162. -/
def Obligations.BoundariesAdvanceTheGrid : Prop :=
  ∀ s : State,
    (s.seq.grid = false → exec .frameBoundary s = .next s ∧
      exec (.slotBoundary true) s =
        .next (servePeeks { s with time := { s.time with now := clock64 ((s.time.now / 256 + 1) * 256) } })) ∧
    (s.seq.grid = true → stopIsDue s = false → s.seq.replay = none →
      (s.seq.slot < 4095 → ∃ t, exec (.slotBoundary true) s = .next t ∧ t.seq.slot = s.seq.slot + 1 ∧
        t.seq.frame = s.seq.frame ∧ t.seq.pos = s.seq.pos ∧ t.seq.segFrame = s.seq.segFrame ∧
        t.time.now = clock64 (max s.time.now (slotTime s (s.seq.slot + 1))) ∧ t.dev.mode = s.dev.mode ∧ t.rate.n = s.rate.n) ∧
      ∀ c, (c = Instr.frameBoundary ∨ (c = .slotBoundary true ∧ 4095 ≤ s.seq.slot)) → ∃ t, exec c s = .next t ∧
        t.seq.frame = s.seq.frame + 1 ∧ t.seq.slot = 0 ∧ t.seq.frameStart = s.seq.frameStart + frameNs s ∧
        (∀ n, s.rate.announced = some (n, s.seq.frame + 1) → t.rate.n = n) ∧
        ((∀ n, s.rate.announced ≠ some (n, s.seq.frame + 1)) → t.rate.n = s.rate.n) ∧
        (schedules s = false → t.seq.pos = s.seq.pos ∧ t.seq.segFrame = s.seq.segFrame) ∧
        (schedules s = true → s.seq.segFrame + 1 < (currentSeg s).frames →
          t.seq.segFrame = s.seq.segFrame + 1 ∧ t.seq.pos = s.seq.pos) ∧
        (schedules s = true → (currentSeg s).frames ≤ s.seq.segFrame + 1 → ∀ x, s.seq.segs[s.seq.pos + 1]? = some x →
          t.seq.segFrame = 0 ∧ t.seq.pos = s.seq.pos + 1 ∧ t.seq.planEntry = BitVec.ofNat 32 x.entry)) ∧
    (s.seq.grid = true → s.seq.slot < 4095 → s.dev.mode = .running →
      (s.seq.halt.isSome = true → s.seq.stopped = false → s.seq.stopDue = false → s.seq.bankDue = none →
        s.train.stepReplays.toNat < s.train.replayLimit.toNat → ∃ t, exec (.slotBoundary true) s = .next t ∧
        t.seq.stopped = true ∧ t.dev.mode = .running ∧ t.seq.slot = s.seq.slot + 1 ∧ t.seq.halt = s.seq.halt) ∧
      (s.seq.halt.isSome = true → s.seq.stopDue = true → s.seq.bankDue = none →
        ∃ t, exec (.slotBoundary true) s = .next t ∧ t.dev.mode = .held ∧ t.dev.heldReason = 3 ∧ t.seq.stopDue = false ∧
          t.image.loaded = s.image.loaded) ∧
      ∀ cause, s.seq.bankDue = some cause → ∃ t, exec (.slotBoundary true) s = .next t ∧ t.dev.mode = .banked ∧
        t.faults.bankCause = cause ∧ t.pins.railEnA = false ∧ t.pins.railEnB = true ∧
        ∀ n < 16, (stackOf t n).selfRefresh = true) ∧
    (s.time.startKnown = true → s.image.loaded.isSome = true → s.dev.activity ≠ 4 →
      (s.dev.mode = .armed → s.seq.halt = none → s.seq.stopDue = false → s.seq.bankDue = none →
        ∃ t, exec .startTimeReached s = .next t ∧ t.dev.mode = .running ∧ t.seq.grid = true ∧ t.seq.frame = 0 ∧
          t.seq.slot = 0 ∧ t.seq.frameStart = s.time.startTime.toNat ∧
          t.time.now = clock64 (max s.time.now s.time.startTime.toNat) ∧
          t.seq.step = s.train.completedStep.toNat + 1 ∧ t.seq.pos = 0 ∧ t.upd.committed = -1 ∧ t.image = s.image ∧
          t.markers = s.markers ++ [⟨true, s.dev.jobId, s.time.startTime, s.image.hash, 0⟩]) ∧
      (s.dev.mode = .loaded → ∃ t, exec .startTimeReached s = .next t ∧ t.dev.startMissed = true ∧
        t.dev.armPending = false ∧ t.dev.mode = .loaded ∧ t.seq.grid = true ∧ t.image = s.image ∧ t.mem = s.mem)) ∧
    ((s.dev.mode = .banked ∨ s.dev.mode = .faulted) → s.time.startKnown = true → s.seq.grid = false →
      ∃ t, exec .startTimeReached s = .next t ∧ t.seq.grid = true ∧ t.seq.frame = 0 ∧ t.seq.slot = 0 ∧
        t.seq.frameStart = s.time.startTime.toNat ∧ t.dev = s.dev ∧ t.mem = s.mem ∧ t.image = s.image ∧ t.faults = s.faults) ∧
    ((s.time.startKnown = false ∨ s.dev.mode ∉ [Mode.armed, .loaded, .banked, .faulted] ∨
      (s.dev.mode ∈ [Mode.banked, .faulted] ∧ s.seq.grid = true)) → exec .startTimeReached s = .next s)

/-- A slot miss is an occurrence of its unit, a HALT position carries one cell, and a due force is classified and alters
nothing. Derived from 07 R136; 07 R138; 07 R140; 14 R302; 14 R304; 11 R234. It rests also on the model's choices of
log 68, 137. -/
def Obligations.MissesPositionsAndForces : Prop :=
  ∀ s : State,
    (∀ m, schedules s = false → exec (.slotMiss m) s = .next s) ∧
    (schedules s = true → swf {} s.links = true →
      (∀ (m : MissUnit) (o : Occ) (b : Bool), (m, o, b) ∈ missUnits s →
        (b = false → exec (.slotMiss m) s = .next s) ∧
        (b = true → ∃ d, d.occ = o ∧ exec (.slotMiss m) s = .next { s with
          faults := { s.faults with detected := s.faults.detected ++ [d] } })) ∧
      ∀ k : Fin 64, let l := linkOf s k.val
        let late := l.awaited.any (fun x => decide (x.1 < s.seq.slot)) || (decide (4064 ≤ s.seq.slot) && !l.missing.isEmpty)
        (late = false → exec (.slotMiss (.cell k)) s = .next s) ∧
        (late = true → ∃ t d, exec (.slotMiss (.cell k)) s = .next t ∧ d.occ = occAt 0x0203 2 k.val ∧
          t = { s with links := t.links, faults := { s.faults with detected := s.faults.detected ++ [d] } } ∧
          ∀ i, linkOf t i = if i = k.val then { l with
            awaited := l.awaited.filter (fun x => !decide (x.1 < s.seq.slot))
            missing := if 4064 ≤ s.seq.slot then [] else l.missing
            events := l.events ||| 4 } else linkOf s i)) ∧
    (∀ (k : Fin 64) (n : Nat), (n % 16 ≠ 0 ∨ linkTakes s k.val = false ∨ 32 * (n + 1) ≤ 7 * s.time.now ∨
      (∃ x ∈ (linkOf s k.val).sent, x.1 = n)) → exec (.haltPosition k n) s = .next s) ∧
    (∀ (k : Fin 64) (n : Nat), n % 16 = 0 → linkTakes s k.val = true → 7 * s.time.now < 32 * (n + 1) →
      (∀ x ∈ (linkOf s k.val).sent, x.1 ≠ n) → announceReady s = false → swf {} s.links = true →
      let l := linkOf s k.val
      let due := s.rate.requestDue && s.time.parent == some k.val
      let now := clock64 (max s.time.now (32 * n / 7))
      ∃ t, exec (.haltPosition k n) s = .next t ∧
        t = { s with links := t.links, time := { s.time with now := now }
                     rate := { s.rate with requestDue := s.rate.requestDue && !(due && l.pendHalt.isEmpty) } } ∧
        (∀ i, i ≠ k.val → linkOf t i = linkOf s i) ∧
        (∀ h r, l.pendHalt = h :: r → linkOf t k.val = { l with pendHalt := r, sent := l.sent ++ [(n, h)] }) ∧
        (l.pendHalt = [] → due = true →
          linkOf t k.val = { l with sent := l.sent ++ [(n, mkControl 1 0 [BitVec.ofNat 8 (combinedRequest s).toNat])] }) ∧
        (l.pendHalt = [] → due = false → ∀ c r, l.pendControl = c :: r →
          linkOf t k.val = { l with pendControl := r, sent := l.sent ++ [(n, c)] }) ∧
        (l.pendHalt = [] → due = false → l.pendControl = [] →
          linkOf t k.val = { l with sent := l.sent ++ [(n, mkIdle)] })) ∧
    (s.faults.sources.find? (forceDue s) = none → exec .forcedOccurrence s = .next s) ∧
    ∀ code x f i o, s.dev.mode ≠ .off → s.dev.mode ≠ .boot → swf {} s.faults.sources = true →
      s.faults.sources.find? (forceDue s) = some (code, x) → x.force = some f → sourceInfo code = some i →
      forceOcc i f.2.toNat = some o → i.cls = 1 → reactionOf s i = 0 →
      ∃ t, exec .forcedOccurrence s = .next t ∧ (sourceOf t code).force = none ∧
        (sourceOf t code).count = satInc (sourceOf s code).count ∧ t.faults.countC = satInc s.faults.countC ∧
        (∀ c, c ≠ code → sourceOf t c = sourceOf s c) ∧ t.faults.detected = s.faults.detected ∧
        (x.mask = false → code ≠ 0x0102 → code ≠ 0x0301 → ∃ r, t.faults.log = (r :: s.faults.log).take 1024 ∧
          r.source = BitVec.ofNat 16 code ∧ r.disposition.getLsbD 2 = true ∧ r.location = locWord o) ∧
        (s.seq.grid = true → t.time = s.time) ∧ t.mem = s.mem ∧ t.links = s.links ∧ t.dev.mode = s.dev.mode ∧
        t.image = s.image ∧ t.seq = s.seq

/-- Q sets norm, clip factor and skip; the totals decide the levels, the hold reason and the next segment list. Derived
from 08 R170; 09 R184; 05 R97; 05 R98; 10 R205; 10 R206; 10 R207; 10 R209; 13 R271; 08 R175; 07 R153. It rests also
on the model's choices of log 53, 140, 144, 159, 168. -/
def Obligations.NormAndStatisticsSlots : Prop :=
  ∀ s : State,
    (∀ q r, (schedules s = false ∨ currentKind s ≠ 5) → exec (.clipFactor q r) s = .next s) ∧
    (∀ q0 r, schedules s = true → currentKind s = 5 →
      let q := normOf q0 s
      let n := sqrtW48 q
      let skip := isBroken q || n == 0x7FC00000 || n == 0x7F800000 || setsDiffer s r
      ∃ t, exec (.clipFactor q0 r) s = .next t ∧ t.train.normSq = q ∧ (isWholeFabric s = false → q = q0) ∧
        (isWholeFabric s = true → ∀ x, ownNorm s = some x → q = x) ∧ t.train.skip = skip ∧
        (skip = true → t.train.clip = 0x7FC00000 ∧ t.train.updateSkipped = true) ∧
        (skip = false → vle (ofF32 n.toNat) (ofF32 s.train.maxNorm.toNat) = true → t.train.clip = 0x3F800000) ∧
        (skip = false → vle (ofF32 n.toNat) (ofF32 s.train.maxNorm.toNat) = false →
          t.train.clip = BitVec.ofNat 32 (fdivc s.train.maxNorm.toNat n.toNat)) ∧
        (setsDiffer s r = true → t.upd.setMismatch = true ∧ t.train.setHold = true) ∧
        (setsDiffer s r = false → t.upd = s.upd ∧ t.train.setHold = s.train.setHold) ∧
        t.faults.detected.map (·.occ) = s.faults.detected.map (·.occ) ++
          (if setsDiffer s r then [occNone 0x0604] else []) ++
          (if s.rng.stepSeed = r.masterSeed then [] else [occNone 0x0209]) ∧
        (s.rng.stepSeed = r.masterSeed → r.othersSeedDiffer = false → t.rng = s.rng) ∧
        t.mem = s.mem ∧ t.links = s.links ∧ t.dev = s.dev ∧ t.seq = s.seq ∧ t.tele = s.tele) ∧
    (s.dev.mode = .running → s.seq.step ≠ 0 → mgmtRuns s = true → exec .nextSeedDelivery s =
      .next { s with rng := { s.rng with nextSeed := seedOf s.rng.jobSeed (s.seq.step + 1) } }) ∧
    ((s.dev.mode ≠ .running ∨ s.seq.step = 0 ∨ mgmtRuns s = false) → exec .nextSeedDelivery s = .next s) ∧
    (∀ x, (schedules s = false ∨ currentKind s ≠ 7 ∨ s.seq.segFrame ≠ 0 ∨ s.tele.decision.isSome = true) →
      exec (.fallbackDecision x) s = .next s) ∧
    (schedules s = true → currentKind s = 7 → s.seq.segFrame = 0 → s.tele.decision = none →
      (∀ y : Totals, ∃ x, totalsNow (some y) (slotPassed s) = some x ∧ x.conv = y.conv ∧ x.vec = y.vec ∧
        x.flags = y.flags ||| ownFlags (slotPassed s) ∧ x.masterNextSeed = y.masterNextSeed ∧
        (s.time.master = true → x.thresholds = (slotPassed s).tele.frozenCfg.1) ∧
        (s.time.master = false → x.thresholds = y.thresholds)) ∧
      (∀ y, totalsNow y (slotPassed s) = none → exec (.fallbackDecision y) s = .next (slotPassed s)) ∧
      ∀ y x, totalsNow y (slotPassed s) = some x → ∃ t d, exec (.fallbackDecision y) s = .next t ∧ t.tele.decision = some d ∧
        t.tele.totals = some x ∧ d.step = BitVec.ofNat 64 s.seq.step ∧
        (∀ l < (imageOf s).layers.length, ∀ y, (imageOf s).layers[l]? = some y →
          let v := (sget {} s.tele.levels l).level
          let breach := layerBreach (imageOf s) x l
          let clean := (sget 0 s.tele.cleanRuns l).toNat + 1
          (sget {} d.levels l).level = (if x.thresholds.getLsbD 31 = false then v
            else if breach = true then (if v.toNat < y.ceil then v + 1 else v)
            else if bits x.thresholds.toNat 8 8 ≤ clean ∧ y.floor < v.toNat then v - 1 else v) ∧
          (breach = true → sget 0 d.cleanRuns l = 0)) ∧
        t.seq.holdReason = (if x.flags.getLsbD 1 then 1 else if x.flags.getLsbD 0 then 2 else if s.train.setHold then 4 else 0) ∧
        t.train.batchLate = (s.train.batchLate || x.flags.getLsbD 0) ∧
        t.seq.next = assemble (imageOf s) (levelFn d.levels) (recomputeSet (imageOf s) (levelFn d.levels) false) (s.seq.step + 1) ∧
        (s.rng.nextSeed = x.masterNextSeed → t.faults = s.faults ∧ t.rng = s.rng) ∧
        (s.rng.nextSeed ≠ x.masterNextSeed → t.rng.mismatch = true ∧
          ∃ o, t.faults.detected = s.faults.detected ++ [o] ∧ o.occ = occNone 0x0209) ∧
        t.tele.levels = s.tele.levels ∧ t.seq.segs = s.seq.segs ∧ t.mem = s.mem ∧ t.links = s.links ∧ t.dev = s.dev)

/-- A vector op writes its function of the inputs of each active element, and nothing but its destination and its
counts. Derived from 06 R102; 06 R104; 06 R106; 06 R108; 06 R109; 06 R110; 06 R111; 06 R112; 06 R114; 07 R148; 09
R190. It rests also on the model's choices of log 24, 29, 79, 137, 152, 154. -/
def Obligations.VectorOpsApplyTheirFunction : Prop :=
  ∀ p ∈ vectorOps, ∀ (c : OpCmd) (s : State), opSkipped s p.2.1 c = false → vecFits c p.2.2.1 = true →
    (p.2.1 = 0x1D → spadFits (pMaskPlane c) ((pCount c + 7) / 8) = true) →
    (p.2.1 = 0x2D → spadFits (pAux c) (4 * 4097) = true) → OpReady s →
    let h := c.hearth.val
    let n := p.2.2.1
    let w := fmtBytes (opFmtOut c)
    let place := (spadKey h (opDst0 c), w * pCount c)
    ∃ t, exec (p.1 c) s = .next t ∧
      (∀ e < pCount c, elemAt t h (opDst0 c) w e =
        if onAt s c e then
          narrow (opFmtOut c) (p.2.2.2 s c e (inAt s c n 0 e) (inAt s c n 1 e) (inAt s c n 2 e)) % 256 ^ w
        else if pMaskZero c then 0 else elemAt s h (opDst0 c) w e) ∧
      OnlySpad s t [place] ∧ OpFrame s t c false [place] 0 (vecStruck s c n (opDst0 c) w) ∧
      (pStatEn c = true → (vecRecord s t c).c0 =
        satAdd (vecRecord s s c).c0 ((List.range (pCount c)).filter (onAt s c)).length)

/-- VCMP writes mask bits, VRAND raw draws and VCSUM the compensated sum of each active element. Derived from 04 R87; 05
R94; 06 R104; 06 R108; 06 R109; 06 R110; 06 R113; 06 R114. It rests also on the model's choices of log 79, 137, 152. -/
def Obligations.VectorOpsOfTheirOwnForm : Prop :=
  ∀ (c : OpCmd) (s : State), OpReady s →
    let h := c.hearth.val
    let n := pCount c
    let k := (n + 7) / 8
    (opSkipped s 0x1C c = false → vecInFits c 2 = true → spadFits (opDst0 c) k = true →
      ∃ t, exec (.vcmp c) s = .next t ∧
        (∀ e < 8 * k, planeBit (mread t.mem.spad (spadKey h (opDst0 c)) k) e =
          if e < n ∧ onAt s c e = true then fpred (pA c % 8) (inAt s c 2 0 e) (inAt s c 2 1 e)
          else if e < n ∧ pMaskZero c = true then false
          else planeBit (mread s.mem.spad (spadKey h (opDst0 c)) k) e) ∧
        OnlySpad s t [(spadKey h (opDst0 c), k)] ∧
        OpFrame s t c false [(spadKey h (opDst0 c), k)] 0 (vecStruck s c 2 (opDst0 c) 1)) ∧
    (opSkipped s 0x2E c = false → vecInFits c 0 = true → spadFits (opDst0 c) (4 * n) = true →
      ∃ t, exec (.vrand c) s = .next t ∧
      (∀ e < n, elemAt t h (opDst0 c) 4 e =
        if onAt s c e then drawBits s c e % 256 ^ 4 else if pMaskZero c then 0 else elemAt s h (opDst0 c) 4 e) ∧
      OnlySpad s t [(spadKey h (opDst0 c), 4 * n)] ∧
      OpFrame s t c false [(spadKey h (opDst0 c), 4 * n)] 0 (vecStruck s c 0 (opDst0 c) 4)) ∧
    (opSkipped s 0x2F c = false → spadFits (opSrc0 c) (4 * n) = true → spadFits (opSrc1 c) (4 * n) = true →
      spadFits (opSrc2 c) (2 * n) = true → maskFits c = true → spadFits (opDst0 c) (4 * n) = true →
      spadFits (opDst1 c) (2 * n) = true →
      let r := fun e => csum (elemAt s h (opSrc0 c) 4 e) (elemAt s h (opSrc1 c) 4 e) (elemAt s h (opSrc2 c) 2 e)
      let places := [(spadKey h (opDst0 c), 4 * n), (spadKey h (opDst1 c), 2 * n)]
      ∃ t, exec (.vcsum c) s = .next t ∧
        (∀ e < n, elemAt t h (opDst1 c) 2 e =
          if onAt s c e then (r e).2 % 256 ^ 2 else if pMaskZero c then 0 else elemAt s h (opDst1 c) 2 e) ∧
        (∀ e < n, Apart (spadKey h (opDst0 c) + 4 * e) 4 [(spadKey h (opDst1 c), 2 * n)] → elemAt t h (opDst0 c) 4 e =
          if onAt s c e then (r e).1 % 256 ^ 4 else if pMaskZero c then 0 else elemAt s h (opDst0 c) 4 e) ∧
        OnlySpad s t places ∧ OpFrame s t c false places 0 (struckStream s c (opSrc0 c) 4 + struckStream s c (opSrc1 c) 4 +
          struckStream s c (opSrc2 c) 2 + struckPlane s c (usesPlane c) + struckMerge s c (opDst0 c) 4 +
          struckMerge s c (opDst1 c) 2))

/-- MATMUL, CONVERT, SOFTMAX and SAMPLE complete, write the results of their rows or blocks and nothing but their
destinations. Derived from 03 R46; 03 R54; 03 R55; 04 R68; 04 R83; 02 R39; 08 R166; 08 R180; 06 R121; 06 R123; 06
R125; 18 R375. It rests also on the model's choices of log 24, 26, 27, 28, 30, 31, 79, 137, 152, 153, 155, 156, 157,
158. -/
def Obligations.MatmulConvertSoftmaxAndSample : Prop :=
  ∀ (c : OpCmd) (s : State), OpReady s →
    let h := c.hearth.val
    let same := fun t : State => t.dev = s.dev ∧ t.links = s.links ∧ t.image = s.image ∧ t.seq = s.seq ∧ t.fence = s.fence
    (opSkipped s 0x01 c = false → matmulFits s c = true →
      let ga := tagOf s (mTensorA c)
      let gb := tagOf s (mTensorB c)
      let bad := !tagAgrees ga (mFmtA c) (mTransA c) || !tagAgrees gb (mFmtB c) (mTransB c) ||
        !t32Valid (tagT32 ga) || !t32Valid (tagT32 gb)
      let row := fun (a g fmt : Nat) (tr : Bool) (n i : Nat) =>
        (operandRows s h a g tr (mFirstK c) (operandPlanes g fmt n (mKBlocks c))).getD i []
      let w := fmtBytes (mFmtOut c)
      ∃ t, exec (.matmul c) s = .next t ∧
        (∀ i < mRows c, ∀ j < mCols c, elemAt t h (opSrc2 c) w (i * mCols c + j) =
          (outputStage (mFmtOut c) (mOvf c) bad (scaleProduct (tagT32 ga) (tagT32 gb) (tagRotated ga && tagRotated gb))
            (rootOf s c (i * mCols c + j) (nodeOf (isPair (mFmtA c)) (isPair (mFmtB c))
              (row (opSrc0 c) ga (mFmtA c) (mTransA c) (mRows c) i)
              (row (opSrc1 c) gb (mFmtB c) (mTransB c) (mCols c) j)))).code % 256 ^ w) ∧
        OnlySpad s t [(spadKey h (opSrc2 c), w * (mRows c * mCols c))] ∧ t.mem.dram = s.mem.dram ∧ same t ∧
        t.fresh = s.fresh + b2n (rootIsSplit s c) ∧
        Mends s t [(spadKey h (opSrc2 c), w * (mRows c * mCols c))] ∧
        ∀ i, hearthOf t i = if i = h then { streamedAt s c false i with workClocks := (hearthOf s i).workClocks + mClocks c }
          else hearthOf s i) ∧
    (opSkipped s 0x08 c = false → pDiscard c = true → ∃ t, exec (.convert c) s = .next t ∧
      t = { s with hearths := t.hearths, faults := t.faults } ∧ Reports s t h 0 (convStruck s c) ∧
      ∀ i, hearthOf t i = streamedAt s c false i) ∧
    (opSkipped s 0x08 c = false → pDiscard c = false → tagAgrees (tagOf s (opTensor c)) (pTarget c) false = false →
      ∃ t, exec (.convert c) s = .next t ∧ t.mem.spad = s.mem.spad ∧ t.mem.dram = s.mem.dram ∧ t.tele = s.tele ∧
        t.hearths = s.hearths ∧ same t ∧ ∃ d ∈ t.faults.detected, d.occ = occAt 0x0105 1 h) ∧
    (opSkipped s 0x08 c = false → pDiscard c = false → tagAgrees (tagOf s (opTensor c)) (pTarget c) false = true →
      convertFits s c = true → swf {} s.tele.conv = true →
      let r := convert s c
      ∃ t, exec (.convert c) s = .next t ∧ t.mem.spad = convSpad s c r ∧ same t ∧
        (pTagWrite c = false → t.mem.dram = s.mem.dram) ∧
        Mends s t ((r.planes.map (fun z => (spadKey h (planeUnit (opDst0 c)) + z.1, z.2.length))) ++
          [(spadKey h (opDst1 c), r.residue.length)]) ∧
        (∀ i, sget {} t.tele.conv i =
          if i = pStatId c then statAdd r.counts (sget {} s.tele.conv i) else sget {} s.tele.conv i) ∧
        ∀ i, hearthOf t i = if i = h then { streamedAt s c false i with
          crc := if 2 ≤ currentKind s ∧ currentKind s ≤ 5 then crcRun (hearthOf s i).crc (convBytes c r) else (hearthOf s i).crc }
          else hearthOf s i) ∧
    let w := fmtBytes (opFmtOut c)
    let own := fun r => (shareElems s c).getD r []
    let flags := if pColBase c = 0 then [(spadKey h (pFlagPlane c), flagBytes (shareRowCount c))] else []
    let shown := fun t : State => { t with splitRows := s.splitRows, fresh := s.fresh }
    (opSkipped s 0x30 c = false → softmaxFits c = true →
      let lse := if pLse c then [(spadKey h (opDst1 c), 4 * shareRowCount c)] else []
      ∃ t, exec (.softmax c) s = .next t ∧
        (∀ e < pCount c, Apart (spadKey h (opDst0 c) + w * e) w (lse ++ flags) → elemAt t h (opDst0 c) w e =
          narrow (opFmtOut c) ((softOf s c id (e / pWidth c) (own (e / pWidth c))).out.getD (e % pWidth c) 0) % 256 ^ w) ∧
        OnlySpad s t ((spadKey h (opDst0 c), w * pCount c) :: lse ++ flags) ∧
        OpFrame s (shown t) c false ((spadKey h (opDst0 c), w * pCount c) :: lse) 0 (rowStruck s c) ∧
        (isSplit c = false → t.splitRows = s.splitRows ∧ t.fresh = s.fresh)) ∧
    (opSkipped s 0x31 c = false → sampleFits c = true →
      let pairs := if pLse c then [(spadKey h (opDst1 c), 8 * shareRowCount c)] else []
      let places := if pColBase c = 0 then (spadKey h (opDst0 c), 4 * shareRowCount c) :: pairs else []
      ∃ t, exec (.sample c) s = .next t ∧
        (pColBase c = 0 → ∀ r < shareRowCount c, Apart (spadKey h (opDst0 c) + 4 * r) 4 (pairs ++ flags) →
          elemAt t h (opDst0 c) 4 r = (sampleRow s c r (own r)).2.1 % 256 ^ 4) ∧
        (pColBase c ≠ 0 → t.mem.spad = s.mem.spad) ∧ OnlySpad s t (places ++ flags) ∧
        OpFrame s (shown t) c false places 0 (rowStruck s c) ∧
        (isSplit c = false → t.splitRows = s.splitRows ∧ t.fresh = s.fresh))

/-- With GUARD an element of an update op keeps a, f, m and v where its gradient or a new value is not finite. Derived
from 09 R182; 09 R183; 09 R187; 09 R188; 09 R189; 10 R201; 10 R202. It rests also on the model's choices of log 35,
79, 137, 152, 159. -/
def Obligations.GuardKeepsAnElement : Prop :=
  ∀ p ∈ [(Instr.updSgdm, 0x32, Rule.sgdm), (.updAdam, 0x33, .adam), (.updSign, 0x34, .sign)], ∀ (c : OpCmd) (s : State),
    opSkipped s p.2.1 c = false → updFits s c = true → tileSlots s c ≤ 2 →
    (updFrozen s c).flags.getLsbD 3 = false → memWf s.mem.spad = true → swf {} s.mem.stackTable = true →
    let n := tileSlots s c
    let k := updCfg p.2.2 (updFrozen s c)
    ∃ t, exec (p.1 c) s = .next t ∧ t.train.nodes = (updNodes s c k (updElems s c)).foldl noteNode s.train.nodes ∧
      ∀ e < pCount c, ∀ q, (updElems s c)[e]? = some q →
      let y := updNew k q.2.1 q.2.2
      let finite := visFin (ofF32 q.2.1) && visFin (ofF32 y.a) && visFin (ofB16 y.f) && visFin (ofF32 y.m) &&
        (p.2.2 != .adam || visFin (ofF32 y.v))
      (tileElems n (pieces (tileBytes n) (spadRead t c.hearth.val (opSrc0 c) (pCount c / 1024 * tileBytes n))))[e]? =
        some (if q.1 = true ∧ ((updFrozen s c).flags.getLsbD 0 = false ∨ finite = true) then cutElem y else q.2.2)

/-- Each bellows op writes its record for every share row, reports malformed W48 containers, and changes nothing else.
Derived from 06 R115; 06 R116; 06 R117; 06 R118; 06 R119; 04 R69; 03 R53; 03 R64; 02 R32; 06 R110; 08 R169. It rests
also on the model's choices of log 32, 33, 34, 79, 137, 152, 158, 159. -/
def Obligations.BellowsReduceRows : Prop :=
  ∀ (c : OpCmd) (s : State), OpReady s →
    let h := c.hearth.val
    let f := (bellowsSrc s c).1
    let o := opFmtOut c
    let w := fmtBytes o
    let n := shareRowCount c
    let rows := bellowsRows s c
    (∀ p ∈ bellowsOps, opSkipped s p.2.1 c = false → (f = 5 ∨ f = 6) → tapDiscarded s c = false → bellowsInFits s c = true →
      spadFits (opDst0 c) (p.2.2.1 c * n) = true → ∃ t, exec (p.1 c) s = .next t ∧
        (∀ r < n, mread t.mem.spad (spadKey h (opDst0 c) + p.2.2.1 c * r) (p.2.2.1 c) = p.2.2.2 c (rows.getD r [])) ∧
        OnlySpad s t [(spadKey h (opDst0 c), p.2.2.1 c * n)] ∧
        OpFrame s t c true [(spadKey h (opDst0 c), p.2.2.1 c * n)] 0 (bellowsStruck s c)) ∧
    ((f = 5 ∨ f = 6 ∨ f = 7) → tapDiscarded s c = false → bellowsInFits s c = true →
      (∀ p ∈ [(Instr.bsum, 0x44, fun v => v), (.bsumsq, 0x45, squareLeaf)], opSkipped s p.2.1 c = false →
        spadFits (sumDst c) (w * n) = true → ∃ t, exec (p.1 c) s = .next t ∧
          (∀ r < n, elemAt t h (sumDst c) w r = sumCode o (canonicalTree ((rows.getD r []).map (fun x =>
            if x.on then p.2.2 (bVal f x) else vzero))) % 256 ^ w) ∧
          t.train = (if p.2.1 = 0x45 then (noteNodes s (squareNodes s c)).train else s.train) ∧
          OnlySpad s t [(spadKey h (sumDst c), w * n)] ∧ OpFrame s { t with train := s.train } c true
            [(spadKey h (sumDst c), w * n)] (badCount f rows) (bellowsStruck s c)) ∧
      (opSkipped s 0x46 c = false → (pColBase c = 0 ∨ spadFits (opSrc1 c) (8 * n) = true) →
        spadFits (opDst0 c) (w * pCount c) = true → spadFits (opDst1 c) (8 * n) = true →
        let carry := fun r => if pColBase c = 0 then 0 else elemAt s h (opSrc1 c) 8 r
        let cin := fun r => (ofW48c (carry r)).1
        let run := fun r => prefixRow f (cin r) [] (rows.getD r [])
        let places := [(spadKey h (opDst0 c), w * pCount c), (spadKey h (opDst1 c), 8 * n)]
        ∃ t, exec (.bprefix c) s = .next t ∧
          (∀ r < n, elemAt t h (opDst1 c) 8 r = encodeF w48 (((run r).getLast?).elim (cin r) (·.2.1)) % 256 ^ 8) ∧
          (∀ e < pCount c, Apart (spadKey h (opDst0 c) + w * e) w [(spadKey h (opDst1 c), 8 * n)] →
            elemAt t h (opDst0 c) w e =
              sumCode o (((run (e / pWidth c))[e % pWidth c]?).elim vzero (·.2.1)) % 256 ^ w) ∧
          OnlySpad s t places ∧ OpFrame s t c true places
            (badCount f rows + ((List.range n).filter (fun r => (ofW48c (carry r)).2)).length)
            (bellowsStruck s c + if pColBase c = 0 then 0 else struckBytes s h (opSrc1 c) (8 * n)))) ∧
    (opSkipped s 0x48 c = false → spadFits (opSrc0 c) (8 * pCount c) = true → spadFits (opSrc1 c) (8 * pCount c) = true →
      maskFits c = true → spadFits (opDst1 c) (8 * pCount c) = true →
      let x := fun a e => ofW48c (elemAt s h a 8 e)
      ∃ t, exec (.bnode c) s = .next t ∧
        (∀ e < pCount c, elemAt t h (opDst1 c) 8 e =
          if onAt s c e then encodeF w48 (wadd (x (opSrc0 c) e).1 (x (opSrc1 c) e).1) % 256 ^ 8
          else if pMaskZero c then 0 else elemAt s h (opDst1 c) 8 e) ∧
        OnlySpad s t [(spadKey h (opDst1 c), 8 * pCount c)] ∧
        OpFrame s t c true [(spadKey h (opDst1 c), 8 * pCount c)]
          (((List.range (pCount c)).filter (onAt s c)).map (fun e => b2n (x (opSrc0 c) e).2 + b2n (x (opSrc1 c) e).2)).sum
          (struckStream s c (opSrc0 c) 8 + struckStream s c (opSrc1 c) 8 + struckPlane s c (usesPlane c) +
            struckMerge s c (opDst1 c) 8)) ∧
    (let k := 8 * pTopK c
     opSkipped s 0x49 c = false → spadFits (opSrc0 c) (k * n) = true → spadFits (opSrc1 c) (k * n) = true →
      spadFits (opDst0 c) (k * n) = true → ∃ t, exec (.bmerge c) s = .next t ∧
        (∀ r < n, mread t.mem.spad (spadKey h (opDst0 c) + k * r) k =
          (rankFill (pTopK c) ((pairsAt s c (opSrc0 c)).getD r [] ++ (pairsAt s c (opSrc1 c)).getD r [])).flatMap pairBytes) ∧
        OnlySpad s t [(spadKey h (opDst0 c), k * n)] ∧
        OpFrame s t c true [(spadKey h (opDst0 c), k * n)] 0
          (struckBytes s h (opSrc0 c) (k * n) + struckBytes s h (opSrc1 c) (k * n)))

/-- Flue transfers, atomics and spine combinations write their target bytes and no other, and a stash overrun writes
none. Derived from 07 R149; 07 R151; 08 R161; 08 R163; 09 R192; 12 R248; 12 R256; 12 R258; 12 R261; 04 R69. It rests
also on the model's choices of log 36, 37, 38, 39, 40, 79, 137, 152, 160, 161. -/
def Obligations.TransfersMoveTheirBytes : Prop :=
  (∀ (h : Fin 1152) (e : BitVec 256) (s : State), flSkipped s h.val e = false → memWf s.mem.spad = true →
    memWf s.fabric.buffers = true → memWf s.mem.cacheTier = true →
    let n := flBytes e
    let a := flSpad e
    let key := spadKey h.val a
    let b := bufferKey (flRegion e) + flOffset e
    (spadFits a n = true →
      (∀ p, flKind e = 3 → physicalOf s (flPeer e) = some p → ∃ t, exec (.flueTransfer h e) s = .next t ∧
        mread t.mem.spad (spadKey p a) n = flArrive s e (mread s.mem.spad key n) ∧ OnlySpad s t [(spadKey p a, n)] ∧
        Mends s t [(spadKey p a, n)] ∧ t = { s with
          mem := { s.mem with spad := t.mem.spad, spadPoison := t.mem.spadPoison }, fresh := s.fresh + b2n (flTranspose e) }) ∧
      (flKind e = 4 → ∃ t, exec (.flueTransfer h e) s = .next t ∧
        (∀ x, mget t.fabric.buffers x =
          if b ≤ x ∧ x < b + n then mget s.mem.spad (key + (x - b)) else mget s.fabric.buffers x) ∧
        t = { s with fabric := { s.fabric with buffers := t.fabric.buffers } }) ∧
      (flKind e = 5 → ∃ t, exec (.flueTransfer h e) s = .next t ∧
        mread t.mem.spad key n = flArrive s e (mread s.fabric.buffers b n) ∧ OnlySpad s t [(key, n)] ∧
        Mends s t [(key, n)] ∧ t = { s with
          mem := { s.mem with spad := t.mem.spad, spadPoison := t.mem.spadPoison }, fresh := s.fresh + b2n (flTranspose e) })) ∧
    (flTarget s e = none → flKind e ∈ [1, 2, 6, 7] → spadFits a n = true → exec (.flueTransfer h e) s = .next s) ∧
    (∀ g r, flTarget s e = some (g, r) →
      let place := flPlace s r e
      (spadFits a n = true → flKind e = 1 → flValid s r e = true → ∃ t, exec (.flueTransfer h e) s = .next t ∧
        OnlySpad s t [(key, n)] ∧ Mends s t [(key, n)] ∧ t.mem.dram = s.mem.dram ∧ t.mem.cacheTier = s.mem.cacheTier ∧ t.links = s.links ∧
        t.dev = s.dev ∧ t.image = s.image ∧
        (flTranspose e = false → s.mem.lines = [] → s.mem.lastWritten = [] → regionPoison s r place n = [] →
          mread t.mem.spad key n = regionRead s r place n ∧ t.faults = s.faults)) ∧
      (spadFits a n = true → flKind e = 2 →
        (r.role = 7 → exec (.flueTransfer h e) s = .next s) ∧
        (r.role = 3 → stashFits s r e = false → ∃ t d, exec (.flueTransfer h e) s = .next t ∧ d.occ = occAt 0x0205 1 h.val ∧
          t = { s with train := { s.train with stashOverrun := true }
                       faults := { s.faults with detected := s.faults.detected ++ [d] } }) ∧
        (r.role ≠ 7 → (r.role = 3 → stashFits s r e = true) → flValid s r e = true →
          ∃ t, exec (.flueTransfer h e) s = .next t ∧ t.mem.spad = s.mem.spad ∧ t.links = s.links ∧ t.dev = s.dev ∧
          t.mem.cacheTier = (regionWrite s r place (mread s.mem.spad key n)).cacheTier ∧
          ((r.tier = 2 ∨ flHint e ≠ 2) → t.mem.dram = (regionWrite s r place (mread s.mem.spad key n)).dram) ∧
          (r.tier ≠ 2 → flHint e = 2 → t.mem.dram = s.mem.dram)))) ∧
    (∀ r, regionNo s (flRegion e) = some r →
      let place := flPlace s r e
      (∀ ring, flKind e = 7 → flValid s r e = true → currentKind s = 6 → roleRegion s 4 = some ring →
        let k := chunkOf s
        ringUsed s k + n ≤ ringSlot → ∃ t, exec (.flueTransfer h e) s = .next t ∧ t.mem.spad = s.mem.spad ∧
          t.upd.copies = s.upd.copies ++ [⟨k, flRegion e, place, k % 2 * ringSlot + ringUsed s k, n⟩] ∧
          (sget .free s.upd.states k ≠ .free → t.upd.states = s.upd.states) ∧ t.links = s.links ∧ t.dev = s.dev) ∧
      (flKind e = 6 → spadFits a (atomicSpan s e) = true → r.tier = 2 → atomicBytes r.atomic ≠ 0 →
        flOffset e + n ≤ regionBytes r →
        let w := atomicBytes r.atomic
        let old := fun i => leNat (mread s.mem.cacheTier (cacheKey r (flOffset e) + w * i) w)
        let word := fun (x : State) (i : Nat) => leNat (mread x.mem.spad (key + w * i) w)
        ∃ t, exec (.flueAtomic h e) s = .next t ∧
          t = { s with mem := { s.mem with
            spad := t.mem.spad, spadPoison := t.mem.spadPoison, cacheTier := t.mem.cacheTier } } ∧
          (∀ x, (x < cacheKey r (flOffset e) ∨ cacheKey r (flOffset e) + n ≤ x) → mget t.mem.cacheTier x = mget s.mem.cacheTier x) ∧
          (∀ i, w * i < n → leNat (mread t.mem.cacheTier (cacheKey r (flOffset e) + w * i) w) =
            if r.atomic = 8 then (if old i = word s (2 * i) then word s (2 * i + 1) else old i)
            else atomicOp r.atomic (8 * w) (old i) (word s i) % 256 ^ w) ∧
          (r.atomic ≠ 8 → t.mem.spad = s.mem.spad ∧ t.mem.spadPoison = s.mem.spadPoison) ∧
          (r.atomic = 8 → OnlySpad s t [(key, 2 * n)] ∧ Mends s t [(key, 2 * n)] ∧
            ∀ i, 8 * i < n → word t (2 * i) = old i ∧ word t (2 * i + 1) = word s (2 * i + 1))))) ∧
  ∀ (e : BitVec 128) (s : State), scheduleStopped s = false → memWf s.fabric.buffers = true → swf {} s.hearths = true →
    let op := bits e.toNat 92 4
    let dies := bits e.toNat 80 8
    let w := spineBytes op
    let out := spineOut s op dies (bits e.toNat 64 16)
    let b := bufferKey (bits e.toNat 48 16)
    let part := fun d i => leNat (mread s.fabric.buffers (bufferKey (bits e.toNat 64 16) + spineShare * d + w * i) w)
    let broken := op = 0 ∨ 4 < op ∨ dies = 0 ∨ bits e.toNat 88 4 ≠ 0 ∨ bits e.toNat 0 20 ≠ 0 ∨
      (op = 2 ∧ bits e.toNat 43 5 = 0)
    (broken → exec (.spineCombination e) s = .next s) ∧
    (¬broken → ∃ t, exec (.spineCombination e) s = .next t ∧
      (∀ i < out.length, leNat (mread t.fabric.buffers (b + w * i) w) = out.getD i 0 % 256 ^ w) ∧
      (∀ x, (x < b ∨ b + w * out.length ≤ x) → mget t.fabric.buffers x = mget s.fabric.buffers x) ∧
      (dies = 3 → ∀ i < spineShare / w, out[i]? = some (spineElem op (part 0 i) (part 1 i))) ∧
      (∀ x < 1152, hearthOf t x = if op = 1 ∧ dies.testBit (dieOf x) = true then
        { hearthOf s x with amax := BitVec.ofNat 32 (out.foldl fmax 0) } else hearthOf s x) ∧
      t = { s with fabric := { s.fabric with buffers := t.fabric.buffers }, hearths := t.hearths })

/-- No command is refused, and only a data-path op or a flue transfer outside the scratchpad stops. Derived from 01 R13;
01 R14; 01 R17; 07 R141; 07 R157; 08 R170; 14 R293; 00 R1. It rests also on the model's choices of log 79, 137, 152. -/
def Obligations.OnlyScratchpadRangeStops : Prop :=
  (∀ (c : Instr) (s : State), (∃ t, exec c s = .next t) ∨
    (exec c s = .fault .scratchpadRange ∧
      ((∃ p ∈ dataOps, ∃ o, c = p.1 o ∧ opSkipped s p.2 o = false) ∨
        ∃ h e, (c = .flueTransfer h e ∨ c = .flueAtomic h e) ∧ flSkipped s h.val e = false))) ∧
  (∀ p ∈ dataOps, ∀ (o : OpCmd) (s : State), (opSkipped s p.2 o = true → exec (p.1 o) s = .next s) ∧
    ((isFenced s o.hearth.val = true ∨ isMapped s o.hearth.val = false ∨ isGated s o.hearth.val = true ∨
      s.seq.stopped = true ∨ updateSkips s = true ∨ opCode o ≠ p.2) → exec (p.1 o) s = .next s)) ∧
  (∀ (h : Fin 1152) (e : BitVec 256) (s : State), flSkipped s h.val e = true →
    exec (.flueTransfer h e) s = .next s ∧ exec (.flueAtomic h e) s = .next s) ∧
  (∀ p ∈ vectorOps, ∀ (o : OpCmd) (s : State), opSkipped s p.2.1 o = false → vecFits o p.2.2.1 = false →
    exec (p.1 o) s = .fault .scratchpadRange) ∧
  (∀ (o : OpCmd) (s : State),
    (matmulFits s o = true → ∃ t, exec (.matmul o) s = .next t) ∧ (convertFits s o = true → ∃ t, exec (.convert o) s = .next t) ∧
    (softmaxFits o = true → ∃ t, exec (.softmax o) s = .next t) ∧ (sampleFits o = true → ∃ t, exec (.sample o) s = .next t)) ∧
  ∀ s : State, (∀ w, ∃ t, exec (.pwrcapAssert w) s = .next t) ∧ (∃ t, exec .pwrcapRelease s = .next t) ∧
    (∀ d, ∃ t, exec (.damperEvaluation d) s = .next t) ∧ ∀ k, ∃ t, exec (.refreshNormal k) s = .next t

/-- From BANKED a step leads to BANKED, FAULTED, BOOT or OFF, from FAULTED to FAULTED, BOOT or OFF. Derived from 13
R268; 14 R305; 14 R308; 14 R309. -/
def Obligations.BankedAndFaultedAreLeftByReset : Prop :=
  Confined State.reset ∧ ∀ s t : State, Confined s → step s = .next t → Confined t ∧
    (s.dev.mode = .banked → t.dev.mode ∈ [Mode.banked, .faulted, .boot, .off]) ∧
    (s.dev.mode = .faulted → t.dev.mode ∈ [Mode.faulted, .boot, .off])

/-- An entry with exactly one value holds it at subindex 0x00, and any other subindex is refused with 0x0102. Formalises
17 R347. -/
def Obligations.SingleValueEntriesAnswerAtZeroOnly : Prop :=
  (∀ i ∈ [0x2001, 0x3420, 0x3421, 0x3430, 0x3440, 0x5010], ∃ x, entryOf i = some ⟨true, [x]⟩) ∧
  ∀ s : State,
    (∀ i ∈ [0x2001, 0x3420, 0x3421, 0x3430, 0x3440, 0x5010], ∀ (a : Agent) (sub : BitVec 8) (v : DictValue),
      isHeard s a = true → sub ≠ 0 → exec (.dictionaryWrite a (BitVec.ofNat 16 i) sub v) s = .next (coded s 0x0102)) ∧
    (∀ a : Agent, isHeard s a = true → mayWrite a = true → s.dev.mode = .standby → s.dev.activity = 0 →
      exec (.dictionaryWrite a 0x2001 0 ⟨4, 0, natLe 4 1⟩) s = exec (.powerUp a 0) s) ∧
    ∀ (m : Msg) (x : Session), InSession s 1 m x → isNew x m.seq.toNat = true →
      (∀ i ∈ [0x2001, 0x3420, 0x3421, 0x3430, 0x3440, 0x5010], ∀ sub : BitVec 8, sub ≠ 0 →
        m.body = natBe 2 i ++ natBe 1 sub.toNat ++ zeros 9 →
        ∃ t, exec (.readEntry m) s = .next t ∧ RanOnce s t m 1 x 0x0102 [] ∧ t.dev = { s.dev with lastCode := 0x0102 }) ∧
      (m.body = [0x20, 0x01, 0] ++ zeros 9 → ∃ t, exec (.readEntry m) s = .next t ∧ RanOnce s t m 1 x 0x0201 []) ∧
      (m.body = [0x50, 0x10, 0] ++ zeros 9 → ∃ t, exec (.readEntry m) s = .next t ∧
        RanOnce s t m 1 x 0 ([4, 0] ++ natBe 4 (2 ^ 2 * b2n s.faults.cEnable + 2 * b2n s.faults.pulsing + b2n s.faults.errHeld))) ∧
      ∀ o n, 1 ≤ n → n ≤ 3072 → o + n ≤ 3072 →
        (∀ p ∈ [(0x3420, fun l => levelByte (sget {} s.tele.levels l)), (0x3421, fun l => sget 0 s.tele.cleanRuns l)],
          m.body = natBe 2 p.1 ++ [0, 0] ++ natBe 4 o ++ natBe 2 n ++ [0, 0] → ∃ t, exec (.readEntry m) s = .next t ∧
            RanOnce s t m 1 x 0 ([10, 0] ++ (List.range n).map (fun j =>
              if s.image.loaded = none ∨ o + j < (imageOf s).layers.length then p.2 (o + j) else 0))) ∧
        ∀ p ∈ [(0x3430, fun l => (sget 0 s.tele.silence l).toNat), (0x3440, fun l => (sget 0x7FC00000 s.tele.watchNorms l).toNat)],
          m.body = natBe 2 p.1 ++ [0, 0] ++ natBe 4 o ++ natBe 2 n ++ [0, 0] → ∃ t, exec (.readEntry m) s = .next t ∧
            RanOnce s t m 1 x 0 ([10, 0] ++ (List.range n).map (fun j => (natLe 4 (p.2 ((o + j) / 4))).getD ((o + j) % 4) 0))

/-- The owner withdraws a PENDING message, and of a withdrawal and TAKEN the one applied first decides. Formalises 15
R318. -/
def Obligations.WithdrawalAgainstTaken : Prop :=
  ∀ (m : Fin 32) (a b : Fin 64) (s : State), swf {} s.mail = true → a.val ≠ 0 → (mailOf s m.val).owner = a.val →
    (mailOf s m.val).status = 1 → b.val = mailReceiver m.val →
    (∃ t, exec (.mailboxWithdraw m a) s = .next t ∧ MailboxOnly s t m.val { mailOf s m.val with status := 0 } ∧
      exec (.mailTaken m b) t = .next t ∧ (mailOf t m.val).status = 0 ∧ (mailOf t m.val).owner = a.val) ∧
    ∃ t, exec (.mailTaken m b) s = .next t ∧ MailboxOnly s t m.val { mailOf s m.val with status := 2 } ∧
      exec (.mailboxWithdraw m a) t = .next t ∧ (mailOf t m.val).status = 2 ∧ (mailOf t m.val).owner = a.val
end

