-- ==== Sys2Proof/Laws/Memory.lean ====
section
/-! SUPPORT. The basic laws of tables and memories: a read after a write, and the canonical form of each. -/

namespace Sys2Proof.Machine

variable {α : Type} [DecidableEq α] {d : α}

theorem sabove_mono : ∀ {t : Sparse α} {b c : Nat}, c ≤ b → sabove d b t = true → sabove d c t = true
  | [], _, _, _, _ => rfl
  | (k, v) :: t, b, c, h, hb => by
    simp only [sabove, Bool.and_eq_true, decide_eq_true_eq] at hb ⊢
    exact ⟨⟨Nat.le_trans h hb.1.1, hb.1.2⟩, hb.2⟩

theorem sput_above : ∀ {t : Sparse α} {b i : Nat} {v : α}, b ≤ i → sabove d b t = true →
    sabove d b (sput d t i v) = true
  | [], b, i, v, h, _ => by
    unfold sput; split <;> simp_all [sabove]
  | (k, w) :: t, b, i, v, h, hb => by
    simp only [sabove, Bool.and_eq_true, decide_eq_true_eq] at hb
    unfold sput
    split <;> rename_i h1
    · split <;> rename_i h2
      · simpa [sabove] using hb
      · simpa [sabove] using ⟨⟨h, h2⟩, ⟨by omega, hb.1.2⟩, hb.2⟩
    · split <;> rename_i h3
      · split <;> rename_i h4
        · exact sabove_mono (by omega) hb.2
        · subst h3
          simpa [sabove] using ⟨⟨h, h4⟩, hb.2⟩
      · simpa [sabove] using ⟨hb.1, sput_above (by omega) hb.2⟩

/-- Writing one key keeps the canonical form. -/
theorem sput_swf {t : Sparse α} {i : Nat} {v : α} (h : swf d t = true) : swf d (sput d t i v) = true :=
  sput_above (Nat.zero_le _) h

theorem smod_swf {t : Sparse α} {i : Nat} {f : α → α} (h : swf d t = true) : swf d (smod d t i f) = true :=
  sput_swf h

theorem smap_above {f : α → α} : ∀ {t : Sparse α} {b : Nat}, sabove d b t = true → sabove d b (smap d f t) = true
  | [], _, _ => rfl
  | (k, v) :: t, b, h => by
    simp only [sabove, Bool.and_eq_true, decide_eq_true_eq] at h
    unfold smap
    split <;> rename_i h1
    · exact smap_above (sabove_mono (by omega) h.2)
    · simp only [sabove, Bool.and_eq_true, decide_eq_true_eq]
      exact ⟨⟨h.1.1, h1⟩, smap_above h.2⟩

theorem smap_swf {f : α → α} {t : Sparse α} (h : swf d t = true) : swf d (smap d f t) = true := smap_above h

theorem sget_below : ∀ {t : Sparse α} {b i : Nat}, i < b → sabove d b t = true → sget d t i = d
  | [], _, _, _, _ => rfl
  | (k, v) :: t, b, i, h, hb => by
    simp only [sabove, Bool.and_eq_true, decide_eq_true_eq] at hb
    unfold sget
    rw [if_pos (by omega)]

theorem sget_sput_above : ∀ {t : Sparse α} {b i j : Nat} {v : α}, sabove d b t = true →
    sget d (sput d t i v) j = if j = i then v else sget d t j
  | [], b, i, j, v, _ => by
    unfold sput; repeat' split
    all_goals simp_all [sget]
  | (k, w) :: t, b, i, j, v, hb => by
    simp only [sabove, Bool.and_eq_true, decide_eq_true_eq] at hb
    have lo : ∀ x, x ≤ k → sget d t x = d := fun x hx => sget_below (by omega) hb.2
    have ih := sget_sput_above (i := i) (j := j) (v := v) hb.2
    unfold sput
    repeat' split
    all_goals (try simp only [sget, ih])
    all_goals repeat' split
    all_goals first | rfl | omega | (subst_vars; first | rfl | exact lo _ (by omega))

/-- Reading a key after a write: the value written there, everything else as before. -/
theorem sget_sput {t : Sparse α} {i j : Nat} {v : α} (h : swf d t = true) :
    sget d (sput d t i v) j = if j = i then v else sget d t j :=
  sget_sput_above h

/-! Tables put together of pieces -/

theorem sabove_append : ∀ {l r : Sparse α} {b c : Nat}, b ≤ c → sabove d b l = true → (∀ x ∈ l, x.1 < c) →
    sabove d c r = true → sabove d b (l ++ r) = true
  | [], _, _, _, h, _, _, hr => sabove_mono h hr
  | (k, v) :: t, r, b, c, h, hl, hc, hr => by
    simp only [sabove, Bool.and_eq_true, decide_eq_true_eq] at hl
    have hk : k < c := hc (k, v) (List.mem_cons_self ..)
    simpa [sabove] using
      ⟨hl.1, sabove_append (by omega) hl.2 (fun x hx => hc x (List.mem_cons_of_mem _ hx)) hr⟩

theorem sabove_filter {p : Nat × α → Bool} : ∀ {t : Sparse α} {b : Nat}, sabove d b t = true →
    sabove d b (t.filter p) = true
  | [], _, _ => rfl
  | (k, v) :: t, b, h => by
    simp only [sabove, Bool.and_eq_true, decide_eq_true_eq] at h
    rw [List.filter_cons]
    split
    · simpa [sabove] using ⟨h.1, sabove_filter h.2⟩
    · exact sabove_filter (sabove_mono (by omega) h.2)

/-- Leaving entries out keeps the canonical form. -/
theorem filter_swf {p : Nat × α → Bool} {t : Sparse α} (h : swf d t = true) : swf d (t.filter p) = true :=
  sabove_filter h

theorem sabove_takeWhile {p : Nat × α → Bool} : ∀ {t : Sparse α} {b : Nat}, sabove d b t = true →
    sabove d b (t.takeWhile p) = true
  | [], _, _ => rfl
  | (k, v) :: t, b, h => by
    simp only [sabove, Bool.and_eq_true, decide_eq_true_eq] at h
    rw [List.takeWhile_cons]
    split
    · simpa [sabove] using ⟨h.1, sabove_takeWhile h.2⟩
    · rfl

theorem sabove_mfrom {c : Nat} : ∀ {t : Sparse α} {b : Nat}, sabove d b t = true →
    sabove d c (t.dropWhile (fun x => decide (x.1 < c))) = true
  | [], _, _ => rfl
  | (k, v) :: t, b, h => by
    rw [List.dropWhile_cons]
    have h' := h
    simp only [sabove, Bool.and_eq_true, decide_eq_true_eq] at h'
    split <;> rename_i hk
    · exact sabove_mfrom h'.2
    · simp only [decide_eq_true_eq] at hk
      simpa [sabove] using ⟨⟨by omega, h'.1.2⟩, h'.2⟩

theorem mbelow_lt {m : List Host.Cell} {a : Nat} : ∀ x ∈ mbelow m a, x.1 < a := fun x hx => by
  have := List.all_takeWhile (p := fun c : Host.Cell => decide (c.1 < a)) (l := m)
  simpa using (List.all_eq_true.mp this) x hx

theorem sofList_above : ∀ {l : List α} {b : Nat}, sabove d b (sofList d b l) = true
  | [], _ => rfl
  | v :: l, b => by
    unfold sofList
    split <;> rename_i h
    · exact sabove_mono (Nat.le_succ b) sofList_above
    · simpa [sabove] using ⟨h, sofList_above⟩

theorem sofList_lt : ∀ {l : List α} {b : Nat}, ∀ x ∈ sofList d b l, x.1 < b + l.length
  | [], _, x, hx => by simp [sofList] at hx
  | v :: l, b, x, hx => by
    unfold sofList at hx
    split at hx <;> rename_i h
    · have := sofList_lt x hx
      simp only [List.length_cons]; omega
    · rcases List.mem_cons.mp hx with rfl | hx
      · simp
      · have := sofList_lt x hx
        simp only [List.length_cons]; omega

/-! Byte memories -/

/-- A write keeps the canonical form of a memory. -/
theorem mwrite_wf {m : List Host.Cell} {a : Nat} {bs : Bytes} (h : memWf m = true) : memWf (mwrite m a bs) = true := by
  refine sabove_append (Nat.zero_le (a + bs.length)) (sabove_append (Nat.zero_le a) (sabove_takeWhile h) mbelow_lt
    sofList_above) ?_ (sabove_mfrom h)
  intro x hx
  rcases List.mem_append.mp hx with hx | hx
  · have := mbelow_lt x hx; omega
  · exact sofList_lt x hx

/-- Zeroing keeps the canonical form of a memory. -/
theorem mzero_wf {m : List Host.Cell} {a n : Nat} (h : memWf m = true) : memWf (mzero m a n) = true :=
  sabove_append (Nat.zero_le (a + n)) (sabove_takeWhile h) (fun x hx => by have := mbelow_lt x hx; omega)
    (sabove_mfrom h)

theorem filter_wf {m : List Host.Cell} {p : Host.Cell → Bool} (h : memWf m = true) : memWf (m.filter p) = true :=
  sabove_filter h

/-- An empty memory is in canonical form. -/
theorem nil_wf : memWf [] = true := rfl

theorem dramPut_wf {m : Memory} {key : Nat} {bs : Bytes} (h : m.wf = true) : (dramPut m key bs).wf = true := by
  simp only [Memory.wf, Bool.and_eq_true] at h ⊢
  exact ⟨⟨⟨h.1.1.1, mwrite_wf h.1.1.2⟩, h.1.2⟩, h.2⟩

theorem placeWrite_wf {m : Memory} {p : Place} {o : Nat} {bs : Bytes} (h : m.wf = true) :
    (placeWrite m p o bs).wf = true := by
  unfold placeWrite
  dsimp only
  split
  · exact dramPut_wf (dramPut_wf h)
  · exact dramPut_wf h

theorem spanWrite_wf {s : State} {r : Region} : ∀ {l : List (Nat × Nat × Nat)} {m : Memory} {bs : Bytes},
    m.wf = true → (spanWrite s r m l bs).wf = true
  | [], _, _, h => h
  | _ :: t, _, _, h => by
    unfold spanWrite
    exact spanWrite_wf (l := t) (placeWrite_wf h)

/-- Writing bytes of a region keeps every memory canonical. -/
theorem regionWrite_wf {s : State} {r : Region} {off : Nat} {bs : Bytes} (h : s.mem.wf = true) :
    (regionWrite s r off bs).wf = true := by
  unfold regionWrite
  split
  · simp only [Memory.wf, Bool.and_eq_true] at h ⊢
    exact ⟨⟨h.1.1, mwrite_wf h.1.2⟩, h.2⟩
  · exact spanWrite_wf h

theorem sabove_shift {c b : Nat} : ∀ {t : Sparse α} {lo : Nat}, c ≤ lo → sabove d lo t = true →
    sabove d (lo - c + b) (t.map (fun x => (x.1 - c + b, x.2))) = true
  | [], _, _, _ => rfl
  | (k, v) :: t, lo, hc, h => by
    simp only [sabove, Bool.and_eq_true, decide_eq_true_eq] at h
    have ih := sabove_shift (c := c) (b := b) (lo := k + 1) (by omega) h.2
    have e : k + 1 - c + b = k - c + b + 1 := by omega
    rw [e] at ih
    simpa [sabove] using ⟨⟨by omega, h.1.2⟩, ih⟩

theorem sabove_of_ge {t : Sparse α} {b c : Nat} (h : sabove d b t = true) (hc : ∀ x ∈ t, c ≤ x.1) :
    sabove d c t = true := by
  cases t with
  | nil => rfl
  | cons x t =>
    simp only [sabove, Bool.and_eq_true, decide_eq_true_eq] at h
    simpa [sabove] using ⟨⟨hc x (List.mem_cons_self ..), h.1.2⟩, h.2⟩

/-- Moving one span of a memory onto another keeps its canonical form. -/
theorem moveSpan_wf {src dst len : Nat} {m : List Host.Cell} (h : memWf m = true) :
    memWf (moveSpan src dst len m) = true := by
  have part : sabove (0 : Byte) dst ((m.filter (fun c => decide (src ≤ c.1) && decide (c.1 < src + len))).map
      (fun c => (c.1 - src + dst, c.2))) = true := by
    have h1 : sabove (0 : Byte) src (m.filter (fun c => decide (src ≤ c.1) && decide (c.1 < src + len))) = true :=
      sabove_of_ge (sabove_filter (b := 0) h) (fun x hx => by simp at hx; omega)
    have := sabove_shift (c := src) (b := dst) (Nat.le_refl src) h1
    simpa using this
  refine sabove_append (Nat.zero_le (dst + len)) (sabove_append (Nat.zero_le dst) (sabove_takeWhile h) mbelow_lt
    part) ?_ (sabove_mfrom h)
  intro x hx
  rcases List.mem_append.mp hx with hx | hx
  · have := mbelow_lt x hx; omega
  · simp at hx
    obtain ⟨a, b, hx, rfl⟩ := hx
    simp; omega

/-! Reading after writing -/

theorem sget_append_left : ∀ {l r : Sparse α} {b c i : Nat}, i < c → sabove d b l = true → sabove d c r = true →
    sget d (l ++ r) i = sget d l i
  | [], r, b, c, i, hi, _, hr => by rw [List.nil_append, sget_below hi hr]; rfl
  | (k, v) :: t, r, b, c, i, hi, hl, hr => by
    simp only [sabove, Bool.and_eq_true, decide_eq_true_eq] at hl
    simp only [List.cons_append, sget, sget_append_left hi hl.2 hr]

omit [DecidableEq α] in
theorem sget_append_right : ∀ {l r : Sparse α} {c i : Nat}, c ≤ i → (∀ x ∈ l, x.1 < c) →
    sget d (l ++ r) i = sget d r i
  | [], _, _, _, _, _ => rfl
  | (k, v) :: t, r, c, i, hi, hc => by
    have hk : k < c := hc (k, v) (List.mem_cons_self ..)
    simp only [List.cons_append, sget, if_neg (show ¬ i < k by omega), if_neg (show ¬ i = k by omega)]
    exact sget_append_right hi (fun x hx => hc x (List.mem_cons_of_mem _ hx))

theorem sget_takeWhile {c : Nat} : ∀ {t : Sparse α} {b i : Nat}, i < c → sabove d b t = true →
    sget d (t.takeWhile (fun x => decide (x.1 < c))) i = sget d t i
  | [], _, _, _, _ => rfl
  | (k, v) :: t, b, i, hi, h => by
    simp only [sabove, Bool.and_eq_true, decide_eq_true_eq] at h
    rw [List.takeWhile_cons]
    split <;> rename_i hk
    · simp only [sget, sget_takeWhile hi h.2]
    · simp only [decide_eq_true_eq] at hk
      simp only [sget, if_pos (show i < k by omega)]

omit [DecidableEq α] in
theorem sget_mfrom {c : Nat} : ∀ {t : Sparse α} {i : Nat}, c ≤ i →
    sget d (t.dropWhile (fun x => decide (x.1 < c))) i = sget d t i
  | [], _, _ => rfl
  | (k, v) :: t, i, hi => by
    rw [List.dropWhile_cons]
    split <;> rename_i hk
    · simp only [decide_eq_true_eq] at hk
      simp only [sget, if_neg (show ¬ i < k by omega), if_neg (show ¬ i = k by omega)]
      exact sget_mfrom hi
    · rfl

theorem sget_sofList : ∀ {l : List α} {b i : Nat}, b ≤ i → sget d (sofList d b l) i = l.getD (i - b) d
  | [], _, _, _ => by simp [sofList, sget]
  | v :: l, b, i, hi => by
    unfold sofList
    rcases Nat.eq_or_lt_of_le hi with rfl | hlt
    · split <;> rename_i h
      · rw [sget_below (Nat.lt_succ_self b) sofList_above, h]; simp
      · simp [sget]
    · have e : i - b = (i - (b + 1)) + 1 := by omega
      split <;> rename_i h
      · rw [sget_sofList (by omega), e, List.getD_cons_succ]
      · simp only [sget, if_neg (show ¬ i < b by omega), if_neg (show ¬ i = b by omega)]
        rw [sget_sofList (by omega), e, List.getD_cons_succ]

/-- A byte read after a write: the byte stored there, every other byte as before. -/
theorem mget_mwrite {m : List Host.Cell} {a : Nat} {bs : Bytes} (h : memWf m = true) (x : Nat) :
    mget (mwrite m a bs) x = if a ≤ x ∧ x < a + bs.length then bs.getD (x - a) 0 else mget m x := by
  have hb : sabove (0 : Byte) 0 (mbelow m a) = true := sabove_takeWhile h
  have hc : sabove (0 : Byte) a (cellsOf a bs) = true := sofList_above
  have hf : sabove (0 : Byte) (a + bs.length) (mfrom m (a + bs.length)) = true := sabove_mfrom h
  have hbc : sabove (0 : Byte) 0 (mbelow m a ++ cellsOf a bs) = true :=
    sabove_append (Nat.zero_le a) hb mbelow_lt hc
  unfold mget mwrite
  by_cases h1 : x < a
  · rw [if_neg (by omega), sget_append_left (by omega) hbc hf, sget_append_left h1 hb hc]
    exact sget_takeWhile h1 h
  · by_cases h2 : x < a + bs.length
    · rw [if_pos ⟨by omega, h2⟩, sget_append_left h2 hbc hf, sget_append_right (by omega) mbelow_lt]
      exact sget_sofList (by omega)
    · rw [if_neg (by omega), sget_append_right (c := a + bs.length) (by omega)]
      · exact sget_mfrom (by omega)
      · intro y hy
        rcases List.mem_append.mp hy with hy | hy
        · have := mbelow_lt y hy; omega
        · exact sofList_lt y hy

/-- A byte read after zeroing. -/
theorem mget_mzero {m : List Host.Cell} {a n : Nat} (h : memWf m = true) (x : Nat) :
    mget (mzero m a n) x = if a ≤ x ∧ x < a + n then 0 else mget m x := by
  have hb : sabove (0 : Byte) 0 (mbelow m a) = true := sabove_takeWhile h
  have hf : sabove (0 : Byte) (a + n) (mfrom m (a + n)) = true := sabove_mfrom h
  unfold mget mzero
  by_cases h1 : x < a
  · rw [if_neg (by omega), sget_append_left (by omega) hb hf]
    exact sget_takeWhile h1 h
  · rw [sget_append_right (c := a) (by omega) mbelow_lt]
    by_cases h2 : x < a + n
    · rw [if_pos ⟨by omega, h2⟩]
      exact sget_below h2 hf
    · rw [if_neg (by omega)]
      exact sget_mfrom (by omega)

theorem mreadAux_get : ∀ {m : List Host.Cell} {a n : Nat}, sabove (0 : Byte) a m = true → ∀ i, i < n →
    (mreadAux m a n).getD i 0 = sget 0 m (a + i)
  | _, _, 0, _, i, hi => by omega
  | [], a, n + 1, _, i, hi => by simp [mreadAux, sget, hi]
  | (k, v) :: t, a, n + 1, h, i, hi => by
    have h' := h
    simp only [sabove, Bool.and_eq_true, decide_eq_true_eq] at h'
    unfold mreadAux
    split <;> rename_i hk
    · subst hk
      cases i with
      | zero => simp [sget]
      | succ i =>
        rw [List.getD_cons_succ, mreadAux_get h'.2 i (by omega)]
        simp only [sget, if_neg (show ¬ k + (i + 1) < k by omega), if_neg (show ¬ k + (i + 1) = k by omega)]
        congr 1; omega
    · cases i with
      | zero =>
        rw [List.getD_cons_zero]
        simp only [sget, Nat.add_zero, if_pos (show a < k by omega)]
      | succ i =>
        have h2 : sabove (0 : Byte) (a + 1) ((k, v) :: t) = true := by
          simpa [sabove] using ⟨⟨by omega, h'.1.2⟩, h'.2⟩
        rw [List.getD_cons_succ, mreadAux_get h2 i (by omega)]
        congr 1; omega

theorem mreadAux_length : ∀ {m : List Host.Cell} {a n : Nat}, (mreadAux m a n).length = n
  | _, _, 0 => by simp [mreadAux]
  | [], a, n + 1 => by simp [mreadAux]
  | (k, v) :: t, a, n + 1 => by
    unfold mreadAux
    split <;> simp [mreadAux_length]

theorem mread_length {m : List Host.Cell} {a n : Nat} : (mread m a n).length = n := mreadAux_length

/-- Reading n bytes is reading each byte. -/
theorem mread_get {m : List Host.Cell} {a n i : Nat} (h : memWf m = true) (hi : i < n) :
    (mread m a n).getD i 0 = mget m (a + i) := by
  unfold mread
  exact (mreadAux_get (sabove_mfrom (b := 0) h) i hi).trans (sget_mfrom (by omega))

/-- The memories after reset are in canonical form. -/
theorem reset_mem_wf : State.reset.mem.wf = true := rfl

/-- A byte string that fills an empty memory reads back. -/
theorem mread_mwrite_nil (b : Bytes) : mread (mwrite [] 0 b) 0 b.length = b := by
  apply List.ext_getElem?
  intro i
  by_cases h : i < b.length
  · have e := mread_get (mwrite_wf (a := 0) (bs := b) nil_wf) (a := 0) h
    rw [mget_mwrite nil_wf, if_pos (by omega)] at e
    have h' : i < (mread (mwrite [] 0 b) 0 b.length).length := by rw [mread_length]; exact h
    rw [List.getD_eq_getElem _ _ h'] at e
    rw [List.getElem?_eq_getElem h', e]
    simp [h]
  · rw [List.getElem?_eq_none (by rw [mread_length]; omega), List.getElem?_eq_none (by omega)]

end Sys2Proof.Machine
end

