-- ==== Sys2Proof/Laws/State.lean ====
section
/-! SUPPORT. One lemma for each field and each update of State's tables: every field but the table's own is as it was,
and the table's entry is the one written. -/

namespace Sys2Proof.Machine

/-! modHearth -/

@[simp] theorem modHearth_pins (s : State) (h : Nat) (f : Hearth → Hearth) : (modHearth s h f).pins = s.pins := rfl
@[simp] theorem modHearth_dev (s : State) (h : Nat) (f : Hearth → Hearth) : (modHearth s h f).dev = s.dev := rfl
@[simp] theorem modHearth_ctx (s : State) (h : Nat) (f : Hearth → Hearth) : (modHearth s h f).ctx = s.ctx := rfl
@[simp] theorem modHearth_time (s : State) (h : Nat) (f : Hearth → Hearth) : (modHearth s h f).time = s.time := rfl
@[simp] theorem modHearth_rate (s : State) (h : Nat) (f : Hearth → Hearth) : (modHearth s h f).rate = s.rate := rfl
@[simp] theorem modHearth_image (s : State) (h : Nat) (f : Hearth → Hearth) : (modHearth s h f).image = s.image := rfl
@[simp] theorem modHearth_seq (s : State) (h : Nat) (f : Hearth → Hearth) : (modHearth s h f).seq = s.seq := rfl
@[simp] theorem modHearth_train (s : State) (h : Nat) (f : Hearth → Hearth) : (modHearth s h f).train = s.train := rfl
@[simp] theorem modHearth_upd (s : State) (h : Nat) (f : Hearth → Hearth) : (modHearth s h f).upd = s.upd := rfl
@[simp] theorem modHearth_rng (s : State) (h : Nat) (f : Hearth → Hearth) : (modHearth s h f).rng = s.rng := rfl
@[simp] theorem modHearth_sets (s : State) (h : Nat) (f : Hearth → Hearth) : (modHearth s h f).sets = s.sets := rfl
@[simp] theorem modHearth_tele (s : State) (h : Nat) (f : Hearth → Hearth) : (modHearth s h f).tele = s.tele := rfl
@[simp] theorem modHearth_fence (s : State) (h : Nat) (f : Hearth → Hearth) : (modHearth s h f).fence = s.fence := rfl
@[simp] theorem modHearth_links (s : State) (h : Nat) (f : Hearth → Hearth) : (modHearth s h f).links = s.links := rfl
@[simp] theorem modHearth_fabric (s : State) (h : Nat) (f : Hearth → Hearth) : (modHearth s h f).fabric = s.fabric := rfl
@[simp] theorem modHearth_mem (s : State) (h : Nat) (f : Hearth → Hearth) : (modHearth s h f).mem = s.mem := rfl
@[simp] theorem modHearth_faults (s : State) (h : Nat) (f : Hearth → Hearth) : (modHearth s h f).faults = s.faults := rfl
@[simp] theorem modHearth_mail (s : State) (h : Nat) (f : Hearth → Hearth) : (modHearth s h f).mail = s.mail := rfl
@[simp] theorem modHearth_port (s : State) (h : Nat) (f : Hearth → Hearth) : (modHearth s h f).port = s.port := rfl
@[simp] theorem modHearth_host (s : State) (h : Nat) (f : Hearth → Hearth) : (modHearth s h f).host = s.host := rfl
@[simp] theorem modHearth_sec (s : State) (h : Nat) (f : Hearth → Hearth) : (modHearth s h f).sec = s.sec := rfl
@[simp] theorem modHearth_assay (s : State) (h : Nat) (f : Hearth → Hearth) : (modHearth s h f).assay = s.assay := rfl
@[simp] theorem modHearth_markers (s : State) (h : Nat) (f : Hearth → Hearth) : (modHearth s h f).markers = s.markers := rfl
@[simp] theorem modHearth_splitRows (s : State) (h : Nat) (f : Hearth → Hearth) : (modHearth s h f).splitRows = s.splitRows := rfl
@[simp] theorem modHearth_jobRecord (s : State) (h : Nat) (f : Hearth → Hearth) : (modHearth s h f).jobRecord = s.jobRecord := rfl
@[simp] theorem modHearth_fresh (s : State) (h : Nat) (f : Hearth → Hearth) : (modHearth s h f).fresh = s.fresh := rfl
@[simp] theorem modHearth_pending (s : State) (h : Nat) (f : Hearth → Hearth) : (modHearth s h f).pending = s.pending := rfl

/-! modLink -/

@[simp] theorem modLink_pins (s : State) (k : Nat) (f : Link → Link) : (modLink s k f).pins = s.pins := rfl
@[simp] theorem modLink_dev (s : State) (k : Nat) (f : Link → Link) : (modLink s k f).dev = s.dev := rfl
@[simp] theorem modLink_ctx (s : State) (k : Nat) (f : Link → Link) : (modLink s k f).ctx = s.ctx := rfl
@[simp] theorem modLink_time (s : State) (k : Nat) (f : Link → Link) : (modLink s k f).time = s.time := rfl
@[simp] theorem modLink_rate (s : State) (k : Nat) (f : Link → Link) : (modLink s k f).rate = s.rate := rfl
@[simp] theorem modLink_image (s : State) (k : Nat) (f : Link → Link) : (modLink s k f).image = s.image := rfl
@[simp] theorem modLink_seq (s : State) (k : Nat) (f : Link → Link) : (modLink s k f).seq = s.seq := rfl
@[simp] theorem modLink_train (s : State) (k : Nat) (f : Link → Link) : (modLink s k f).train = s.train := rfl
@[simp] theorem modLink_upd (s : State) (k : Nat) (f : Link → Link) : (modLink s k f).upd = s.upd := rfl
@[simp] theorem modLink_rng (s : State) (k : Nat) (f : Link → Link) : (modLink s k f).rng = s.rng := rfl
@[simp] theorem modLink_sets (s : State) (k : Nat) (f : Link → Link) : (modLink s k f).sets = s.sets := rfl
@[simp] theorem modLink_tele (s : State) (k : Nat) (f : Link → Link) : (modLink s k f).tele = s.tele := rfl
@[simp] theorem modLink_hearths (s : State) (k : Nat) (f : Link → Link) : (modLink s k f).hearths = s.hearths := rfl
@[simp] theorem modLink_fence (s : State) (k : Nat) (f : Link → Link) : (modLink s k f).fence = s.fence := rfl
@[simp] theorem modLink_fabric (s : State) (k : Nat) (f : Link → Link) : (modLink s k f).fabric = s.fabric := rfl
@[simp] theorem modLink_mem (s : State) (k : Nat) (f : Link → Link) : (modLink s k f).mem = s.mem := rfl
@[simp] theorem modLink_faults (s : State) (k : Nat) (f : Link → Link) : (modLink s k f).faults = s.faults := rfl
@[simp] theorem modLink_mail (s : State) (k : Nat) (f : Link → Link) : (modLink s k f).mail = s.mail := rfl
@[simp] theorem modLink_port (s : State) (k : Nat) (f : Link → Link) : (modLink s k f).port = s.port := rfl
@[simp] theorem modLink_host (s : State) (k : Nat) (f : Link → Link) : (modLink s k f).host = s.host := rfl
@[simp] theorem modLink_sec (s : State) (k : Nat) (f : Link → Link) : (modLink s k f).sec = s.sec := rfl
@[simp] theorem modLink_assay (s : State) (k : Nat) (f : Link → Link) : (modLink s k f).assay = s.assay := rfl
@[simp] theorem modLink_markers (s : State) (k : Nat) (f : Link → Link) : (modLink s k f).markers = s.markers := rfl
@[simp] theorem modLink_splitRows (s : State) (k : Nat) (f : Link → Link) : (modLink s k f).splitRows = s.splitRows := rfl
@[simp] theorem modLink_jobRecord (s : State) (k : Nat) (f : Link → Link) : (modLink s k f).jobRecord = s.jobRecord := rfl
@[simp] theorem modLink_fresh (s : State) (k : Nat) (f : Link → Link) : (modLink s k f).fresh = s.fresh := rfl
@[simp] theorem modLink_pending (s : State) (k : Nat) (f : Link → Link) : (modLink s k f).pending = s.pending := rfl

/-! modStack -/

@[simp] theorem modStack_pins (s : State) (n : Nat) (f : Stack → Stack) : (modStack s n f).pins = s.pins := rfl
@[simp] theorem modStack_dev (s : State) (n : Nat) (f : Stack → Stack) : (modStack s n f).dev = s.dev := rfl
@[simp] theorem modStack_ctx (s : State) (n : Nat) (f : Stack → Stack) : (modStack s n f).ctx = s.ctx := rfl
@[simp] theorem modStack_time (s : State) (n : Nat) (f : Stack → Stack) : (modStack s n f).time = s.time := rfl
@[simp] theorem modStack_rate (s : State) (n : Nat) (f : Stack → Stack) : (modStack s n f).rate = s.rate := rfl
@[simp] theorem modStack_image (s : State) (n : Nat) (f : Stack → Stack) : (modStack s n f).image = s.image := rfl
@[simp] theorem modStack_seq (s : State) (n : Nat) (f : Stack → Stack) : (modStack s n f).seq = s.seq := rfl
@[simp] theorem modStack_train (s : State) (n : Nat) (f : Stack → Stack) : (modStack s n f).train = s.train := rfl
@[simp] theorem modStack_upd (s : State) (n : Nat) (f : Stack → Stack) : (modStack s n f).upd = s.upd := rfl
@[simp] theorem modStack_rng (s : State) (n : Nat) (f : Stack → Stack) : (modStack s n f).rng = s.rng := rfl
@[simp] theorem modStack_sets (s : State) (n : Nat) (f : Stack → Stack) : (modStack s n f).sets = s.sets := rfl
@[simp] theorem modStack_tele (s : State) (n : Nat) (f : Stack → Stack) : (modStack s n f).tele = s.tele := rfl
@[simp] theorem modStack_hearths (s : State) (n : Nat) (f : Stack → Stack) : (modStack s n f).hearths = s.hearths := rfl
@[simp] theorem modStack_fence (s : State) (n : Nat) (f : Stack → Stack) : (modStack s n f).fence = s.fence := rfl
@[simp] theorem modStack_links (s : State) (n : Nat) (f : Stack → Stack) : (modStack s n f).links = s.links := rfl
@[simp] theorem modStack_fabric (s : State) (n : Nat) (f : Stack → Stack) : (modStack s n f).fabric = s.fabric := rfl
@[simp] theorem modStack_faults (s : State) (n : Nat) (f : Stack → Stack) : (modStack s n f).faults = s.faults := rfl
@[simp] theorem modStack_mail (s : State) (n : Nat) (f : Stack → Stack) : (modStack s n f).mail = s.mail := rfl
@[simp] theorem modStack_port (s : State) (n : Nat) (f : Stack → Stack) : (modStack s n f).port = s.port := rfl
@[simp] theorem modStack_host (s : State) (n : Nat) (f : Stack → Stack) : (modStack s n f).host = s.host := rfl
@[simp] theorem modStack_sec (s : State) (n : Nat) (f : Stack → Stack) : (modStack s n f).sec = s.sec := rfl
@[simp] theorem modStack_assay (s : State) (n : Nat) (f : Stack → Stack) : (modStack s n f).assay = s.assay := rfl
@[simp] theorem modStack_markers (s : State) (n : Nat) (f : Stack → Stack) : (modStack s n f).markers = s.markers := rfl
@[simp] theorem modStack_splitRows (s : State) (n : Nat) (f : Stack → Stack) : (modStack s n f).splitRows = s.splitRows := rfl
@[simp] theorem modStack_jobRecord (s : State) (n : Nat) (f : Stack → Stack) : (modStack s n f).jobRecord = s.jobRecord := rfl
@[simp] theorem modStack_fresh (s : State) (n : Nat) (f : Stack → Stack) : (modStack s n f).fresh = s.fresh := rfl
@[simp] theorem modStack_pending (s : State) (n : Nat) (f : Stack → Stack) : (modStack s n f).pending = s.pending := rfl

/-! modMail -/

@[simp] theorem modMail_pins (s : State) (m : Nat) (f : Mailbox → Mailbox) : (modMail s m f).pins = s.pins := rfl
@[simp] theorem modMail_dev (s : State) (m : Nat) (f : Mailbox → Mailbox) : (modMail s m f).dev = s.dev := rfl
@[simp] theorem modMail_ctx (s : State) (m : Nat) (f : Mailbox → Mailbox) : (modMail s m f).ctx = s.ctx := rfl
@[simp] theorem modMail_time (s : State) (m : Nat) (f : Mailbox → Mailbox) : (modMail s m f).time = s.time := rfl
@[simp] theorem modMail_rate (s : State) (m : Nat) (f : Mailbox → Mailbox) : (modMail s m f).rate = s.rate := rfl
@[simp] theorem modMail_image (s : State) (m : Nat) (f : Mailbox → Mailbox) : (modMail s m f).image = s.image := rfl
@[simp] theorem modMail_seq (s : State) (m : Nat) (f : Mailbox → Mailbox) : (modMail s m f).seq = s.seq := rfl
@[simp] theorem modMail_train (s : State) (m : Nat) (f : Mailbox → Mailbox) : (modMail s m f).train = s.train := rfl
@[simp] theorem modMail_upd (s : State) (m : Nat) (f : Mailbox → Mailbox) : (modMail s m f).upd = s.upd := rfl
@[simp] theorem modMail_rng (s : State) (m : Nat) (f : Mailbox → Mailbox) : (modMail s m f).rng = s.rng := rfl
@[simp] theorem modMail_sets (s : State) (m : Nat) (f : Mailbox → Mailbox) : (modMail s m f).sets = s.sets := rfl
@[simp] theorem modMail_tele (s : State) (m : Nat) (f : Mailbox → Mailbox) : (modMail s m f).tele = s.tele := rfl
@[simp] theorem modMail_hearths (s : State) (m : Nat) (f : Mailbox → Mailbox) : (modMail s m f).hearths = s.hearths := rfl
@[simp] theorem modMail_fence (s : State) (m : Nat) (f : Mailbox → Mailbox) : (modMail s m f).fence = s.fence := rfl
@[simp] theorem modMail_links (s : State) (m : Nat) (f : Mailbox → Mailbox) : (modMail s m f).links = s.links := rfl
@[simp] theorem modMail_fabric (s : State) (m : Nat) (f : Mailbox → Mailbox) : (modMail s m f).fabric = s.fabric := rfl
@[simp] theorem modMail_mem (s : State) (m : Nat) (f : Mailbox → Mailbox) : (modMail s m f).mem = s.mem := rfl
@[simp] theorem modMail_faults (s : State) (m : Nat) (f : Mailbox → Mailbox) : (modMail s m f).faults = s.faults := rfl
@[simp] theorem modMail_port (s : State) (m : Nat) (f : Mailbox → Mailbox) : (modMail s m f).port = s.port := rfl
@[simp] theorem modMail_host (s : State) (m : Nat) (f : Mailbox → Mailbox) : (modMail s m f).host = s.host := rfl
@[simp] theorem modMail_sec (s : State) (m : Nat) (f : Mailbox → Mailbox) : (modMail s m f).sec = s.sec := rfl
@[simp] theorem modMail_assay (s : State) (m : Nat) (f : Mailbox → Mailbox) : (modMail s m f).assay = s.assay := rfl
@[simp] theorem modMail_markers (s : State) (m : Nat) (f : Mailbox → Mailbox) : (modMail s m f).markers = s.markers := rfl
@[simp] theorem modMail_splitRows (s : State) (m : Nat) (f : Mailbox → Mailbox) : (modMail s m f).splitRows = s.splitRows := rfl
@[simp] theorem modMail_jobRecord (s : State) (m : Nat) (f : Mailbox → Mailbox) : (modMail s m f).jobRecord = s.jobRecord := rfl
@[simp] theorem modMail_fresh (s : State) (m : Nat) (f : Mailbox → Mailbox) : (modMail s m f).fresh = s.fresh := rfl
@[simp] theorem modMail_pending (s : State) (m : Nat) (f : Mailbox → Mailbox) : (modMail s m f).pending = s.pending := rfl

/-! modSource -/

@[simp] theorem modSource_pins (s : State) (c : Nat) (f : Source → Source) : (modSource s c f).pins = s.pins := rfl
@[simp] theorem modSource_dev (s : State) (c : Nat) (f : Source → Source) : (modSource s c f).dev = s.dev := rfl
@[simp] theorem modSource_ctx (s : State) (c : Nat) (f : Source → Source) : (modSource s c f).ctx = s.ctx := rfl
@[simp] theorem modSource_time (s : State) (c : Nat) (f : Source → Source) : (modSource s c f).time = s.time := rfl
@[simp] theorem modSource_rate (s : State) (c : Nat) (f : Source → Source) : (modSource s c f).rate = s.rate := rfl
@[simp] theorem modSource_image (s : State) (c : Nat) (f : Source → Source) : (modSource s c f).image = s.image := rfl
@[simp] theorem modSource_seq (s : State) (c : Nat) (f : Source → Source) : (modSource s c f).seq = s.seq := rfl
@[simp] theorem modSource_train (s : State) (c : Nat) (f : Source → Source) : (modSource s c f).train = s.train := rfl
@[simp] theorem modSource_upd (s : State) (c : Nat) (f : Source → Source) : (modSource s c f).upd = s.upd := rfl
@[simp] theorem modSource_rng (s : State) (c : Nat) (f : Source → Source) : (modSource s c f).rng = s.rng := rfl
@[simp] theorem modSource_sets (s : State) (c : Nat) (f : Source → Source) : (modSource s c f).sets = s.sets := rfl
@[simp] theorem modSource_tele (s : State) (c : Nat) (f : Source → Source) : (modSource s c f).tele = s.tele := rfl
@[simp] theorem modSource_hearths (s : State) (c : Nat) (f : Source → Source) : (modSource s c f).hearths = s.hearths := rfl
@[simp] theorem modSource_fence (s : State) (c : Nat) (f : Source → Source) : (modSource s c f).fence = s.fence := rfl
@[simp] theorem modSource_links (s : State) (c : Nat) (f : Source → Source) : (modSource s c f).links = s.links := rfl
@[simp] theorem modSource_fabric (s : State) (c : Nat) (f : Source → Source) : (modSource s c f).fabric = s.fabric := rfl
@[simp] theorem modSource_mem (s : State) (c : Nat) (f : Source → Source) : (modSource s c f).mem = s.mem := rfl
@[simp] theorem modSource_mail (s : State) (c : Nat) (f : Source → Source) : (modSource s c f).mail = s.mail := rfl
@[simp] theorem modSource_port (s : State) (c : Nat) (f : Source → Source) : (modSource s c f).port = s.port := rfl
@[simp] theorem modSource_host (s : State) (c : Nat) (f : Source → Source) : (modSource s c f).host = s.host := rfl
@[simp] theorem modSource_sec (s : State) (c : Nat) (f : Source → Source) : (modSource s c f).sec = s.sec := rfl
@[simp] theorem modSource_assay (s : State) (c : Nat) (f : Source → Source) : (modSource s c f).assay = s.assay := rfl
@[simp] theorem modSource_markers (s : State) (c : Nat) (f : Source → Source) : (modSource s c f).markers = s.markers := rfl
@[simp] theorem modSource_splitRows (s : State) (c : Nat) (f : Source → Source) : (modSource s c f).splitRows = s.splitRows := rfl
@[simp] theorem modSource_jobRecord (s : State) (c : Nat) (f : Source → Source) : (modSource s c f).jobRecord = s.jobRecord := rfl
@[simp] theorem modSource_fresh (s : State) (c : Nat) (f : Source → Source) : (modSource s c f).fresh = s.fresh := rfl
@[simp] theorem modSource_pending (s : State) (c : Nat) (f : Source → Source) : (modSource s c f).pending = s.pending := rfl

/-! modRetained -/

@[simp] theorem modRetained_pins (s : State) (r : Nat) (f : Retained → Retained) : (modRetained s r f).pins = s.pins := rfl
@[simp] theorem modRetained_dev (s : State) (r : Nat) (f : Retained → Retained) : (modRetained s r f).dev = s.dev := rfl
@[simp] theorem modRetained_ctx (s : State) (r : Nat) (f : Retained → Retained) : (modRetained s r f).ctx = s.ctx := rfl
@[simp] theorem modRetained_time (s : State) (r : Nat) (f : Retained → Retained) : (modRetained s r f).time = s.time := rfl
@[simp] theorem modRetained_rate (s : State) (r : Nat) (f : Retained → Retained) : (modRetained s r f).rate = s.rate := rfl
@[simp] theorem modRetained_image (s : State) (r : Nat) (f : Retained → Retained) : (modRetained s r f).image = s.image := rfl
@[simp] theorem modRetained_seq (s : State) (r : Nat) (f : Retained → Retained) : (modRetained s r f).seq = s.seq := rfl
@[simp] theorem modRetained_train (s : State) (r : Nat) (f : Retained → Retained) : (modRetained s r f).train = s.train := rfl
@[simp] theorem modRetained_upd (s : State) (r : Nat) (f : Retained → Retained) : (modRetained s r f).upd = s.upd := rfl
@[simp] theorem modRetained_rng (s : State) (r : Nat) (f : Retained → Retained) : (modRetained s r f).rng = s.rng := rfl
@[simp] theorem modRetained_sets (s : State) (r : Nat) (f : Retained → Retained) : (modRetained s r f).sets = s.sets := rfl
@[simp] theorem modRetained_tele (s : State) (r : Nat) (f : Retained → Retained) : (modRetained s r f).tele = s.tele := rfl
@[simp] theorem modRetained_hearths (s : State) (r : Nat) (f : Retained → Retained) : (modRetained s r f).hearths = s.hearths := rfl
@[simp] theorem modRetained_fence (s : State) (r : Nat) (f : Retained → Retained) : (modRetained s r f).fence = s.fence := rfl
@[simp] theorem modRetained_links (s : State) (r : Nat) (f : Retained → Retained) : (modRetained s r f).links = s.links := rfl
@[simp] theorem modRetained_fabric (s : State) (r : Nat) (f : Retained → Retained) : (modRetained s r f).fabric = s.fabric := rfl
@[simp] theorem modRetained_faults (s : State) (r : Nat) (f : Retained → Retained) : (modRetained s r f).faults = s.faults := rfl
@[simp] theorem modRetained_mail (s : State) (r : Nat) (f : Retained → Retained) : (modRetained s r f).mail = s.mail := rfl
@[simp] theorem modRetained_port (s : State) (r : Nat) (f : Retained → Retained) : (modRetained s r f).port = s.port := rfl
@[simp] theorem modRetained_host (s : State) (r : Nat) (f : Retained → Retained) : (modRetained s r f).host = s.host := rfl
@[simp] theorem modRetained_sec (s : State) (r : Nat) (f : Retained → Retained) : (modRetained s r f).sec = s.sec := rfl
@[simp] theorem modRetained_assay (s : State) (r : Nat) (f : Retained → Retained) : (modRetained s r f).assay = s.assay := rfl
@[simp] theorem modRetained_markers (s : State) (r : Nat) (f : Retained → Retained) : (modRetained s r f).markers = s.markers := rfl
@[simp] theorem modRetained_splitRows (s : State) (r : Nat) (f : Retained → Retained) : (modRetained s r f).splitRows = s.splitRows := rfl
@[simp] theorem modRetained_jobRecord (s : State) (r : Nat) (f : Retained → Retained) : (modRetained s r f).jobRecord = s.jobRecord := rfl
@[simp] theorem modRetained_fresh (s : State) (r : Nat) (f : Retained → Retained) : (modRetained s r f).fresh = s.fresh := rfl
@[simp] theorem modRetained_pending (s : State) (r : Nat) (f : Retained → Retained) : (modRetained s r f).pending = s.pending := rfl

/-! detect -/

@[simp] theorem detect_pins (s : State) (o : Occ) (b : Bool) : (detect s o b).pins = s.pins := rfl
@[simp] theorem detect_dev (s : State) (o : Occ) (b : Bool) : (detect s o b).dev = s.dev := rfl
@[simp] theorem detect_ctx (s : State) (o : Occ) (b : Bool) : (detect s o b).ctx = s.ctx := rfl
@[simp] theorem detect_time (s : State) (o : Occ) (b : Bool) : (detect s o b).time = s.time := rfl
@[simp] theorem detect_rate (s : State) (o : Occ) (b : Bool) : (detect s o b).rate = s.rate := rfl
@[simp] theorem detect_image (s : State) (o : Occ) (b : Bool) : (detect s o b).image = s.image := rfl
@[simp] theorem detect_seq (s : State) (o : Occ) (b : Bool) : (detect s o b).seq = s.seq := rfl
@[simp] theorem detect_train (s : State) (o : Occ) (b : Bool) : (detect s o b).train = s.train := rfl
@[simp] theorem detect_upd (s : State) (o : Occ) (b : Bool) : (detect s o b).upd = s.upd := rfl
@[simp] theorem detect_rng (s : State) (o : Occ) (b : Bool) : (detect s o b).rng = s.rng := rfl
@[simp] theorem detect_sets (s : State) (o : Occ) (b : Bool) : (detect s o b).sets = s.sets := rfl
@[simp] theorem detect_tele (s : State) (o : Occ) (b : Bool) : (detect s o b).tele = s.tele := rfl
@[simp] theorem detect_hearths (s : State) (o : Occ) (b : Bool) : (detect s o b).hearths = s.hearths := rfl
@[simp] theorem detect_fence (s : State) (o : Occ) (b : Bool) : (detect s o b).fence = s.fence := rfl
@[simp] theorem detect_links (s : State) (o : Occ) (b : Bool) : (detect s o b).links = s.links := rfl
@[simp] theorem detect_fabric (s : State) (o : Occ) (b : Bool) : (detect s o b).fabric = s.fabric := rfl
@[simp] theorem detect_mem (s : State) (o : Occ) (b : Bool) : (detect s o b).mem = s.mem := rfl
@[simp] theorem detect_mail (s : State) (o : Occ) (b : Bool) : (detect s o b).mail = s.mail := rfl
@[simp] theorem detect_port (s : State) (o : Occ) (b : Bool) : (detect s o b).port = s.port := rfl
@[simp] theorem detect_host (s : State) (o : Occ) (b : Bool) : (detect s o b).host = s.host := rfl
@[simp] theorem detect_sec (s : State) (o : Occ) (b : Bool) : (detect s o b).sec = s.sec := rfl
@[simp] theorem detect_assay (s : State) (o : Occ) (b : Bool) : (detect s o b).assay = s.assay := rfl
@[simp] theorem detect_markers (s : State) (o : Occ) (b : Bool) : (detect s o b).markers = s.markers := rfl
@[simp] theorem detect_splitRows (s : State) (o : Occ) (b : Bool) : (detect s o b).splitRows = s.splitRows := rfl
@[simp] theorem detect_jobRecord (s : State) (o : Occ) (b : Bool) : (detect s o b).jobRecord = s.jobRecord := rfl
@[simp] theorem detect_fresh (s : State) (o : Occ) (b : Bool) : (detect s o b).fresh = s.fresh := rfl
@[simp] theorem detect_pending (s : State) (o : Occ) (b : Bool) : (detect s o b).pending = s.pending := rfl

/-! send -/

@[simp] theorem send_pins (s : State) (x : Tx) : (send s x).pins = s.pins := by unfold send; split <;> rfl
@[simp] theorem send_dev (s : State) (x : Tx) : (send s x).dev = s.dev := by unfold send; split <;> rfl
@[simp] theorem send_ctx (s : State) (x : Tx) : (send s x).ctx = s.ctx := by unfold send; split <;> rfl
@[simp] theorem send_time (s : State) (x : Tx) : (send s x).time = s.time := by unfold send; split <;> rfl
@[simp] theorem send_rate (s : State) (x : Tx) : (send s x).rate = s.rate := by unfold send; split <;> rfl
@[simp] theorem send_image (s : State) (x : Tx) : (send s x).image = s.image := by unfold send; split <;> rfl
@[simp] theorem send_seq (s : State) (x : Tx) : (send s x).seq = s.seq := by unfold send; split <;> rfl
@[simp] theorem send_train (s : State) (x : Tx) : (send s x).train = s.train := by unfold send; split <;> rfl
@[simp] theorem send_upd (s : State) (x : Tx) : (send s x).upd = s.upd := by unfold send; split <;> rfl
@[simp] theorem send_rng (s : State) (x : Tx) : (send s x).rng = s.rng := by unfold send; split <;> rfl
@[simp] theorem send_sets (s : State) (x : Tx) : (send s x).sets = s.sets := by unfold send; split <;> rfl
@[simp] theorem send_tele (s : State) (x : Tx) : (send s x).tele = s.tele := by unfold send; split <;> rfl
@[simp] theorem send_hearths (s : State) (x : Tx) : (send s x).hearths = s.hearths := by unfold send; split <;> rfl
@[simp] theorem send_fence (s : State) (x : Tx) : (send s x).fence = s.fence := by unfold send; split <;> rfl
@[simp] theorem send_links (s : State) (x : Tx) : (send s x).links = s.links := by unfold send; split <;> rfl
@[simp] theorem send_fabric (s : State) (x : Tx) : (send s x).fabric = s.fabric := by unfold send; split <;> rfl
@[simp] theorem send_mem (s : State) (x : Tx) : (send s x).mem = s.mem := by unfold send; split <;> rfl
@[simp] theorem send_faults (s : State) (x : Tx) : (send s x).faults = s.faults := by unfold send; split <;> rfl
@[simp] theorem send_mail (s : State) (x : Tx) : (send s x).mail = s.mail := by unfold send; split <;> rfl
@[simp] theorem send_host (s : State) (x : Tx) : (send s x).host = s.host := by unfold send; split <;> rfl
@[simp] theorem send_sec (s : State) (x : Tx) : (send s x).sec = s.sec := by unfold send; split <;> rfl
@[simp] theorem send_assay (s : State) (x : Tx) : (send s x).assay = s.assay := by unfold send; split <;> rfl
@[simp] theorem send_markers (s : State) (x : Tx) : (send s x).markers = s.markers := by unfold send; split <;> rfl
@[simp] theorem send_splitRows (s : State) (x : Tx) : (send s x).splitRows = s.splitRows := by unfold send; split <;> rfl
@[simp] theorem send_jobRecord (s : State) (x : Tx) : (send s x).jobRecord = s.jobRecord := by unfold send; split <;> rfl
@[simp] theorem send_fresh (s : State) (x : Tx) : (send s x).fresh = s.fresh := by unfold send; split <;> rfl
@[simp] theorem send_pending (s : State) (x : Tx) : (send s x).pending = s.pending := by unfold send; split <;> rfl

/-! The entry written -/

theorem hearthOf_modHearth {s : State} {h i : Nat} {f : Hearth → Hearth} (w : swf {} s.hearths = true) :
    hearthOf (modHearth s h f) i = if i = h then f (hearthOf s h) else hearthOf s i := sget_sput w
theorem linkOf_modLink {s : State} {k i : Nat} {f : Link → Link} (w : swf {} s.links = true) :
    linkOf (modLink s k f) i = if i = k then f (linkOf s k) else linkOf s i := sget_sput w
theorem stackOf_modStack {s : State} {n i : Nat} {f : Stack → Stack} (w : swf {} s.mem.stackTable = true) :
    stackOf (modStack s n f) i = if i = n then f (stackOf s n) else stackOf s i := sget_sput w
theorem mailOf_modMail {s : State} {m i : Nat} {f : Mailbox → Mailbox} (w : swf {} s.mail = true) :
    mailOf (modMail s m f) i = if i = m then f (mailOf s m) else mailOf s i := sget_sput w
theorem sourceOf_modSource {s : State} {c i : Nat} {f : Source → Source} (w : swf {} s.faults.sources = true) :
    sourceOf (modSource s c f) i = if i = c then f (sourceOf s c) else sourceOf s i := sget_sput w
theorem retainedOf_modRetained {s : State} {r i : Nat} {f : Retained → Retained} (w : swf {} s.mem.retained = true) :
    retainedOf (modRetained s r f) i = if i = r then f (retainedOf s r) else retainedOf s i := sget_sput w

end Sys2Proof.Machine
end

