-- ==== Sys2Proof/Laws/Collector.lean ====
section
/-! SUPPORT. Everything that the collector can change: the lemma that callers cite instead of unfolding it. -/

namespace Sys2Proof.Machine

/-- t differs from s only in ERR_N, the boot flags and the last code of DEVICE, STATE_LOST, the hearths, the mailboxes,
the fault entries and the count of free values. -/
def OnlyCollected (s t : State) : Prop :=
  t = { s with
    pins := { s.pins with errN := t.pins.errN }
    dev := { s.dev with bootFatal := t.dev.bootFatal, bootQualified := t.dev.bootQualified }
    upd := { s.upd with stateLost := t.upd.stateLost }
    hearths := t.hearths, mail := t.mail, faults := t.faults, fresh := t.fresh }

theorem OnlyCollected.refl (s : State) : OnlyCollected s s := rfl

theorem OnlyCollected.trans {a b c : State} (h : OnlyCollected a b) (k : OnlyCollected b c) : OnlyCollected a c := by
  unfold OnlyCollected at *
  rw [h] at k
  rw [k]

theorem sendEvent_only {s : State} {r : Bytes} : OnlyCollected s (sendEvent s r) := by
  unfold sendEvent
  repeat' split
  all_goals rfl

theorem OnlyCollected.hearths {a b : State} {t : Sparse Hearth} (h : OnlyCollected a b) :
    OnlyCollected a { b with hearths := t } := h.trans rfl

theorem OnlyCollected.faults {a b : State} {t : Faults} (h : OnlyCollected a b) :
    OnlyCollected a { b with faults := t } := h.trans rfl

theorem modHearth_only {s : State} {h : Nat} {f : Hearth → Hearth} : OnlyCollected s (modHearth s h f) := rfl

theorem countHearth_only {s : State} {i : SourceInfo} {h : Nat} : OnlyCollected s (countHearth s i h) := by
  unfold countHearth
  exact modHearth_only

theorem countOccurrence_only {s : State} {i : SourceInfo} {o : Occ} : OnlyCollected s (countOccurrence s i o) := by
  unfold countOccurrence
  generalize hearthAt o = q
  cases q with
  | none => simp only [modSource, OnlyCollected]
  | some h => exact OnlyCollected.trans (by simp only [modSource, OnlyCollected]) countHearth_only

theorem logOccurrence_only {s : State} {i : SourceInfo} {o : Occ} {d : Detected} {r : Nat} {m : Bool} :
    OnlyCollected s (logOccurrence s i o d r m) := by
  unfold logOccurrence
  exact OnlyCollected.trans (OnlyCollected.refl s).faults sendEvent_only

theorem noteLost_only {s : State} {c : Nat} : OnlyCollected s (noteLost s c) := by
  unfold noteLost
  split <;> rfl

theorem qualify_only {s : State} {i : SourceInfo} {m : Bool} : OnlyCollected s (qualify s i m) := by
  unfold qualify
  dsimp only
  repeat' split
  all_goals rfl

theorem OnlyCollected.bootFatal {a b : State} {x : Bool} (h : OnlyCollected a b) :
    OnlyCollected a { b with dev := { b.dev with bootFatal := x } } := h.trans rfl

theorem classified_only {s : State} {i : SourceInfo} {o : Occ} {d : Detected} {r : Nat} {q m b : Bool} :
    OnlyCollected s (qualify { noteLost (if q then countOccurrence s i o
      else logOccurrence (countOccurrence s i o) i o d r m) i.code with
        dev := { (noteLost (if q then countOccurrence s i o
      else logOccurrence (countOccurrence s i o) i o d r m) i.code).dev with bootFatal := b } } i m) := by
  refine OnlyCollected.trans (OnlyCollected.bootFatal (OnlyCollected.trans ?_ noteLost_only)) qualify_only
  cases q
  · exact countOccurrence_only.trans logOccurrence_only
  · exact countOccurrence_only

/-- Classifying an occurrence changes what OnlyCollected names and nothing else (14, R288, R289). -/
theorem classify_only {s : State} {d : Detected} : OnlyCollected s (classify s d).1 := by
  have h0 : OnlyCollected s (if d.occ.source = 0x0206 then
      { s with faults := { s.faults with spineMismatches := s.faults.spineMismatches + 1 } } else s) := by
    split <;> rfl
  unfold classify
  dsimp only
  generalize (if d.occ.source = 0x0206 then
      { s with faults := { s.faults with spineMismatches := s.faults.spineMismatches + 1 } } else s) = s0 at h0
  split
  · exact h0
  · exact h0.trans classified_only

theorem fold_only {α : Type} {g : State → α → State} (h : ∀ s x, OnlyCollected s (g s x)) :
    ∀ (l : List α) (s : State), OnlyCollected s (l.foldl g s)
  | [], s => OnlyCollected.refl s
  | x :: l, s => OnlyCollected.trans (h s x) (fold_only h l (g s x))

/-- Draining the detected occurrences before a reset changes what OnlyCollected names and nothing else (14, R396). -/
theorem drain_only {s : State} : OnlyCollected s (drain s) :=
  OnlyCollected.trans (fold_only (fun _ _ => classify_only) s.faults.detected s) rfl

end Sys2Proof.Machine
end

