-- ==== Sys2Proof/Laws/Messages.lean ====
section
/-! SUPPORT. Lengths of digests and tags, and the header of a cell that is made with its CRC-32. -/

namespace Sys2Proof.Machine

/-- A byte string of a number, least significant first, has the length asked for. -/
@[simp] theorem length_natLe (n v : Nat) : (natLe n v).length = n := by
  induction n generalizing v with
  | zero => rfl
  | succ n ih => simp [natLe, ih]

/-- The same, most significant byte first. -/
@[simp] theorem length_natBe (n v : Nat) : (natBe n v).length = n := by simp [natBe]

/-- A SHA-256 digest has 32 bytes. -/
@[simp] theorem length_sha256 (b : Bytes) : (sha256 b).length = 32 := by simp [sha256]

/-- A message tag has 16 bytes (16, R337). -/
@[simp] theorem length_msgTag (key : Bytes) (typ : BitVec 8) (session seq : BitVec 32) (flags : BitVec 8) (body : Bytes) :
    (msgTag key typ session seq flags body).length = 16 := by simp [msgTag, hmac]

/-- A slice has the length asked for. -/
@[simp] theorem length_slice (b : Bytes) (o n : Nat) : (slice b o n).length = n := by
  simp only [slice, List.length_append, List.length_take, List.length_replicate]
  omega

/-- The part of a byte string that stands between two others. -/
theorem slice_middle (a b c : Bytes) : slice (a ++ b ++ c) a.length b.length = b := by
  simp [slice]

/-- The header of a cell made from its fields: the fields above the CRC-32. -/
theorem hdr_mkCell {f : Nat} (h : f < 2 ^ 96) (p : Bytes) :
    (mkCell f p).hdr.toNat = f * 2 ^ 32 + (crc32 (natBe 12 f ++ p)).toNat := by
  have hc := (crc32 (natBe 12 f ++ p)).isLt
  simp only [mkCell, BitVec.toNat_ofNat]
  omega

/-- A cell made from its fields has the CRC-32 that its receiver computes (11, R223). -/
theorem cellOk_mkCell {f : Nat} (h : f < 2 ^ 96) (p : Bytes) : cellOk (mkCell f p) = true := by
  have hc := (crc32 (natBe 12 f ++ p)).isLt
  have hd : (f * 2 ^ 32 + (crc32 (natBe 12 f ++ p)).toNat) / 2 ^ 32 = f := by omega
  unfold cellOk bits
  rw [hdr_mkCell h]
  simp only [hd, Nat.shiftRight_zero]
  rw [Nat.mul_comm, Nat.mul_add_mod, Nat.mod_eq_of_lt hc]
  simp [mkCell]

/-- A field above the CRC-32 of a cell made from its fields. -/
theorem hdrF_mkCell {f : Nat} (h : f < 2 ^ 96) (p : Bytes) (lo n : Nat) (hl : 32 ≤ lo) :
    hdrF (mkCell f p) lo n = bits f (lo - 32) n := by
  have hc := (crc32 (natBe 12 f ++ p)).isLt
  have hd : (f * 2 ^ 32 + (crc32 (natBe 12 f ++ p)).toNat) / 2 ^ 32 = f := by omega
  obtain ⟨d, rfl⟩ : ∃ d, lo = 32 + d := ⟨lo - 32, by omega⟩
  unfold hdrF bits
  rw [hdr_mkCell h, Nat.shiftRight_add, Nat.shiftRight_eq_div_pow _ 32, hd]
  simp

/-- TYPE of a cell made from its fields. -/
theorem cellType_mkCell {f : Nat} (h : f < 2 ^ 96) (p : Bytes) : cellType (mkCell f p) = bits f 92 4 :=
  hdrF_mkCell h p 124 4 (by decide)

/-- CLASS of a cell made from its fields. -/
theorem cellClass_mkCell {f : Nat} (h : f < 2 ^ 96) (p : Bytes) : cellClass (mkCell f p) = bits f 88 4 :=
  hdrF_mkCell h p 120 4 (by decide)

/-- FRAME of a cell made from its fields. -/
theorem cellFrame_mkCell {f : Nat} (h : f < 2 ^ 96) (p : Bytes) : cellFrame (mkCell f p) = bits f 72 16 :=
  hdrF_mkCell h p 104 16 (by decide)

/-- SLOT of a cell made from its fields. -/
theorem cellSlot_mkCell {f : Nat} (h : f < 2 ^ 96) (p : Bytes) : cellSlot (mkCell f p) = bits f 60 12 :=
  hdrF_mkCell h p 92 12 (by decide)

/-- INDEX of a cell made from its fields. -/
theorem cellIndex_mkCell {f : Nat} (h : f < 2 ^ 96) (p : Bytes) : cellIndex (mkCell f p) = bits f 54 6 :=
  hdrF_mkCell h p 86 6 (by decide)

/-- EPOCH of a cell made from its fields. -/
theorem cellEpoch_mkCell {f : Nat} (h : f < 2 ^ 96) (p : Bytes) : cellEpoch (mkCell f p) = bits f 40 8 :=
  hdrF_mkCell h p 72 8 (by decide)

/-- CODE of a cell made from its fields. -/
theorem ctlCode_mkCell {f : Nat} (h : f < 2 ^ 96) (p : Bytes) : ctlCode (mkCell f p) = bits f 80 8 :=
  hdrF_mkCell h p 112 8 (by decide)

/-- SEQ of a cell made from its fields. -/
theorem ctlSeq_mkCell {f : Nat} (h : f < 2 ^ 96) (p : Bytes) : ctlSeq (mkCell f p) = BitVec.ofNat 16 (bits f 64 16) :=
  congrArg (BitVec.ofNat 16) (hdrF_mkCell h p 96 16 (by decide))

/-- A slice of the first of two byte strings. -/
theorem slice_append_left {a : Bytes} (b : Bytes) {o n : Nat} (h : o + n ≤ a.length) : slice (a ++ b) o n = slice a o n := by
  simp only [slice]
  rw [List.drop_append_of_le_length (by omega), List.take_append_of_le_length (by simp; omega)]

/-- A slice of the second. -/
theorem slice_append_right (a b : Bytes) {o : Nat} (n : Nat) (h : a.length ≤ o) : slice (a ++ b) o n = slice b (o - a.length) n := by
  simp only [slice]
  rw [List.drop_append, List.drop_eq_nil_of_le h, List.nil_append]

/-- A number in the first of two byte strings. -/
theorem leAt_append_left {a : Bytes} (b : Bytes) {o n : Nat} (h : o + n ≤ a.length) : leAt (a ++ b) o n = leAt a o n := by
  simp only [leAt]
  rw [List.drop_append_of_le_length (by omega), List.take_append_of_le_length (by simp; omega)]

/-- A number in the second. -/
theorem leAt_append_right (a b : Bytes) {o : Nat} (n : Nat) (h : a.length ≤ o) : leAt (a ++ b) o n = leAt b (o - a.length) n := by
  simp only [leAt]
  rw [List.drop_append, List.drop_eq_nil_of_le h, List.nil_append]

end Sys2Proof.Machine
end

