-- ==== Sys2Proof/Laws/Crypto.lean ====
section
/-! SUPPORT. What is padded or encoded comes back: OAEP and PSS blocks, and RSA under exponent 1, where a block is its own
cipher text and its own signature. -/

namespace Sys2Proof.Machine

theorem xorBytes_xorBytes (a b : Bytes) : xorBytes (xorBytes a b) b = a := by
  induction a generalizing b with
  | nil => rfl
  | cons x t ih =>
    cases b with
    | nil => rfl
    | cons y u => simp [xorBytes, ih]

@[simp] theorem length_xorBytes (a b : Bytes) : (xorBytes a b).length = a.length := by
  induction a generalizing b with
  | nil => rfl
  | cons x t ih => cases b <;> simp [xorBytes, ih]

/-- The bytes of the value of a byte string are the byte string. -/
theorem natLe_leNat (b : Bytes) : natLe b.length (leNat b) = b := by
  induction b with
  | nil => rfl
  | cons x t ih =>
    have hx := x.isLt
    have hd : (x.toNat + 256 * leNat t) / 256 = leNat t := by omega
    simp only [List.length_cons, leNat, natLe, hd, ih, List.cons.injEq, and_true]
    apply BitVec.eq_of_toNat_eq
    simp only [BitVec.toNat_ofNat]
    omega

theorem leNat_append (a b : Bytes) : leNat (a ++ b) = leNat a + 256 ^ a.length * leNat b := by
  induction a with
  | nil => simp [leNat]
  | cons x t ih =>
    simp only [List.cons_append, leNat, ih, List.length_cons, Nat.pow_succ, Nat.mul_add]
    rw [Nat.mul_comm (256 ^ t.length) 256, Nat.mul_assoc, Nat.add_assoc]

theorem leNat_lt (b : Bytes) : leNat b < 256 ^ b.length := by
  induction b with
  | nil => simp [leNat]
  | cons x t ih =>
    have hx := x.isLt
    simp only [List.length_cons, leNat, Nat.pow_succ]
    omega

theorem beNat_append (b : Bytes) (x : Byte) : beNat (b ++ [x]) = beNat b * 256 + x.toNat := by
  simp [beNat, List.foldl_append]

theorem beNat_eq (b : Bytes) : beNat b = leNat b.reverse := by
  have h : ∀ l : Bytes, beNat l.reverse = leNat l := by
    intro l
    induction l with
    | nil => rfl
    | cons x t ih =>
      rw [List.reverse_cons, beNat_append, ih, leNat]
      omega
  simpa using h b.reverse

/-- The bytes of the value of a byte string, most significant first, are the byte string. -/
theorem natBe_beNat (b : Bytes) : natBe b.length (beNat b) = b := by
  have h := natLe_leNat b.reverse
  rw [List.length_reverse] at h
  rw [natBe, beNat_eq, h, List.reverse_reverse]

theorem beNat_lt (b : Bytes) : beNat b < 256 ^ b.length := by
  have h := leNat_lt b.reverse
  rwa [List.length_reverse, ← beNat_eq] at h

theorem powMod_one {x m : Nat} (h : x < m) : powMod x 1 m = x := by
  have hl : Nat.log2 1 = 0 := by decide
  simp only [powMod, hl, powModAux, Nat.mod_eq_of_lt h]
  rcases Nat.lt_or_ge 1 m with hm | hm
  · simp [Nat.mod_eq_of_lt hm, Nat.mod_eq_of_lt h]
  · have : m = 1 := by omega
    subst this
    simp
    omega

/-- The bytes of OAEP for a 32-byte key: a zero seed and an empty label. -/
def oaepBlock (key : Bytes) : Bytes :=
  let seed : Bytes := List.replicate 32 0
  let db := xorBytes (sha256 [] ++ List.replicate 286 0 ++ [1] ++ key) (mgf1 seed 351)
  [0] ++ xorBytes seed (mgf1 db 32) ++ db

theorem length_oaepBlock {key : Bytes} (h : key.length = 32) : (oaepBlock key).length = 384 := by
  simp [oaepBlock, h, -List.reduceReplicate]

theorem oaepRest_zeros (n : Nat) (b : Bytes) : oaepRest (List.replicate n 0 ++ b) = oaepRest b := by
  induction n with
  | zero => rfl
  | succ n ih => simpa [List.replicate_succ, oaepRest] using ih

/-- A key in an OAEP block is found again. -/
theorem oaepDecode_oaepBlock {key : Bytes} (h : key.length = 32) : oaepDecode (oaepBlock key) = some key := by
  have hl := length_oaepBlock h
  have hd : (oaepBlock key).drop 33 =
      xorBytes (sha256 [] ++ List.replicate 286 0 ++ [1] ++ key) (mgf1 (List.replicate 32 0) 351) := by
    simp only [oaepBlock]
    rw [List.drop_left' (by simp [-List.reduceReplicate])]
  have hs : slice (oaepBlock key) 1 32 = xorBytes (List.replicate 32 0) (mgf1 ((oaepBlock key).drop 33) 32) := by
    rw [hd]
    simp only [slice, oaepBlock, List.append_assoc]
    rw [List.drop_left' (by simp), List.take_left' (by simp [-List.reduceReplicate])]
    simp [-List.reduceReplicate]
  have h0 : (oaepBlock key).getD 0 0 = 0 := by simp [oaepBlock, -List.reduceReplicate]
  have ht : (sha256 [] ++ List.replicate 286 0 ++ [1] ++ key).take 32 = sha256 [] := by
    simp only [List.append_assoc]
    rw [List.take_left' (by simp [-List.reduceReplicate])]
  have hr : (sha256 [] ++ List.replicate 286 0 ++ [1] ++ key).drop 32 = List.replicate 286 0 ++ ([1] ++ key) := by
    simp only [List.append_assoc]
    rw [List.drop_left' (by simp [-List.reduceReplicate])]
  simp only [oaepDecode, hs, xorBytes_xorBytes, hd, hl, h0, ht, hr, oaepRest_zeros]
  simp [oaepRest]

/-- Under a modulus of 3,072 ones and exponent 1 an OAEP block decrypts to its key. -/
theorem oaepDecrypt_oaepBlock {key : Bytes} (h : key.length = 32) :
    oaepDecrypt (256 ^ 384) 1 (oaepBlock key) = some key := by
  have hl := length_oaepBlock h
  have hb := beNat_lt (oaepBlock key)
  rw [hl] at hb
  have hn := natBe_beNat (oaepBlock key)
  rw [hl] at hn
  unfold oaepDecrypt
  rw [if_pos ⟨hl, hb⟩, powMod_one hb, hn, oaepDecode_oaepBlock h]

theorem clearTop_xor (a b : Bytes) : clearTop (xorBytes (clearTop (xorBytes a b)) b) = clearTop a := by
  cases a with
  | nil => rfl
  | cons x t =>
    cases b with
    | nil => simp [xorBytes, clearTop, BitVec.and_assoc]
    | cons y u =>
      have hx : (((x ^^^ y) &&& 0x7F) ^^^ y) &&& 0x7F = x &&& 0x7F := by
        apply BitVec.eq_of_getLsbD_eq
        intro i _
        simp only [BitVec.getLsbD_and, BitVec.getLsbD_xor]
        cases x.getLsbD i <;> cases y.getLsbD i <;> cases (0x7F#8).getLsbD i <;> rfl
      simp only [xorBytes, clearTop, xorBytes_xorBytes, hx]

@[simp] theorem length_clearTop (b : Bytes) : (clearTop b).length = b.length := by cases b <;> simp [clearTop]

theorem length_mgfAux (seed : Bytes) (n c : Nat) : (mgfAux seed n c).length = 32 * n := by
  induction n generalizing c with
  | zero => rfl
  | succ n ih =>
    simp only [mgfAux, List.length_append, length_sha256, ih]
    omega

theorem length_pssEncode (msg : Bytes) {salt : Bytes} (h : salt.length = 32) : (pssEncode msg salt).length = 384 := by
  simp [pssEncode, h, -List.reduceReplicate]

theorem clearTop_top (b t : Bytes) (h : 0 < b.length) : (clearTop b ++ t).getD 0 0 &&& 0x80 = 0 := by
  cases b with
  | nil => simp at h
  | cons x u =>
    simp only [clearTop, List.cons_append, List.getD_cons_zero]
    rw [BitVec.and_assoc]
    simp

/-- An encoded message passes the check of the message that it encodes. -/
theorem pssCheck_pssEncode (msg : Bytes) {salt : Bytes} (h : salt.length = 32) : pssCheck msg (pssEncode msg salt) = true := by
  have hl := length_pssEncode msg h
  generalize hh : sha256 (List.replicate 8 0 ++ sha256 msg ++ salt) = d
  have hd : d.length = 32 := by simp [← hh, -List.reduceReplicate]
  generalize hdb : List.replicate 318 (0 : Byte) ++ [(1 : Byte)] ++ salt = db
  have hdl : db.length = 351 := by simp [← hdb, h, -List.reduceReplicate]
  have he : pssEncode msg salt = clearTop (xorBytes db (mgf1 d 351)) ++ d ++ [0xBC] := by
    simp only [pssEncode, hh, hdb]
  have hc : clearTop db = db := by
    rw [← hdb]
    rfl
  have ht : (pssEncode msg salt).take 351 = clearTop (xorBytes db (mgf1 d 351)) := by
    rw [he, List.append_assoc, List.take_left' (by simp [hdl, -List.reduceReplicate])]
  have hs : slice (pssEncode msg salt) 351 32 = d := by
    simp only [slice]
    rw [he, List.append_assoc, List.drop_left' (by simp [hdl, -List.reduceReplicate]), List.take_left' hd]
    simp [hd]
  have h0 : (pssEncode msg salt).getD 383 0 = 0xBC := by
    rw [he, List.getD_eq_getElem?_getD, List.getElem?_append_right (by simp [hdl, hd])]
    simp [hdl, hd]
  have hz : (pssEncode msg salt).getD 0 0 &&& 0x80 = 0 := by
    rw [he, List.append_assoc]
    exact clearTop_top _ _ (by simp [hdl])
  unfold pssCheck
  simp only [hs, ht, clearTop_xor, hc, h0, hz, hl]
  have h1 : db.take 319 = List.replicate 318 0 ++ [1] := by
    rw [← hdb, List.take_left' (by simp [-List.reduceReplicate])]
  have h2 : db.drop 319 = salt := by
    rw [← hdb, List.drop_left' (by simp [-List.reduceReplicate])]
  rw [h1, h2, hh]
  simp only [decide_true, Bool.and_true]

theorem clearTop_lt (b : Bytes) : beNat (clearTop b) < 128 * 256 ^ (b.length - 1) := by
  cases b with
  | nil => simp [clearTop, beNat]
  | cons x t =>
    have ht := beNat_lt t
    have hx : (x &&& 0x7F).toNat < 128 := by
      rw [BitVec.toNat_and]
      exact Nat.lt_of_le_of_lt Nat.and_le_right (by decide)
    have hc : beNat ((x &&& 0x7F) :: t) = (x &&& 0x7F).toNat * 256 ^ t.length + beNat t := by
      rw [beNat_eq, List.reverse_cons, leNat_append, leNat, leNat, ← beNat_eq, List.length_reverse]
      rw [Nat.mul_comm, Nat.mul_zero, Nat.add_zero]
      exact Nat.add_comm _ _
    simp only [clearTop, List.length_cons, Nat.add_sub_cancel]
    rw [hc]
    have : (x &&& 0x7F).toNat * 256 ^ t.length ≤ 127 * 256 ^ t.length := Nat.mul_le_mul_right _ (by omega)
    omega

theorem pssEncode_lt (msg : Bytes) {salt : Bytes} (h : salt.length = 32) :
    beNat (pssEncode msg salt) < 128 * 256 ^ (384 - 1) := by
  have he : clearTop (pssEncode msg salt) = pssEncode msg salt := by
    simp only [pssEncode]
    generalize hx : xorBytes (List.replicate 318 0 ++ [1] ++ salt) _ = x
    cases x with
    | nil =>
      have := congrArg List.length hx
      simp [-List.reduceReplicate] at this
    | cons y u => simp [clearTop, BitVec.and_assoc]
  have hb := clearTop_lt (pssEncode msg salt)
  rw [he, length_pssEncode msg h] at hb
  exact hb

/-- Under a modulus of 3,072 bits and exponent 1 an encoded message is its own signature. -/
theorem pssVerify_pssEncode (msg : Bytes) {salt : Bytes} (h : salt.length = 32) {m : Nat} (hm : 128 * 256 ^ (384 - 1) ≤ m) :
    pssVerify ⟨m, 1⟩ msg (pssEncode msg salt) = true := by
  have hl := length_pssEncode msg h
  have hb := Nat.lt_of_lt_of_le (pssEncode_lt msg h) hm
  have hn := natBe_beNat (pssEncode msg salt)
  rw [hl] at hn
  simp only [pssVerify, powMod_one hb, hn, pssCheck_pssEncode msg h, hl, hb, decide_true, Bool.and_true]

/-- The counter mode keeps the length. -/
theorem length_gcmCtr (rks : List Bytes) (iv : Bytes) : ∀ (f c : Nat) (bs : Bytes), bs.length ≤ f →
    (gcmCtr rks iv c (piecesAux 16 f bs)).length = bs.length
  | 0, c, bs, h => by
    rw [List.length_eq_zero_iff.mp (Nat.le_zero.mp h)]; rfl
  | f + 1, c, [], _ => rfl
  | f + 1, c, x :: t, h => by
    simp only [piecesAux, List.isEmpty_cons, Bool.false_eq_true, if_false, gcmCtr, List.length_append, length_xorBytes]
    rw [length_gcmCtr rks iv f (c + 1) _ (by simp at h ⊢; omega)]
    simp; omega

/-- The counter mode undoes itself. -/
theorem gcmCtr_gcmCtr (rks : List Bytes) (iv : Bytes) : ∀ (f g c : Nat) (bs : Bytes), bs.length ≤ f → bs.length ≤ g →
    gcmCtr rks iv c (piecesAux 16 g (gcmCtr rks iv c (piecesAux 16 f bs))) = bs
  | 0, g, c, bs, h, _ => by
    rw [List.length_eq_zero_iff.mp (Nat.le_zero.mp h)]; cases g <;> rfl
  | f + 1, g, c, [], _, _ => by cases g <;> rfl
  | f + 1, 0, c, x :: t, _, hg => by simp at hg
  | f + 1, g + 1, c, x :: t, h, hg => by
    simp only [List.length_cons] at h hg
    have hd : ((x :: t).drop 16).length ≤ f := by simp; omega
    have hd' : ((x :: t).drop 16).length ≤ g := by simp; omega
    rw [show piecesAux 16 (f + 1) (x :: t) = (x :: t).take 16 :: piecesAux 16 f ((x :: t).drop 16) from rfl]
    simp only [gcmCtr]
    generalize hk : aesBlock rks (iv ++ natBe 4 c) = k
    have hl : (xorBytes ((x :: t).take 16) k).length = min 16 (t.length + 1) := by
      rw [length_xorBytes, List.length_take, List.length_cons]
    have hne : (xorBytes ((x :: t).take 16) k ++ gcmCtr rks iv (c + 1) (piecesAux 16 f ((x :: t).drop 16))).isEmpty = false := by
      rw [List.isEmpty_eq_false_iff, ← List.length_pos_iff, List.length_append, hl]; omega
    rw [piecesAux, hne]
    simp only [Bool.false_eq_true, if_false, gcmCtr, hk]
    by_cases h16 : 16 ≤ t.length + 1
    · have e : (xorBytes ((x :: t).take 16) k).length = 16 := by omega
      rw [List.take_left' e, List.drop_left' e, xorBytes_xorBytes, gcmCtr_gcmCtr rks iv f g (c + 1) _ hd hd', List.take_append_drop]
    · have e : (x :: t).drop 16 = [] := List.drop_eq_nil_of_le (by simp; omega)
      have e2 : (x :: t).take 16 = x :: t := List.take_of_length_le (by simp; omega)
      rw [e, show gcmCtr rks iv (c + 1) (piecesAux 16 f []) = [] by cases f <;> rfl, List.append_nil, e2,
        List.take_of_length_le (by simp; omega), List.drop_eq_nil_of_le (by simp; omega), xorBytes_xorBytes,
        show gcmCtr rks iv (c + 1) (piecesAux 16 g []) = [] by cases g <;> rfl, List.append_nil]

/-- Cipher text and tag have the lengths of the plain text and of a block. -/
theorem length_gcmSeal (key iv aad pt : Bytes) : (gcmSeal key iv aad pt).1.length = pt.length ∧
    (gcmSeal key iv aad pt).2.length = 16 :=
  ⟨length_gcmCtr _ _ _ _ _ (Nat.le_refl _), by simp [gcmSeal, gcmTag]⟩

/-- What is sealed opens under the same key, IV and associated data. -/
theorem gcmOpen_gcmSeal (key iv aad pt : Bytes) :
    gcmOpen key iv aad (gcmSeal key iv aad pt).1 (gcmSeal key iv aad pt).2 = some pt := by
  unfold gcmOpen gcmSeal
  simp only [if_true]
  rw [pieces, pieces, gcmCtr_gcmCtr _ _ _ _ _ _ (Nat.le_refl _) (Nat.le_of_eq (length_gcmCtr _ _ _ _ _ (Nat.le_refl _)).symm)]

end Sys2Proof.Machine
end

