-- ==== Sys2Proof/Laws/Kept.lean ====
section
/-! SUPPORT. What every operation of the block keeps: the queue as it was, ERR_N low while ERR_HELD is set, and every
memory in canonical form. One lemma for each operation, in the form that lets simp compose them. -/

namespace Sys2Proof.Machine

/-- The queue that is kept, and whether the two invariants are asked for. -/
structure Ask where
  queue : List Instr
  err : Prop
  mem : Prop

/-- The queue is the one asked for. -/
def QKept (ask : Ask) (l : List Instr) : Prop := l = ask.queue
/-- ERR_N is low while ERR_HELD is set, if asked for. -/
def EKept (ask : Ask) (held errN : Bool) : Prop := ask.err → held = true → errN = false
/-- A memory is in canonical form, if asked for. -/
def CKept (ask : Ask) (m : List Host.Cell) : Prop := ask.mem → memWf m = true
/-- The four memories of Memory. -/
def MKept (ask : Ask) (m : Memory) : Prop := CKept ask m.spad ∧ CKept ask m.dram ∧ CKept ask m.cacheTier ∧ CKept ask m.lastData
/-- What a state keeps. -/
def Kept (ask : Ask) (s : State) : Prop :=
  QKept ask s.pending ∧ EKept ask s.faults.errHeld s.pins.errN ∧ MKept ask s.mem ∧ CKept ask s.image.store ∧
    CKept ask s.fabric.buffers
/-- What an outcome's next state keeps. -/
def KeptOut (ask : Ask) (o : Host.Outcome State Fault Refusal) : Prop := ∀ t, o = .next t → Kept ask t

variable {ask : Ask}

@[simp] theorem kept_mk {a b c d e f g h i j k l m n o p q r t u w x y z a1 a2 a3 a4} :
    Kept ask (State.mk a b c d e f g h i j k l m n o p q r t u w x y z a1 a2 a3 a4) ↔
      (QKept ask a4 ∧ EKept ask r.errHeld a.errN ∧ MKept ask q ∧ CKept ask f.store ∧ CKept ask p.buffers) := by
  constructor <;> exact id

@[simp] theorem keptOut_next {t : State} : KeptOut ask (.next t) = Kept ask t := by
  apply propext; constructor
  · intro h; exact h t rfl
  · intro h t' e; cases e; exact h
@[simp] theorem keptOut_fault {r : Fault} : KeptOut ask (.fault r) = True := by
  apply propext; constructor <;> intro _ <;> first | trivial | (intro t e; cases e)
@[simp] theorem keptOut_refused {r : Refusal} : KeptOut ask (.refused r) = True := by
  apply propext; constructor <;> intro _ <;> first | trivial | (intro t e; cases e)

@[simp] theorem kept_queue {s : State} (h : Kept ask s) : QKept ask s.pending := h.1
@[simp] theorem kept_err {s : State} (h : Kept ask s) : EKept ask s.faults.errHeld s.pins.errN := h.2.1
@[simp] theorem kept_mem {s : State} (h : Kept ask s) : MKept ask s.mem := h.2.2.1
@[simp] theorem kept_store {s : State} (h : Kept ask s) : CKept ask s.image.store := h.2.2.2.1
@[simp] theorem kept_buffers {s : State} (h : Kept ask s) : CKept ask s.fabric.buffers := h.2.2.2.2
@[simp] theorem kept_spad {s : State} (h : Kept ask s) : CKept ask s.mem.spad := h.2.2.1.1
@[simp] theorem kept_dram {s : State} (h : Kept ask s) : CKept ask s.mem.dram := h.2.2.1.2.1
@[simp] theorem kept_cacheTier {s : State} (h : Kept ask s) : CKept ask s.mem.cacheTier := h.2.2.1.2.2.1
@[simp] theorem kept_lastData {s : State} (h : Kept ask s) : CKept ask s.mem.lastData := h.2.2.1.2.2.2

@[simp] theorem mkept_spad {m : Memory} (h : MKept ask m) : CKept ask m.spad := h.1
@[simp] theorem mkept_dram {m : Memory} (h : MKept ask m) : CKept ask m.dram := h.2.1
@[simp] theorem mkept_cacheTier {m : Memory} (h : MKept ask m) : CKept ask m.cacheTier := h.2.2.1
@[simp] theorem mkept_lastData {m : Memory} (h : MKept ask m) : CKept ask m.lastData := h.2.2.2

@[simp] theorem mkept_mk {a b c d e f g h i j k l m n o p q r t u w x y z} :
    MKept ask (Memory.mk a b c d e f g h i j k l m n o p q r t u w x y z) ↔
      (CKept ask a ∧ CKept ask c ∧ CKept ask e ∧ CKept ask g) := by
  constructor <;> exact id

@[simp] theorem ckept_nil : CKept ask [] := fun _ => rfl
@[simp] theorem ckept_mwrite {m : List Host.Cell} {a : Nat} {bs : Bytes} (h : CKept ask m) : CKept ask (mwrite m a bs) :=
  fun hm => mwrite_wf (h hm)
@[simp] theorem ckept_spadWrite {m : List Host.Cell} {h a : Nat} {bs : Bytes} (k : CKept ask m) :
    CKept ask (spadWrite m h a bs) := fun hm => mwrite_wf (k hm)
@[simp] theorem ckept_mzero {m : List Host.Cell} {a n : Nat} (h : CKept ask m) : CKept ask (mzero m a n) :=
  fun hm => mzero_wf (h hm)
@[simp] theorem ckept_outside {m : List Host.Cell} {a n : Nat} (h : CKept ask m) : CKept ask (outside a n m) :=
  fun hm => mzero_wf (h hm)
@[simp] theorem ckept_filter {m : List Host.Cell} {p : Host.Cell → Bool} (h : CKept ask m) : CKept ask (m.filter p) :=
  fun hm => filter_wf (h hm)
@[simp] theorem ckept_moveSpan {m : List Host.Cell} {a b n : Nat} (h : CKept ask m) : CKept ask (moveSpan a b n m) :=
  fun hm => moveSpan_wf (h hm)
@[simp] theorem ekept_low {held : Bool} : EKept ask held false := fun _ _ => rfl
@[simp] theorem ekept_clear {errN : Bool} : EKept ask false errN := fun _ h => nomatch h
@[simp] theorem ekept_not {held : Bool} : EKept ask held (!held) := fun _ h => by simp [h]

theorem mkept_of_wf {m m' : Memory} (h : MKept ask m) (f : m.wf = true → m'.wf = true) : MKept ask m' := by
  have g : ask.mem → m'.wf = true := fun hm => f (by
    simp only [Memory.wf, Bool.and_eq_true]; exact ⟨⟨⟨h.1 hm, h.2.1 hm⟩, h.2.2.1 hm⟩, h.2.2.2 hm⟩)
  simp only [Memory.wf, Bool.and_eq_true] at g
  exact ⟨fun hm => (g hm).1.1.1, fun hm => (g hm).1.1.2, fun hm => (g hm).1.2, fun hm => (g hm).2⟩

@[simp] theorem mkept_dramPut {m : Memory} {k : Nat} {bs : Bytes} (h : MKept ask m) : MKept ask (dramPut m k bs) :=
  mkept_of_wf h dramPut_wf
@[simp] theorem mkept_placeWrite {m : Memory} {p : Place} {o : Nat} {bs : Bytes} (h : MKept ask m) :
    MKept ask (placeWrite m p o bs) := mkept_of_wf h placeWrite_wf
@[simp] theorem mkept_regionWrite {s : State} {r : Region} {off : Nat} {bs : Bytes} (h : Kept ask s) :
    MKept ask (regionWrite s r off bs) := mkept_of_wf (kept_mem h) regionWrite_wf

@[simp] theorem kept_ite {c : Prop} [Decidable c] {s t : State} :
    Kept ask (if c then s else t) = if c then Kept ask s else Kept ask t := by split <;> rfl
@[simp] theorem keptOut_ite {c : Prop} [Decidable c] {s t : Host.Outcome State Fault Refusal} :
    KeptOut ask (if c then s else t) = if c then KeptOut ask s else KeptOut ask t := by split <;> rfl
@[simp] theorem kept_fst_ite {α : Type} {c : Prop} [Decidable c] {s t : State × α} :
    Kept ask (if c then s else t).1 = if c then Kept ask s.1 else Kept ask t.1 := by split <;> rfl

theorem kept_lock {l : Bool} {s : State} {r : State × BitVec 32} {t : Nat} {b c : Bytes} (hs : Kept ask s)
    (h : Kept ask r.1) : Kept ask (if l then (r.1, (0 : BitVec 16), t, c) else (s, 0, t, b)).1 := by
  cases l
  · exact hs
  · exact h
@[simp] theorem mkept_ite {c : Prop} [Decidable c] {s t : Memory} :
    MKept ask (if c then s else t) = if c then MKept ask s else MKept ask t := by split <;> rfl
@[simp] theorem ckept_ite {c : Prop} [Decidable c] {s t : List Host.Cell} :
    CKept ask (if c then s else t) = if c then CKept ask s else CKept ask t := by split <;> rfl
@[simp] theorem kept_elim {α : Type} {o : Option α} {s : State} {f : α → State} (h : Kept ask s)
    (hf : ∀ x, Kept ask (f x)) : Kept ask (o.elim s f) := by cases o <;> simp [*]
@[simp] theorem mkept_elim {α : Type} {o : Option α} {s : Memory} {f : α → Memory} (h : MKept ask s)
    (hf : ∀ x, MKept ask (f x)) : MKept ask (o.elim s f) := by cases o <;> simp [*]

@[simp] theorem kept_foldl {α : Type} {g : State → α → State} {l : List α} {s : State} (hg : ∀ t x, Kept ask t → Kept ask (g t x))
    (h : Kept ask s) : Kept ask (l.foldl g s) := by
  induction l generalizing s with
  | nil => exact h
  | cons x l ih => exact ih (hg s x h)

@[simp] theorem kept_foldl_fst {α β : Type} {g : State × β → α → State × β} {l : List α} {s : State × β}
    (hg : ∀ t x, Kept ask t.1 → Kept ask (g t x).1) (h : Kept ask s.1) : Kept ask (l.foldl g s).1 := by
  induction l generalizing s with
  | nil => exact h
  | cons x l ih => exact ih (hg s x h)

@[simp] theorem mkept_foldl {α : Type} {g : Memory → α → Memory} {l : List α} {m : Memory}
    (hg : ∀ t x, MKept ask t → MKept ask (g t x)) (h : MKept ask m) : MKept ask (l.foldl g m) := by
  induction l generalizing m with
  | nil => exact h
  | cons x l ih => exact ih (hg m x h)

@[simp] theorem ckept_foldl {α : Type} {g : List Host.Cell → α → List Host.Cell} {l : List α} {m : List Host.Cell}
    (hg : ∀ t x, CKept ask t → CKept ask (g t x)) (h : CKept ask m) : CKept ask (l.foldl g m) := by
  induction l generalizing m with
  | nil => exact h
  | cons x l ih => exact ih (hg m x h)

end Sys2Proof.Machine
end

