-- ==== Sys2Proof/Laws/KeptData.lean ====
section
/-! SUPPORT. What the operations of the data path keep. -/

set_option linter.unusedVariables false
set_option linter.unusedSimpArgs false

namespace Sys2Proof.Machine

variable {ask : Ask}

/-! Machine/Ops.lean -/

@[simp] theorem modHearth_kept {s : State} {h : Nat} {f : Hearth → Hearth} (hs : Kept ask s) :
    Kept ask (modHearth s h f) := by
  unfold modHearth
  simp (maxDischargeDepth := 40) +contextual [*]

@[simp] theorem modLink_kept {s : State} {k : Nat} {f : Link → Link} (hs : Kept ask s) :
    Kept ask (modLink s k f) := by
  unfold modLink
  simp (maxDischargeDepth := 40) +contextual [*]

@[simp] theorem modStack_kept {s : State} {n : Nat} {f : Stack → Stack} (hs : Kept ask s) :
    Kept ask (modStack s n f) := by
  unfold modStack
  simp (maxDischargeDepth := 40) +contextual [*]

@[simp] theorem modMail_kept {s : State} {m : Nat} {f : Mailbox → Mailbox} (hs : Kept ask s) :
    Kept ask (modMail s m f) := by
  unfold modMail
  simp (maxDischargeDepth := 40) +contextual [*]

@[simp] theorem modSource_kept {s : State} {code : Nat} {f : Source → Source} (hs : Kept ask s) :
    Kept ask (modSource s code f) := by
  unfold modSource
  simp (maxDischargeDepth := 40) +contextual [*]

@[simp] theorem modRetained_kept {s : State} {r : Nat} {f : Retained → Retained} (hs : Kept ask s) :
    Kept ask (modRetained s r f) := by
  unfold modRetained
  simp (maxDischargeDepth := 40) +contextual [*]

@[simp] theorem send_kept {s : State} {t : Tx} (hs : Kept ask s) :
    Kept ask (send s t) := by
  unfold send
  simp (maxDischargeDepth := 40) +contextual [*]

@[simp] theorem detect_kept {s : State} {o : Occ} {forced : Bool} (hs : Kept ask s) :
    Kept ask (detect s o forced) := by
  unfold detect
  simp (maxDischargeDepth := 40) +contextual [*]

/-! Machine/Dram.lean -/

@[simp] theorem noteUncorrectable_kept {role : Nat} {s : State} {p : Place} (hs : Kept ask s) :
    Kept ask (noteUncorrectable role s p) := by
  unfold noteUncorrectable
  simp (maxDischargeDepth := 40) +contextual [*]

@[simp] theorem noteRead_kept {s : State} {r : Region} {off : Nat} {len : Nat} (hs : Kept ask s) :
    Kept ask (noteRead s r off len) := by
  unfold noteRead
  simp (maxDischargeDepth := 40) +contextual [*]

@[simp] theorem noteLatent_kept {role : Nat} {s : State} {p : Place} (hs : Kept ask s) :
    Kept ask (noteLatent role s p) := by
  unfold noteLatent
  simp (maxDischargeDepth := 40) +contextual [*]

@[simp] theorem stageRecord_kept {s : State} {r : Region} (hs : Kept ask s) :
    Kept ask (stageRecord s r) := by
  unfold stageRecord
  repeat' split
  all_goals simp (maxDischargeDepth := 40) +contextual [*]

@[simp] theorem noteHostRead_kept {s : State} {r : Region} {off : Nat} {len : Nat} (hs : Kept ask s) :
    Kept ask (noteHostRead s r off len) := by
  unfold noteHostRead
  simp (maxDischargeDepth := 40) +contextual [*]

/-! Machine/Operands.lean -/

@[simp] theorem noteAt_kept {source : Nat} {h : Nat} {z0 : Nat} {z1 : State} (hz1 : Kept ask z1) :
    Kept ask (noteAt source h z0 z1) := by
  induction z0 generalizing z1 with
  | zero => exact hz1
  | succ n ih =>
    unfold noteAt
    exact ih (detect_kept hz1)

@[simp] theorem withEcc_kept {c : OpCmd} {struck : Nat} {writes : List (Nat × Nat)} {t : State} (ht : Kept ask t) :
    Kept ask (withEcc c struck writes t) := by
  unfold withEcc
  simp (maxDischargeDepth := 40) +contextual [*]

@[simp] theorem noteTag_kept {s : State} {t : Nat} (hs : Kept ask s) :
    Kept ask (noteTag s t) := by
  unfold noteTag
  repeat' split
  all_goals simp (maxDischargeDepth := 40) +contextual [*]

@[simp] theorem tagWrite_kept {s : State} {t : Nat} {t32 : Nat} (hs : Kept ask s) :
    MKept ask (tagWrite s t t32) := by
  unfold tagWrite
  repeat' split
  all_goals simp (maxDischargeDepth := 40) +contextual [*]

/-! Machine/Matrix.lean -/

@[simp] theorem matmulTags_kept {s : State} {c : OpCmd} (hs : Kept ask s) :
    Kept ask (matmulTags s c) := by
  unfold matmulTags
  simp (maxDischargeDepth := 40) +contextual [*]

@[simp] theorem matmulRun_kept {s : State} {c : OpCmd} (hs : Kept ask s) :
    Kept ask (matmulRun s c) := by
  unfold matmulRun
  simp (maxDischargeDepth := 40) +contextual [*]

@[simp] theorem execMatmul_kept {c : OpCmd} {s : State} (hs : Kept ask s) :
    KeptOut ask (execMatmul c s) := by
  unfold execMatmul
  simp (maxDischargeDepth := 40) +contextual [*]

/-! Machine/Convert.lean -/

@[simp] theorem convSpad_kept {s : State} {c : OpCmd} {r : Converted} (hs : Kept ask s) :
    CKept ask (convSpad s c r) := by
  unfold convSpad
  simp (maxDischargeDepth := 40) +contextual [*]

@[simp] theorem convertRun_kept {s : State} {c : OpCmd} (hs : Kept ask s) :
    Kept ask (convertRun s c) := by
  unfold convertRun
  simp (maxDischargeDepth := 40) +contextual [*]

@[simp] theorem discardRun_kept {s : State} {c : OpCmd} (hs : Kept ask s) :
    Kept ask (discardRun s c) := by
  unfold discardRun
  simp (maxDischargeDepth := 40) +contextual [*]

@[simp] theorem execConvert_kept {c : OpCmd} {s : State} (hs : Kept ask s) :
    KeptOut ask (execConvert c s) := by
  unfold execConvert
  simp (maxDischargeDepth := 40) +contextual [*]

/-! Machine/Vector.lean -/

@[simp] theorem vecDone_kept {s : State} {c : OpCmd} {spad : List Host.Cell} {st : Stat8} (hs : Kept ask s) (hspad : CKept ask spad) :
    Kept ask (vecDone s c spad st) := by
  unfold vecDone
  simp (maxDischargeDepth := 40) +contextual [*]

@[simp] theorem vecRun_kept {s : State} {c : OpCmd} {n : Nat} {f : VElem → Nat} (hs : Kept ask s) :
    Kept ask (vecRun s c n f) := by
  unfold vecRun
  simp (maxDischargeDepth := 40) +contextual [*]

@[simp] theorem vecOp_kept {code : Nat} {n : Nat} {f : VElem → Nat} {c : OpCmd} {s : State} (hs : Kept ask s) :
    KeptOut ask (vecOp code n f c s) := by
  unfold vecOp
  simp (maxDischargeDepth := 40) +contextual [*]

@[simp] theorem execVcopy_kept {c : OpCmd} {s : State} (hs : Kept ask s) :
    KeptOut ask (execVcopy c s) := by
  unfold execVcopy
  simp (maxDischargeDepth := 40) +contextual [*]

@[simp] theorem execVcvt_kept {c : OpCmd} {s : State} (hs : Kept ask s) :
    KeptOut ask (execVcvt c s) := by
  unfold execVcvt
  simp (maxDischargeDepth := 40) +contextual [*]

@[simp] theorem execVadd_kept {c : OpCmd} {s : State} (hs : Kept ask s) :
    KeptOut ask (execVadd c s) := by
  unfold execVadd
  simp (maxDischargeDepth := 40) +contextual [*]

@[simp] theorem execVsub_kept {c : OpCmd} {s : State} (hs : Kept ask s) :
    KeptOut ask (execVsub c s) := by
  unfold execVsub
  simp (maxDischargeDepth := 40) +contextual [*]

@[simp] theorem execVmul_kept {c : OpCmd} {s : State} (hs : Kept ask s) :
    KeptOut ask (execVmul c s) := by
  unfold execVmul
  simp (maxDischargeDepth := 40) +contextual [*]

@[simp] theorem execVfma_kept {c : OpCmd} {s : State} (hs : Kept ask s) :
    KeptOut ask (execVfma c s) := by
  unfold execVfma
  simp (maxDischargeDepth := 40) +contextual [*]

@[simp] theorem execVmin_kept {c : OpCmd} {s : State} (hs : Kept ask s) :
    KeptOut ask (execVmin c s) := by
  unfold execVmin
  simp (maxDischargeDepth := 40) +contextual [*]

@[simp] theorem execVmax_kept {c : OpCmd} {s : State} (hs : Kept ask s) :
    KeptOut ask (execVmax c s) := by
  unfold execVmax
  simp (maxDischargeDepth := 40) +contextual [*]

@[simp] theorem execVrelu_kept {c : OpCmd} {s : State} (hs : Kept ask s) :
    KeptOut ask (execVrelu c s) := by
  unfold execVrelu
  simp (maxDischargeDepth := 40) +contextual [*]

@[simp] theorem execVabs_kept {c : OpCmd} {s : State} (hs : Kept ask s) :
    KeptOut ask (execVabs c s) := by
  unfold execVabs
  simp (maxDischargeDepth := 40) +contextual [*]

@[simp] theorem execVneg_kept {c : OpCmd} {s : State} (hs : Kept ask s) :
    KeptOut ask (execVneg c s) := by
  unfold execVneg
  simp (maxDischargeDepth := 40) +contextual [*]

@[simp] theorem execVscale2_kept {c : OpCmd} {s : State} (hs : Kept ask s) :
    KeptOut ask (execVscale2 c s) := by
  unfold execVscale2
  simp (maxDischargeDepth := 40) +contextual [*]

@[simp] theorem execVrcp_kept {c : OpCmd} {s : State} (hs : Kept ask s) :
    KeptOut ask (execVrcp c s) := by
  unfold execVrcp
  simp (maxDischargeDepth := 40) +contextual [*]

@[simp] theorem execVrsqrt_kept {c : OpCmd} {s : State} (hs : Kept ask s) :
    KeptOut ask (execVrsqrt c s) := by
  unfold execVrsqrt
  simp (maxDischargeDepth := 40) +contextual [*]

@[simp] theorem execVexp_kept {c : OpCmd} {s : State} (hs : Kept ask s) :
    KeptOut ask (execVexp c s) := by
  unfold execVexp
  simp (maxDischargeDepth := 40) +contextual [*]

@[simp] theorem execVexp2_kept {c : OpCmd} {s : State} (hs : Kept ask s) :
    KeptOut ask (execVexp2 c s) := by
  unfold execVexp2
  simp (maxDischargeDepth := 40) +contextual [*]

@[simp] theorem execVtanh_kept {c : OpCmd} {s : State} (hs : Kept ask s) :
    KeptOut ask (execVtanh c s) := by
  unfold execVtanh
  simp (maxDischargeDepth := 40) +contextual [*]

@[simp] theorem execVsigmoid_kept {c : OpCmd} {s : State} (hs : Kept ask s) :
    KeptOut ask (execVsigmoid c s) := by
  unfold execVsigmoid
  simp (maxDischargeDepth := 40) +contextual [*]

@[simp] theorem execVsilu_kept {c : OpCmd} {s : State} (hs : Kept ask s) :
    KeptOut ask (execVsilu c s) := by
  unfold execVsilu
  simp (maxDischargeDepth := 40) +contextual [*]

@[simp] theorem execVdiv_kept {c : OpCmd} {s : State} (hs : Kept ask s) :
    KeptOut ask (execVdiv c s) := by
  unfold execVdiv
  simp (maxDischargeDepth := 40) +contextual [*]

@[simp] theorem execVsqrt_kept {c : OpCmd} {s : State} (hs : Kept ask s) :
    KeptOut ask (execVsqrt c s) := by
  unfold execVsqrt
  simp (maxDischargeDepth := 40) +contextual [*]

@[simp] theorem execVlog_kept {c : OpCmd} {s : State} (hs : Kept ask s) :
    KeptOut ask (execVlog c s) := by
  unfold execVlog
  simp (maxDischargeDepth := 40) +contextual [*]

@[simp] theorem execVlog2_kept {c : OpCmd} {s : State} (hs : Kept ask s) :
    KeptOut ask (execVlog2 c s) := by
  unfold execVlog2
  simp (maxDischargeDepth := 40) +contextual [*]

@[simp] theorem execVerf_kept {c : OpCmd} {s : State} (hs : Kept ask s) :
    KeptOut ask (execVerf c s) := by
  unfold execVerf
  simp (maxDischargeDepth := 40) +contextual [*]

@[simp] theorem execVgelu_kept {c : OpCmd} {s : State} (hs : Kept ask s) :
    KeptOut ask (execVgelu c s) := by
  unfold execVgelu
  simp (maxDischargeDepth := 40) +contextual [*]

@[simp] theorem execVsel_kept {c : OpCmd} {s : State} (hs : Kept ask s) :
    KeptOut ask (execVsel c s) := by
  unfold execVsel
  simp (maxDischargeDepth := 40) +contextual [*]

@[simp] theorem execVdrop_kept {c : OpCmd} {s : State} (hs : Kept ask s) :
    KeptOut ask (execVdrop c s) := by
  unfold execVdrop
  simp (maxDischargeDepth := 40) +contextual [*]

@[simp] theorem execVinitu_kept {c : OpCmd} {s : State} (hs : Kept ask s) :
    KeptOut ask (execVinitu c s) := by
  unfold execVinitu
  simp (maxDischargeDepth := 40) +contextual [*]

@[simp] theorem execVinitn_kept {c : OpCmd} {s : State} (hs : Kept ask s) :
    KeptOut ask (execVinitn c s) := by
  unfold execVinitn
  simp (maxDischargeDepth := 40) +contextual [*]

@[simp] theorem execVcmp_kept {c : OpCmd} {s : State} (hs : Kept ask s) :
    KeptOut ask (execVcmp c s) := by
  unfold execVcmp
  simp (maxDischargeDepth := 40) +contextual [*]

@[simp] theorem execVrand_kept {c : OpCmd} {s : State} (hs : Kept ask s) :
    KeptOut ask (execVrand c s) := by
  unfold execVrand
  simp (maxDischargeDepth := 40) +contextual [*]

@[simp] theorem execVcsum_kept {c : OpCmd} {s : State} (hs : Kept ask s) :
    KeptOut ask (execVcsum c s) := by
  unfold execVcsum
  simp (maxDischargeDepth := 40) +contextual [*]

/-! Machine/Sampling.lean -/

@[simp] theorem flagWrite_kept {s : State} {c : OpCmd} {m : List Host.Cell} {kinds : List RowCase} (hs : Kept ask s) (hm : CKept ask m) :
    CKept ask (flagWrite s c m kinds) := by
  unfold flagWrite
  simp (maxDischargeDepth := 40) +contextual [*]

@[simp] theorem rowDone_kept {s : State} {c : OpCmd} {spad : List Host.Cell} {st : Stat8} (hs : Kept ask s) (hspad : CKept ask spad) :
    Kept ask (rowDone s c spad st) := by
  unfold rowDone
  simp (maxDischargeDepth := 40) +contextual [*]

@[simp] theorem softmaxRun_kept {s : State} {c : OpCmd} (hs : Kept ask s) :
    Kept ask (softmaxRun s c) := by
  unfold softmaxRun
  simp (maxDischargeDepth := 40) +contextual [*]

@[simp] theorem execSoftmax_kept {c : OpCmd} {s : State} (hs : Kept ask s) :
    KeptOut ask (execSoftmax c s) := by
  unfold execSoftmax
  simp (maxDischargeDepth := 40) +contextual [*]

@[simp] theorem sampleRun_kept {s : State} {c : OpCmd} (hs : Kept ask s) :
    Kept ask (sampleRun s c) := by
  unfold sampleRun
  simp (maxDischargeDepth := 40) +contextual [*]

@[simp] theorem execSample_kept {c : OpCmd} {s : State} (hs : Kept ask s) :
    KeptOut ask (execSample c s) := by
  unfold execSample
  simp (maxDischargeDepth := 40) +contextual [*]

/-! Machine/Trees.lean -/

@[simp] theorem noteNodes_kept {s : State} {l : List SumNode} (hs : Kept ask s) :
    Kept ask (noteNodes s l) := by
  unfold noteNodes
  simp (maxDischargeDepth := 40) +contextual [*]

/-! Machine/Bellows.lean -/

@[simp] theorem bellowsDone_kept {s : State} {c : OpCmd} {spad : List Host.Cell} {st : Stat8} {bad : Nat} (hs : Kept ask s) (hspad : CKept ask spad) :
    Kept ask (bellowsDone s c spad st bad) := by
  unfold bellowsDone
  simp (maxDischargeDepth := 40) +contextual [*]

@[simp] theorem rowReduce_kept {code : Nat} {n : Nat} {skips : Bool} {f : List BElem → Bytes} {c : OpCmd} {s : State} (hs : Kept ask s) :
    KeptOut ask (rowReduce code n skips f c s) := by
  unfold rowReduce
  simp (maxDischargeDepth := 40) +contextual [*]

@[simp] theorem execBmax_kept {c : OpCmd} {s : State} (hs : Kept ask s) :
    KeptOut ask (execBmax c s) := by
  unfold execBmax
  simp (maxDischargeDepth := 40) +contextual [*]

@[simp] theorem execBmin_kept {c : OpCmd} {s : State} (hs : Kept ask s) :
    KeptOut ask (execBmin c s) := by
  unfold execBmin
  simp (maxDischargeDepth := 40) +contextual [*]

@[simp] theorem execBamax_kept {c : OpCmd} {s : State} (hs : Kept ask s) :
    KeptOut ask (execBamax c s) := by
  unfold execBamax
  simp (maxDischargeDepth := 40) +contextual [*]

@[simp] theorem execBargmax_kept {c : OpCmd} {s : State} (hs : Kept ask s) :
    KeptOut ask (execBargmax c s) := by
  unfold execBargmax
  simp (maxDischargeDepth := 40) +contextual [*]

@[simp] theorem execBtopk_kept {c : OpCmd} {s : State} (hs : Kept ask s) :
    KeptOut ask (execBtopk c s) := by
  unfold execBtopk
  simp (maxDischargeDepth := 40) +contextual [*]

@[simp] theorem sumReduce_kept {code : Nat} {leaf : Val → Val} {c : OpCmd} {s : State} (hs : Kept ask s) :
    KeptOut ask (sumReduce code leaf c s) := by
  unfold sumReduce
  simp (maxDischargeDepth := 40) +contextual [*]

@[simp] theorem execBsum_kept {c : OpCmd} {s : State} (hs : Kept ask s) :
    KeptOut ask (execBsum c s) := by
  unfold execBsum
  simp (maxDischargeDepth := 40) +contextual [*]

@[simp] theorem execBsumsq_kept {c : OpCmd} {s : State} (hs : Kept ask s) :
    KeptOut ask (execBsumsq c s) := by
  unfold execBsumsq
  split
  · rename_i t e
    have ht : Kept ask t := sumReduce_kept hs t e
    rw [keptOut_next]
    split
    · exact ht
    · exact noteNodes_kept ht
  · exact sumReduce_kept hs

@[simp] theorem execBprefix_kept {c : OpCmd} {s : State} (hs : Kept ask s) :
    KeptOut ask (execBprefix c s) := by
  unfold execBprefix
  simp (maxDischargeDepth := 40) +contextual [*]

@[simp] theorem execBnode_kept {c : OpCmd} {s : State} (hs : Kept ask s) :
    KeptOut ask (execBnode c s) := by
  unfold execBnode
  simp (maxDischargeDepth := 40) +contextual [*]

@[simp] theorem execBmerge_kept {c : OpCmd} {s : State} (hs : Kept ask s) :
    KeptOut ask (execBmerge c s) := by
  unfold execBmerge
  simp (maxDischargeDepth := 40) +contextual [*]

/-! Machine/UpdateOps.lean -/

@[simp] theorem opened_kept {s : State} (hs : Kept ask s) :
    Kept ask (opened s) := by
  unfold opened
  simp (maxDischargeDepth := 40) +contextual [*]

@[simp] theorem updDone_kept {s : State} {c : OpCmd} {spad : List Host.Cell} {st : Stat8} (hs : Kept ask s) (hspad : CKept ask spad) :
    Kept ask (updDone s c spad st) := by
  unfold updDone
  simp (maxDischargeDepth := 40) +contextual [*]

@[simp] theorem updRun_kept {r : Rule} {c : OpCmd} {s : State} (hs : Kept ask s) :
    Kept ask (updRun r c s) := by
  unfold updRun
  simp (maxDischargeDepth := 40) +contextual [*]

@[simp] theorem decodeRun_kept {c : OpCmd} {s : State} (hs : Kept ask s) :
    Kept ask (decodeRun c s) := by
  unfold decodeRun
  simp (maxDischargeDepth := 40) +contextual [*]

@[simp] theorem noteGrad_kept {s : State} {c : OpCmd} (hs : Kept ask s) :
    Kept ask (noteGrad s c) := by
  unfold noteGrad
  simp (maxDischargeDepth := 40) +contextual [*]

@[simp] theorem updOp_kept {code : Nat} {r : Rule} {c : OpCmd} {s : State} (hs : Kept ask s) :
    KeptOut ask (updOp code r c s) := by
  unfold updOp
  repeat' split
  all_goals simp (maxDischargeDepth := 40) +contextual [*]

@[simp] theorem execUpdSgdm_kept {c : OpCmd} {s : State} (hs : Kept ask s) :
    KeptOut ask (execUpdSgdm c s) := by
  unfold execUpdSgdm
  simp (maxDischargeDepth := 40) +contextual [*]

@[simp] theorem execUpdAdam_kept {c : OpCmd} {s : State} (hs : Kept ask s) :
    KeptOut ask (execUpdAdam c s) := by
  unfold execUpdAdam
  simp (maxDischargeDepth := 40) +contextual [*]

@[simp] theorem execUpdSign_kept {c : OpCmd} {s : State} (hs : Kept ask s) :
    KeptOut ask (execUpdSign c s) := by
  unfold execUpdSign
  simp (maxDischargeDepth := 40) +contextual [*]

/-! Machine/Transfer.lean -/

@[simp] theorem dropLine_kept {m : Memory} {key : Nat} (hm : MKept ask m) :
    MKept ask (dropLine m key) := by
  unfold dropLine
  simp (maxDischargeDepth := 40) +contextual [*]

@[simp] theorem allocKeep_kept {s : State} {m : Memory} {key : Nat} (hs : Kept ask s) (hm : MKept ask m) :
    MKept ask (allocKeep s m key) := by
  unfold allocKeep
  simp (maxDischargeDepth := 40) +contextual [*]

@[simp] theorem readLine_kept {r : Region} {hint : Nat} {acc : State × Bytes} {off : Nat} (hacc : Kept ask acc.1) :
    Kept ask (readLine r hint acc off).1 := by
  unfold readLine
  dsimp only
  repeat' split
  all_goals simp (maxDischargeDepth := 40) +contextual [*]

@[simp] theorem dataRead_kept {s : State} {r : Region} {hint : Nat} {off : Nat} {len : Nat} (hs : Kept ask s) :
    Kept ask (dataRead s r hint off len).1 := by
  unfold dataRead
  simp (maxDischargeDepth := 40) +contextual [*]

@[simp] theorem noteLine_kept {s : State} {r : Region} {hint : Nat} {m : Memory} {x : Nat × Bytes} (hs : Kept ask s) (hm : MKept ask m) :
    MKept ask (noteLine s r hint m x) := by
  unfold noteLine
  dsimp only
  repeat' split
  all_goals simp (maxDischargeDepth := 40) +contextual [*]

@[simp] theorem writeLast_kept {r : Region} {s : State} {x : Nat × Bytes} (hs : Kept ask s) :
    Kept ask (writeLast r s x) := by
  unfold writeLast
  dsimp only
  repeat' split
  all_goals simp (maxDischargeDepth := 40) +contextual [*]

@[simp] theorem dataWrite_kept {s : State} {r : Region} {hint : Nat} {off : Nat} {bs : Bytes} (hs : Kept ask s) :
    Kept ask (dataWrite s r hint off bs) := by
  unfold dataWrite
  simp (maxDischargeDepth := 40) +contextual [*]

@[simp] theorem flFresh_kept {e : BitVec 256} {s : State} (hs : Kept ask s) :
    Kept ask (flFresh e s) := by
  unfold flFresh
  simp (maxDischargeDepth := 40) +contextual [*]

@[simp] theorem spadPut_kept {s : State} {h : Nat} {a : Nat} {bs : Bytes} (hs : Kept ask s) :
    Kept ask (spadPut s h a bs) := by
  unfold spadPut
  simp (maxDischargeDepth := 40) +contextual [*]

@[simp] theorem flueIn_kept {h : Nat} {e : BitVec 256} {s : State} {r : Region} (hs : Kept ask s) :
    Kept ask (flueIn h e s r) := by
  unfold flueIn
  simp (maxDischargeDepth := 40) +contextual [*]

@[simp] theorem flueOut_kept {h : Nat} {e : BitVec 256} {s : State} {r : Region} (hs : Kept ask s) :
    Kept ask (flueOut h e s r) := by
  unfold flueOut
  simp (maxDischargeDepth := 40) +contextual [*]

@[simp] theorem flueCopy_kept {e : BitVec 256} {s : State} {r : Region} {ring : Region} (hs : Kept ask s) :
    Kept ask (flueCopy e s r ring) := by
  unfold flueCopy
  simp (maxDischargeDepth := 40) +contextual [*]

@[simp] theorem flueRegion_kept {h : Nat} {e : BitVec 256} {s : State} {r : Region} (hs : Kept ask s) :
    Kept ask (flueRegion h e s r) := by
  unfold flueRegion
  repeat' split
  all_goals simp (maxDischargeDepth := 40) +contextual [*]

@[simp] theorem flueLocal_kept {h : Nat} {e : BitVec 256} {s : State} (hs : Kept ask s) :
    Kept ask (flueLocal h e s) := by
  unfold flueLocal
  repeat' split
  all_goals simp (maxDischargeDepth := 40) +contextual [*]

@[simp] theorem execFlueTransfer_kept {h : Fin 1152} {e : BitVec 256} {s : State} (hs : Kept ask s) :
    KeptOut ask (execFlueTransfer h e s) := by
  unfold execFlueTransfer
  simp (maxDischargeDepth := 40) +contextual [*]

@[simp] theorem atomicOn_kept {h : Nat} {e : BitVec 256} {s : State} {r : Region} (hs : Kept ask s) :
    Kept ask (atomicOn h e s r) := by
  unfold atomicOn
  simp (maxDischargeDepth := 40) +contextual [*]

@[simp] theorem execFlueAtomic_kept {h : Fin 1152} {e : BitVec 256} {s : State} (hs : Kept ask s) :
    KeptOut ask (execFlueAtomic h e s) := by
  unfold execFlueAtomic
  simp (maxDischargeDepth := 40) +contextual [*]

@[simp] theorem execSpineCombination_kept {e : BitVec 128} {s : State} (hs : Kept ask s) :
    KeptOut ask (execSpineCombination e s) := by
  unfold execSpineCombination
  simp (maxDischargeDepth := 40) +contextual [*]

end Sys2Proof.Machine
end

