-- ==== Sys2Proof/Laws/KeptLife.lean ====
section
/-! SUPPORT. What the operations of images, channels, sequencer, mailboxes, Assay, the collector, and the life of the device keep. -/

set_option linter.unusedVariables false
set_option linter.unusedSimpArgs false

namespace Sys2Proof.Machine

variable {ask : Ask}

/-! Machine/Geometry.lean -/

@[simp] theorem remapOne_kept {s : State} {h : Nat} (hs : Kept ask s) :
    Kept ask (remapOne s h) := by
  unfold remapOne
  repeat' split
  all_goals simp (maxDischargeDepth := 40) +contextual [*]

@[simp] theorem remapFenced_kept {s : State} (hs : Kept ask s) :
    Kept ask (remapFenced s) := by
  unfold remapFenced
  simp (maxDischargeDepth := 40) +contextual [*]

@[simp] theorem fenceHearth_kept {s : State} {h : Nat} (hs : Kept ask s) :
    Kept ask (fenceHearth s h) := by
  unfold fenceHearth
  simp (maxDischargeDepth := 40) +contextual [*]

/-! Machine/Fabric.lean -/

@[simp] theorem refreshDepth_kept {s : State} (hs : Kept ask s) :
    Kept ask (refreshDepth s) := by
  unfold refreshDepth
  simp (maxDischargeDepth := 40) +contextual [*]

@[simp] theorem refreshParent_kept {s : State} (hs : Kept ask s) :
    Kept ask (refreshParent s) := by
  unfold refreshParent
  simp (maxDischargeDepth := 40) +contextual [*]

@[simp] theorem queueHalt_kept {c : Cell} {s : State} (hs : Kept ask s) :
    Kept ask (queueHalt c s) := by
  unfold queueHalt
  simp (maxDischargeDepth := 40) +contextual [*]

@[simp] theorem forwardHalt_kept {c : Cell} {s : State} (hs : Kept ask s) :
    Kept ask (forwardHalt c s) := by
  unfold forwardHalt
  simp (maxDischargeDepth := 40) +contextual [*]

@[simp] theorem queueControl_kept {c : Cell} {s : State} {k : Nat} (hs : Kept ask s) :
    Kept ask (queueControl c s k) := by
  unfold queueControl
  simp (maxDischargeDepth := 40) +contextual [*]

@[simp] theorem floodBut_kept {skip : Option Nat} {c : Cell} {s : State} (hs : Kept ask s) :
    Kept ask (floodBut skip c s) := by
  unfold floodBut
  simp (maxDischargeDepth := 40) +contextual [*]

@[simp] theorem originate_kept {code : Nat} {payload : Bytes} {s : State} (hs : Kept ask s) :
    Kept ask (originate code payload s) := by
  unfold originate
  simp (maxDischargeDepth := 40) +contextual [*]

/-! Machine/Channels.lean -/

@[simp] theorem sendMsg_kept {s : State} {dst : Endpoint} {typ : BitVec 8} {session : BitVec 32} {seq : BitVec 32} {flags : BitVec 8} {body : Bytes} (hs : Kept ask s) :
    Kept ask (sendMsg s dst typ session seq flags body) := by
  unfold sendMsg
  simp (maxDischargeDepth := 40) +contextual [*]

@[simp] theorem sendBulk_kept {s : State} {c : Channel} {typ : BitVec 8} {flags : BitVec 8} {body : Bytes} (hs : Kept ask s) :
    Kept ask (sendBulk s c typ flags body) := by
  unfold sendBulk
  simp (maxDischargeDepth := 40) +contextual [*]

@[simp] theorem modChannel_kept {s : State} {id : BitVec 16} {f : Channel → Channel} (hs : Kept ask s) :
    Kept ask (modChannel s id f) := by
  unfold modChannel
  simp (maxDischargeDepth := 40) +contextual [*]

@[simp] theorem drainUnits_kept {s : State} {n : Nat} (hs : Kept ask s) :
    Kept ask (drainUnits s n) := by
  unfold drainUnits
  simp (maxDischargeDepth := 40) +contextual [*]

@[simp] theorem dropChannel_kept {s0 : State} {id : BitVec 16} (hs0 : Kept ask s0) :
    Kept ask (dropChannel s0 id) := by
  unfold dropChannel
  simp (maxDischargeDepth := 40) +contextual [*]

@[simp] theorem closeChannel_kept {reason : Nat} {code : BitVec 16} {s : State} {c : Channel} (hs : Kept ask s) :
    Kept ask (closeChannel reason code s c) := by
  unfold closeChannel
  simp (maxDischargeDepth := 40) +contextual [*]

@[simp] theorem closeKinds_kept {kinds : List Nat} {reason : Nat} {s : State} (hs : Kept ask s) :
    Kept ask (closeKinds kinds reason s) := by
  unfold closeKinds
  simp (maxDischargeDepth := 40) +contextual [*]

@[simp] theorem discard_kept {s : State} {n : Nat} (hs : Kept ask s) :
    Kept ask (discard s n) := by
  unfold discard
  simp (maxDischargeDepth := 40) +contextual [*]

@[simp] theorem sendAck_kept {s : State} {c : Channel} {w : Nat} (hs : Kept ask s) :
    Kept ask (sendAck s c w) := by
  unfold sendAck
  simp (maxDischargeDepth := 40) +contextual [*]

@[simp] theorem sendUnits_kept {c : Channel} {flags : BitVec 8} {z0 : Nat} {z1 : Nat} {z2 : Nat} {z3 : State} (hz3 : Kept ask z3) :
    Kept ask (sendUnits c flags z0 z1 z2 z3) := by
  induction z0 generalizing z1 z2 z3 with
  | zero => exact hz3
  | succ n ih =>
    unfold sendUnits
    dsimp only
    split
    · exact hz3
    · exact ih (by simp (maxDischargeDepth := 40) +contextual [*])

@[simp] theorem pump_kept {s : State} {id : BitVec 16} (hs : Kept ask s) :
    Kept ask (pump s id) := by
  unfold pump
  repeat' split
  all_goals simp (maxDischargeDepth := 40) +contextual [*]

@[simp] theorem feed_kept {s : State} {id : BitVec 16} {bs : Bytes} {ends : Bool} (hs : Kept ask s) :
    Kept ask (feed s id bs ends) := by
  unfold feed
  simp (maxDischargeDepth := 40) +contextual [*]

@[simp] theorem chimneyStart_kept {s : State} {c : Channel} {r : Bytes} (hs : Kept ask s) :
    Kept ask (chimneyStart s c r) := by
  unfold chimneyStart
  simp (maxDischargeDepth := 40) +contextual [*]

@[simp] theorem chimneyPut_kept {s : State} {r : Bytes} (hs : Kept ask s) :
    Kept ask (chimneyPut s r) := by
  unfold chimneyPut
  repeat' split
  all_goals simp (maxDischargeDepth := 40) +contextual [*]

@[simp] theorem chimneyDone_kept {s : State} {c : Channel} (hs : Kept ask s) :
    Kept ask (chimneyDone s c) := by
  unfold chimneyDone
  repeat' split
  all_goals simp (maxDischargeDepth := 40) +contextual [*]

/-! Machine/Sequencer.lean -/

@[simp] theorem applyDecision_kept {s : State} (hs : Kept ask s) :
    Kept ask (applyDecision s) := by
  unfold applyDecision
  repeat' split
  all_goals simp (maxDischargeDepth := 40) +contextual [*]

@[simp] theorem chimneyStep_kept {s : State} {n : Nat} {time : Nat} {replays : Nat} {frames : Nat} {ids : List Nat} (hs : Kept ask s) :
    Kept ask (chimneyStep s n time replays frames ids) := by
  unfold chimneyStep
  dsimp only
  repeat' split
  all_goals simp (maxDischargeDepth := 40) +contextual only [kept_mk, kept_queue, kept_err, kept_mem, kept_store, kept_buffers, and_self, implies_true, ite_self, *, chimneyPut_kept]

@[simp] theorem enterSeg_kept {s : State} {pos : Nat} (hs : Kept ask s) :
    Kept ask (enterSeg s pos) := by
  unfold enterSeg
  simp (maxDischargeDepth := 40) +contextual [*]

@[simp] theorem clearStats_kept {s : State} (hs : Kept ask s) :
    Kept ask (clearStats s) := by
  unfold clearStats
  simp (maxDischargeDepth := 40) +contextual [*]

@[simp] theorem clearAfterCast_kept {s : State} (hs : Kept ask s) :
    Kept ask (clearAfterCast s) := by
  unfold clearAfterCast
  simp (maxDischargeDepth := 40) +contextual [*]

@[simp] theorem clearDigests_kept {s : State} (hs : Kept ask s) :
    Kept ask (clearDigests s) := by
  unfold clearDigests
  simp (maxDischargeDepth := 40) +contextual [*]

@[simp] theorem clearStepCounts_kept {s : State} (hs : Kept ask s) :
    Kept ask (clearStepCounts s) := by
  unfold clearStepCounts
  simp (maxDischargeDepth := 40) +contextual [*]

@[simp] theorem returnLinks_kept {s : State} (hs : Kept ask s) :
    Kept ask (returnLinks s) := by
  unfold returnLinks
  simp (maxDischargeDepth := 40) +contextual [*]

@[simp] theorem closeStages_kept {s : State} {n : Nat} (hs : Kept ask s) :
    Kept ask (closeStages s n) := by
  unfold closeStages
  simp (maxDischargeDepth := 40) +contextual [*]

@[simp] theorem recordStep_kept {s : State} {n : Nat} (hs : Kept ask s) :
    Kept ask (recordStep s n) := by
  unfold recordStep
  simp (maxDischargeDepth := 40) +contextual [*]

@[simp] theorem beginStep_kept {s0 : State} {n : Nat} (hs0 : Kept ask s0) :
    Kept ask (beginStep s0 n) := by
  unfold beginStep
  simp (maxDischargeDepth := 40) +contextual [*]

@[simp] theorem restoreCopy_kept {s : State} {c : UndoCopy} (hs : Kept ask s) :
    Kept ask (restoreCopy s c) := by
  unfold restoreCopy
  repeat' split
  all_goals simp (maxDischargeDepth := 40) +contextual [*]

@[simp] theorem commitChunk_kept {k : Nat} {s : State} (hs : Kept ask s) :
    Kept ask (commitChunk k s) := by
  unfold commitChunk
  simp (maxDischargeDepth := 40) +contextual [*]

@[simp] theorem restoreChunk_kept {k : Nat} {s : State} (hs : Kept ask s) :
    Kept ask (restoreChunk k s) := by
  unfold restoreChunk
  simp (maxDischargeDepth := 40) +contextual [*]

@[simp] theorem dropCopy_kept {k : Nat} {s : State} (hs : Kept ask s) :
    Kept ask (dropCopy k s) := by
  unfold dropCopy
  simp (maxDischargeDepth := 40) +contextual [*]

@[simp] theorem settleChunk_kept {f : Int} {s : State} {k : Nat} (hs : Kept ask s) :
    Kept ask (settleChunk f s k) := by
  unfold settleChunk
  repeat' split
  all_goals simp (maxDischargeDepth := 40) +contextual [*]

@[simp] theorem settleChunks_kept {s : State} {f : Int} (hs : Kept ask s) :
    Kept ask (settleChunks s f) := by
  unfold settleChunks
  simp (maxDischargeDepth := 40) +contextual [*]

@[simp] theorem endStats_kept {s : State} (hs : Kept ask s) :
    Kept ask (endStats s) := by
  unfold endStats
  simp (maxDischargeDepth := 40) +contextual [*]

@[simp] theorem enterHeld_kept {s : State} {reason : BitVec 4} (hs : Kept ask s) :
    Kept ask (enterHeld s reason) := by
  unfold enterHeld
  simp (maxDischargeDepth := 40) +contextual [*]

/-! Machine/Statistics.lean -/

@[simp] theorem freezeRecords_kept {s : State} (hs : Kept ask s) :
    Kept ask (freezeRecords s) := by
  unfold freezeRecords
  simp (maxDischargeDepth := 40) +contextual [*]

/-! Machine/Mail.lean -/

@[simp] theorem lockRead_kept {s : State} {m : Nat} {a : Nat} (hs : Kept ask s) :
    Kept ask (lockRead s m a).1 := by
  unfold lockRead
  simp (maxDischargeDepth := 40) +contextual [*]

@[simp] theorem lockWrite_kept {s : State} {m : Nat} {a : Nat} {v : Nat} (hs : Kept ask s) :
    Kept ask (lockWrite s m a v).1 := by
  unfold lockWrite
  simp (maxDischargeDepth := 40) +contextual [*]

@[simp] theorem goWrite_kept {s : State} {m : Nat} {a : Nat} {len : BitVec 5} {code : BitVec 8} (hs : Kept ask s) :
    Kept ask (goWrite s m a len code).1 := by
  unfold goWrite
  simp (maxDischargeDepth := 40) +contextual [*]

@[simp] theorem withdrawWrite_kept {s : State} {m : Nat} {a : Nat} (hs : Kept ask s) :
    Kept ask (withdrawWrite s m a).1 := by
  unfold withdrawWrite
  simp (maxDischargeDepth := 40) +contextual [*]

@[simp] theorem takenWrite_kept {s : State} {m : Nat} {a : Nat} (hs : Kept ask s) :
    Kept ask (takenWrite s m a).1 := by
  unfold takenWrite
  simp (maxDischargeDepth := 40) +contextual [*]

@[simp] theorem doneWrite_kept {s : State} {m : Nat} {a : Nat} {len : BitVec 5} (hs : Kept ask s) :
    Kept ask (doneWrite s m a len).1 := by
  unfold doneWrite
  simp (maxDischargeDepth := 40) +contextual [*]

@[simp] theorem rejectedWrite_kept {s : State} {m : Nat} {a : Nat} (hs : Kept ask s) :
    Kept ask (rejectedWrite s m a).1 := by
  unfold rejectedWrite
  simp (maxDischargeDepth := 40) +contextual [*]

@[simp] theorem wordWrite_kept {s : State} {m : Nat} {a : Nat} {i : Nat} {v : BitVec 32} (hs : Kept ask s) :
    Kept ask (wordWrite s m a i v).1 := by
  unfold wordWrite
  simp (maxDischargeDepth := 40) +contextual [*]

@[simp] theorem controlWrite_kept {s : State} {m : Nat} {a : Nat} {v : Nat} (hs : Kept ask s) :
    Kept ask (controlWrite s m a v).1 := by
  unfold controlWrite
  simp (maxDischargeDepth := 40) +contextual [*]

@[simp] theorem clearAbsent_kept {s : State} (hs : Kept ask s) :
    Kept ask (clearAbsent s) := by
  unfold clearAbsent
  simp (maxDischargeDepth := 40) +contextual [*]

@[simp] theorem releaseSender_kept {a : Nat} {s : State} (hs : Kept ask s) :
    Kept ask (releaseSender a s) := by
  unfold releaseSender
  simp (maxDischargeDepth := 40) +contextual [*]

@[simp] theorem diesOff_kept {s : State} (hs : Kept ask s) :
    Kept ask (diesOff s) := by
  unfold diesOff
  simp (maxDischargeDepth := 40) +contextual [*]

@[simp] theorem sendEvent_kept {s : State} {record : Bytes} (hs : Kept ask s) :
    Kept ask (sendEvent s record) := by
  unfold sendEvent
  repeat' split
  all_goals simp (maxDischargeDepth := 40) +contextual [*]

@[simp] theorem execMailLock_kept {m : Fin 32} {agent : Fin 64} {s : State} (hs : Kept ask s) :
    KeptOut ask (execMailLock m agent s) := by
  unfold execMailLock
  simp (maxDischargeDepth := 40) +contextual [*]

@[simp] theorem execMailRelease_kept {m : Fin 32} {agent : Fin 64} {s : State} (hs : Kept ask s) :
    KeptOut ask (execMailRelease m agent s) := by
  unfold execMailRelease
  simp (maxDischargeDepth := 40) +contextual [*]

@[simp] theorem execMailGo_kept {m : Fin 32} {agent : Fin 64} {len : BitVec 5} {code : BitVec 8} {s : State} (hs : Kept ask s) :
    KeptOut ask (execMailGo m agent len code s) := by
  unfold execMailGo
  simp (maxDischargeDepth := 40) +contextual [*]

@[simp] theorem execMailboxWithdraw_kept {m : Fin 32} {agent : Fin 64} {s : State} (hs : Kept ask s) :
    KeptOut ask (execMailboxWithdraw m agent s) := by
  unfold execMailboxWithdraw
  simp (maxDischargeDepth := 40) +contextual [*]

@[simp] theorem execMailTaken_kept {m : Fin 32} {agent : Fin 64} {s : State} (hs : Kept ask s) :
    KeptOut ask (execMailTaken m agent s) := by
  unfold execMailTaken
  simp (maxDischargeDepth := 40) +contextual [*]

@[simp] theorem execMailDone_kept {m : Fin 32} {agent : Fin 64} {len : BitVec 5} {s : State} (hs : Kept ask s) :
    KeptOut ask (execMailDone m agent len s) := by
  unfold execMailDone
  simp (maxDischargeDepth := 40) +contextual [*]

@[simp] theorem execMailRejected_kept {m : Fin 32} {agent : Fin 64} {s : State} (hs : Kept ask s) :
    KeptOut ask (execMailRejected m agent s) := by
  unfold execMailRejected
  simp (maxDischargeDepth := 40) +contextual [*]

@[simp] theorem execMailEcho_kept {m : Fin 32} {s : State} (hs : Kept ask s) :
    KeptOut ask (execMailEcho m s) := by
  unfold execMailEcho
  simp (maxDischargeDepth := 40) +contextual [*]

/-! Machine/Assay.lean -/

@[simp] theorem closeRecord_kept {s : State} {flags : Nat} {fabricEnd : Nat} {endTime : Nat} {endEnergy : List (BitVec 64)} {work : Nat} (hs : Kept ask s) :
    Kept ask (closeRecord s flags fabricEnd endTime endEnergy work) := by
  unfold closeRecord
  dsimp only
  repeat' split
  all_goals simp (maxDischargeDepth := 40) +contextual only [kept_mk, kept_queue, kept_err, kept_mem, kept_store, kept_buffers, and_self, implies_true, ite_self, *]

@[simp] theorem closeAt_kept {s : State} {m : Metering} {flags : Nat} {fabricEnd : Nat} (hs : Kept ask s) :
    Kept ask (closeAt s m flags fabricEnd) := by
  unfold closeAt
  simp (maxDischargeDepth := 40) +contextual [*]

@[simp] theorem openRecord_kept {s : State} {m : Metering} {x : Marker} (hs : Kept ask s) :
    Kept ask (openRecord s m x) := by
  unfold openRecord
  simp (maxDischargeDepth := 40) +contextual [*]

@[simp] theorem execJobStart_kept {m : Metering} {s : State} (hs : Kept ask s) :
    KeptOut ask (execJobStart m s) := by
  unfold execJobStart
  repeat' split
  all_goals simp (maxDischargeDepth := 40) +contextual [*]

@[simp] theorem execJobEnd_kept {m : Metering} {s : State} (hs : Kept ask s) :
    KeptOut ask (execJobEnd m s) := by
  unfold execJobEnd
  repeat' split
  all_goals simp (maxDischargeDepth := 40) +contextual [*]

@[simp] theorem execRecordReady_kept {s : State} (hs : Kept ask s) :
    KeptOut ask (execRecordReady s) := by
  unfold execRecordReady
  repeat' split
  all_goals simp (maxDischargeDepth := 40) +contextual [*]

@[simp] theorem execWorkCountDelivery_kept {s : State} (hs : Kept ask s) :
    KeptOut ask (execWorkCountDelivery s) := by
  unfold execWorkCountDelivery
  simp (maxDischargeDepth := 40) +contextual [*]

@[simp] theorem execAssayCheckpoint_kept {m : Metering} {s : State} (hs : Kept ask s) :
    KeptOut ask (execAssayCheckpoint m s) := by
  unfold execAssayCheckpoint
  simp (maxDischargeDepth := 40) +contextual [*]

@[simp] theorem execVassayLoss_kept {m : Metering} {s : State} (hs : Kept ask s) :
    KeptOut ask (execVassayLoss m s) := by
  unfold execVassayLoss
  simp (maxDischargeDepth := 40) +contextual [*]

@[simp] theorem execVassayReturn_kept {m : Metering} {s : State} (hs : Kept ask s) :
    KeptOut ask (execVassayReturn m s) := by
  unfold execVassayReturn
  repeat' split
  all_goals simp (maxDischargeDepth := 40) +contextual [*]

@[simp] theorem execAssayUpdateRequest_kept {s : State} (hs : Kept ask s) :
    KeptOut ask (execAssayUpdateRequest s) := by
  unfold execAssayUpdateRequest
  simp (maxDischargeDepth := 40) +contextual [*]

@[simp] theorem execAssayFirmwareInstall_kept {s : State} (hs : Kept ask s) :
    KeptOut ask (execAssayFirmwareInstall s) := by
  unfold execAssayFirmwareInstall
  simp (maxDischargeDepth := 40) +contextual [*]

@[simp] theorem execAssayRestartDone_kept {s : State} (hs : Kept ask s) :
    KeptOut ask (execAssayRestartDone s) := by
  unfold execAssayRestartDone
  repeat' split
  all_goals simp (maxDischargeDepth := 40) +contextual [*]

/-! Machine/Collector.lean -/

@[simp] theorem countHearth_kept {s : State} {i : SourceInfo} {h : Nat} (hs : Kept ask s) :
    Kept ask (countHearth s i h) := by
  unfold countHearth
  simp (maxDischargeDepth := 40) +contextual [*]

@[simp] theorem countOccurrence_kept {s : State} {i : SourceInfo} {o : Occ} (hs : Kept ask s) :
    Kept ask (countOccurrence s i o) := by
  unfold countOccurrence
  repeat' split
  all_goals simp (maxDischargeDepth := 40) +contextual [*]

@[simp] theorem logOccurrence_kept {s : State} {i : SourceInfo} {o : Occ} {d : Detected} {reaction : Nat} {masked : Bool} (hs : Kept ask s) :
    Kept ask (logOccurrence s i o d reaction masked) := by
  unfold logOccurrence
  simp (maxDischargeDepth := 40) +contextual [*]

@[simp] theorem qualify_kept {s : State} {i : SourceInfo} {masked : Bool} (hs : Kept ask s) :
    Kept ask (qualify s i masked) := by
  unfold qualify
  dsimp only
  split
  · exact hs
  · split
    · exact hs
    · simp [hs]

@[simp] theorem noteLost_kept {s : State} {code : Nat} (hs : Kept ask s) :
    Kept ask (noteLost s code) := by
  unfold noteLost
  simp (maxDischargeDepth := 40) +contextual [*]

@[simp] theorem classify_kept {s0 : State} {d : Detected} (hs0 : Kept ask s0) :
    Kept ask (classify s0 d).1 := by
  unfold classify
  dsimp only
  repeat' split
  all_goals simp (maxDischargeDepth := 40) +contextual [*]

@[simp] theorem drain_kept {s : State} (hs : Kept ask s) :
    Kept ask (drain s) := by
  unfold drain
  simp (maxDischargeDepth := 40) +contextual [*]

/-! Machine/Lifecycle.lean -/

@[simp] theorem pushEnd_kept {reason : Nat} {s : State} (hs : Kept ask s) :
    Kept ask (pushEnd reason s) := by
  unfold pushEnd
  simp (maxDischargeDepth := 40) +contextual [*]

@[simp] theorem pushStart_kept {s : State} (hs : Kept ask s) :
    Kept ask (pushStart s) := by
  unfold pushStart
  simp (maxDischargeDepth := 40) +contextual [*]

@[simp] theorem recordJob_kept {s : State} (hs : Kept ask s) :
    Kept ask (recordJob s) := by
  unfold recordJob
  simp (maxDischargeDepth := 40) +contextual [*]

@[simp] theorem endContext_kept {result : BitVec 8} {s : State} (hs : Kept ask s) :
    Kept ask (endContext result s) := by
  unfold endContext
  simp (maxDischargeDepth := 40) +contextual [*]

@[simp] theorem closeContext_kept {s : State} (hs : Kept ask s) :
    Kept ask (closeContext s) := by
  unfold closeContext
  simp (maxDischargeDepth := 40) +contextual [*]

@[simp] theorem cutHashes_kept {s : State} (hs : Kept ask s) :
    Kept ask (cutHashes s) := by
  unfold cutHashes
  simp (maxDischargeDepth := 40) +contextual [*]

@[simp] theorem unmapAll_kept {s : State} (hs : Kept ask s) :
    Kept ask (unmapAll s) := by
  unfold unmapAll
  simp (maxDischargeDepth := 40) +contextual [*]

@[simp] theorem zeroise_kept {s : State} (hs : Kept ask s) :
    Kept ask (zeroise s) := by
  unfold zeroise
  simp (maxDischargeDepth := 40) +contextual [*]

@[simp] theorem replaceLost_kept {active : Nat} {n : Nat} {m : Memory} (hm : MKept ask m) :
    MKept ask (replaceLost active n m) := by
  unfold replaceLost
  dsimp only
  repeat' split
  all_goals simp (maxDischargeDepth := 40) +contextual [*]

@[simp] theorem replaceAll_kept {f : FenceMap} {m : Memory} (hm : MKept ask m) :
    MKept ask (replaceAll f m) := by
  unfold replaceAll
  simp (maxDischargeDepth := 40) +contextual [*]

@[simp] theorem selfRefreshAll_kept {s : State} (hs : Kept ask s) :
    Kept ask (selfRefreshAll s) := by
  unfold selfRefreshAll
  simp (maxDischargeDepth := 40) +contextual [*]

@[simp] theorem coldReset_kept {s0 : State} {code : BitVec 4} (hs0 : Kept ask s0) :
    Kept ask (coldReset s0 code) := by
  unfold coldReset
  simp (maxDischargeDepth := 40) +contextual [*]

@[simp] theorem warmReset_kept {s0 : State} (hs0 : Kept ask s0) :
    Kept ask (warmReset s0) := by
  unfold warmReset
  simp (maxDischargeDepth := 40) +contextual [*]

@[simp] theorem jobReset_kept {s0 : State} (hs0 : Kept ask s0) :
    Kept ask (jobReset s0) := by
  unfold jobReset
  simp (maxDischargeDepth := 40) +contextual [*]

@[simp] theorem startLinks_kept {s : State} (hs : Kept ask s) :
    Kept ask (startLinks s) := by
  unfold startLinks
  simp (maxDischargeDepth := 40) +contextual [*]

@[simp] theorem trainStacks_kept {s : State} (hs : Kept ask s) :
    Kept ask (trainStacks s) := by
  unfold trainStacks
  simp (maxDischargeDepth := 40) +contextual [*]

@[simp] theorem lockAtIdle_kept {s : State} (hs : Kept ask s) :
    Kept ask (lockAtIdle s) := by
  unfold lockAtIdle
  simp (maxDischargeDepth := 40) +contextual [*]

@[simp] theorem leaveJob_kept {s : State} (hs : Kept ask s) :
    Kept ask (leaveJob s) := by
  unfold leaveJob
  simp (maxDischargeDepth := 40) +contextual [*]

@[simp] theorem enterBanked_kept {cause : BitVec 4} {s : State} (hs : Kept ask s) :
    Kept ask (enterBanked cause s) := by
  unfold enterBanked
  simp (maxDischargeDepth := 40) +contextual [*]

@[simp] theorem enterFaulted_kept {code : Nat} {s : State} (hs : Kept ask s) :
    Kept ask (enterFaulted code s) := by
  unfold enterFaulted
  simp (maxDischargeDepth := 40) +contextual [*]

@[simp] theorem verifyFirmware_kept {s : State} (hs : Kept ask s) :
    Kept ask (verifyFirmware s) := by
  unfold verifyFirmware
  simp (maxDischargeDepth := 40) +contextual [*]

@[simp] theorem raiseCounters_kept {s : State} (hs : Kept ask s) :
    Kept ask (raiseCounters s) := by
  unfold raiseCounters
  simp (maxDischargeDepth := 40) +contextual [*]

@[simp] theorem failHearth_kept {code : Nat} {s : State} {h : Nat} (hs : Kept ask s) :
    Kept ask (failHearth code s h) := by
  unfold failHearth
  simp (maxDischargeDepth := 40) +contextual [*]

@[simp] theorem bootTests_kept {b : BootReport} {s : State} (hs : Kept ask s) :
    Kept ask (bootTests b s) := by
  unfold bootTests
  simp (maxDischargeDepth := 40) +contextual [*]

@[simp] theorem returnJob_kept {s : State} (hs : Kept ask s) :
    Kept ask (returnJob s) := by
  unfold returnJob
  simp (maxDischargeDepth := 40) +contextual [*]

@[simp] theorem riseErr_kept {s : State} (hs : Kept ask s) :
    Kept ask (riseErr s) := by
  unfold riseErr
  simp (maxDischargeDepth := 40) +contextual [*]

end Sys2Proof.Machine
end

