-- ==== Sys2Proof/Laws/KeptFabric.lean ====
section
/-! SUPPORT. What the operations of halts, cells, schedule, fallback, links, stacks and power keep. -/

set_option linter.unusedVariables false
set_option linter.unusedSimpArgs false

namespace Sys2Proof.Machine

variable {ask : Ask}

/-! Machine/Halt.lean -/

@[simp] theorem noteHalt_kept {s : State} {h : Halt} (hs : Kept ask s) :
    Kept ask (noteHalt s h) := by
  unfold noteHalt
  simp (maxDischargeDepth := 40) +contextual [*]

@[simp] theorem startDiag_kept {s : State} (hs : Kept ask s) :
    Kept ask (startDiag s) := by
  unfold startDiag
  simp (maxDischargeDepth := 40) +contextual [*]

@[simp] theorem raiseHalt_kept {h : Halt} {s : State} (hs : Kept ask s) :
    Kept ask (raiseHalt h s) := by
  unfold raiseHalt
  simp (maxDischargeDepth := 40) +contextual [*]

@[simp] theorem haltFor_kept {c : Classified} {s : State} (hs : Kept ask s) :
    Kept ask (haltFor c s) := by
  unfold haltFor
  simp (maxDischargeDepth := 40) +contextual [*]

@[simp] theorem imageStop_kept {s : State} (hs : Kept ask s) :
    Kept ask (imageStop s) := by
  unfold imageStop
  simp (maxDischargeDepth := 40) +contextual [*]

@[simp] theorem reactHearth_kept {h : Nat} {s : State} (hs : Kept ask s) :
    Kept ask (reactHearth h s) := by
  unfold reactHearth
  simp (maxDischargeDepth := 40) +contextual [*]

@[simp] theorem scheduleDown_kept {k : Nat} {f : Nat} {s : State} (hs : Kept ask s) :
    Kept ask (scheduleDown k f s) := by
  unfold scheduleDown
  simp (maxDischargeDepth := 40) +contextual [*]

@[simp] theorem downDirection_kept {k : Nat} {f : Nat} {s : State} (hs : Kept ask s) :
    Kept ask (downDirection k f s) := by
  unfold downDirection
  simp (maxDischargeDepth := 40) +contextual [*]

@[simp] theorem reactLink_kept {k : Nat} {s : State} (hs : Kept ask s) :
    Kept ask (reactLink k s) := by
  unfold reactLink
  simp (maxDischargeDepth := 40) +contextual [*]

@[simp] theorem fenceStack_kept {n : Nat} {count : Nat} {s : State} (hs : Kept ask s) :
    Kept ask (fenceStack n count s) := by
  unfold fenceStack
  simp (maxDischargeDepth := 40) +contextual [*]

@[simp] theorem reactStack_kept {c : Classified} {applied : Bool} {s : State} (hs : Kept ask s) :
    Kept ask (reactStack c applied s) := by
  unfold reactStack
  simp (maxDischargeDepth := 40) +contextual [*]

@[simp] theorem reactBank_kept {cause : BitVec 4} {s : State} (hs : Kept ask s) :
    Kept ask (reactBank cause s) := by
  unfold reactBank
  repeat' split
  all_goals simp (maxDischargeDepth := 40) +contextual [*]

@[simp] theorem reactFault_kept {code : Nat} {s : State} (hs : Kept ask s) :
    Kept ask (reactFault code s) := by
  unfold reactFault
  repeat' split
  all_goals simp (maxDischargeDepth := 40) +contextual [*]

@[simp] theorem tripEffects_kept {s : State} (hs : Kept ask s) :
    Kept ask (tripEffects s) := by
  unfold tripEffects
  simp (maxDischargeDepth := 40) +contextual [*]

@[simp] theorem react_kept {applied : Bool} {c : Classified} {s0 : State} (hs0 : Kept ask s0) :
    Kept ask (react applied c s0) := by
  unfold react
  repeat' split
  all_goals simp (maxDischargeDepth := 40) +contextual [*]

@[simp] theorem collect_kept {s : State} {d : Detected} {applied : Bool} (hs : Kept ask s) :
    Kept ask (collect s d applied) := by
  have h := classify_kept (d := d) hs
  unfold collect
  split <;> rename_i e <;> rw [e] at h
  · exact react_kept h
  · exact h

@[simp] theorem noteCorrected_kept {n : Nat} {l : Nat} {s : State} (hs : Kept ask s) :
    Kept ask (noteCorrected n l s) := by
  unfold noteCorrected
  simp (maxDischargeDepth := 40) +contextual [*]

@[simp] theorem loseChannel_kept {n : Nat} {l : Nat} {s : State} (hs : Kept ask s) :
    Kept ask (loseChannel n l s) := by
  unfold loseChannel
  simp (maxDischargeDepth := 40) +contextual [*]

@[simp] theorem poisonOne_kept {n : Nat} {l : Nat} {s : State} (hs : Kept ask s) :
    Kept ask (poisonOne n l s) := by
  unfold poisonOne
  simp (maxDischargeDepth := 40) +contextual [*]

@[simp] theorem strikeWord_kept {h : Nat} {s : State} (hs : Kept ask s) :
    Kept ask (strikeWord h s) := by
  unfold strikeWord
  simp (maxDischargeDepth := 40) +contextual [*]

@[simp] theorem stackNotes_kept {code : Nat} {n : Nat} {l : Nat} {s : State} (hs : Kept ask s) :
    Kept ask (stackNotes code n l s) := by
  unfold stackNotes
  repeat' split
  all_goals simp (maxDischargeDepth := 40) +contextual [*]

@[simp] theorem unitNotes_kept {o : Occ} {s : State} (hs : Kept ask s) :
    Kept ask (unitNotes o s) := by
  unfold unitNotes
  repeat' split
  all_goals simp (maxDischargeDepth := 40) +contextual [*]

@[simp] theorem execFaultOccurrence_kept {o : Option Occ} {s : State} (hs : Kept ask s) :
    KeptOut ask (execFaultOccurrence o s) := by
  unfold execFaultOccurrence
  repeat' split
  all_goals simp (maxDischargeDepth := 40) +contextual [*]

@[simp] theorem stopNow_kept {s : State} (hs : Kept ask s) :
    Kept ask (stopNow s) := by
  unfold stopNow
  repeat' split
  all_goals simp (maxDischargeDepth := 40) +contextual [*]

@[simp] theorem applyReplay_kept {r : Replay} {s : State} (hs : Kept ask s) :
    Kept ask (applyReplay r s) := by
  unfold applyReplay
  simp (maxDischargeDepth := 40) +contextual [*]

@[simp] theorem handleHalt_kept {s : State} {c : Cell} (hs : Kept ask s) :
    Kept ask (handleHalt s c) := by
  unfold handleHalt
  simp (maxDischargeDepth := 40) +contextual [*]

@[simp] theorem takeReplay_kept {r : Replay} {s : State} (hs : Kept ask s) :
    Kept ask (takeReplay r s) := by
  unfold takeReplay
  simp (maxDischargeDepth := 40) +contextual [*]

@[simp] theorem announceReplay_kept {frame : Nat} {entry : Nat} {s : State} (hs : Kept ask s) :
    Kept ask (announceReplay frame entry s) := by
  unfold announceReplay
  simp (maxDischargeDepth := 40) +contextual [*]

@[simp] theorem announceNow_kept {s : State} (hs : Kept ask s) :
    Kept ask (announceNow s) := by
  unfold announceNow
  repeat' split
  all_goals simp (maxDischargeDepth := 40) +contextual [*]

@[simp] theorem clearFor_kept {kind : Nat} {s : State} (hs : Kept ask s) :
    Kept ask (clearFor kind s) := by
  unfold clearFor
  simp (maxDischargeDepth := 40) +contextual [*]

@[simp] theorem replayList_kept {s : State} (hs : Kept ask s) :
    Kept ask (replayList s) := by
  unfold replayList
  simp (maxDischargeDepth := 40) +contextual [*]

@[simp] theorem dropLast_kept {s : State} (hs : Kept ask s) :
    Kept ask (dropLast s) := by
  unfold dropLast
  simp (maxDischargeDepth := 40) +contextual [*]

@[simp] theorem dropDecision_kept {kind : Nat} {s : State} (hs : Kept ask s) :
    Kept ask (dropDecision kind s) := by
  unfold dropDecision
  simp (maxDischargeDepth := 40) +contextual [*]

@[simp] theorem freshSeeds_kept {s : State} (hs : Kept ask s) :
    Kept ask (freshSeeds s) := by
  unfold freshSeeds
  simp (maxDischargeDepth := 40) +contextual [*]

@[simp] theorem beginReplay_kept {s : State} {r : Replay} (hs : Kept ask s) :
    Kept ask (beginReplay s r) := by
  unfold beginReplay
  simp (maxDischargeDepth := 40) +contextual [*]

@[simp] theorem replayArrives_kept {s : State} {r : Replay} (hs : Kept ask s) :
    Kept ask (replayArrives s r) := by
  unfold replayArrives
  simp (maxDischargeDepth := 40) +contextual [*]

@[simp] theorem badCell_kept {s : State} {k : Nat} (hs : Kept ask s) :
    Kept ask (badCell s k) := by
  unfold badCell
  simp (maxDischargeDepth := 40) +contextual [*]

@[simp] theorem execHaltCell_kept {k : Fin 64} {cell : Cell} {s : State} (hs : Kept ask s) :
    KeptOut ask (execHaltCell k cell s) := by
  unfold execHaltCell
  simp (maxDischargeDepth := 40) +contextual [*]

/-! Machine/Cells.lean -/

@[simp] theorem countStat_kept {s : State} {e : BitVec 128} (hs : Kept ask s) :
    Kept ask (countStat s e) := by
  unfold countStat
  simp (maxDischargeDepth := 40) +contextual [*]

@[simp] theorem transmitEntry_kept {s : State} {e : BitVec 128} (hs : Kept ask s) :
    Kept ask (transmitEntry s e) := by
  unfold transmitEntry
  simp (maxDischargeDepth := 40) +contextual [*]

@[simp] theorem expectEntry_kept {s : State} {e : BitVec 128} (hs : Kept ask s) :
    Kept ask (expectEntry s e) := by
  unfold expectEntry
  simp (maxDischargeDepth := 40) +contextual [*]

@[simp] theorem slotCells_kept {s : State} (hs : Kept ask s) :
    Kept ask (slotCells s) := by
  unfold slotCells
  simp (maxDischargeDepth := 40) +contextual [*]

@[simp] theorem missCells_kept {n : Nat} {s : State} {k : Nat} (hs : Kept ask s) :
    Kept ask (missCells n s k) := by
  unfold missCells
  simp (maxDischargeDepth := 40) +contextual [*]

@[simp] theorem deadlines_kept {s : State} (hs : Kept ask s) :
    Kept ask (deadlines s) := by
  unfold deadlines
  simp (maxDischargeDepth := 40) +contextual [*]

@[simp] theorem sendRequests_kept {s : State} {k : Nat} (hs : Kept ask s) :
    Kept ask (sendRequests s k) := by
  unfold sendRequests
  simp (maxDischargeDepth := 40) +contextual [*]

@[simp] theorem sendRetries_kept {s : State} {k : Nat} (hs : Kept ask s) :
    Kept ask (sendRetries s k) := by
  unfold sendRetries
  simp (maxDischargeDepth := 40) +contextual [*]

@[simp] theorem dropCopies_kept {s : State} {k : Nat} (hs : Kept ask s) :
    Kept ask (dropCopies s k) := by
  unfold dropCopies
  simp (maxDischargeDepth := 40) +contextual [*]

@[simp] theorem makeUp_kept {s : State} (hs : Kept ask s) :
    Kept ask (makeUp s) := by
  unfold makeUp
  simp (maxDischargeDepth := 40) +contextual [*]

@[simp] theorem handOver_kept {s : State} {e : BitVec 128} {c : Cell} (hs : Kept ask s) :
    Kept ask (handOver s e c) := by
  unfold handOver
  simp (maxDischargeDepth := 40) +contextual [*]

@[simp] theorem arrived_kept {s : State} {k : Nat} {slot : Nat} {index : Nat} (hs : Kept ask s) :
    Kept ask (arrived s k slot index) := by
  unfold arrived
  simp (maxDischargeDepth := 40) +contextual [*]

@[simp] theorem takeStat_kept {s : State} {k : Nat} {c : Cell} (hs : Kept ask s) :
    Kept ask (takeStat s k c) := by
  unfold takeStat
  simp (maxDischargeDepth := 40) +contextual [*]

@[simp] theorem acceptCell_kept {s : State} {k : Nat} {e : BitVec 128} {c : Cell} (hs : Kept ask s) :
    Kept ask (acceptCell s k e c) := by
  unfold acceptCell
  simp (maxDischargeDepth := 40) +contextual [*]

@[simp] theorem relayCell_kept {s : State} {k : Nat} {c : Cell} (hs : Kept ask s) :
    Kept ask (relayCell s k c) := by
  unfold relayCell
  repeat' split
  all_goals simp (maxDischargeDepth := 40) +contextual [*]

@[simp] theorem arrive_kept {s : State} {k : Nat} {c : Cell} (hs : Kept ask s) :
    Kept ask (arrive s k c) := by
  unfold arrive
  repeat' split
  all_goals simp (maxDischargeDepth := 40) +contextual [*]

@[simp] theorem execDataCell_kept {k : Fin 64} {cell : Cell} {s : State} (hs : Kept ask s) :
    KeptOut ask (execDataCell k cell s) := by
  unfold execDataCell
  simp (maxDischargeDepth := 40) +contextual [*]

@[simp] theorem execRetryCell_kept {k : Fin 64} {cell : Cell} {s : State} (hs : Kept ask s) :
    KeptOut ask (execRetryCell k cell s) := by
  unfold execRetryCell
  simp (maxDischargeDepth := 40) +contextual [*]

@[simp] theorem execRetryRequest_kept {k : Fin 64} {cell : Cell} {s : State} (hs : Kept ask s) :
    KeptOut ask (execRetryRequest k cell s) := by
  unfold execRetryRequest
  simp (maxDischargeDepth := 40) +contextual [*]

@[simp] theorem execIdleCell_kept {k : Fin 64} {cell : Cell} {s : State} (hs : Kept ask s) :
    KeptOut ask (execIdleCell k cell s) := by
  unfold execIdleCell
  simp (maxDischargeDepth := 40) +contextual [*]

@[simp] theorem sendCommitOn_kept {c : Cell} {s : State} {l : Nat} (hs : Kept ask s) :
    Kept ask (sendCommitOn c s l) := by
  unfold sendCommitOn
  simp (maxDischargeDepth := 40) +contextual [*]

@[simp] theorem sendToken_kept {s : State} {k : Nat} (hs : Kept ask s) :
    Kept ask (sendToken s k) := by
  unfold sendToken
  repeat' split
  all_goals simp (maxDischargeDepth := 40) +contextual [*]

@[simp] theorem compareCount_kept {s : State} {k : Nat} (hs : Kept ask s) :
    Kept ask (compareCount s k) := by
  unfold compareCount
  simp (maxDischargeDepth := 40) +contextual [*]

@[simp] theorem sendCommit_kept {s : State} {k : Nat} (hs : Kept ask s) :
    Kept ask (sendCommit s k) := by
  unfold sendCommit
  simp (maxDischargeDepth := 40) +contextual [*]

@[simp] theorem commitSlot_kept {s : State} (hs : Kept ask s) :
    Kept ask (commitSlot s) := by
  unfold commitSlot
  repeat' split
  all_goals simp (maxDischargeDepth := 40) +contextual [*]

@[simp] theorem execCommitToken_kept {k : Fin 64} {cell : Cell} {s : State} (hs : Kept ask s) :
    KeptOut ask (execCommitToken k cell s) := by
  unfold execCommitToken
  simp (maxDischargeDepth := 40) +contextual [*]

@[simp] theorem execCommitCell_kept {k : Fin 64} {cell : Cell} {s : State} (hs : Kept ask s) :
    KeptOut ask (execCommitCell k cell s) := by
  unfold execCommitCell
  simp (maxDischargeDepth := 40) +contextual [*]

/-! Machine/Schedule.lean -/

@[simp] theorem refreshRequest_kept {s : State} (hs : Kept ask s) :
    Kept ask (refreshRequest s) := by
  unfold refreshRequest
  simp (maxDischargeDepth := 40) +contextual [*]

@[simp] theorem announceRate_kept {f : Nat} {s : State} (hs : Kept ask s) :
    Kept ask (announceRate f s) := by
  unfold announceRate
  simp (maxDischargeDepth := 40) +contextual [*]

@[simp] theorem applyRate_kept {f : Nat} {s : State} (hs : Kept ask s) :
    Kept ask (applyRate f s) := by
  unfold applyRate
  repeat' split
  all_goals simp (maxDischargeDepth := 40) +contextual [*]

@[simp] theorem stageUnit_kept {c : Channel} {r : Region} {s : State} {u : Nat} (hs : Kept ask s) :
    Kept ask (stageUnit c r s u) := by
  unfold stageUnit
  simp (maxDischargeDepth := 40) +contextual [*]

@[simp] theorem flushStage_kept {s : State} {c : Channel} (hs : Kept ask s) :
    Kept ask (flushStage s c) := by
  unfold flushStage
  repeat' split
  all_goals simp (maxDischargeDepth := 40) +contextual [*]

@[simp] theorem flushStages_kept {s : State} (hs : Kept ask s) :
    Kept ask (flushStages s) := by
  unfold flushStages
  simp (maxDischargeDepth := 40) +contextual [*]

@[simp] theorem patrolScrub_kept {s : State} (hs : Kept ask s) :
    Kept ask (patrolScrub s) := by
  unfold patrolScrub
  simp (maxDischargeDepth := 40) +contextual [*]

@[simp] theorem statsSlot_kept {s : State} (hs : Kept ask s) :
    Kept ask (statsSlot s) := by
  unfold statsSlot
  simp (maxDischargeDepth := 40) +contextual [*]

@[simp] theorem servePeeks_kept {s : State} (hs : Kept ask s) :
    Kept ask (servePeeks s) := by
  unfold servePeeks
  simp (maxDischargeDepth := 40) +contextual [*]

@[simp] theorem maintenance_kept {s : State} (hs : Kept ask s) :
    Kept ask (maintenance s) := by
  unfold maintenance
  simp (maxDischargeDepth := 40) +contextual [*]

@[simp] theorem chimneyWindow_kept {s : State} (hs : Kept ask s) :
    Kept ask (chimneyWindow s) := by
  unfold chimneyWindow
  simp (maxDischargeDepth := 40) +contextual [*]

@[simp] theorem beginTraining_kept {s : State} (hs : Kept ask s) :
    Kept ask (beginTraining s) := by
  unfold beginTraining
  simp (maxDischargeDepth := 40) +contextual [*]

@[simp] theorem slotWork_kept {s0 : State} (hs0 : Kept ask s0) :
    Kept ask (slotWork s0) := by
  unfold slotWork
  simp (maxDischargeDepth := 40) +contextual [*]

@[simp] theorem normEnd_kept {s : State} (hs : Kept ask s) :
    Kept ask (normEnd s) := by
  unfold normEnd
  simp (maxDischargeDepth := 40) +contextual [*]

@[simp] theorem endChunk_kept {s : State} (hs : Kept ask s) :
    Kept ask (endChunk s) := by
  unfold endChunk
  simp (maxDischargeDepth := 40) +contextual [*]

@[simp] theorem endSeg_kept {s : State} (hs : Kept ask s) :
    Kept ask (endSeg s) := by
  unfold endSeg
  simp (maxDischargeDepth := 40) +contextual [*]

@[simp] theorem endStep_kept {s : State} (hs : Kept ask s) :
    Kept ask (endStep s) := by
  unfold endStep
  simp (maxDischargeDepth := 40) +contextual [*]

@[simp] theorem advance_kept {s : State} (hs : Kept ask s) :
    Kept ask (advance s) := by
  unfold advance
  simp (maxDischargeDepth := 40) +contextual [*]

@[simp] theorem applyDown_kept {f : Nat} {s : State} (hs : Kept ask s) :
    Kept ask (applyDown f s) := by
  unfold applyDown
  simp (maxDischargeDepth := 40) +contextual [*]

@[simp] theorem frameSequence_kept {s : State} (hs : Kept ask s) :
    Kept ask (frameSequence s) := by
  unfold frameSequence
  repeat' split
  all_goals simp (maxDischargeDepth := 40) +contextual [*]

@[simp] theorem nextFrame_kept {s : State} (hs : Kept ask s) :
    Kept ask (nextFrame s) := by
  unfold nextFrame
  simp (maxDischargeDepth := 40) +contextual [*]

@[simp] theorem lockstep_kept {ok : Bool} {s : State} (hs : Kept ask s) :
    Kept ask (lockstep ok s) := by
  unfold lockstep
  simp (maxDischargeDepth := 40) +contextual [*]

@[simp] theorem runSlot_kept {s : State} {k : Nat} (hs : Kept ask s) :
    Kept ask (runSlot s k) := by
  unfold runSlot
  simp (maxDischargeDepth := 40) +contextual [*]

@[simp] theorem restOfFrame_kept {s : State} (hs : Kept ask s) :
    Kept ask (restOfFrame s) := by
  unfold restOfFrame
  simp (maxDischargeDepth := 40) +contextual [*]

@[simp] theorem execSlotBoundary_kept {lockstepOk : Bool} {s : State} (hs : Kept ask s) :
    KeptOut ask (execSlotBoundary lockstepOk s) := by
  unfold execSlotBoundary
  simp (maxDischargeDepth := 40) +contextual [*]

@[simp] theorem execFrameBoundary_kept {s : State} (hs : Kept ask s) :
    KeptOut ask (execFrameBoundary s) := by
  unfold execFrameBoundary
  simp (maxDischargeDepth := 40) +contextual [*]

@[simp] theorem execSlotMiss_kept {m : MissUnit} {s : State} (hs : Kept ask s) :
    KeptOut ask (execSlotMiss m s) := by
  unfold execSlotMiss
  repeat' split
  all_goals simp (maxDischargeDepth := 40) +contextual [*]

@[simp] theorem execStartTimeReached_kept {s : State} (hs : Kept ask s) :
    KeptOut ask (execStartTimeReached s) := by
  unfold execStartTimeReached
  simp (maxDischargeDepth := 40) +contextual [*]

@[simp] theorem flooded_kept {s : State} {k : Nat} {code : Nat} {c : Cell} {f : State → State} (hs : Kept ask s) (hf : ∀ s, Kept ask s → Kept ask (f s)) :
    Kept ask (flooded s k code c f) := by
  unfold flooded
  repeat' split
  · exact hs
  · exact badCell_kept hs
  · exact hs
  · exact hf _ (floodBut_kept hs)

@[simp] theorem execRateAnnounce_kept {k : Fin 64} {cell : Cell} {s : State} (hs : Kept ask s) :
    KeptOut ask (execRateAnnounce k cell s) := by
  unfold execRateAnnounce
  simp (maxDischargeDepth := 40) +contextual [*]

@[simp] theorem execStartTimeCell_kept {k : Fin 64} {cell : Cell} {s : State} (hs : Kept ask s) :
    KeptOut ask (execStartTimeCell k cell s) := by
  unfold execStartTimeCell
  simp (maxDischargeDepth := 40) +contextual [*]

@[simp] theorem execReplayStart_kept {k : Fin 64} {cell : Cell} {s : State} (hs : Kept ask s) :
    KeptOut ask (execReplayStart k cell s) := by
  unfold execReplayStart
  simp (maxDischargeDepth := 40) +contextual [*]

@[simp] theorem execRateRequest_kept {k : Fin 64} {cell : Cell} {s : State} (hs : Kept ask s) :
    KeptOut ask (execRateRequest k cell s) := by
  unfold execRateRequest
  simp (maxDischargeDepth := 40) +contextual [*]

@[simp] theorem positionCell_kept {p : Nat} {s : State} {k : Nat} (hs : Kept ask s) :
    Kept ask (positionCell p s k) := by
  unfold positionCell
  dsimp only
  repeat' split
  all_goals simp (maxDischargeDepth := 40) +contextual [*]

@[simp] theorem execHaltPosition_kept {k : Fin 64} {pos : Nat} {s : State} (hs : Kept ask s) :
    KeptOut ask (execHaltPosition k pos s) := by
  unfold execHaltPosition
  simp (maxDischargeDepth := 40) +contextual [*]

@[simp] theorem execForcedOccurrence_kept {s : State} (hs : Kept ask s) :
    KeptOut ask (execForcedOccurrence s) := by
  unfold execForcedOccurrence
  repeat' split
  all_goals simp (maxDischargeDepth := 40) +contextual [*]

/-! Machine/Fallback.lean -/

@[simp] theorem noteSets_kept {s : State} {r : NormReport} (hs : Kept ask s) :
    Kept ask (noteSets s r) := by
  unfold noteSets
  simp (maxDischargeDepth := 40) +contextual [*]

@[simp] theorem noteSeed_kept {s : State} {r : NormReport} (hs : Kept ask s) :
    Kept ask (noteSeed s r) := by
  unfold noteSeed
  simp (maxDischargeDepth := 40) +contextual [*]

@[simp] theorem takeNorm_kept {q : BitVec 48} {r : NormReport} {s : State} (hs : Kept ask s) :
    Kept ask (takeNorm q r s) := by
  unfold takeNorm
  simp (maxDischargeDepth := 40) +contextual [*]

@[simp] theorem execClipFactor_kept {q : BitVec 48} {r : NormReport} {s : State} (hs : Kept ask s) :
    KeptOut ask (execClipFactor q r s) := by
  unfold execClipFactor
  simp (maxDischargeDepth := 40) +contextual [*]

@[simp] theorem execNextSeedDelivery_kept {s : State} (hs : Kept ask s) :
    KeptOut ask (execNextSeedDelivery s) := by
  unfold execNextSeedDelivery
  simp (maxDischargeDepth := 40) +contextual [*]

@[simp] theorem decideStep_kept {s : State} {t : Totals} (hs : Kept ask s) :
    Kept ask (decideStep s t) := by
  unfold decideStep
  simp (maxDischargeDepth := 40) +contextual [*]

@[simp] theorem takeFlags_kept {s : State} {t : Totals} (hs : Kept ask s) :
    Kept ask (takeFlags s t) := by
  unfold takeFlags
  simp (maxDischargeDepth := 40) +contextual [*]

@[simp] theorem slotPassed_kept {s : State} (hs : Kept ask s) :
    Kept ask (slotPassed s) := by
  unfold slotPassed
  simp (maxDischargeDepth := 40) +contextual [*]

@[simp] theorem execFallbackDecision_kept {t : Option Totals} {s : State} (hs : Kept ask s) :
    KeptOut ask (execFallbackDecision t s) := by
  unfold execFallbackDecision
  dsimp only
  repeat' split
  all_goals simp (maxDischargeDepth := 40) +contextual [*]

/-! Machine/Links.lean -/

@[simp] theorem sourceFound_kept {s : State} (hs : Kept ask s) :
    Kept ask (sourceFound s) := by
  unfold sourceFound
  simp (maxDischargeDepth := 40) +contextual [*]

@[simp] theorem sourceLost_kept {s : State} (hs : Kept ask s) :
    Kept ask (sourceLost s) := by
  unfold sourceLost
  simp (maxDischargeDepth := 40) +contextual [*]

@[simp] theorem acceptPps_kept {early : Int} {s : State} (hs : Kept ask s) :
    Kept ask (acceptPps early s) := by
  unfold acceptPps
  simp (maxDischargeDepth := 40) +contextual [*]

@[simp] theorem execTimePpsEdge_kept {early : Int} {s : State} (hs : Kept ask s) :
    KeptOut ask (execTimePpsEdge early s) := by
  unfold execTimePpsEdge
  simp (maxDischargeDepth := 40) +contextual [*]

@[simp] theorem execPpsTimeout_kept {s : State} (hs : Kept ask s) :
    KeptOut ask (execPpsTimeout s) := by
  unfold execPpsTimeout
  simp (maxDischargeDepth := 40) +contextual [*]

@[simp] theorem execPtpSourceLoss_kept {s : State} (hs : Kept ask s) :
    KeptOut ask (execPtpSourceLoss s) := by
  unfold execPtpSourceLoss
  simp (maxDischargeDepth := 40) +contextual [*]

@[simp] theorem noteDelay_kept {s : State} {k : Nat} {d : Int} (hs : Kept ask s) :
    Kept ask (noteDelay s k d) := by
  unfold noteDelay
  simp (maxDischargeDepth := 40) +contextual [*]

@[simp] theorem steer_kept {s : State} {o : Int} (hs : Kept ask s) :
    Kept ask (steer s o) := by
  unfold steer
  simp (maxDischargeDepth := 40) +contextual [*]

@[simp] theorem noteOffset_kept {s0 : State} {o : Int} (hs0 : Kept ask s0) :
    Kept ask (noteOffset s0 o) := by
  unfold noteOffset
  simp (maxDischargeDepth := 40) +contextual [*]

@[simp] theorem takeCode_kept {s : State} {k : Nat} {t : TimeCode} (hs : Kept ask s) :
    Kept ask (takeCode s k t) := by
  unfold takeCode
  simp (maxDischargeDepth := 40) +contextual [*]

@[simp] theorem execTimeCode_kept {k : Fin 64} {tc : TimeCode} {s : State} (hs : Kept ask s) :
    KeptOut ask (execTimeCode k tc s) := by
  unfold execTimeCode
  simp (maxDischargeDepth := 40) +contextual [*]

@[simp] theorem execLockAcquired_kept {s : State} (hs : Kept ask s) :
    KeptOut ask (execLockAcquired s) := by
  unfold execLockAcquired
  simp (maxDischargeDepth := 40) +contextual [*]

@[simp] theorem execLinkPeriod_kept {s : State} (hs : Kept ask s) :
    KeptOut ask (execLinkPeriod s) := by
  unfold execLinkPeriod
  simp (maxDischargeDepth := 40) +contextual [*]

@[simp] theorem sendLinkDown_kept {k : Nat} {f : Nat} {s : State} (hs : Kept ask s) :
    Kept ask (sendLinkDown k f s) := by
  unfold sendLinkDown
  repeat' split
  all_goals simp (maxDischargeDepth := 40) +contextual [*]

@[simp] theorem refreshTree_kept {s : State} (hs : Kept ask s) :
    Kept ask (refreshTree s) := by
  unfold refreshTree
  simp (maxDischargeDepth := 40) +contextual [*]

@[simp] theorem loseLink_kept {k : Nat} {s : State} (hs : Kept ask s) :
    Kept ask (loseLink k s) := by
  unfold loseLink
  simp (maxDischargeDepth := 40) +contextual [*]

@[simp] theorem execLinkLost_kept {k : Fin 64} {r : LossReport} {s0 : State} (hs0 : Kept ask s0) :
    KeptOut ask (execLinkLost k r s0) := by
  unfold execLinkLost
  simp (maxDischargeDepth := 40) +contextual [*]

@[simp] theorem peerLoses_kept {n : Nat} {s : State} (hs : Kept ask s) :
    Kept ask (peerLoses n s) := by
  unfold peerLoses
  simp (maxDischargeDepth := 40) +contextual [*]

@[simp] theorem execLinkDown_kept {k : Fin 64} {cell : Cell} {s : State} (hs : Kept ask s) :
    KeptOut ask (execLinkDown k cell s) := by
  unfold execLinkDown
  simp (maxDischargeDepth := 40) +contextual [*]

@[simp] theorem noteUp_kept {s : State} {k : Nat} (hs : Kept ask s) :
    Kept ask (noteUp s k) := by
  unfold noteUp
  simp (maxDischargeDepth := 40) +contextual [*]

@[simp] theorem execLinkUp_kept {k : Fin 64} {cell : Cell} {s : State} (hs : Kept ask s) :
    KeptOut ask (execLinkUp k cell s) := by
  unfold execLinkUp
  simp (maxDischargeDepth := 40) +contextual [*]

@[simp] theorem execFecAlarm_kept {k : Fin 64} {words : Nat} {symbols : Nat} {received : Nat} {s : State} (hs : Kept ask s) :
    KeptOut ask (execFecAlarm k words symbols received s) := by
  unfold execFecAlarm
  simp (maxDischargeDepth := 40) +contextual [*]

@[simp] theorem fenceLinkNow_kept {k : Nat} {s : State} (hs : Kept ask s) :
    Kept ask (fenceLinkNow k s) := by
  unfold fenceLinkNow
  simp (maxDischargeDepth := 40) +contextual [*]

@[simp] theorem failAttempt_kept {k : Nat} {s : State} (hs : Kept ask s) :
    Kept ask (failAttempt k s) := by
  unfold failAttempt
  simp (maxDischargeDepth := 40) +contextual [*]

@[simp] theorem failWiring_kept {k : Nat} {s : State} (hs : Kept ask s) :
    Kept ask (failWiring k s) := by
  unfold failWiring
  simp (maxDischargeDepth := 40) +contextual [*]

@[simp] theorem linkTrained_kept {k : Nat} {lanes : BitVec 4} {s : State} (hs : Kept ask s) :
    Kept ask (linkTrained k lanes s) := by
  unfold linkTrained
  simp (maxDischargeDepth := 40) +contextual [*]

@[simp] theorem phasePassed_kept {k : Nat} {r : PhaseReport} {s : State} (hs : Kept ask s) :
    Kept ask (phasePassed k r s) := by
  unfold phasePassed
  simp (maxDischargeDepth := 40) +contextual [*]

@[simp] theorem execTrainingPhaseDone_kept {k : Fin 64} {r : PhaseReport} {s : State} (hs : Kept ask s) :
    KeptOut ask (execTrainingPhaseDone k r s) := by
  unfold execTrainingPhaseDone
  simp (maxDischargeDepth := 40) +contextual [*]

@[simp] theorem execTrainingPhaseTimeout_kept {k : Fin 64} {s : State} (hs : Kept ask s) :
    KeptOut ask (execTrainingPhaseTimeout k s) := by
  unfold execTrainingPhaseTimeout
  simp (maxDischargeDepth := 40) +contextual [*]

@[simp] theorem execTrainingRetryTimer_kept {k : Fin 64} {s : State} (hs : Kept ask s) :
    KeptOut ask (execTrainingRetryTimer k s) := by
  unfold execTrainingRetryTimer
  simp (maxDischargeDepth := 40) +contextual [*]

/-! Machine/Stacks.lean -/

@[simp] theorem evaluate_kept {u : Nat} {l : List Int} {s : State} (hs : Kept ask s) :
    Kept ask (evaluate u l s) := by
  unfold evaluate
  simp (maxDischargeDepth := 40) +contextual [*]

@[simp] theorem readStack_kept {n : Nat} {t : Int} {s : State} (hs : Kept ask s) :
    Kept ask (readStack n t s) := by
  unfold readStack
  simp (maxDischargeDepth := 40) +contextual [*]

@[simp] theorem gateDie_kept {d : Nat} {l : List Int} {s : State} (hs : Kept ask s) :
    Kept ask (gateDie d l s) := by
  unfold gateDie
  simp (maxDischargeDepth := 40) +contextual [*]

@[simp] theorem watchFar_kept {i : Nat} {t : Int} {s : State} (hs : Kept ask s) :
    Kept ask (watchFar i t s) := by
  unfold watchFar
  simp (maxDischargeDepth := 40) +contextual [*]

@[simp] theorem readFar_kept {s : State} {x : Nat × Int} (hs : Kept ask s) :
    Kept ask (readFar s x) := by
  unfold readFar
  simp (maxDischargeDepth := 40) +contextual [*]

@[simp] theorem execDamperEvaluation_kept {d : Damper} {s : State} (hs : Kept ask s) :
    KeptOut ask (execDamperEvaluation d s) := by
  unfold execDamperEvaluation
  simp (maxDischargeDepth := 40) +contextual [*]

@[simp] theorem execRefreshNormal_kept {stack : Fin 16} {s : State} (hs : Kept ask s) :
    KeptOut ask (execRefreshNormal stack s) := by
  unfold execRefreshNormal
  simp (maxDischargeDepth := 40) +contextual [*]

@[simp] theorem execPwrcapAssert_kept {width : Nat} {s : State} (hs : Kept ask s) :
    KeptOut ask (execPwrcapAssert width s) := by
  unfold execPwrcapAssert
  simp (maxDischargeDepth := 40) +contextual [*]

@[simp] theorem execPwrcapRelease_kept {s : State} (hs : Kept ask s) :
    KeptOut ask (execPwrcapRelease s) := by
  unfold execPwrcapRelease
  simp (maxDischargeDepth := 40) +contextual [*]

@[simp] theorem execRotateIntervalExpiry_kept {stack : Fin 16} {s : State} (hs : Kept ask s) :
    KeptOut ask (execRotateIntervalExpiry stack s) := by
  unfold execRotateIntervalExpiry
  simp (maxDischargeDepth := 40) +contextual [*]

@[simp] theorem execRotationStart_kept {stack : Fin 16} {s : State} (hs : Kept ask s) :
    KeptOut ask (execRotationStart stack s) := by
  unfold execRotationStart
  simp (maxDischargeDepth := 40) +contextual [*]

@[simp] theorem copyLatent_kept {n : Nat} {l : Nat} {s : State} {b : Nat} (hs : Kept ask s) :
    Kept ask (copyLatent n l s b) := by
  unfold copyLatent
  dsimp only
  repeat' split
  all_goals simp (maxDischargeDepth := 40) +contextual [*]

@[simp] theorem execRotationSwitch_kept {stack : Fin 16} {s : State} (hs : Kept ask s) :
    KeptOut ask (execRotationSwitch stack s) := by
  unfold execRotationSwitch
  simp (maxDischargeDepth := 40) +contextual [*]

@[simp] theorem retire_kept {n : Nat} {p : Nat} {s : State} (hs : Kept ask s) :
    Kept ask (retire n p s) := by
  unfold retire
  simp (maxDischargeDepth := 40) +contextual [*]

@[simp] theorem becomeSpare_kept {n : Nat} {p : Nat} {s : State} (hs : Kept ask s) :
    Kept ask (becomeSpare n p s) := by
  unfold becomeSpare
  simp (maxDischargeDepth := 40) +contextual [*]

@[simp] theorem endRotation_kept {n : Nat} {s : State} (hs : Kept ask s) :
    Kept ask (endRotation n s) := by
  unfold endRotation
  simp (maxDischargeDepth := 40) +contextual [*]

@[simp] theorem retrainFailed_kept {n : Nat} {p : Nat} {s : State} (hs : Kept ask s) :
    Kept ask (retrainFailed n p s).1 := by
  unfold retrainFailed
  simp (maxDischargeDepth := 40) +contextual [*]

@[simp] theorem secondFailure_kept {n : Nat} {l : Nat} {working : Nat} {s : State} (hs : Kept ask s) :
    Kept ask (secondFailure n l working s) := by
  unfold secondFailure
  simp (maxDischargeDepth := 40) +contextual [*]

@[simp] theorem execChannelRetrainDone_kept {stack : Fin 16} {r : ChannelReport} {s0 : State} (hs0 : Kept ask s0) :
    KeptOut ask (execChannelRetrainDone stack r s0) := by
  unfold execChannelRetrainDone
  dsimp only
  repeat' split
  all_goals simp (maxDischargeDepth := 40) +contextual [*]

@[simp] theorem execChunkRestoreDone_kept {s : State} (hs : Kept ask s) :
    KeptOut ask (execChunkRestoreDone s) := by
  unfold execChunkRestoreDone
  simp (maxDischargeDepth := 40) +contextual [*]

@[simp] theorem endHash_kept {r : Nat} {x : Region} {s : State} (hs : Kept ask s) :
    Kept ask (endHash r x s) := by
  unfold endHash
  simp (maxDischargeDepth := 40) +contextual [*]

@[simp] theorem execHashDone_kept {r : Fin 16} {s : State} (hs : Kept ask s) :
    KeptOut ask (execHashDone r s) := by
  unfold execHashDone
  dsimp only
  repeat' split
  all_goals simp (maxDischargeDepth := 40) +contextual [*]

/-! Machine/Power.lean -/

@[simp] theorem execPowerOn_kept {s : State} (hs : Kept ask s) :
    KeptOut ask (execPowerOn s) := by
  unfold execPowerOn
  simp (maxDischargeDepth := 40) +contextual [*]

@[simp] theorem powerLost_kept {s : State} (hs : Kept ask s) :
    Kept ask (powerLost s) := by
  have h := coldReset_kept (code := s.dev.lastReset) hs
  exact ⟨h.1, fun _ e => by simp [powerLost, coldReset] at e, h.2.2⟩

@[simp] theorem execSupplyRemoval_kept {s : State} (hs : Kept ask s) :
    KeptOut ask (execSupplyRemoval s) := by
  unfold execSupplyRemoval
  simp (maxDischargeDepth := 40) +contextual [*]

@[simp] theorem holdReset_kept {m : Metering} {s : State} (hs : Kept ask s) :
    Kept ask (holdReset m s) := by
  unfold holdReset
  simp (maxDischargeDepth := 40) +contextual [*]

@[simp] theorem execRstNLow_kept {width : Nat} {m : Metering} {s : State} (hs : Kept ask s) :
    KeptOut ask (execRstNLow width m s) := by
  unfold execRstNLow
  simp (maxDischargeDepth := 40) +contextual [*]

@[simp] theorem execRstNRise_kept {s : State} (hs : Kept ask s) :
    KeptOut ask (execRstNRise s) := by
  unfold execRstNRise
  simp (maxDischargeDepth := 40) +contextual [*]

@[simp] theorem coldBooted_kept {s : State} (hs : Kept ask s) :
    Kept ask (coldBooted s) := by
  unfold coldBooted
  simp (maxDischargeDepth := 40) +contextual [*]

@[simp] theorem warmBooted_kept {b : BootReport} {s : State} (hs : Kept ask s) :
    Kept ask (warmBooted b s) := by
  unfold warmBooted
  simp (maxDischargeDepth := 40) +contextual [*]

@[simp] theorem afterBoot_kept {fatal : Bool} {s : State} (hs : Kept ask s) :
    Kept ask (afterBoot fatal s) := by
  unfold afterBoot
  simp (maxDischargeDepth := 40) +contextual [*]

@[simp] theorem bootEnds_kept {b : BootReport} {s0 : State} (hs0 : Kept ask s0) :
    Kept ask (bootEnds b s0) := by
  unfold bootEnds
  simp (maxDischargeDepth := 40) +contextual [*]

@[simp] theorem execBootEnd_kept {b : BootReport} {s : State} (hs : Kept ask s) :
    KeptOut ask (execBootEnd b s) := by
  unfold execBootEnd
  simp (maxDischargeDepth := 40) +contextual [*]

@[simp] theorem setGood_kept {g : RailGroup} {v : Bool} {s : State} (hs : Kept ask s) :
    Kept ask (setGood g v s) := by
  unfold setGood
  repeat' split
  all_goals simp (maxDischargeDepth := 40) +contextual [*]

@[simp] theorem logicPowered_kept {s : State} (hs : Kept ask s) :
    Kept ask (logicPowered s) := by
  unfold logicPowered
  simp (maxDischargeDepth := 40) +contextual [*]

@[simp] theorem execRailGoodRise_kept {g : RailGroup} {s : State} (hs : Kept ask s) :
    KeptOut ask (execRailGoodRise g s) := by
  unfold execRailGoodRise
  repeat' split
  all_goals simp (maxDischargeDepth := 40) +contextual [*]

@[simp] theorem execRailGoodFall_kept {g : RailGroup} {s : State} (hs : Kept ask s) :
    KeptOut ask (execRailGoodFall g s) := by
  unfold execRailGoodFall
  simp (maxDischargeDepth := 40) +contextual [*]

@[simp] theorem execRailGoodTimeout_kept {g : RailGroup} {s : State} (hs : Kept ask s) :
    KeptOut ask (execRailGoodTimeout g s) := by
  unfold execRailGoodTimeout
  simp (maxDischargeDepth := 40) +contextual [*]

@[simp] theorem testEnded_kept {h : Nat} {passed : Bool} {kat : Bool} {s : State} (hs : Kept ask s) :
    Kept ask (testEnded h passed kat s) := by
  unfold testEnded
  simp (maxDischargeDepth := 40) +contextual [*]

@[simp] theorem execSelftestDone_kept {h : Fin 1152} {passed : Bool} {katPassed : Bool} {s : State} (hs : Kept ask s) :
    KeptOut ask (execSelftestDone h passed katPassed s) := by
  unfold execSelftestDone
  simp (maxDischargeDepth := 40) +contextual [*]

@[simp] theorem passRest_kept {s : State} (hs : Kept ask s) :
    Kept ask (passRest s) := by
  unfold passRest
  simp (maxDischargeDepth := 40) +contextual [*]

@[simp] theorem zeroised_kept {micros : BitVec 32} {s : State} (hs : Kept ask s) :
    Kept ask (zeroised micros s) := by
  unfold zeroised
  simp (maxDischargeDepth := 40) +contextual [*]

@[simp] theorem execZeroisationDone_kept {micros : BitVec 32} {s : State} (hs : Kept ask s) :
    KeptOut ask (execZeroisationDone micros s) := by
  unfold execZeroisationDone
  simp (maxDischargeDepth := 40) +contextual [*]

@[simp] theorem execThermalTrip_kept {u : TripUnit} {s : State} (hs : Kept ask s) :
    KeptOut ask (execThermalTrip u s) := by
  unfold execThermalTrip
  simp (maxDischargeDepth := 40) +contextual [*]

@[simp] theorem execMgmtWatchdogExpiry_kept {s : State} (hs : Kept ask s) :
    KeptOut ask (execMgmtWatchdogExpiry s) := by
  unfold execMgmtWatchdogExpiry
  simp (maxDischargeDepth := 40) +contextual [*]

@[simp] theorem execHeartbeatTimeout_kept {s : State} (hs : Kept ask s) :
    KeptOut ask (execHeartbeatTimeout s) := by
  unfold execHeartbeatTimeout
  simp (maxDischargeDepth := 40) +contextual [*]

@[simp] theorem execMgmtRestartDone_kept {s : State} (hs : Kept ask s) :
    KeptOut ask (execMgmtRestartDone s) := by
  unfold execMgmtRestartDone
  simp (maxDischargeDepth := 40) +contextual [*]

@[simp] theorem execErrPulseEnd_kept {s : State} (hs : Kept ask s) :
    KeptOut ask (execErrPulseEnd s) := by
  unfold execErrPulseEnd
  repeat' split
  all_goals simp (maxDischargeDepth := 40) +contextual [*]

end Sys2Proof.Machine
end

