-- ==== Sys2Proof/Laws/KeptHost.lean ====
section
/-! SUPPORT. What the operations of entries, context, commands, security, writes, requests, bulk channels, port and monitor keep. -/

set_option linter.unusedVariables false
set_option linter.unusedSimpArgs false

namespace Sys2Proof.Machine

variable {ask : Ask}

/-! Machine/Entries.lean -/

@[simp] theorem readFound_kept {s : State} {a : Agent} {i : Nat} {sub : Nat} {e : Entry} {x : Sub} (hs : Kept ask s) :
    Kept ask (readFound s a i sub e x).1 := by
  exact kept_lock hs (lockRead_kept hs)

@[simp] theorem readWhole_kept {s : State} {a : Agent} {i : Nat} {sub : Nat} (hs : Kept ask s) :
    Kept ask (readWhole s a i sub).1 := by
  unfold readWhole
  split
  · exact readFound_kept hs
  · exact hs

@[simp] theorem readPiece_kept {s : State} {a : Agent} {i : Nat} {sub : Nat} {offset : Nat} {count : Nat} (hs : Kept ask s) :
    Kept ask (readPiece s a i sub offset count).1 := by
  unfold readPiece
  repeat' split
  all_goals first | exact hs | exact readWhole_kept hs

/-! Machine/Context.lean -/

@[simp] theorem writePlane_kept {s : State} {r : Region} {t : Tensor} {n : Nat} {p : Nat × Nat} {bs : Bytes} (hs : Kept ask s) :
    Kept ask (writePlane s r t n p bs) := by
  unfold writePlane
  simp (maxDischargeDepth := 40) +contextual [*]

@[simp] theorem prepareSuspended_kept {s : State} (hs : Kept ask s) :
    Kept ask (prepareSuspended s) := by
  unfold prepareSuspended
  simp (maxDischargeDepth := 40) +contextual [*]

@[simp] theorem noteTensors_kept {s : State} (hs : Kept ask s) :
    Kept ask (noteTensors s) := by
  unfold noteTensors
  simp (maxDischargeDepth := 40) +contextual [*]

@[simp] theorem exportStart_kept {s0 : State} {c : Channel} (hs0 : Kept ask s0) :
    Kept ask (exportStart s0 c) := by
  unfold exportStart
  dsimp only
  repeat' split
  all_goals simp (maxDischargeDepth := 40) +contextual [*]

@[simp] theorem noteSent_kept {s : State} (hs : Kept ask s) :
    Kept ask (noteSent s) := by
  unfold noteSent
  repeat' split
  all_goals simp (maxDischargeDepth := 40) +contextual [*]

@[simp] theorem endOperation_kept {result : BitVec 8} {s : State} (hs : Kept ask s) :
    Kept ask (endOperation result s) := by
  unfold endOperation
  simp (maxDischargeDepth := 40) +contextual [*]

@[simp] theorem exportDone_kept {s : State} (hs : Kept ask s) :
    Kept ask (exportDone s) := by
  unfold exportDone
  simp (maxDischargeDepth := 40) +contextual [*]

@[simp] theorem restoreStart_kept {s0 : State} (hs0 : Kept ask s0) :
    Kept ask (restoreStart s0) := by
  unfold restoreStart
  repeat' split
  all_goals simp (maxDischargeDepth := 40) +contextual [*]

@[simp] theorem restoreTensor_kept {step : Nat} {b : Bytes} {body : Bytes} {s : State} {x : Nat × Nat} (hs : Kept ask s) :
    Kept ask (restoreTensor step b body s x) := by
  unfold restoreTensor
  dsimp only
  repeat' split
  all_goals simp (maxDischargeDepth := 40) +contextual [*]

@[simp] theorem restoreValues_kept {step : Nat} {body : Bytes} {s : State} (hs : Kept ask s) :
    Kept ask (restoreValues step body s) := by
  unfold restoreValues
  simp (maxDischargeDepth := 40) +contextual [*]

@[simp] theorem restoreEnds_kept {result : BitVec 8} {seg : Nat} {len : Nat} {c : Channel} {s : State} (hs : Kept ask s) :
    Kept ask (restoreEnds result seg len c s) := by
  unfold restoreEnds
  simp (maxDischargeDepth := 40) +contextual [*]

@[simp] theorem restoreRun_kept {s : State} {c : Channel} {b : Bytes} (hs : Kept ask s) :
    Kept ask (restoreRun s c b) := by
  unfold restoreRun
  repeat' split
  all_goals simp (maxDischargeDepth := 40) +contextual [*]

@[simp] theorem execRestoreDone_kept {s : State} (hs : Kept ask s) :
    KeptOut ask (execRestoreDone s) := by
  unfold execRestoreDone
  repeat' split
  all_goals simp (maxDischargeDepth := 40) +contextual [*]

/-! Machine/Commands.lean -/

@[simp] theorem setCode_kept {r : State × BitVec 16} (hr : Kept ask r.1) :
    Kept ask (setCode r) := by
  unfold setCode
  simp (maxDischargeDepth := 40) +contextual [*]

@[simp] theorem access_kept {a : Agent} {f : State → State × BitVec 16} {s : State} (hf : ∀ s, Kept ask s → Kept ask (f s).1) (hs : Kept ask s) :
    KeptOut ask (access a f s) := by
  unfold access
  simp (maxDischargeDepth := 40) +contextual [*]

@[simp] theorem guarded_kept {conflict : Bool} {range : Bool} {busy : Bool} {s : State} {t : State} (hs : Kept ask s) (ht : Kept ask t) :
    Kept ask (guarded conflict range busy s t).1 := by
  unfold guarded
  simp (maxDischargeDepth := 40) +contextual [*]

@[simp] theorem refuseState_kept {code : Nat} {s : State} (hs : Kept ask s) :
    Kept ask (refuseState code s) := by
  unfold refuseState
  simp (maxDischargeDepth := 40) +contextual [*]

@[simp] theorem commandRun_kept {code : Nat} {arg : Nat} {denied : Bool} {conflict : Bool} {f : State → State} {s : State} (hf : ∀ s, Kept ask s → Kept ask (f s)) (hs : Kept ask s) :
    Kept ask (commandRun code arg denied conflict f s).1 := by
  unfold commandRun
  repeat' split
  all_goals simp (maxDischargeDepth := 40) +contextual [*]

@[simp] theorem powerUpNow_kept {s : State} (hs : Kept ask s) :
    Kept ask (powerUpNow s) := by
  unfold powerUpNow
  simp (maxDischargeDepth := 40) +contextual [*]

@[simp] theorem powerDownNow_kept {s0 : State} (hs0 : Kept ask s0) :
    Kept ask (powerDownNow s0) := by
  unfold powerDownNow
  simp (maxDischargeDepth := 40) +contextual [*]

@[simp] theorem loadStart_kept {s : State} (hs : Kept ask s) :
    Kept ask (loadStart s) := by
  unfold loadStart
  simp (maxDischargeDepth := 40) +contextual [*]

@[simp] theorem armNow_kept {s : State} (hs : Kept ask s) :
    Kept ask (armNow s) := by
  unfold armNow
  simp (maxDischargeDepth := 40) +contextual [*]

@[simp] theorem resumeNow_kept {s : State} (hs : Kept ask s) :
    Kept ask (resumeNow s) := by
  unfold resumeNow
  simp (maxDischargeDepth := 40) +contextual [*]

@[simp] theorem hearthResetNow_kept {h : Nat} {s0 : State} (hs0 : Kept ask s0) :
    Kept ask (hearthResetNow h s0) := by
  unfold hearthResetNow
  simp (maxDischargeDepth := 40) +contextual [*]

@[simp] theorem unfenceNow_kept {h : Nat} {s : State} (hs : Kept ask s) :
    Kept ask (unfenceNow h s) := by
  unfold unfenceNow
  simp (maxDischargeDepth := 40) +contextual [*]

@[simp] theorem deviceCommand_kept {code : Nat} {arg : Nat} {s : State} (hs : Kept ask s) :
    Kept ask (deviceCommand code arg s).1 := by
  unfold deviceCommand
  repeat' split
  all_goals simp (maxDischargeDepth := 40) +contextual [*]

@[simp] theorem sendCommand_kept {a : Agent} {code : Nat} {arg : Nat} {s : State} (hs : Kept ask s) :
    KeptOut ask (sendCommand a code arg s) := by
  unfold sendCommand
  simp (maxDischargeDepth := 40) +contextual [*]

@[simp] theorem execPowerUp_kept {a : Agent} {arg : BitVec 16} {s : State} (hs : Kept ask s) :
    KeptOut ask (execPowerUp a arg s) := by
  unfold execPowerUp
  simp (maxDischargeDepth := 40) +contextual [*]

@[simp] theorem execPowerDown_kept {a : Agent} {arg : BitVec 16} {s : State} (hs : Kept ask s) :
    KeptOut ask (execPowerDown a arg s) := by
  unfold execPowerDown
  simp (maxDischargeDepth := 40) +contextual [*]

@[simp] theorem execLoad_kept {a : Agent} {arg : BitVec 16} {s : State} (hs : Kept ask s) :
    KeptOut ask (execLoad a arg s) := by
  unfold execLoad
  simp (maxDischargeDepth := 40) +contextual [*]

@[simp] theorem execRestoreContext_kept {a : Agent} {arg : BitVec 16} {s : State} (hs : Kept ask s) :
    KeptOut ask (execRestoreContext a arg s) := by
  unfold execRestoreContext
  simp (maxDischargeDepth := 40) +contextual [*]

@[simp] theorem execExportContext_kept {a : Agent} {arg : BitVec 16} {s : State} (hs : Kept ask s) :
    KeptOut ask (execExportContext a arg s) := by
  unfold execExportContext
  simp (maxDischargeDepth := 40) +contextual [*]

@[simp] theorem execArm_kept {a : Agent} {arg : BitVec 16} {s : State} (hs : Kept ask s) :
    KeptOut ask (execArm a arg s) := by
  unfold execArm
  simp (maxDischargeDepth := 40) +contextual [*]

@[simp] theorem execHold_kept {a : Agent} {arg : BitVec 16} {s : State} (hs : Kept ask s) :
    KeptOut ask (execHold a arg s) := by
  unfold execHold
  simp (maxDischargeDepth := 40) +contextual [*]

@[simp] theorem execResume_kept {a : Agent} {arg : BitVec 16} {s : State} (hs : Kept ask s) :
    KeptOut ask (execResume a arg s) := by
  unfold execResume
  simp (maxDischargeDepth := 40) +contextual [*]

@[simp] theorem execJobReset_kept {a : Agent} {arg : BitVec 16} {s : State} (hs : Kept ask s) :
    KeptOut ask (execJobReset a arg s) := by
  unfold execJobReset
  simp (maxDischargeDepth := 40) +contextual [*]

@[simp] theorem execHearthReset_kept {a : Agent} {arg : BitVec 16} {s : State} (hs : Kept ask s) :
    KeptOut ask (execHearthReset a arg s) := by
  unfold execHearthReset
  simp (maxDischargeDepth := 40) +contextual [*]

@[simp] theorem execUnfenceHearth_kept {a : Agent} {arg : BitVec 16} {s : State} (hs : Kept ask s) :
    KeptOut ask (execUnfenceHearth a arg s) := by
  unfold execUnfenceHearth
  simp (maxDischargeDepth := 40) +contextual [*]

@[simp] theorem execBank_kept {a : Agent} {arg : BitVec 16} {s : State} (hs : Kept ask s) :
    KeptOut ask (execBank a arg s) := by
  unfold execBank
  simp (maxDischargeDepth := 40) +contextual [*]

@[simp] theorem execWarmReset_kept {a : Agent} {arg : BitVec 16} {s : State} (hs : Kept ask s) :
    KeptOut ask (execWarmReset a arg s) := by
  unfold execWarmReset
  simp (maxDischargeDepth := 40) +contextual [*]

@[simp] theorem execColdReset_kept {a : Agent} {arg : BitVec 16} {s : State} (hs : Kept ask s) :
    KeptOut ask (execColdReset a arg s) := by
  unfold execColdReset
  simp (maxDischargeDepth := 40) +contextual [*]

@[simp] theorem noteVerdict_kept {v : Nat × Nat × Nat} {s : State} (hs : Kept ask s) :
    Kept ask (noteVerdict v s) := by
  unfold noteVerdict
  simp (maxDischargeDepth := 40) +contextual [*]

@[simp] theorem dropRecord_kept {g : Image} {s : State} {r : Nat} (hs : Kept ask s) :
    Kept ask (dropRecord g s r) := by
  unfold dropRecord
  simp (maxDischargeDepth := 40) +contextual [*]

@[simp] theorem addRecord_kept {g : Image} {s : State} {x : Region} (hs : Kept ask s) :
    Kept ask (addRecord g s x) := by
  unfold addRecord
  repeat' split
  all_goals simp (maxDischargeDepth := 40) +contextual [*]

@[simp] theorem pairRecords_kept {g : Image} {s : State} (hs : Kept ask s) :
    Kept ask (pairRecords g s) := by
  unfold pairRecords
  simp (maxDischargeDepth := 40) +contextual [*]

@[simp] theorem mapHearths_kept {g : Image} {s : State} (hs : Kept ask s) :
    Kept ask (mapHearths g s) := by
  unfold mapHearths
  simp (maxDischargeDepth := 40) +contextual [*]

@[simp] theorem writeInit_kept {b : Bytes} {s : State} {d : InitData} (hs : Kept ask s) :
    Kept ask (writeInit b s d) := by
  unfold writeInit
  repeat' split
  all_goals simp (maxDischargeDepth := 40) +contextual [*]

@[simp] theorem unsetTags_kept {g : Image} {s : State} (hs : Kept ask s) :
    Kept ask (unsetTags g s) := by
  unfold unsetTags
  simp (maxDischargeDepth := 40) +contextual [*]

@[simp] theorem writePrograms_kept {g : Image} {s : State} (hs : Kept ask s) :
    Kept ask (writePrograms g s) := by
  unfold writePrograms
  simp (maxDischargeDepth := 40) +contextual [*]

@[simp] theorem enterLoaded_kept {b : Bytes} {s : State} (hs : Kept ask s) :
    Kept ask (enterLoaded b s) := by
  unfold enterLoaded
  simp (maxDischargeDepth := 40) +contextual [*]

@[simp] theorem execLoadDone_kept {s : State} (hs : Kept ask s) :
    KeptOut ask (execLoadDone s) := by
  unfold execLoadDone
  repeat' split
  all_goals simp (maxDischargeDepth := 40) +contextual [*]

/-! Machine/Security.lean -/

@[simp] theorem writeJobKey_kept {s : State} {offset : Nat} {key : Bytes} {fit : Bool} (hs : Kept ask s) :
    Kept ask (writeJobKey s offset key fit).1 := by
  unfold writeJobKey
  simp (maxDischargeDepth := 40) +contextual [*]

@[simp] theorem writeNonce_kept {s : State} {offset : Nat} {bs : Bytes} {fit : Bool} (hs : Kept ask s) :
    Kept ask (writeNonce s offset bs fit).1 := by
  unfold writeNonce
  simp (maxDischargeDepth := 40) +contextual [*]

@[simp] theorem execQuoteDone_kept {s : State} (hs : Kept ask s) :
    KeptOut ask (execQuoteDone s) := by
  unfold execQuoteDone
  simp (maxDischargeDepth := 40) +contextual [*]

@[simp] theorem execWrappedJobKey_kept {a : Agent} {offset : Nat} {key : Bytes} {s : State} (hs : Kept ask s) :
    KeptOut ask (execWrappedJobKey a offset key s) := by
  unfold execWrappedJobKey
  simp (maxDischargeDepth := 40) +contextual [*]

@[simp] theorem execAttestNonce_kept {a : Agent} {nonce : Bytes} {s : State} (hs : Kept ask s) :
    KeptOut ask (execAttestNonce a nonce s) := by
  unfold execAttestNonce
  simp (maxDischargeDepth := 40) +contextual [*]

@[simp] theorem installObject_kept {b : Bytes} {s : State} (hs : Kept ask s) :
    Kept ask (installObject b s) := by
  unfold installObject
  repeat' split
  all_goals simp (maxDischargeDepth := 40) +contextual [*]

@[simp] theorem finishFirmware_kept {s : State} {c : Channel} (hs : Kept ask s) :
    Kept ask (finishFirmware s c) := by
  unfold finishFirmware
  simp (maxDischargeDepth := 40) +contextual [*]

/-! Machine/Writes.lean -/

@[simp] theorem ranged_kept {ok : Bool} {s : State} {t : State} (hs : Kept ask s) (ht : Kept ask t) :
    Kept ask (ranged ok s t).1 := by
  unfold ranged
  simp (maxDischargeDepth := 40) +contextual [*]

@[simp] theorem inStates_kept {l : List Mode} {ok : Bool} {s : State} {t : State} (hs : Kept ask s) (ht : Kept ask t) :
    Kept ask (inStates l ok s t).1 := by
  unfold inStates
  simp (maxDischargeDepth := 40) +contextual [*]

@[simp] theorem portConfigured_kept {v : Nat} {s : State} (hs : Kept ask s) :
    Kept ask (portConfigured v s) := by
  unfold portConfigured
  simp (maxDischargeDepth := 40) +contextual [*]

@[simp] theorem writePort_kept {s : State} {sub : Nat} {w : Put} (hs : Kept ask s) :
    Kept ask (writePort s sub w).1 := by
  unfold writePort
  repeat' split
  all_goals simp (maxDischargeDepth := 40) +contextual [*]

@[simp] theorem writeProtocol_kept {s : State} {sub : Nat} {w : Put} (hs : Kept ask s) :
    Kept ask (writeProtocol s sub w).1 := by
  unfold writeProtocol
  repeat' split
  all_goals simp (maxDischargeDepth := 40) +contextual [*]

@[simp] theorem writeHoldAfter_kept {s : State} {w : Put} (hs : Kept ask s) :
    Kept ask (writeHoldAfter s w).1 := by
  unfold writeHoldAfter
  simp (maxDischargeDepth := 40) +contextual [*]

@[simp] theorem writeStartTime_kept {s : State} {w : Put} (hs : Kept ask s) :
    Kept ask (writeStartTime s w).1 := by
  unfold writeStartTime
  simp (maxDischargeDepth := 40) +contextual [*]

@[simp] theorem newTimeRole_kept {s : State} (hs : Kept ask s) :
    Kept ask (newTimeRole s) := by
  unfold newTimeRole
  simp (maxDischargeDepth := 40) +contextual [*]

@[simp] theorem writeTimeConfig_kept {s : State} {w : Put} (hs : Kept ask s) :
    Kept ask (writeTimeConfig s w).1 := by
  unfold writeTimeConfig
  simp (maxDischargeDepth := 40) +contextual [*]

@[simp] theorem writeTimeStatus_kept {s : State} {w : Put} (hs : Kept ask s) :
    Kept ask (writeTimeStatus s w).1 := by
  unfold writeTimeStatus
  simp (maxDischargeDepth := 40) +contextual [*]

@[simp] theorem writeTai_kept {s : State} {w : Put} (hs : Kept ask s) :
    Kept ask (writeTai s w).1 := by
  unfold writeTai
  simp (maxDischargeDepth := 40) +contextual [*]

@[simp] theorem writeTime_kept {s : State} {sub : Nat} {w : Put} (hs : Kept ask s) :
    Kept ask (writeTime s sub w).1 := by
  unfold writeTime
  repeat' split
  all_goals simp (maxDischargeDepth := 40) +contextual [*]

@[simp] theorem writeRate_kept {s : State} {w : Put} (hs : Kept ask s) :
    Kept ask (writeRate s w).1 := by
  unfold writeRate
  simp (maxDischargeDepth := 40) +contextual [*]

@[simp] theorem writeTrain_kept {s : State} {sub : Nat} {w : Put} (hs : Kept ask s) :
    Kept ask (writeTrain s sub w).1 := by
  unfold writeTrain
  repeat' split
  all_goals simp (maxDischargeDepth := 40) +contextual [*]

@[simp] theorem writeUpdate_kept {s : State} {w : Put} (hs : Kept ask s) :
    Kept ask (writeUpdate s w).1 := by
  unfold writeUpdate
  simp (maxDischargeDepth := 40) +contextual [*]

@[simp] theorem writeRng_kept {s : State} {sub : Nat} {w : Put} (hs : Kept ask s) :
    Kept ask (writeRng s sub w).1 := by
  unfold writeRng
  simp (maxDischargeDepth := 40) +contextual [*]

@[simp] theorem writeSet_kept {s : State} {n : Nat} {sub : Nat} {w : Put} (hs : Kept ask s) :
    Kept ask (writeSet s n sub w).1 := by
  unfold writeSet
  simp (maxDischargeDepth := 40) +contextual [*]

@[simp] theorem writeThresholds_kept {s : State} {sub : Nat} {w : Put} (hs : Kept ask s) :
    Kept ask (writeThresholds s sub w).1 := by
  unfold writeThresholds
  repeat' split
  all_goals simp (maxDischargeDepth := 40) +contextual [*]

@[simp] theorem writeFallback_kept {s : State} {w : Put} (hs : Kept ask s) :
    Kept ask (writeFallback s w).1 := by
  unfold writeFallback
  simp (maxDischargeDepth := 40) +contextual [*]

@[simp] theorem writeStatSelect_kept {s : State} {w : Put} (hs : Kept ask s) :
    Kept ask (writeStatSelect s w).1 := by
  unfold writeStatSelect
  simp (maxDischargeDepth := 40) +contextual [*]

@[simp] theorem writeChimney_kept {s : State} {w : Put} (hs : Kept ask s) :
    Kept ask (writeChimney s w).1 := by
  unfold writeChimney
  simp (maxDischargeDepth := 40) +contextual [*]

@[simp] theorem writeLinkEvents_kept {s : State} {k : Nat} {w : Put} (hs : Kept ask s) :
    Kept ask (writeLinkEvents s k w).1 := by
  unfold writeLinkEvents
  simp (maxDischargeDepth := 40) +contextual [*]

@[simp] theorem leaveData_kept {k : Nat} {was : State} {s : State} (hwas : Kept ask was) (hs : Kept ask s) :
    Kept ask (leaveData k was s) := by
  unfold leaveData
  simp (maxDischargeDepth := 40) +contextual [*]

@[simp] theorem retrainNow_kept {k : Nat} {s : State} (hs : Kept ask s) :
    Kept ask (retrainNow k s) := by
  unfold retrainNow
  simp (maxDischargeDepth := 40) +contextual [*]

@[simp] theorem forceDownNow_kept {k : Nat} {s : State} (hs : Kept ask s) :
    Kept ask (forceDownNow k s) := by
  unfold forceDownNow
  simp (maxDischargeDepth := 40) +contextual [*]

@[simp] theorem releaseDown_kept {k : Nat} {s : State} (hs : Kept ask s) :
    Kept ask (releaseDown k s) := by
  unfold releaseDown
  simp (maxDischargeDepth := 40) +contextual [*]

@[simp] theorem writeLinkControl_kept {s : State} {k : Nat} {w : Put} (hs : Kept ask s) :
    Kept ask (writeLinkControl s k w).1 := by
  unfold writeLinkControl
  simp (maxDischargeDepth := 40) +contextual [*]

@[simp] theorem relink_kept {s : State} {k : Nat} (hs : Kept ask s) :
    Kept ask (relink s k) := by
  unfold relink
  simp (maxDischargeDepth := 40) +contextual [*]

@[simp] theorem writeFabricId_kept {s : State} {w : Put} (hs : Kept ask s) :
    Kept ask (writeFabricId s w).1 := by
  unfold writeFabricId
  simp (maxDischargeDepth := 40) +contextual [*]

@[simp] theorem writeRetrainLimit_kept {s : State} {w : Put} (hs : Kept ask s) :
    Kept ask (writeRetrainLimit s w).1 := by
  unfold writeRetrainLimit
  simp (maxDischargeDepth := 40) +contextual [*]

@[simp] theorem writeMemory_kept {s : State} {sub : Nat} {w : Put} (hs : Kept ask s) :
    Kept ask (writeMemory s sub w).1 := by
  unfold writeMemory
  repeat' split
  all_goals simp (maxDischargeDepth := 40) +contextual [*]

@[simp] theorem writeRotate_kept {s : State} {n : Nat} {w : Put} (hs : Kept ask s) :
    Kept ask (writeRotate s n w).1 := by
  unfold writeRotate
  simp (maxDischargeDepth := 40) +contextual [*]

@[simp] theorem closeTarget_kept {r : Nat} {s : State} (hs : Kept ask s) :
    Kept ask (closeTarget r s) := by
  unfold closeTarget
  simp (maxDischargeDepth := 40) +contextual [*]

@[simp] theorem writeVerify_kept {s : State} {r : Nat} {w : Put} (hs : Kept ask s) :
    Kept ask (writeVerify s r w).1 := by
  unfold writeVerify
  simp (maxDischargeDepth := 40) +contextual [*]

@[simp] theorem writeHashFail_kept {s : State} {r : Nat} {w : Put} (hs : Kept ask s) :
    Kept ask (writeHashFail s r w).1 := by
  unfold writeHashFail
  simp (maxDischargeDepth := 40) +contextual [*]

@[simp] theorem writeFaults_kept {s : State} {sub : Nat} {w : Put} (hs : Kept ask s) :
    Kept ask (writeFaults s sub w).1 := by
  unfold writeFaults
  simp (maxDischargeDepth := 40) +contextual [*]

@[simp] theorem writeErr_kept {s : State} {w : Put} (hs : Kept ask s) :
    Kept ask (writeErr s w).1 := by
  unfold writeErr
  refine guarded_kept hs ⟨hs.1, ?_, hs.2.2⟩
  have h := hs.2.1
  cases e : w.num.testBit 0 <;> cases e' : s.faults.errHeld <;> simp_all [EKept, w1c]

@[simp] theorem writeLogSelect_kept {s : State} {w : Put} (hs : Kept ask s) :
    Kept ask (writeLogSelect s w).1 := by
  unfold writeLogSelect
  simp (maxDischargeDepth := 40) +contextual [*]

@[simp] theorem writeLogClear_kept {s : State} {w : Put} (hs : Kept ask s) :
    Kept ask (writeLogClear s w).1 := by
  unfold writeLogClear
  simp (maxDischargeDepth := 40) +contextual [*]

@[simp] theorem writeSourceSelect_kept {s : State} {w : Put} (hs : Kept ask s) :
    Kept ask (writeSourceSelect s w).1 := by
  unfold writeSourceSelect
  simp (maxDischargeDepth := 40) +contextual [*]

@[simp] theorem writeSourceControl_kept {s : State} {w : Put} (hs : Kept ask s) :
    Kept ask (writeSourceControl s w).1 := by
  unfold writeSourceControl
  dsimp only
  repeat' split
  all_goals simp (maxDischargeDepth := 40) +contextual [*]

@[simp] theorem writeSource_kept {s : State} {sub : Nat} {w : Put} (hs : Kept ask s) :
    Kept ask (writeSource s sub w).1 := by
  unfold writeSource
  repeat' split
  all_goals simp (maxDischargeDepth := 40) +contextual [*]

@[simp] theorem writeMail_kept {s : State} {a : Agent} {m : Nat} {sub : Nat} {w : Put} (hs : Kept ask s) :
    Kept ask (writeMail s a m sub w).1 := by
  unfold writeMail
  simp (maxDischargeDepth := 40) +contextual [*]

@[simp] theorem writeLow_kept {s : State} {i : Nat} {sub : Nat} {w : Put} (hs : Kept ask s) :
    Kept ask (writeLow s i sub w).1 := by
  unfold writeLow
  repeat' split
  all_goals simp (maxDischargeDepth := 40) +contextual [*]

@[simp] theorem writeMid_kept {s : State} {i : Nat} {sub : Nat} {w : Put} (hs : Kept ask s) :
    Kept ask (writeMid s i sub w).1 := by
  unfold writeMid
  repeat' split
  all_goals simp (maxDischargeDepth := 40) +contextual [*]

@[simp] theorem writeHigh_kept {s : State} {i : Nat} {sub : Nat} {w : Put} (hs : Kept ask s) :
    Kept ask (writeHigh s i sub w).1 := by
  unfold writeHigh
  repeat' split
  all_goals simp (maxDischargeDepth := 40) +contextual [*]

@[simp] theorem writeSub_kept {s : State} {a : Agent} {i : Nat} {sub : Nat} {w : Put} (hs : Kept ask s) :
    Kept ask (writeSub s a i sub w).1 := by
  unfold writeSub
  simp (maxDischargeDepth := 40) +contextual [*]

@[simp] theorem dictWrite_kept {s : State} {a : Agent} {i : Nat} {sub : Nat} {v : DictValue} (hs : Kept ask s) :
    Kept ask (dictWrite s a i sub v).1 := by
  unfold dictWrite
  repeat' split
  all_goals simp (maxDischargeDepth := 40) +contextual [*]

@[simp] theorem agentWrite_kept {a : Agent} {i : Nat} {sub : Nat} {v : DictValue} {s : State} (hs : Kept ask s) :
    KeptOut ask (agentWrite a i sub v s) := by
  unfold agentWrite
  simp (maxDischargeDepth := 40) +contextual [*]

@[simp] theorem execDictionaryWrite_kept {a : Agent} {index : BitVec 16} {sub : BitVec 8} {v : DictValue} {s : State} (hs : Kept ask s) :
    KeptOut ask (execDictionaryWrite a index sub v s) := by
  unfold execDictionaryWrite
  simp (maxDischargeDepth := 40) +contextual [*]

@[simp] theorem execTaiSet_kept {a : Agent} {t : BitVec 64} {s : State} (hs : Kept ask s) :
    KeptOut ask (execTaiSet a t s) := by
  unfold execTaiSet
  simp (maxDischargeDepth := 40) +contextual [*]

@[simp] theorem execStartTimeWrite_kept {a : Agent} {t : BitVec 64} {s : State} (hs : Kept ask s) :
    KeptOut ask (execStartTimeWrite a t s) := by
  unfold execStartTimeWrite
  simp (maxDischargeDepth := 40) +contextual [*]

@[simp] theorem execFabricIdWrite_kept {a : Agent} {id : BitVec 64} {s : State} (hs : Kept ask s) :
    KeptOut ask (execFabricIdWrite a id s) := by
  unfold execFabricIdWrite
  simp (maxDischargeDepth := 40) +contextual [*]

@[simp] theorem execFenceLink_kept {a : Agent} {k : Fin 64} {s : State} (hs : Kept ask s) :
    KeptOut ask (execFenceLink a k s) := by
  unfold execFenceLink
  simp (maxDischargeDepth := 40) +contextual [*]

@[simp] theorem execRetrainLink_kept {a : Agent} {k : Fin 64} {s : State} (hs : Kept ask s) :
    KeptOut ask (execRetrainLink a k s) := by
  unfold execRetrainLink
  simp (maxDischargeDepth := 40) +contextual [*]

@[simp] theorem execForceDownLink_kept {a : Agent} {k : Fin 64} {on : Bool} {s : State} (hs : Kept ask s) :
    KeptOut ask (execForceDownLink a k on s) := by
  unfold execForceDownLink
  simp (maxDischargeDepth := 40) +contextual [*]

@[simp] theorem execStatReadSelect_kept {a : Agent} {sel : BitVec 32} {s : State} (hs : Kept ask s) :
    KeptOut ask (execStatReadSelect a sel s) := by
  unfold execStatReadSelect
  simp (maxDischargeDepth := 40) +contextual [*]

@[simp] theorem execFaultLogSelect_kept {a : Agent} {sel : BitVec 32} {s : State} (hs : Kept ask s) :
    KeptOut ask (execFaultLogSelect a sel s) := by
  unfold execFaultLogSelect
  simp (maxDischargeDepth := 40) +contextual [*]

@[simp] theorem execClearLog_kept {a : Agent} {v : BitVec 8} {s : State} (hs : Kept ask s) :
    KeptOut ask (execClearLog a v s) := by
  unfold execClearLog
  simp (maxDischargeDepth := 40) +contextual [*]

@[simp] theorem execSourceSelect_kept {a : Agent} {code : BitVec 16} {s : State} (hs : Kept ask s) :
    KeptOut ask (execSourceSelect a code s) := by
  unfold execSourceSelect
  simp (maxDischargeDepth := 40) +contextual [*]

@[simp] theorem execForceFault_kept {a : Agent} {ctl : BitVec 32} {s : State} (hs : Kept ask s) :
    KeptOut ask (execForceFault a ctl s) := by
  unfold execForceFault
  simp (maxDischargeDepth := 40) +contextual [*]

@[simp] theorem execErrHeldRelease_kept {a : Agent} {s : State} (hs : Kept ask s) :
    KeptOut ask (execErrHeldRelease a s) := by
  unfold execErrHeldRelease
  simp (maxDischargeDepth := 40) +contextual [*]

@[simp] theorem execRotateRequest_kept {a : Agent} {stack : Fin 16} {ch : BitVec 8} {s : State} (hs : Kept ask s) :
    KeptOut ask (execRotateRequest a stack ch s) := by
  unfold execRotateRequest
  simp (maxDischargeDepth := 40) +contextual [*]

@[simp] theorem execVerifyRetained_kept {a : Agent} {r : Fin 16} {v : BitVec 8} {s : State} (hs : Kept ask s) :
    KeptOut ask (execVerifyRetained a r v s) := by
  unfold execVerifyRetained
  simp (maxDischargeDepth := 40) +contextual [*]

/-! Machine/Requests.lean -/

@[simp] theorem authFail_kept {s : State} (hs : Kept ask s) :
    Kept ask (authFail s) := by
  unfold authFail
  simp (maxDischargeDepth := 40) +contextual [*]

@[simp] theorem takeMsg_kept {typ : BitVec 8} {m : Msg} {f : Option Session → State → State} {s : State} (hf : ∀ x s, Kept ask s → Kept ask (f x s)) (hs : Kept ask s) :
    Kept ask (takeMsg typ m f s) := by
  unfold takeMsg
  repeat' split
  all_goals simp (maxDischargeDepth := 40) +contextual [*]

@[simp] theorem answer_kept {s : State} {m : Msg} {typ : BitVec 8} {r : State × Reply} (hs : Kept ask s) (hr : Kept ask r.1) :
    Kept ask (answer s m typ r) := by
  unfold answer
  simp (maxDischargeDepth := 40) +contextual [*]

@[simp] theorem modSession_kept {s : State} {n : BitVec 32} {f : Session → Session} (hs : Kept ask s) :
    Kept ask (modSession s n f) := by
  unfold modSession
  simp (maxDischargeDepth := 40) +contextual [*]

@[simp] theorem inSession_kept {typ : BitVec 8} {m : Msg} {x : Session} {f : State → State × Reply} {s : State} (hf : ∀ s, Kept ask s → Kept ask (f s).1) (hs : Kept ask s) :
    Kept ask (inSession typ m x f s) := by
  unfold inSession
  dsimp only
  repeat' split
  all_goals simp (maxDischargeDepth := 40) +contextual only [kept_mk, kept_queue, kept_err, kept_mem, kept_store, kept_buffers, and_self, implies_true, ite_self, *, send_kept, discard_kept, answer_kept, modSession_kept]

@[simp] theorem request_kept {typ : BitVec 8} {m : Msg} {f : Option Session → State → State × Bytes} {s : State} (hf : ∀ x s, Kept ask s → Kept ask (f x s).1) (hs : Kept ask s) :
    KeptOut ask (request typ m f s) := by
  unfold request
  simp (maxDischargeDepth := 40) +contextual [*]

@[simp] theorem readRequest_kept {a : Agent} {b : Bytes} {s : State} (hs : Kept ask s) :
    Kept ask (readRequest a b s).1 := by
  unfold readRequest
  simp (maxDischargeDepth := 40) +contextual [*]

@[simp] theorem writeRequest_kept {a : Agent} {b : Bytes} {s : State} (hs : Kept ask s) :
    Kept ask (writeRequest a b s).1 := by
  unfold writeRequest
  simp (maxDischargeDepth := 40) +contextual [*]

@[simp] theorem execReadEntry_kept {m : Msg} {s : State} (hs : Kept ask s) :
    KeptOut ask (execReadEntry m s) := by
  unfold execReadEntry
  simp (maxDischargeDepth := 40) +contextual [*]

@[simp] theorem execWriteEntry_kept {m : Msg} {s : State} (hs : Kept ask s) :
    KeptOut ask (execWriteEntry m s) := by
  unfold execWriteEntry
  simp (maxDischargeDepth := 40) +contextual [*]

@[simp] theorem readItem_kept {a : Agent} {s : State} {x : Bytes} (hs : Kept ask s) :
    Kept ask (readItem a s x).1 := by
  unfold readItem
  simp (maxDischargeDepth := 40) +contextual [*]

@[simp] theorem blockRead_kept {a : Agent} {b : Bytes} {s : State} (hs : Kept ask s) :
    Kept ask (blockRead a b s).1 := by
  unfold blockRead
  simp (maxDischargeDepth := 40) +contextual [*]

@[simp] theorem writeItems_kept {a : Agent} {z0 : List Bytes} {z1 : State} (hz1 : Kept ask z1) :
    Kept ask (writeItems a z0 z1).1 := by
  induction z0 generalizing z1 with
  | nil => exact hz1
  | cons x t ih =>
    unfold writeItems
    dsimp only
    split
    · exact dictWrite_kept hz1
    · exact ih (dictWrite_kept hz1)

@[simp] theorem blockWrite_kept {a : Agent} {b : Bytes} {s : State} (hs : Kept ask s) :
    Kept ask (blockWrite a b s).1 := by
  unfold blockWrite
  simp (maxDischargeDepth := 40) +contextual [*]

@[simp] theorem execReadBlock_kept {m : Msg} {s : State} (hs : Kept ask s) :
    KeptOut ask (execReadBlock m s) := by
  unfold execReadBlock
  simp (maxDischargeDepth := 40) +contextual [*]

@[simp] theorem execWriteBlock_kept {m : Msg} {s : State} (hs : Kept ask s) :
    KeptOut ask (execWriteBlock m s) := by
  unfold execWriteBlock
  simp (maxDischargeDepth := 40) +contextual [*]

@[simp] theorem drawNonce_kept {s : State} (hs : Kept ask s) :
    Kept ask (drawNonce s).1 := by
  unfold drawNonce
  simp (maxDischargeDepth := 40) +contextual [*]

@[simp] theorem execSessionNonce_kept {m : Msg} {s : State} (hs : Kept ask s) :
    KeptOut ask (execSessionNonce m s) := by
  unfold execSessionNonce
  simp (maxDischargeDepth := 40) +contextual [*]

@[simp] theorem openSession_kept {m : Msg} {key : Bytes} {s : State} (hs : Kept ask s) :
    Kept ask (openSession m key s).1 := by
  unfold openSession
  simp (maxDischargeDepth := 40) +contextual [*]

@[simp] theorem openRequest_kept {m : Msg} {s : State} (hs : Kept ask s) :
    Kept ask (openRequest m s).1 := by
  unfold openRequest
  repeat' split
  all_goals simp (maxDischargeDepth := 40) +contextual [*]

@[simp] theorem execSessionOpen_kept {m : Msg} {s : State} (hs : Kept ask s) :
    KeptOut ask (execSessionOpen m s) := by
  unfold execSessionOpen
  rw [keptOut_next]
  refine takeMsg_kept (fun x t ht => ?_) hs
  cases x with
  | none => exact answer_kept ht (openRequest_kept ht)
  | some y => exact inSession_kept (fun _ h => h) ht

@[simp] theorem afterChannel_kept {c : Channel} {s : State} (hs : Kept ask s) :
    Kept ask (afterChannel c s) := by
  unfold afterChannel
  simp (maxDischargeDepth := 40) +contextual [*]

@[simp] theorem endChannel_kept {reason : Nat} {s : State} {c : Channel} (hs : Kept ask s) :
    Kept ask (endChannel reason s c) := by
  unfold endChannel
  simp (maxDischargeDepth := 40) +contextual [*]

@[simp] theorem closeSession_kept {n : BitVec 32} {s : State} (hs : Kept ask s) :
    Kept ask (closeSession n s) := by
  unfold closeSession
  simp (maxDischargeDepth := 40) +contextual [*]

@[simp] theorem execSessionClose_kept {m : Msg} {s : State} (hs : Kept ask s) :
    KeptOut ask (execSessionClose m s) := by
  unfold execSessionClose
  simp (maxDischargeDepth := 40) +contextual [*]

@[simp] theorem execSessionTimeout_kept {session : BitVec 32} {s : State} (hs : Kept ask s) :
    KeptOut ask (execSessionTimeout session s) := by
  unfold execSessionTimeout
  simp (maxDischargeDepth := 40) +contextual [*]

@[simp] theorem execNonceExpiry_kept {nonce : Bytes} {s : State} (hs : Kept ask s) :
    KeptOut ask (execNonceExpiry nonce s) := by
  unfold execNonceExpiry
  simp (maxDischargeDepth := 40) +contextual [*]

/-! Machine/Bulk.lean -/

@[simp] theorem openChannel_kept {session : Bool} {m : Msg} {s : State} (hs : Kept ask s) :
    Kept ask (openChannel session m s).1 := by
  unfold openChannel
  simp (maxDischargeDepth := 40) +contextual [*]

@[simp] theorem execBulkOpen_kept {m : Msg} {s : State} (hs : Kept ask s) :
    KeptOut ask (execBulkOpen m s) := by
  unfold execBulkOpen
  simp (maxDischargeDepth := 40) +contextual [*]

@[simp] theorem bulkMsg_kept {typ : BitVec 8} {m : Msg} {dir : Option Bool} {f : Channel → State → State} {s : State} (hf : ∀ x s, Kept ask s → Kept ask (f x s)) (hs : Kept ask s) :
    Kept ask (bulkMsg typ m dir f s) := by
  unfold bulkMsg
  refine takeMsg_kept (fun _ t ht => ?_) hs
  repeat' split
  · exact hf _ _ ht
  · exact ht
  · exact ht

@[simp] theorem storeData_kept {s : State} {c : Channel} {u : Nat} {bs : Bytes} (hs : Kept ask s) :
    Kept ask (storeData s c u bs) := by
  unfold storeData
  simp (maxDischargeDepth := 40) +contextual [*]

@[simp] theorem pauseBulk_kept {s : State} (hs : Kept ask s) :
    Kept ask (pauseBulk s) := by
  unfold pauseBulk
  simp (maxDischargeDepth := 40) +contextual [*]

@[simp] theorem afterUnits_kept {s : State} {id : BitVec 16} (hs : Kept ask s) :
    Kept ask (afterUnits s id) := by
  unfold afterUnits
  repeat' split
  all_goals simp (maxDischargeDepth := 40) +contextual [*]

@[simp] theorem takeUnits_kept {c : Channel} {w : Nat} {u : Nat} {x : DataBody} {ackNow : Bool} {s : State} (hs : Kept ask s) :
    Kept ask (takeUnits c w u x ackNow s) := by
  unfold takeUnits
  simp (maxDischargeDepth := 40) +contextual [*]

@[simp] theorem unitsAt_kept {m : Msg} {c : Channel} {w : Nat} {u : Nat} {x : DataBody} {s : State} (hs : Kept ask s) :
    Kept ask (unitsAt m c w u x s) := by
  unfold unitsAt
  repeat' split
  all_goals first | exact sendAck_kept hs | exact discard_kept hs | exact closeChannel_kept hs | exact takeUnits_kept hs

@[simp] theorem dataOn_kept {m : Msg} {c : Channel} {s : State} (hs : Kept ask s) :
    Kept ask (dataOn m c s) := by
  unfold dataOn
  simp (maxDischargeDepth := 40) +contextual [*]

@[simp] theorem execBulkData_kept {m : Msg} {s : State} (hs : Kept ask s) :
    KeptOut ask (execBulkData m s) := by
  unfold execBulkData
  simp (maxDischargeDepth := 40) +contextual [*]

@[simp] theorem resend_kept {c : Channel} {w : Nat} {received : Nat} {s : State} (hs : Kept ask s) :
    Kept ask (resend c w received s) := by
  unfold resend
  simp (maxDischargeDepth := 40) +contextual [*]

@[simp] theorem acknowledged_kept {s : State} {id : BitVec 16} (hs : Kept ask s) :
    Kept ask (acknowledged s id) := by
  unfold acknowledged
  repeat' split
  all_goals simp (maxDischargeDepth := 40) +contextual [*]

@[simp] theorem ackOn_kept {m : Msg} {c : Channel} {s : State} (hs : Kept ask s) :
    Kept ask (ackOn m c s) := by
  unfold ackOn
  repeat' split
  all_goals simp (maxDischargeDepth := 40) +contextual [*]

@[simp] theorem execBulkAck_kept {m : Msg} {s : State} (hs : Kept ask s) :
    KeptOut ask (execBulkAck m s) := by
  unfold execBulkAck
  simp (maxDischargeDepth := 40) +contextual [*]

@[simp] theorem execBulkClose_kept {m : Msg} {s : State} (hs : Kept ask s) :
    KeptOut ask (execBulkClose m s) := by
  unfold execBulkClose
  simp (maxDischargeDepth := 40) +contextual [*]

@[simp] theorem execAckDelayExpiry_kept {channel : BitVec 16} {window : Nat} {s : State} (hs : Kept ask s) :
    KeptOut ask (execAckDelayExpiry channel window s) := by
  unfold execAckDelayExpiry
  repeat' split
  all_goals simp (maxDischargeDepth := 40) +contextual [*]

@[simp] theorem execRetxTimeout_kept {channel : BitVec 16} {window : Nat} {s : State} (hs : Kept ask s) :
    KeptOut ask (execRetxTimeout channel window s) := by
  unfold execRetxTimeout
  repeat' split
  all_goals simp (maxDischargeDepth := 40) +contextual [*]

/-! Machine/Ports.lean -/

@[simp] theorem takeFrame_kept {fr : Frame} {f : State → State} {s : State} (hf : ∀ s, Kept ask s → Kept ask (f s)) (hs : Kept ask s) :
    KeptOut ask (takeFrame fr f s) := by
  unfold takeFrame
  simp (maxDischargeDepth := 40) +contextual [*]

@[simp] theorem execArpRequest_kept {f : Frame} {senderMac : BitVec 48} {senderIp : BitVec 32} {targetIp : BitVec 32} {s : State} (hs : Kept ask s) :
    KeptOut ask (execArpRequest f senderMac senderIp targetIp s) := by
  unfold execArpRequest
  simp (maxDischargeDepth := 40) +contextual [*]

@[simp] theorem execNeighborSolicitation_kept {f : Frame} {senderMac : BitVec 48} {senderIp : BitVec 128} {targetIp : BitVec 128} {s : State} (hs : Kept ask s) :
    KeptOut ask (execNeighborSolicitation f senderMac senderIp targetIp s) := by
  unfold execNeighborSolicitation
  simp (maxDischargeDepth := 40) +contextual [*]

@[simp] theorem execIcmpEchoRequest_kept {f : Frame} {src : Endpoint} {dst : BitVec 128} {ident : BitVec 32} {payload : Bytes} {s : State} (hs : Kept ask s) :
    KeptOut ask (execIcmpEchoRequest f src dst ident payload s) := by
  unfold execIcmpEchoRequest
  simp (maxDischargeDepth := 40) +contextual [*]

@[simp] theorem releaseTx_kept {s : State} (hs : Kept ask s) :
    Kept ask (releaseTx s) := by
  unfold releaseTx
  simp (maxDischargeDepth := 40) +contextual [*]

@[simp] theorem pausePriority_kept {quanta : BitVec 16} {s : State} {p : Nat} (hs : Kept ask s) :
    Kept ask (pausePriority quanta s p) := by
  unfold pausePriority
  simp (maxDischargeDepth := 40) +contextual [*]

@[simp] theorem execPfcFrame_kept {f : Frame} {enables : BitVec 8} {quanta : List (BitVec 16)} {s : State} (hs : Kept ask s) :
    KeptOut ask (execPfcFrame f enables quanta s) := by
  unfold execPfcFrame
  simp (maxDischargeDepth := 40) +contextual [*]

@[simp] theorem execPfcPauseExpiry_kept {priority : Fin 8} {s : State} (hs : Kept ask s) :
    KeptOut ask (execPfcPauseExpiry priority s) := by
  unfold execPfcPauseExpiry
  simp (maxDischargeDepth := 40) +contextual [*]

@[simp] theorem execPfcRepeat_kept {s : State} (hs : Kept ask s) :
    KeptOut ask (execPfcRepeat s) := by
  unfold execPfcRepeat
  simp (maxDischargeDepth := 40) +contextual [*]

@[simp] theorem execPfcResume_kept {drained : Nat} {s : State} (hs : Kept ask s) :
    KeptOut ask (execPfcResume drained s) := by
  unfold execPfcResume
  simp (maxDischargeDepth := 40) +contextual [*]

@[simp] theorem ptpAnnounce_kept {tai : Bool} {s : State} (hs : Kept ask s) :
    Kept ask (ptpAnnounce tai s) := by
  unfold ptpAnnounce
  simp (maxDischargeDepth := 40) +contextual [*]

@[simp] theorem ptpSynced_kept {origin : Nat} {rx : Nat} {s : State} (hs : Kept ask s) :
    Kept ask (ptpSynced origin rx s) := by
  unfold ptpSynced
  simp (maxDischargeDepth := 40) +contextual [*]

@[simp] theorem ptpSteer_kept {o : Int} {s : State} (hs : Kept ask s) :
    Kept ask (ptpSteer o s) := by
  unfold ptpSteer
  simp (maxDischargeDepth := 40) +contextual [*]

@[simp] theorem ptpTake_kept {p : Ptp} {s : State} (hs : Kept ask s) :
    Kept ask (ptpTake p s) := by
  unfold ptpTake
  repeat' split
  all_goals simp (maxDischargeDepth := 40) +contextual [*]

@[simp] theorem execPtpMessage_kept {f : Frame} {p : Ptp} {s : State} (hs : Kept ask s) :
    KeptOut ask (execPtpMessage f p s) := by
  unfold execPtpMessage
  repeat' split
  all_goals rw [keptOut_next]
  all_goals first | exact hs | exact discard_kept hs | exact ptpTake_kept hs

@[simp] theorem execPortLinkChange_kept {up : Bool} {aligned : Bool} {s : State} (hs : Kept ask s) :
    KeptOut ask (execPortLinkChange up aligned s) := by
  unfold execPortLinkChange
  simp (maxDischargeDepth := 40) +contextual [*]

/-! Machine/Monitor.lean -/

@[simp] theorem monDo_kept {f : State → State × BitVec 16 × Bytes} {s : State} (hf : ∀ s, Kept ask s → Kept ask (f s).1) (hs : Kept ask s) :
    KeptOut ask (monDo f s) := by
  unfold monDo
  simp (maxDischargeDepth := 40) +contextual [*]

@[simp] theorem plain_kept {r : State × BitVec 16} (hr : Kept ask r.1) :
    Kept ask (plain r).1 := by
  unfold plain
  simp (maxDischargeDepth := 40) +contextual [*]

@[simp] theorem monRead_kept {i : Nat} {sub : Nat} {offset : Nat} {count : Nat} {s : State} (hs : Kept ask s) :
    Kept ask (monRead i sub offset count s).1 := by
  unfold monRead
  repeat' split
  all_goals simp (maxDischargeDepth := 40) +contextual [*]

@[simp] theorem execMonRd_kept {index : BitVec 16} {sub : BitVec 8} {offset : Nat} {count : Nat} {s : State} (hs : Kept ask s) :
    KeptOut ask (execMonRd index sub offset count s) := by
  unfold execMonRd
  simp (maxDischargeDepth := 40) +contextual [*]

@[simp] theorem execMonWr_kept {index : BitVec 16} {sub : BitVec 8} {value : Nat} {s : State} (hs : Kept ask s) :
    KeptOut ask (execMonWr index sub value s) := by
  unfold execMonWr
  simp (maxDischargeDepth := 40) +contextual [*]

@[simp] theorem execMonMbLock_kept {m : Fin 32} {s : State} (hs : Kept ask s) :
    KeptOut ask (execMonMbLock m s) := by
  unfold execMonMbLock
  simp (maxDischargeDepth := 40) +contextual [*]

@[simp] theorem putWords_kept {m : Nat} {z0 : Nat} {z1 : List (BitVec 32)} {z2 : State} (hz2 : Kept ask z2) :
    Kept ask (putWords m z0 z1 z2).1 := by
  induction z1 generalizing z0 z2 with
  | nil => exact hz2
  | cons w t ih =>
    unfold putWords
    dsimp only
    split
    · exact ih (wordWrite_kept hz2)
    · exact wordWrite_kept hz2

@[simp] theorem mbSend_kept {m : Nat} {code : BitVec 8} {ws : List (BitVec 32)} {s : State} (hs : Kept ask s) :
    Kept ask (mbSend m code ws s).1 := by
  unfold mbSend
  simp (maxDischargeDepth := 40) +contextual [*]

@[simp] theorem execMonMbSend_kept {m : Fin 32} {code : BitVec 8} {words : List (BitVec 32)} {s : State} (hs : Kept ask s) :
    KeptOut ask (execMonMbSend m code words s) := by
  unfold execMonMbSend
  simp (maxDischargeDepth := 40) +contextual [*]

@[simp] theorem execMonMbShow_kept {m : Fin 32} {s : State} (hs : Kept ask s) :
    KeptOut ask (execMonMbShow m s) := by
  unfold execMonMbShow
  simp (maxDischargeDepth := 40) +contextual [*]

@[simp] theorem execMonMbStatus_kept {m : Fin 32} {st : MailStatus} {len : BitVec 5} {s : State} (hs : Kept ask s) :
    KeptOut ask (execMonMbStatus m st len s) := by
  unfold execMonMbStatus
  repeat' split
  all_goals simp (maxDischargeDepth := 40) +contextual [*]

@[simp] theorem execMonMbFree_kept {m : Fin 32} {s : State} (hs : Kept ask s) :
    KeptOut ask (execMonMbFree m s) := by
  unfold execMonMbFree
  simp (maxDischargeDepth := 40) +contextual [*]

@[simp] theorem execMonLog_kept {n : Nat} {s : State} (hs : Kept ask s) :
    KeptOut ask (execMonLog n s) := by
  unfold execMonLog
  refine monDo_kept (fun t ht => ?_) hs
  split <;> exact ht

@[simp] theorem monPeek_kept {tier : Nat} {region : Nat} {offset : Nat} {len : Nat} {s : State} (hs : Kept ask s) :
    Kept ask (monPeek tier region offset len s).1 := by
  unfold monPeek
  repeat' split
  all_goals simp (maxDischargeDepth := 40) +contextual [*]

@[simp] theorem execMonPeek_kept {tier : BitVec 2} {region : BitVec 16} {offset : Nat} {len : Nat} {s : State} (hs : Kept ask s) :
    KeptOut ask (execMonPeek tier region offset len s) := by
  unfold execMonPeek
  simp (maxDischargeDepth := 40) +contextual [*]

@[simp] theorem execMonReset_kept {cls : ResetClass} {s : State} (hs : Kept ask s) :
    KeptOut ask (execMonReset cls s) := by
  unfold execMonReset
  simp (maxDischargeDepth := 40) +contextual [*]

@[simp] theorem execMonBaud_kept {rate : Nat} {s : State} (hs : Kept ask s) :
    KeptOut ask (execMonBaud rate s) := by
  unfold execMonBaud
  simp (maxDischargeDepth := 40) +contextual [*]

end Sys2Proof.Machine
end

