-- ==== Sys2Proof/Laws/Mail.lean ====
section
/-! SUPPORT. The operations of the mailbox block change the mailboxes alone: one lemma for each. -/

namespace Sys2Proof.Machine

/-- t differs from s in the mailboxes alone. -/
def MailOnly (s t : State) : Prop := t = { s with mail := t.mail }

theorem MailOnly.refl (s : State) : MailOnly s s := rfl

theorem MailOnly.trans {a b c : State} (h : MailOnly a b) (k : MailOnly b c) : MailOnly a c := by
  unfold MailOnly at *
  rw [h] at k
  rw [k]

theorem modMail_mailOnly {s : State} {m : Nat} {f : Mailbox → Mailbox} : MailOnly s (modMail s m f) := rfl

theorem fold_mailOnly {α : Type} {g : State → α → State} (h : ∀ s x, MailOnly s (g s x)) :
    ∀ (l : List α) (s : State), MailOnly s (l.foldl g s)
  | [], s => .refl s
  | x :: l, s => (h s x).trans (fold_mailOnly h l (g s x))

theorem ite_mailOnly {c : Prop} [Decidable c] {s a b : State} (h : MailOnly s a) (k : MailOnly s b) :
    MailOnly s (if c then a else b) := by
  split
  · exact h
  · exact k

theorem releaseSender_mailOnly {a : Nat} {s : State} : MailOnly s (releaseSender a s) :=
  fold_mailOnly (fun _ _ => ite_mailOnly (ite_mailOnly modMail_mailOnly modMail_mailOnly) (.refl _)) _ _

theorem clearAbsent_mailOnly {s : State} : MailOnly s (clearAbsent s) :=
  fold_mailOnly (fun _ _ => ite_mailOnly modMail_mailOnly (.refl _)) _ _

theorem diesOff_mailOnly {s : State} : MailOnly s (diesOff s) :=
  clearAbsent_mailOnly.trans (fold_mailOnly (fun _ _ => ite_mailOnly (.refl _) releaseSender_mailOnly) _ _)

end Sys2Proof.Machine
end

