-- ==== Sys2Proof/Laws/Shared.lean ====
section
/-! SUPPORT. What the shared operations of the data path and the links can do: the occurrences of an op, the words that its
writes make whole, and the cells that a link sends. One lemma for each, which callers cite instead of unfolding it. -/

namespace Sys2Proof.Machine

/-- An op that reports n times adds n occurrences of its source at its hearth, and changes nothing else. -/
theorem noteAt_eq (source h : Nat) : ∀ (n : Nat) (s : State), ∃ l,
    noteAt source h n s = { s with faults := { s.faults with detected := s.faults.detected ++ l } } ∧
      l.map (·.occ) = List.replicate n (occAt source 1 h)
  | 0, s => ⟨[], by simp only [noteAt, List.append_nil], rfl⟩
  | n + 1, s => by
    obtain ⟨l, heq, hocc⟩ := noteAt_eq source h n (detect s (occAt source 1 h))
    refine ⟨[⟨occAt source 1 h, false, s.time.now, loggedStep s, s.fabric.epoch,
      if s.dev.mode = .running then s.seq.planEntry else 0, BitVec.ofNat 8 (modeCode s.dev.mode), originKind s⟩] ++ l, ?_, ?_⟩
    · rw [noteAt, heq]
      simp only [detect, List.append_assoc]
    · simp only [List.singleton_append, List.map_cons, hocc, List.replicate_succ]

/-- A word stays uncorrectable where no write covers it whole. -/
theorem mem_restored (h k : Nat) : ∀ (writes : List (Nat × Nat)) (l : List Nat),
    k ∈ writes.foldl (fun l x => restored l h x.1 x.2) l ↔
      k ∈ l ∧ ∀ x ∈ writes, ¬(spadKey h x.1 ≤ 8 * k ∧ 8 * k + 8 ≤ spadKey h x.1 + x.2)
  | [], l => by simp
  | x :: t, l => by
    rw [List.foldl_cons, mem_restored h k t]
    simp only [restored, List.mem_filter, List.forall_mem_cons, Bool.not_eq_true', Bool.and_eq_false_iff,
      decide_eq_false_iff_not, not_and_or, and_assoc]

/-- The end of an op changes the uncorrectable words and the waiting occurrences alone. -/
theorem withEcc_eq (c : OpCmd) (struck : Nat) (writes : List (Nat × Nat)) (t : State) : ∃ l,
    withEcc c struck writes t = { t with
      mem := { t.mem with spadPoison := writes.foldl (fun l x => restored l c.hearth.val x.1 x.2) t.mem.spadPoison }
      faults := { t.faults with detected := t.faults.detected ++ l } } ∧
      l.map (·.occ) = List.replicate struck (occAt 0x0102 1 c.hearth.val) := by
  obtain ⟨l, heq, hocc⟩ := noteAt_eq 0x0102 c.hearth.val struck { t with mem := { t.mem with
    spadPoison := writes.foldl (fun l x => restored l c.hearth.val x.1 x.2) t.mem.spadPoison } }
  exact ⟨l, heq, hocc⟩

/-- Noted nodes change the noted nodes alone. -/
theorem noteNodes_eq (s : State) (l : List SumNode) :
    noteNodes s l = { s with train := { s.train with nodes := l.foldl noteNode s.train.nodes } } := rfl

/-- A free position lies in the time asked for, and the link has sent nothing there. -/
theorem freePosition_spec {l : Link} {t u p : Nat} (h : freePosition l t u = some p) :
    p ∈ positionsIn t u ∧ p % 16 ≠ 0 ∧ isCarried l.width.toNat p = true ∧ ∀ x ∈ l.sent, x.1 ≠ p := by
  have hm := List.mem_of_find?_eq_some h
  have hp := List.find?_some h
  simp only [Bool.and_eq_true, bne_iff_ne, Bool.not_eq_true', List.any_eq_false, beq_iff_eq] at hp
  exact ⟨hm, hp.1.1, hp.1.2, hp.2⟩

/-- Sending cells changes what the link has sent alone, and keeps what it sent before in front. -/
theorem placeCells_eq (t u : Nat) : ∀ (cs : List Cell) (l : Link),
    ∃ more, placeCells t u cs l = { l with sent := l.sent ++ more } ∧ more.length ≤ cs.length ∧ ∀ x ∈ more, x.2 ∈ cs
  | [], l => ⟨[], by simp [placeCells]⟩
  | c :: r, l => by
    cases hp : freePosition l t u with
    | none =>
      obtain ⟨more, heq, hlen, hmem⟩ := placeCells_eq t u r l
      refine ⟨more, ?_, Nat.le_succ_of_le hlen, fun x hx => List.mem_cons_of_mem _ (hmem x hx)⟩
      rw [placeCells, hp, Option.elim_none, heq]
    | some p =>
      obtain ⟨more, heq, hlen, hmem⟩ := placeCells_eq t u r (putCell p c l)
      refine ⟨(p, c) :: more, ?_, Nat.succ_le_succ hlen, ?_⟩
      · rw [placeCells, hp, Option.elim_some, heq]
        simp only [putCell, List.append_assoc, List.singleton_append]
      · intro x hx
        rcases List.mem_cons.mp hx with rfl | hx
        · exact List.mem_cons_self
        · exact List.mem_cons_of_mem _ (hmem x hx)

end Sys2Proof.Machine
end

