-- ==== Sys2Proof/Tests/Slice0.lean ====
section
/-! SUPPORT. Tests of the model: every check of WellFormed refuses an ill-formed command, every statement's hypotheses
are met by a state written out here, and single commands do what the spec says. -/

namespace Sys2Proof.Tests

open Sys2Proof Sys2Proof.Machine Sys2Proof.Claims

/-! The proofs here run one after another: many of them wait for the kernel. -/
set_option Elab.async false

/-! Well-formedness: one ill-formed command for each check. -/

/-- A message without a session. -/
def plainMsg (body tag : Bytes) : Msg :=
  ⟨⟨200, true, none, 0, false, true⟩, ⟨true, 1, 5000⟩, 28410, 0x494C, 1, 0, 0, 0, 0, 0, 16, body, tag⟩

/-- A reading of Assay with n rails. -/
def reading (n : Nat) : Metering := ⟨0, List.replicate n 0, List.replicate n 0, false⟩

/-- Totals with n node sums. -/
def sumsOf (n : Nat) : Totals := ⟨0, 0, [], [], [], 0, 0, 0, List.replicate n (0, 0, 0)⟩

theorem smoke_messages :
    (∀ c ∈ messages, (c.1 (plainMsg [] [])).wf = true ∧ (c.1 (plainMsg [] [1])).wf = false) ∧
    (Instr.readEntry (plainMsg (List.replicate 9217 0) [])).wf = false := by decide +kernel

theorem smoke_cells :
    ∀ c ∈ [Instr.dataCell 0, .retryCell 0, .retryRequest 0, .idleCell 0, .haltCell 0, .rateRequest 0, .rateAnnounce 0] ++
      [Instr.startTimeCell 0, .replayStart 0, .linkDown 0, .linkUp 0, .commitToken 0, .commitCell 0],
      (c ⟨0, List.replicate 256 0, false⟩).wf = true ∧ (c ⟨0, List.replicate 255 0, false⟩).wf = false := by decide +kernel

theorem smoke_readings :
    ∀ c ∈ [Instr.jobStart, .jobEnd, .rstNLow 1000, .vassayReturn, .assayCheckpoint, .vassayLoss],
      (c (reading 8)).wf = true ∧ (c (reading 7)).wf = false := by decide

theorem smoke_values :
    (Instr.dictionaryWrite (.host true) 0 0 ⟨10, 0, List.replicate 4097 0⟩).wf = false ∧
    (Instr.dictionaryWrite (.host true) 0 0 ⟨10, 16384, [0]⟩).wf = false ∧
    (Instr.dictionaryWrite (.host true) 0 0 ⟨10, 16383, [0]⟩).wf = true ∧
    (Instr.wrappedJobKey (.host true) 0 (List.replicate 4097 0)).wf = false ∧
    (Instr.attestNonce (.host true) (List.replicate 4097 0)).wf = false ∧ (Instr.nonceExpiry [0]).wf = false ∧
    (Instr.monRd 0 0 0 (2 ^ 64)).wf = false ∧ (Instr.monMbSend 0 0 (List.replicate 17 0)).wf = false := by decide +kernel

theorem smoke_monitor_value : (Instr.monWr 0 0 (256 ^ 120)).wf = false := by simp [Instr.wf]

theorem smoke_frames :
    (Instr.icmpEchoRequest ⟨9216, true, none, 0, false, true⟩ ⟨true, 1, 0⟩ 0 0 (List.replicate 9217 0)).wf = false ∧
    (Instr.icmpEchoRequest ⟨64, true, none, 0, false, true⟩ ⟨true, 1, 0⟩ 0 0 (List.replicate 65 0)).wf = false ∧
    (Instr.pfcFrame ⟨64, true, none, 0, false, true⟩ 0 []).wf = false := by decide +kernel

theorem smoke_reports :
    (Instr.damperEvaluation ⟨8, 0, List.replicate 9 0⟩).wf = false ∧
    (Instr.trainingPhaseDone 0 ⟨0, 0, 0, 0, 0⟩).wf = false ∧ (Instr.trainingPhaseDone 0 ⟨7, 0, 0, 0, 0⟩).wf = false ∧
    (Instr.channelRetrainDone 0 ⟨true, 0, 33⟩).wf = false ∧ (Instr.fallbackDecision (some (sumsOf 257))).wf = false ∧
    (Instr.fallbackDecision (some (sumsOf 256))).wf = true ∧ (Instr.haltPosition 0 8).wf = false := by decide +kernel

/-- The state after reset in another mode. -/
def inMode (m : Mode) : State := { State.reset with dev := { State.reset.dev with mode := m } }

/-- A host inside a session. -/
def owner : Agent := .host true

/-- A state with mode m on the fabric master. -/
def asMaster (m : Mode) : State := { inMode m with time := { State.reset.time with master := true } }

/-- What a Bool says of the next state of a command; false where the command stops. -/
def after (c : Instr) (s : State) (p : State → Bool) : Bool :=
  match exec c s with
  | .next t => p t
  | .fault _ => false
  | .refused _ => false

/-! Witnesses: for each statement with hypotheses, a concrete state and operands that meet them. -/

theorem witness_StepRunsFrontCommand : State.reset.pending = [] := by decide

theorem witness_ExecKeepsTheQueue : ∃ t, exec .pwrcapRelease { State.reset with pending := [.pwrcapRelease] } = .next t :=
  ⟨_, rfl⟩

/-- ERR_N held, a byte in a scratchpad and a command that waits. -/
def heldState : State :=
  { State.reset with
    faults := { State.reset.faults with errHeld := true }
    pins := { State.reset.pins with errN := false }
    mem := { State.reset.mem with spad := [(5, 7)] }
    pending := [.pwrcapRelease] }

theorem witness_StepKeepsInvariant : Inv heldState ∧ ∃ t, step heldState = .next t := by
  refine ⟨⟨fun _ => rfl, by unfold MemoryCanonical; decide, fun c hc => ?_⟩, ⟨_, rfl⟩⟩
  cases List.mem_singleton.mp hc
  rfl

/-- Every command but the two resets has a state in which it is illegal; RESUME on the master. -/
theorem witness_IllegalCommandIsRefused :
    (∀ m ∈ [Mode.standby, .idle, .running], mayCommand (asMaster m) owner ∧ (asMaster m).time.master = true) ∧
    ∀ c ∈ deviceCommands.map (·.2), c < 0xF0 → ∃ m ∈ [Mode.standby, .idle, .running], m ∉ legalIn c false := by
  unfold mayCommand
  decide

/-- LOADED, locked, with a batch staged, and START_TIME 1 ms ahead where it is known. -/
def ready (known : Bool) : State :=
  { inMode .loaded with
    time := { State.reset.time with lock := 2, startKnown := known, startTime := 1000000 }
    train := { State.reset.train with stagedStep := 1 } }

theorem witness_CommandsBeginTheirWork :
    (∀ m ∈ [Mode.standby, .idle, .running, .loaded], mayCommand (inMode m) owner ∧ (inMode m).dev.activity = 0) ∧
    (inMode .idle).dev.jobSuspended = false ∧
    (mayCommand (ready true) owner ∧ armConflict (ready true) = false ∧ (ready true).time.startKnown = true) ∧
    (mayCommand (ready false) owner ∧ armConflict (ready false) = false ∧ (ready false).time.startKnown = false) ∧
    ∀ n ∈ [0, 1151], let s := { inMode .idle with
        fence := { State.reset.fence with hearths := [n] }, hearths := [(n, { selftest := 1 })] }
      mayCommand s owner ∧ n < 1152 ∧ s.fence.hearths.contains n = true ∧ (hearthOf s n).selftest = 1 := by
  unfold mayCommand
  decide

theorem witness_ResetsEnterBoot :
    (∀ m ∈ [Mode.standby, .running, .faulted], mayCommand (inMode m) owner) ∧
    (∀ n < 16, (sget {} (inMode .running).mem.stackTable n).retired = []) := by
  unfold mayCommand
  decide

theorem witness_JobResetUnloadsTheJob :
    ∀ m ∈ [Mode.idle, .loaded, .armed, .held], mayCommand (inMode m) owner ∧ swf {} (inMode m).links = true := by
  unfold mayCommand
  decide

theorem witness_PowerDownAndBank :
    (∀ m ∈ [Mode.idle, .loaded, .armed, .held], mayCommand (inMode m) owner ∧ (inMode m).dev.activity = 0) ∧
    (inMode .idle).dev.jobSuspended = false ∧ swf {} (inMode .idle).mem.retained = true ∧
    (let s := { inMode .held with image := { State.reset.image with loaded := some {} } }
     mayCommand s owner ∧ s.image.loaded.isSome = true) := by
  unfold mayCommand
  decide

theorem witness_HearthResetFencesAndTests :
    (∀ m ∈ [Mode.idle, .loaded, .held], mayCommand (inMode m) owner ∧ (inMode m).dev.activity = 0) ∧
    memWf (inMode .idle).mem.spad = true ∧ swf {} (inMode .idle).hearths = true ∧
    (hearthOf (inMode .idle) 1151).selftest ≠ 3 ∧
    (let s := { inMode .idle with hearths := [(1151, { selftest := 3 })] }
     swf {} s.hearths = true ∧ (hearthOf s 1151).selftest = 3) := by
  unfold mayCommand
  decide

/-- An open channel of a kind. -/
def aChannel (kind : Nat) (toHost : Bool) : Channel :=
  ⟨1, kind, toHost, 1, ⟨false, 0x0A000001, 7790⟩, 256, 0, 0, 4096, 0, [], none, [], 0, [], 0, false, []⟩

/-- A state with one open channel. -/
def withChannel (s : State) (c : Channel) : State := { s with host := { s.host with channels := [c] } }

theorem witness_ResumeRestoreAndExportBegin :
    (mayCommand (asMaster .held) owner ∧ (asMaster .held).dev.activity = 0 ∧ (asMaster .held).faults.imageStopped = false ∧
      (asMaster .held).fabric.haltHeld = []) ∧
    (mayCommand (inMode .held) owner ∧ (inMode .held).time.master = false) ∧
    (let s := withChannel (inMode .loaded) (aChannel 3 false)
     mayCommand s owner ∧ s.dev.activity = 0 ∧ s.dev.jobSuspended = false ∧ (channelKind s 3 false).isSome = true) ∧
    (let s := withChannel (inMode .held) (aChannel 3 true)
     mayCommand s owner ∧ (channelKind s 3 true).isSome = true) ∧
    channelKind (inMode .loaded) 3 false = none ∧ channelKind (inMode .held) 3 true = none := by
  unfold mayCommand
  decide

theorem witness_ZeroisationEndsInIdle :
    (let s := { inMode .idle with mem := { State.reset.mem with zeroising := true, dram := [(3, 9)] } }
     s.mem.zeroising = true ∧ s.dev.poweredUp = false ∧ memWf s.mem.dram = true) ∧
    State.reset.mem.zeroising = false := by decide

/-- A boot's report with nothing failed. -/
def goodBoot : BootReport := ⟨1000, true, [], []⟩

/-- A state in BOOT, warm or cold, with a job recorded. -/
def booting (warm : Bool) : State :=
  { inMode .boot with
    dev := { (inMode .boot).dev with bootWarm := warm, jobSuspended := warm }
    jobRecord := { State.reset.jobRecord with valid := true } }

theorem witness_BootEndsInStandbyOrIdle :
    (∀ warm, let s := booting warm
      s.dev.mode = .boot ∧ s.pins.rstN = true ∧ s.dev.bootFatal = false ∧ s.dev.causePersists = none ∧
        bankOk s (bankNo s s.sec.preferB) = true ∧ s.dev.bootWarm = warm) ∧
    goodBoot.selftestFailed = [] ∧ goodBoot.katFailed = [] ∧
    (booting true).dev.jobSuspended = true ∧ (booting true).jobRecord.valid = true ∧
    (inMode .idle).dev.mode ≠ .boot := by decide

/-- STANDBY during a POWER_UP with RAIL_EN_B high. -/
def poweringOn (a goodB : Bool) : State :=
  { State.reset with
    dev := { State.reset.dev with activity := 5 }
    pins := { State.reset.pins with railEnB := true, railEnA := a, railGoodB := goodB } }

theorem witness_SuppliesRailsAndResetPin :
    (inMode .off).dev.mode = .off ∧ (inMode .running).dev.mode ≠ .off ∧
    (let s := { State.reset with pins := { State.reset.pins with rstN := false } }
     s.pins.rstN = false ∧ s.dev.mode ≠ .off) ∧
    (let s := poweringOn false false
     s.dev.mode = .standby ∧ s.dev.activity = 5 ∧ s.pins.railEnB = true) ∧
    (let s := poweringOn true true
     s.dev.mode = .standby ∧ s.dev.activity = 5 ∧ s.pins.railEnA = true ∧ s.pins.railGoodB = true ∧
       railEn .b s = true ∧ railGood .b s = true ∧ railEn .a s = true ∧ railGood .a s = false) ∧
    railEn .b State.reset = false := by decide

/-- A waiting occurrence of a source at hearth 3. -/
def occurrence (source : Nat) : Detected := detectedNow State.reset (occAt source 1 3) false

/-- A state in which one occurrence waits. -/
def withOccurrence (s : State) (source : Nat) (mask : Bool) : State :=
  { s with faults := { s.faults with
      detected := [occurrence source], sources := sput {} [] source { mask := mask }, cEnable := true } }

theorem witness_ClassCIsCountedLoggedAndNoReaction :
    ∀ c ∈ [0x0102, 0x0301, 0x0303], ∀ mask, let s := withOccurrence (inMode .running) c mask
      s.faults.detected = [occurrence c] ∧ swf {} s.hearths = true ∧ swf {} s.faults.sources = true ∧
        ((sourceInfo (occurrence c).occ.source.toNat).any fun i =>
          i.cls == 1 && reactionOf s i == 0 && (sourceOf s i.code).mask == mask) = true := by decide

theorem witness_ClassFEntersFaulted :
    (∀ m ∈ [Mode.standby, .running, .held], (inMode m).dev.mode ≠ .off ∧ (inMode m).dev.mode ≠ .boot ∧
      (inMode m).dev.mode ≠ .faulted) ∧
    (∀ c ∈ [0x0504, 0x0609], let s := withOccurrence (inMode .running) c false
      s.faults.detected = [occurrence c] ∧ ((sourceInfo (occurrence c).occ.source.toNat).any fun i =>
        i.cls == 3 && reactionOf s i == 7) = true) ∧
    tripPowered (inMode .running) (.computeDie 7) = true ∧ tripPowered State.reset .managementDie = true ∧
    reactionOf (inMode .running) ⟨0x0503, 3, 7, []⟩ = 7 ∧
    (let s := { State.reset with dev := { State.reset.dev with restarting := true } }
     s.dev.restarting = true ∧ reactionOf s ⟨0x0609, 3, 7, []⟩ = 7) := by decide

/-- The management processor restarts after its watchdog. -/
def restarting (m : Mode) : State := { inMode m with dev := { (inMode m).dev with restarting := true } }

/-- ERR_N pulses. -/
def pulsing (m : Mode) : State := { inMode m with faults := { State.reset.faults with pulsing := true } }

theorem witness_WatchdogAndPulseEvents :
    mgmtRuns (inMode .running) = true ∧ swf {} (inMode .running).mem.retained = true ∧ mgmtRuns (restarting .running) = false ∧
    ((restarting .running).dev.restarting = true ∧ linksPowered (restarting .running) = true) ∧
    (inMode .running).dev.restarting = false ∧ linksPowered (restarting .standby) = false ∧
    (∀ m ∈ [Mode.idle, .boot, .faulted], (pulsing m).faults.pulsing = true ∧ (pulsing m).dev.mode = m) ∧
    State.reset.faults.pulsing = false := by decide

theorem witness_SelectorsLatchTheirRecords :
    mayCommand (inMode .running) owner ∧ (inMode .running).dev.mode ≠ .banked ∧
    ∀ v ∈ [0, 4094, 0x10000ffe, 0x20000000, 0x200003ff, 0x300003ff], clearOf v 0x0FFFF000 = true ∧
      (statSelected (inMode .running) v).isSome = true := by
  unfold mayCommand
  decide

/-- FAULT_INJECT or not, with a class U source selected. -/
def injecting (on : Bool) : State :=
  { State.reset with
    sec := { State.reset.sec with policy := if on then 8 else 0 }
    faults := { State.reset.faults with sourceSelect := 0x0201 } }

theorem witness_ForceAndReleaseOfErrN :
    (∀ on, mayCommand (injecting on) owner ∧ (injecting on).sec.policy.getLsbD 3 = on ∧
      ((sourceInfo (injecting on).faults.sourceSelect.toNat).any fun i =>
        let v := i.cls + 8 * i.reaction + 256 * 1151 ||| 0x80
        clearOf v 0xFFF00004 && bits v 0 2 == i.cls && decide (i.reaction ≤ bits v 3 3) &&
          (forceOcc i (bits v 8 12)).isSome && (sourceOf (injecting on) i.code).force == none) = true) ∧
    State.reset.dev.mode ≠ .faulted ∧ mayCommand (inMode .faulted) owner ∧ (inMode .faulted).dev.mode = .faulted := by
  unfold mayCommand
  decide

theorem witness_TimeAndFabricIdWrites :
    (mayCommand (inMode .idle) owner ∧ (inMode .idle).time.master = false) ∧
    (∀ m ∈ [Mode.idle, .loaded], mayCommand (asMaster m) owner ∧ (asMaster m).time.master = true ∧ (asMaster m).time.source = 0) ∧
    (let s := { asMaster .idle with time := { (asMaster .idle).time with source := 2 } }
     mayCommand s owner ∧ s.time.source = 2 ∧ (0#64).toNat % 1000000000 = 0) ∧
    ((10000128#64).toNat % 256 = 0 ∧ (asMaster .loaded).time.now + 10000000 ≤ (10000128#64).toNat ∧
      swf {} (asMaster .loaded).links = true) ∧
    fabricIdOk 0x0101010100000000 = true ∧ fabricIdOk 0x10100F080F0F0E07 = true ∧
    (inMode .loaded).dev.mode ≠ .standby ∧ (inMode .loaded).dev.mode ≠ .idle := by
  unfold mayCommand
  decide

theorem witness_LinkControlActsOnItsLink :
    ∀ m ∈ [Mode.running, .idle, .loaded, .held], ∀ k ∈ [0, 63], let s := inMode m
      mayCommand s owner ∧ k ∉ s.fence.links ∧ (linkOf s k).forceDown = false ∧ (linkOf s k).retrain = false ∧
        (linkOf s k).state ≠ 0 ∧ swf {} s.links = true := by
  unfold mayCommand
  decide

theorem witness_RepairAndVerifyRequests :
    mayCommand (inMode .idle) owner ∧ (inMode .idle).dev.mode ≠ .banked ∧ (inMode .idle).dev.mode ≠ .loaded ∧
    ∀ r ∈ [0, 15], let s := { inMode .loaded with mem := { State.reset.mem with retained := [(r, { state := 1 })] } }
      mayCommand s owner ∧ s.dev.mode = .loaded ∧ (retainedOf s r).state = 1 ∧ swf {} s.mem.retained = true := by
  unfold mayCommand
  decide

/-- The identity key has no body: shown for the modulus 256 ^ 384 with exponent 1, under which a block is its own
cipher text. -/
theorem witness_KeysAndQuotes :
    (∀ m ∈ [Mode.idle, .loaded, .held], mayCommand (inMode m) owner) ∧ (oaepBlock (List.replicate 32 7)).length = 384 ∧
    (Config.identityModulus = 256 ^ 384 → Config.identitySecret = 1 →
      unwrap (inMode .idle) (oaepBlock (List.replicate 32 7)) = some (List.replicate 32 7)) ∧
    unwrap { inMode .idle with sec := { State.reset.sec with pufOk := false } } (List.replicate 384 0) = none ∧
    (List.replicate 32 (0 : Byte)).length = 32 ∧ (inMode .idle).sec.quoteStatus ≠ 1 ∧ (inMode .idle).sec.pufOk = true ∧
    (let s := { inMode .idle with sec := { State.reset.sec with quoteStatus := 1 } }
     mayCommand s owner ∧ s.sec.quoteStatus = 1) := by
  refine ⟨by unfold mayCommand; decide, length_oaepBlock rfl, fun h k => ?_, rfl, rfl, by decide, rfl, by unfold mayCommand; decide⟩
  simp only [unwrap, h, k, oaepDecrypt_oaepBlock (key := List.replicate 32 7) rfl]
  decide

theorem witness_DictionaryWriteChecksInOrder :
    isHeard (inMode .running) owner = true ∧ mayWrite owner = true ∧ mayWrite (.host false) = false ∧
    entryOf 0x0FFF = none ∧ (∃ e, entryOf 0x2000 = some e ∧ subOf 0x2000 e 0xFF = none) ∧
    (∃ e x, entryOf 0x2000 = some e ∧ subOf 0x2000 e 6 = some x ∧ x.acc = .rw) ∧
    (∃ e x, entryOf 0x2000 = some e ∧ subOf 0x2000 e 1 = some x ∧ x.acc = .ro) ∧
    (∃ e x, entryOf 0x7080 = some e ∧ subOf 0x7080 e 1 = some x ∧ x.acc = .seal) ∧
    (∀ m ∈ [Mode.loaded, .armed, .running, .held], isHeard (inMode m) owner = true ∧ m ∉ [Mode.standby, .idle, .banked]) := by
  refine ⟨by decide, by decide, by decide, by decide, ⟨_, rfl, by decide⟩, ⟨_, _, rfl, rfl, by decide⟩, ⟨_, _, rfl, rfl, by decide⟩,
    ⟨_, _, rfl, rfl, by decide⟩, by decide⟩

/-- A frame that the port takes. -/
def goodFrame : Frame := ⟨200, true, none, 0, false, true⟩

/-- A host at an IPv6 address. -/
def aHost : Endpoint := ⟨true, 0xFE800000000000000000000000000001, 5000⟩

/-- A session that has run the requests 10 and 9. -/
def aSession : Session := ⟨1, List.replicate 32 3, aHost, 10, [10, 9], [(9, [0, 0]), (10, [0, 0])]⟩

/-- A message of a TYPE as a host sends it, with the tag of the session's key. -/
def msgOf (typ : BitVec 8) (session seq : BitVec 32) (flags : BitVec 8) (body : Bytes) : Msg :=
  ⟨goodFrame, aHost, 28410, 0x494C, 1, session, seq, BitVec.ofNat 16 body.length, flags, 0,
    16 + body.length + (if session = 0 then 0 else 16), body,
    if session = 0 then [] else msgTag aSession.key typ session seq flags body⟩

/-- A state with the session open and a channel of a kind. -/
def serving (m : Mode) (cs : List Channel) : State :=
  { inMode m with host := { State.reset.host with sessions := [aSession], channels := cs } }

/-- Every message of the host without a session is delivered. -/
theorem delivered_open (s : State) (h : mgmtRuns s = true ∧ s.port = {} ∧ s.sec = {}) (typ : BitVec 8) (seq : BitVec 32)
    (body : Bytes) (hl : body.length < 2 ^ 16) : Delivered s (msgOf typ 0 seq 0 body) := by
  refine ⟨h.1, ?_, ?_, ?_, ?_⟩
  · simp only [frameTaken, vlanTaken, vlanId, h.2.1]
    rfl
  · simp only [udpPort, h.2.1, h.2.2]
    rfl
  · rfl
  · simp [headerOk, msgOf]; omega

/-- Every message of the session is delivered in it. -/
theorem inSession_msgOf (m : Mode) (cs : List Channel) (hm : m ≠ .off ∧ m ≠ .boot) (typ : BitVec 8) (seq : BitVec 32)
    (flags : BitVec 8) (body : Bytes) (hf : flags = 0 ∨ flags = 0x40) (hl : body.length < 2 ^ 16) :
    InSession (serving m cs) typ (msgOf typ 1 seq flags body) aSession := by
  refine ⟨⟨?_, rfl, ?_, rfl, ?_⟩, fun h => absurd h (by decide : (1#32) ≠ 0), rfl, rfl, rfl⟩
  · cases m <;> first | rfl | (exfalso; simp at hm)
  · simp only [udpPort, serving, inMode, State.reset]
    rfl
  · rcases hf with rfl | rfl <;> (simp [headerOk, msgOf]; omega)

theorem witness_PublicEntriesAreReadWithoutASession :
    let s := inMode .standby
    (∀ body : Bytes, body.length < 2 ^ 16 → Delivered s (msgOf 1 0 0 0 body)) ∧ s.sec.bootVerified = true ∧
    (∃ e x, entryOf 0x1000 = some e ∧ subOf 0x1000 e 7 = some x ∧ isPublic 0x1000 = true ∧ isLong x.typ = false) ∧
    (∃ e x, entryOf 0x1000 = some e ∧ subOf 0x1000 e 1 = some x ∧ isPublic 0x1000 = true ∧ isLong x.typ = true ∧
      0 + 20 ≤ x.size) ∧
    (∃ e x, entryOf 0x3420 = some e ∧ subOf 0x3420 e 0 = some x ∧ isPublic 0x3420 = false) :=
  ⟨fun b hb => delivered_open _ ⟨rfl, rfl, rfl⟩ _ _ b hb, rfl, ⟨_, _, rfl, rfl, rfl, rfl⟩, ⟨_, _, rfl, rfl, rfl, rfl, by decide⟩,
    ⟨_, _, rfl, rfl, rfl⟩⟩

theorem witness_SessionRequestsRunOnce :
    (∀ m ∈ [Mode.loaded, .armed, .running, .held], ∀ q ∈ [11, 0xFFFFFFFF], isNew aSession (BitVec.ofNat 32 q).toNat = true ∧
      m ≠ .off ∧ m ≠ .boot) ∧
    (∀ c ∈ messages, ∀ q flags body, body.length < 2 ^ 16 → flags = 0 ∨ flags = 0x40 →
      InSession (serving .running []) c.2 (msgOf c.2 1 q flags body) aSession) ∧
    isNew aSession 9 = false ∧ aSession.responses.find? (fun r => r.1 == 9) = some (9, [0, 0]) ∧
    isNew aSession 8 = true ∧ isNew { aSession with executed := [10, 9, 8] } 8 = false ∧
    aSession.responses.find? (fun r => r.1 == 8) = none ∧ (0x40#8).getLsbD 6 = true ∧ (0#8).getLsbD 6 = false :=
  ⟨by decide, fun _ _ q flags body hl hf => inSession_msgOf .running [] (by decide) _ q flags body hf hl, by decide, by decide,
    by decide, by decide, by decide, by decide, by decide⟩

/-- A message whose tag the session's key does not give, and one of a session that is not open. -/
theorem witness_MessagesThatAreNotTakenChangeNothing :
    mgmtRuns (inMode .boot) = false ∧ mgmtRuns (inMode .idle) = true ∧
    frameTaken (inMode .idle) { goodFrame with length := 9217 } = false ∧ frameTaken (inMode .idle) goodFrame = true ∧
    (28411#16).toNat ≠ udpPort (inMode .idle) ∧ ipActive (inMode .idle) { aHost with v6 := false } = false ∧
    headerOk { msgOf 1 0 0 0 [] with magic := 0 } = false ∧
    Delivered (serving .idle []) (msgOf 1 2 0 0 []) ∧ sessionOf (serving .idle []) 2 = none ∧
    Delivered (serving .idle []) { msgOf 1 1 0 0 [] with tag := List.replicate 16 0 } ∧
    sessionOf (serving .idle []) 1 = some aSession ∧
    List.replicate 16 (0 : Byte) ≠ msgTag aSession.key 1 1 0 0 [] := by
  refine ⟨by decide, by decide, by decide, by decide, by decide, by decide, by decide, ⟨rfl, rfl, rfl, rfl, ?_⟩, rfl,
    ⟨rfl, rfl, rfl, rfl, rfl⟩, rfl, by decide +kernel⟩
  simp [headerOk, msgOf]

/-- The body of a SESSION_OPEN signed under exponent 1. -/
def sessionBody : Bytes :=
  let b := List.replicate 32 5 ++ List.replicate 32 0 ++ oaepBlock (List.replicate 32 7)
  b ++ pssEncode (msgHeader 0x11 0 0 832 0 ++ b) (List.replicate 32 0)

/-- A device whose owner's key has exponent 1 and that holds a nonce, with n sessions open. -/
def owned (n : Nat) : State :=
  { inMode .idle with
    sec := { State.reset.sec with owner := some ⟨256 ^ 384, 1⟩ }
    host := { State.reset.host with
      nonces := [List.replicate 32 5]
      sessions := (List.range n).map (fun i => { aSession with number := BitVec.ofNat 32 (i + 1) }) } }

theorem length_openBody : sessionBody.length = 832 := by
  simp only [sessionBody, List.length_append, length_oaepBlock (key := List.replicate 32 7) rfl,
    length_pssEncode _ (salt := List.replicate 32 0) rfl, List.length_replicate]

theorem witness_SessionsOpenAndClose_key (h : Config.identityModulus = 256 ^ 384) (k : Config.identitySecret = 1) (n : Nat) :
    openKey (owned n) (msgOf 0x11 0 0 0 sessionBody) = some (List.replicate 32 7) := by
  have ho := length_oaepBlock (key := List.replicate 32 7) rfl
  generalize hb : List.replicate 32 (5 : Byte) ++ List.replicate 32 0 ++ oaepBlock (List.replicate 32 7) = b
  have hl : b.length = 448 := by simp only [← hb, List.length_append, List.length_replicate, ho]
  generalize hs : pssEncode (msgHeader 0x11 0 0 832 0 ++ b) (List.replicate 32 0) = sig
  have hsl : sig.length = 384 := by
    rw [← hs]
    exact length_pssEncode _ (by simp)
  have he : sessionBody = b ++ sig := by simp only [sessionBody, hb, hs]
  have h1 : slice sessionBody 0 32 = List.replicate 32 5 := by
    have := slice_middle [] (List.replicate 32 5) (List.replicate 32 0 ++ oaepBlock (List.replicate 32 7) ++ sig)
    simp only [List.nil_append, List.length_nil, List.length_replicate] at this
    rw [he, ← hb]
    simpa only [List.append_assoc] using this
  have h2 : slice sessionBody 32 32 = List.replicate 32 0 := by
    have := slice_middle (List.replicate 32 5) (List.replicate 32 0) (oaepBlock (List.replicate 32 7) ++ sig)
    simp only [List.length_replicate] at this
    rw [he, ← hb]
    simpa only [List.append_assoc] using this
  have h3 : slice sessionBody 64 384 = oaepBlock (List.replicate 32 7) := by
    have := slice_middle (List.replicate 32 5 ++ List.replicate 32 0) (oaepBlock (List.replicate 32 7)) sig
    simp only [List.length_append, List.length_replicate, ho] at this
    rw [he, ← hb]
    simpa only [List.append_assoc] using this
  have h4 : slice sessionBody 448 384 = sig := by
    have := slice_middle b sig []
    rw [hl, hsl, List.append_nil] at this
    rw [he, this]
  have h5 : sessionBody.take 448 = b := by
    rw [he, List.take_left' hl]
  have hv : pssVerify ⟨256 ^ 384, 1⟩ (msgHeader 0x11 0 0 832 0 ++ b) sig = true := by
    rw [← hs]
    exact pssVerify_pssEncode _ (by simp) (by decide +kernel)
  have hu : unwrap (owned n) (oaepBlock (List.replicate 32 7)) = some (List.replicate 32 7) := by
    simp only [unwrap, h, k, oaepDecrypt_oaepBlock (key := List.replicate 32 7) rfl]
    rfl
  have hc : (owned n).host.nonces.contains (List.replicate 32 5) = true := by
    simp only [owned]
    decide
  have hi : ((List.replicate 32 0 : Bytes) == (owned n).sec.ownerId) = true := by
    simp only [owned]
    decide
  have hw : (owned n).sec.owner = some ⟨256 ^ 384, 1⟩ := rfl
  simp only [openKey, hw, msgOf, h1, h2, h3, h4, h5, hc, hi, hv, hu, Bool.and_true, if_true]

/-- The identity key has no body: a session opens for the modulus 256 ^ 384 with exponent 1, see the theorem above. -/
theorem witness_SessionsOpenAndClose :
    (∀ body : Bytes, body.length < 2 ^ 16 → Delivered (serving .standby []) (msgOf 0x10 0 0 0 body)) ∧
    (msgOf 0x11 0 0 0 sessionBody).body.length = 832 ∧ (owned 0).host.sessions.length < 8 ∧ (owned 7).host.sessions.length < 8 ∧
    8 ≤ (owned 8).host.sessions.length ∧
    openKey State.reset (msgOf 0x11 0 0 0 sessionBody) = none ∧
    InSession (serving .running []) 0x12 (msgOf 0x12 1 11 0 []) aSession ∧ isNew aSession 11 = true ∧
    swf {} (serving .running []).mail = true ∧ sessionOf (serving .running []) 1 = some aSession :=
  ⟨fun b hb => delivered_open _ ⟨rfl, rfl, rfl⟩ _ _ b hb, length_openBody, by decide, by decide, by decide, rfl,
    inSession_msgOf .running [] (by decide) _ _ _ _ (.inl rfl) (by decide), by decide, by decide, rfl⟩

/-- A BULK_DATA body of one whole unit of a window. -/
def unitBody (window : Nat) : Bytes :=
  natBe 2 1 ++ [0, 1] ++ natBe 4 window ++ [0, 0] ++ natBe 2 1024 ++ zeros 4 ++ List.replicate 1024 9

/-- A channel for an image with 4 units, the first of which has arrived. -/
def imageChannel : Channel := { aChannel 1 false with units := [0] }

theorem witness_BulkChannelsOpenAndReceive :
    (∀ w ∈ [1, 256], ∀ n ∈ [512, 2 ^ 33], (imageOpenBody w n).length < 2 ^ 16) ∧
    (∀ body : Bytes, body.length < 2 ^ 16 → InSession (serving .idle []) 0x20 (msgOf 0x20 1 11 0 body) aSession) ∧
    (serving .idle []).dev.jobSuspended = false ∧
    (∀ w ∈ [0, 256, 0xFFFFFFFF], OnChannel (serving .idle [imageChannel]) 0x21 (msgOf 0x21 1 0 0 (unitBody w)) imageChannel ∧
      dataShape (unitBody w) = true) ∧
    absWindow 0 0 = some 0 ∧ absWindow 0 256 = some 256 ∧ absWindow 2 0xFFFFFFFF = none ∧
    (∀ w ∈ [0, 256], (dataBodyOf (unitBody w)).window = w) ∧
    lengthBroken imageChannel 0 (dataBodyOf (unitBody 0)) = false ∧ memWf (serving .idle []).image.store = true ∧
    channelOf (serving .idle [imageChannel]) 1 = some imageChannel ∧ windowDone imageChannel 0 = false ∧
    hasUnit imageChannel 0 = true ∧ channelOf (serving .idle [imageChannel]) 2 = none := by
  refine ⟨by decide, fun b hb => inSession_msgOf .idle [] (by decide) _ _ _ b (.inl rfl) hb, rfl, fun w hw => ⟨⟨?_, rfl, aSession,
    inSession_msgOf .idle _ (by decide) _ _ _ _ (.inl rfl) ?_⟩, ?_⟩, by decide, by decide, by decide, by decide +kernel,
    by decide +kernel, by decide, by decide, by decide, by decide, by decide⟩
  · revert w
    decide +kernel
  · revert w
    decide +kernel
  · revert w
    decide +kernel

/-- A device-to-host channel of which all four units are sent, after n timeouts. -/
def sendingChannel (kind timeouts : Nat) : Channel :=
  { aChannel kind true with stream := List.replicate 4096 1, sentUnits := 4, timeouts := timeouts, streamEnd := true }

/-- A BULK_ACK body of window 0, and a BULK_CLOSE body. -/
def ackBody : Bytes := natBe 2 1 ++ [0, 0] ++ natBe 4 0 ++ natBe 8 3
/-- A BULK_CLOSE body of channel 1. -/
def closeBody : Bytes := natBe 2 1 ++ [0, 0] ++ [0, 0]

theorem witness_BulkChannelsAcknowledgeAndClose :
    (OnChannel (serving .held [sendingChannel 3 0]) 0x22 (msgOf 0x22 1 0 0 ackBody) (sendingChannel 3 0) ∧
      ackBody.length = 16 ∧ beAt ackBody 2 2 = 0 ∧ absWindow 0 (beAt ackBody 4 4) = some 0 ∧
      (beAt ackBody 8 8).testBit 1 = true) ∧
    channelOf (serving .held [sendingChannel 3 14]) 1 = some (sendingChannel 3 14) ∧
    14 + 1 < (serving .held []).port.retryLimit.toNat ∧ (serving .held []).port.retryLimit.toNat ≤ 15 + 1 ∧
    (∀ kind ∈ [1, 3], OnChannel (serving .held [aChannel kind false]) 0x23 (msgOf 0x23 1 0 0 closeBody) (aChannel kind false)) ∧
    closeBody.length = 6 ∧ beAt closeBody 3 1 = 0 := by
  refine ⟨⟨⟨by rfl, rfl, aSession, inSession_msgOf .held _ (by decide) _ _ _ _ (.inl rfl) (by decide)⟩, by decide, by decide, by decide,
    by decide⟩, rfl, by decide, by decide, fun kind _ => ⟨by rfl, rfl, aSession,
    inSession_msgOf .held _ (by decide) _ _ _ _ (.inl rfl) (by decide)⟩, by decide, by decide⟩

theorem witness_PortAnswersArpNdAndEcho :
    mgmtRuns State.reset = true ∧ frameTaken State.reset goodFrame = true ∧
    frameTaken State.reset { goodFrame with fcsOk := false } = false := by decide

/-- Priority flow control is on; n bytes stand in the receive buffer. -/
def pausable (n : Nat) : State :=
  { State.reset with port := { State.reset.port with config := 0x6EFA000A, rxLevel := n } }

/-- The master follows a source, PTP received. -/
def timed (source : BitVec 2) : State :=
  { asMaster .idle with
    time := { (asMaster .idle).time with source := source, ptpTimescale := true }
    port := { State.reset.port with ptpReceiving := true } }

theorem witness_FlowControlAndPtp :
    (∀ n ∈ [0, 25165823, 25165824], portRuns (pausable n) = true ∧ pfcEnabled (pausable n) = true ∧
      swf 0 (pausable n).port.paused = true) ∧ goodFrame.length ≤ 9216 ∧ goodFrame.fcsOk = true ∧
    (∀ x ∈ [1, 2], let s := timed x
      s.dev.mode ≠ .off ∧ s.dev.mode ≠ .boot ∧ linksPowered s = true ∧ frameTaken s goodFrame = true ∧
        s.port.config.getLsbD 3 = true ∧ ptpFollowed s = true ∧ s.time.master = true ∧ s.time.source = x) ∧
    (∀ e ∈ [100000, -100000], Int.natAbs e ≤ 100000) ∧ 100000 < Int.natAbs 100001 ∧
    (inMode .idle).time.master = false := by decide

/-- A state with one mailbox in use. -/
def mailed (m : Nat) (x : Mailbox) : State := { inMode .idle with mail := [(m, x)] }

theorem witness_MailboxLifeOfAMessage :
    (∀ m ∈ [0, 15], swf {} (inMode .idle).mail = true ∧ mailPermits m 16 = true ∧ (mailOf (inMode .idle) m).owner = 0) ∧
    mailPermits 16 16 = false ∧
    (∀ m ∈ [0, 31], let s := mailed m { owner := 3 }
      swf {} s.mail = true ∧ (mailOf s m).owner = 3 ∧ mailBusy (mailOf s m) = false) ∧
    (∀ l ∈ [8, 16], 8 ≤ (BitVec.ofNat 5 l).toNat ∧ (BitVec.ofNat 5 l).toNat ≤ 16) ∧
    (let s := mailed 31 { owner := 3, status := 1 }
     swf {} s.mail = true ∧ (mailOf s 31).owner = 3 ∧ (mailOf s 31).status = 1 ∧ mailReceiver 31 = 16) ∧
    (let s := mailed 31 { owner := 3, status := 2 }
     swf {} s.mail = true ∧ (mailOf s 31).status = 2 ∧ (mailOf s 31).orphan = false ∧ (mailOf s 31).owner ≠ 1 ∧
       (mailOf s 31).owner ≠ 14) ∧
    (3 ≠ mailReceiver 31 ∧ 4 ≠ (mailOf (mailed 31 { owner := 3 }) 31).owner) := by decide

/-- A marker of job 5, and the record that it opens. -/
def aMarker (isStart : Bool) : Marker := ⟨isStart, 5, 1000, List.replicate 32 1, 0⟩
/-- The open record of job 5. -/
def aRecord : OpenRecord := ⟨5, List.replicate 32 1, 1000, 900, List.replicate 8 2, 40, true, 950, List.replicate 8 3, 30⟩

theorem witness_EchoAndJobRecords :
    (∀ m ∈ [0, 15], ∀ code ∈ [1, 2], let s := mailed m { owner := 16, status := 1, code := BitVec.ofNat 8 code }
      swf {} s.mail = true ∧ mailBusy (mailOf s m) = true ∧ agentPresent s (mailReceiver m) = true ∧
        (mailOf s m).orphan = false) ∧
    assayRuns State.reset = true ∧ swf {} State.reset.mail = true ∧ swf {} State.reset.hearths = true ∧
    (let s := { State.reset with markers := [aMarker true] }
     s.markers = [aMarker true] ∧ (aMarker true).isStart = true ∧ s.assay.record = none) ∧
    (let s := { State.reset with markers := [aMarker false], assay := { State.reset.assay with record := some aRecord } }
     s.markers = [aMarker false] ∧ (aMarker false).isStart = false ∧ s.assay.record = some aRecord ∧
       aRecord.jobId = (aMarker false).jobId ∧ swf (List.replicate 640 0) s.assay.ring = true) ∧
    aRecord.jobId ≠ { aMarker false with jobId := 6 }.jobId ∧
    (let s := { State.reset with assay := { State.reset.assay with notices := [(5, 0)] } }
     s.assay.notices = [(5, 0)] ∧ (mailOf s 17).owner = 0 ∧ mgmtRuns s = true) := by decide

/-- Assay asked to update, with an object staged. -/
def staging (object : Bytes) (record : Option OpenRecord) : State :=
  { State.reset with
    pins := { State.reset.pins with assayUpdateN := false }
    sec := { State.reset.sec with assayStaging := object }
    assay := { State.reset.assay with record := record } }

/-- The header of an Assay firmware object without a body, whose signer's key has exponent 1. -/
def objectBody : Bytes :=
  natLe 4 0 ++ natLe 2 1 ++ natLe 2 0x20 ++ natLe 4 1 ++ natLe 4 7 ++ natLe 8 0 ++ natLe 8 0 ++ sha256 [] ++
    (List.replicate 384 0xFF ++ [1, 0, 0, 0]) ++ zeros 60

/-- The object with its signature. -/
def anObject : Bytes := objectBody ++ pssEncode objectBody (List.replicate 32 0)

/-- The metrology root has no body: an object passes where its signer is the root. -/
theorem witness_AssayPowerAndFirmware_object (h : Config.metrologyRoot = sha256 (objSigner anObject)) :
    assayObjectOk (staging anObject none) = true := by
  have hl : objectBody.length = 512 := by
    simp only [objectBody, List.length_append, length_sha256, length_natLe]
    decide +kernel
  have hs := length_pssEncode objectBody (salt := List.replicate 32 0) rfl
  have h1 : anObject.length = 896 := by
    simp only [anObject, List.length_append, hl, hs]
  have h2 : objLength anObject = 0 := by
    decide +kernel
  have h3 : anObject.take 512 = objectBody := List.take_left' hl
  have h4 : slice anObject 512 384 = pssEncode objectBody (List.replicate 32 0) := by
    have := slice_middle objectBody (pssEncode objectBody (List.replicate 32 0)) []
    rwa [hl, hs, List.append_nil] at this
  have h5 : keyOf (objSigner anObject) = ⟨256 ^ 384 - 1, 1⟩ := by decide +kernel
  have h6 : objBodyOk anObject = true := by decide +kernel
  have h7 : objSigned anObject = true := by
    simp only [objSigned, h2, Nat.add_zero, h3, h4, h5]
    exact pssVerify_pssEncode _ rfl (by decide +kernel)
  have h8 : (staging anObject none).sec.assayStaging = anObject := rfl
  have h9 : objType anObject = 0x20 := by decide +kernel
  have h10 : decide ((staging anObject none).assay.counter ≤ objVersion anObject) = true := by decide +kernel
  simp only [assayObjectOk, h8, h1, h, h6, h7, h9, h10, Nat.le_refl, decide_true, beq_self_eq_true, Bool.and_true]

theorem witness_AssayPowerAndFirmware :
    State.reset.pins.vassay = true ∧ swf {} State.reset.mail = true ∧ swf (List.replicate 640 0) State.reset.assay.ring = true ∧
    (∀ r ∈ [none, some aRecord],
      let s := { State.reset with pins := { State.reset.pins with vassay := false }, assay := { State.reset.assay with record := r } }
      s.pins.vassay = false ∧ s.assay.record = r) ∧
    (let s := staging [] (some aRecord)
     s.pins.assayUpdateN = false ∧ assayRuns s = true ∧ s.assay.record.isSome = true) ∧
    (let s := { State.reset with assay := { State.reset.assay with installing := some (7, sha256 []) } }
     s.assay.installing = some (7, sha256 []) ∧ s.pins.vassay = true) := by decide +kernel

/-- A monitor that the policy lets in: 1 without, 2 with DEBUG. -/
def monitored (s : State) (mode : Nat) : State := { s with sec := { s.sec with policy := BitVec.ofNat 32 mode } }

/-- A near region of four bursts, and an image with it. -/
def nearRegion (role : Nat) : Region := ⟨role, 0, true, 0, 0, 0, 0, 4⟩
/-- A state whose image has one region. -/
def withRegion (s : State) (r : Region) : State :=
  { s with image := { s.image with loaded := some { regions := [r], nearMap := { localBursts := 100 } } } }

theorem witness_MonitorReadsWritesAndResets :
    (∀ m ∈ [Mode.standby, .idle, .loaded, .armed, .running, .held], ∀ x ∈ [1, 2], isHeard (monitored (inMode m) x) .monitor = true) ∧
    entryOf 0x0FFF = none ∧
    (∃ e x, readCheck .monitor 0x2000 1 = (0, some (e, x)) ∧ isLong x.typ = false ∧ isLock 0x2000 1 = false) ∧
    (let s := monitored (withRegion (inMode .held) (nearRegion 8)) 2
     isHeard s .monitor = true ∧ regionNo s 0 = some (nearRegion 8) ∧ monitorMode s = 2 ∧ isPowered s = true ∧
       regionPoison s (nearRegion 8) 2048 2048 = []) ∧
    peekOk (nearRegion 8) 0 0 16 = true ∧ peekOk (nearRegion 8) 0 6144 2048 = true ∧
    monitorMode (monitored (withRegion (inMode .held) (nearRegion 8)) 1) = 1 := by
  refine ⟨by decide, by decide, ⟨_, _, rfl, by decide, by decide⟩, ⟨by decide, rfl, by decide, by decide, by decide⟩, by decide, by decide,
    by decide⟩

theorem witness_MonitorMailboxCommands :
    isHeard (monitored (inMode .idle) 1) .monitor = true ∧ swf {} (inMode .idle).mail = true ∧
    swf 0 (mailOf (inMode .idle) 0).data = true ∧ mailPermits 0 16 = true ∧ (mailOf (inMode .idle) 0).owner = 0 ∧
    (let s := monitored (mailed 4 { owner := 16 }) 1
     isHeard s .monitor = true ∧ swf {} s.mail = true ∧ (mailOf s 4).owner = 16 ∧ mailBusy (mailOf s 4) = false ∧
       mailReceiver 4 ≠ 16 ∧ agentPresent s (mailReceiver 4) = true) ∧
    (∀ st ∈ [1, 2], let s := monitored (mailed 28 { owner := 3, status := st }) 1
      isHeard s .monitor = true ∧ swf {} s.mail = true ∧ mailReceiver 28 = 16 ∧ (mailOf s 28).status = st ∧
        (mailOf s 28).orphan = false ∧ (mailOf s 28).owner ≠ 1 ∧ (mailOf s 28).owner ≠ 14) ∧
    (0#5).toNat = 0 ∧ (List.replicate 16 (1#32)).length ≤ 16 := by decide

/-- A retained region's record being hashed. -/
def hashing (poison : List Nat) : State :=
  { inMode .loaded with mem := { State.reset.mem with
      poison := poison, retained := [(15, { state := 2, placement := some (nearRegion 7), interleave := { localBursts := 100 } })] } }

/-- A restore runs on an open channel whose four bytes have arrived. -/
def restoring : State :=
  let c := { aChannel 3 false with length := 4, units := [0], final := some (0, 4) }
  { withChannel (inMode .loaded) c with
    dev := { (inMode .loaded).dev with activity := 2 }
    ctx := { State.reset.ctx with op := 2, inProgress := true } }

/-- LOAD_DONE is due. -/
def loading (complete : Bool) : State :=
  { inMode .idle with
    dev := { (inMode .idle).dev with activity := 1 }, image := { State.reset.image with complete := complete } }

/-- The clauses but those of a verified image and of a restored context image: see the witnesses _load and _restore. -/
theorem witness_LoadRestoreAndHashEnd :
    (inMode .idle).dev.activity ≠ 1 ∧ (loading false).dev.activity = 1 ∧ (loading false).image.complete = false ∧
    (∃ c x r, (loading true).image.complete = true ∧ storeVerdict (loading true) = some (c, x, r)) ∧
    (∃ c, channelKind restoring 3 false = some c ∧ restoring.dev.activity = 2 ∧ restoring.ctx.inProgress = true ∧
      allArrived c = true ∧ ∃ r i, restoreCheck restoring (mread (sget [] restoring.host.inbox c.id.toNat) 0 (streamLength c)) =
        .inl (r, i)) ∧
    (retainedOf (inMode .loaded) 15).state ≠ 2 ∧
    (let s := hashing []
     (retainedOf s 15).state = 2 ∧ (retainedOf s 15).placement = some (nearRegion 7) ∧
       regionPoison s (nearRegion 7) 0 (regionBytes (nearRegion 7)) = [] ∧ swf {} s.mem.retained = true) ∧
    regionPoison (hashing [0]) (nearRegion 7) 0 (regionBytes (nearRegion 7)) ≠ [] := by
  refine ⟨by decide, by decide, by decide, ⟨_, _, _, rfl, rfl⟩, ⟨_, rfl, by decide, by decide, by decide, _, _, rfl⟩, by decide,
    by decide, by decide⟩

theorem witness_TemperaturesAndGates :
    isPowered (inMode .running) = true ∧ swf {} (inMode .running).mem.stackTable = true ∧ swf 0 (inMode .running).rate.requests = true ∧
    swf false (inMode .running).rate.dieGate = true ∧ (7 : Fin 9).val < 8 ∧
    (let s := { inMode .running with mem := { State.reset.mem with stackTable := [(15, { coolSince := some 0 })] } }
     isPowered s = true ∧ swf {} s.mem.stackTable = true ∧ (stackOf s 15).coolSince.isSome = true) ∧
    (inMode .running).pins.pwrcapN = true ∧
    (∀ x ∈ [1599, 1680], after (.damperEvaluation ⟨7, x, [1360]⟩) (inMode .running) (fun t => sget false t.rate.dieGate 7 == (x == 1680)) =
      true) := by decide

/-- The time code of a marker at 4 us, received 4 ns after the peer's. -/
def aCode : TimeCode :=
  let c : TimeCode := ⟨4096, 64, 4096, 1, 2, 0, 4, 0, 0, 65536⟩
  { c with crc := crc32 (codeBody c) }

/-- A time code of the same marker whose frame the peer received at rx, in 1/16 ns; its own receive timestamp is 65,536. -/
def codeAt (rx : Nat) : TimeCode :=
  let c : TimeCode := ⟨4096, BitVec.ofNat 64 rx, 4096, 1, 2, 0, 4, 0, 0, 65536⟩
  { c with crc := crc32 (codeBody c) }

/-- The running device with link 63 at width 4 as the way to the master. -/
def linked (m : Mode) : State :=
  { inMode m with
    links := [(63, { state := 3, lanes := 0xF, width := 4, data := true })]
    time := { State.reset.time with parent := some 63, lock := 2 } }

theorem witness_TimeCodesAndLinkPeriods :
    linksPowered (linked .running) = true ∧ swf {} (linked .running).links = true ∧ codeOk { aCode with crc := 0 } = false ∧
    carriesCodes (linked .running) 63 = true ∧ codeOk aCode = true ∧ aCode.rxTime ≠ 0 ∧
    (linked .running).time.parent = some 63 ∧ (linked .running).dev.mode = .running ∧ (linked .running).time.lock = 2 ∧
    (linked .running).time.master = false ∧ (linked .running).time.parent.isSome = true ∧
    (∀ rx ∈ [65568, 66000], codeOk (codeAt rx) = true ∧ (codeAt rx).rxTime ≠ 0) ∧
    (codeDelay (codeAt 65568) ≤ 160 ∧ (codeOffset (codeAt 65568)).natAbs ≤ 32) ∧
    (160 < codeDelay (codeAt 66000) ∧ 128 < (codeOffset (codeAt 66000)).natAbs) ∧ (codeAt 0).rxTime = 0 := by decide +kernel

/-- A powered stack 0 or 15. -/
def stacked (n : Nat) (k : Stack) : State := { inMode .idle with mem := { State.reset.mem with stackTable := [(n, k)] } }

theorem witness_RotationsMoveAChannelToTheSpare :
    ∀ n ∈ [0, 15], (let s := stacked n { trained := true }
      stackRuns s n = true ∧ swf {} s.mem.stackTable = true ∧ s.mem.rotateInterval ≠ 0 ∧ (spareOf n (stackOf s n)).isSome = true) ∧
    (let s := stacked n { trained := true, repairs := [2] }
     stackRuns s n = true ∧ swf {} s.mem.stackTable = true ∧ (stackOf s n).spareOk = true ∧ (stackOf s n).rotPhase = 0 ∧
       (spareOf n (stackOf s n)).isSome = true ∧ (stackOf s n).repairs = [2]) ∧
    (let s := stacked n { trained := true, routine := true }
     stackRuns s n = true ∧ swf {} s.mem.stackTable = true ∧ (stackOf s n).repairs = [] ∧ (stackOf s n).routine = true) ∧
    (let s := stacked n { trained := true, rotPhase := 1, rotLogical := 2, rotFrom := 2, rotTo := 8, spareOk := false }
     stackRuns s n = true ∧ swf {} s.mem.stackTable = true ∧ (stackOf s n).rotPhase = 1 ∧
       poisonedBursts s n (stackOf s n).rotFrom = [] ∧ memWf s.mem.dram = true ∧ swf none (stackOf s n).map = true) ∧
    ∀ f ∈ [0, 1], let s := stacked n { trained := true, rotPhase := 2, rotFrom := 2, spareOk := false, trainFailures := f }
      stackRuns s n = true ∧ swf {} s.mem.stackTable = true ∧ (stackOf s n).rotPhase = 2 ∧ (stackOf s n).trainFailures = f := by
  decide

theorem witness_RotationsMoveAChannelToTheSpare_off :
    ({ stacked 0 { trained := true } with mem := { (stacked 0 { trained := true }).mem with rotateInterval := 0 } }).mem.rotateInterval
      = 0 := rfl

/-- A state with link k in a state of training. -/
def training (k : Nat) (l : Link) : State :=
  { inMode .idle with fabric := { State.reset.fabric with id := 0x0202020200000000 }, links := sput {} [] k l }

theorem witness_LinksTrainAndAreLost :
    ∀ k ∈ [0, 63],
    (∀ p ∈ [1, 4, 6], let s := training k { state := 2, phase := p }
      let r : PhaseReport := ⟨p, 0xF, peerCoordOf s k, BitVec.ofNat 6 (peerLinkOf k), 100⟩
      linksPowered s = true ∧ swf {} s.links = true ∧ (linkOf s k).state = 2 ∧ (linkOf s k).phase = r.phase ∧
        r.lanes &&& (linkOf s k).tryLanes = (linkOf s k).tryLanes ∧ peerAgrees s k r = true ∧
        peerAgrees s k { r with peerCoord := r.peerCoord + 1 } = false) ∧
    ((3#4) &&& 0xF ≠ 0xF ∧ 2 ≤ laneCount ((3#4) &&& 0xF)) ∧
    (∀ f ∈ [1, 2], let s := training k { state := 2, phase := 1, failures := f }
      linksPowered s = true ∧ swf {} s.links = true ∧ (linkOf s k).state = 2 ∧ (linkOf s k).phase ≠ 4 ∧
        (f = 1 → (linkOf s k).failures + 1 < s.fabric.retrainLimit.toNat) ∧
        (f = 2 → s.fabric.retrainLimit.toNat ≤ (linkOf s k).failures + 1)) ∧
    (let s := training k {}
     linksPowered s = true ∧ swf {} s.links = true ∧ (linkOf s k).state = 1 ∧ mayTrain s k = true) ∧
    (let s := training k { state := 3, width := 4, data := true }
     linksPowered s = true ∧ swf {} s.links = true ∧ (linkOf s k).state = 3) ∧
    ∀ r ∈ [⟨2, 0, 0, false⟩, ⟨0, 4, 0, false⟩, ⟨0, 0, 4, false⟩], isLoss r = true := by decide

/-- A cell of 256 payload bytes from its header fields, whole or with a CRC-32 one too high. -/
def cellWith (whole : Bool) (f : Nat) (p : Bytes) : Cell :=
  if whole then mkCell f p else ⟨BitVec.ofNat 128 (f * 2 ^ 32 + (crc32 (natBe 12 f ++ p) + 1).toNat), p, false⟩

theorem broken_cell {f : Nat} (h : f < 2 ^ 96) (p : Bytes) :
    cellOk (cellWith false f p) = false ∧ cellType (cellWith false f p) = bits f 92 4 := by
  have hc := (crc32 (natBe 12 f ++ p) + 1).isLt
  have hn : (cellWith false f p).hdr.toNat = f * 2 ^ 32 + (crc32 (natBe 12 f ++ p) + 1).toNat := by
    simp only [cellWith, Bool.false_eq_true, if_false, BitVec.toNat_ofNat]
    omega
  have hd : (f * 2 ^ 32 + (crc32 (natBe 12 f ++ p) + 1).toNat) / 2 ^ 32 = f := by omega
  constructor
  · have hp : (cellWith false f p).payload = p := rfl
    have hne : (crc32 (natBe 12 f ++ p) + 1).toNat ≠ (crc32 (natBe 12 f ++ p)).toNat := by
      intro hh
      have hl := (crc32 (natBe 12 f ++ p)).isLt
      rw [BitVec.toNat_add, show (1 : BitVec 32).toNat = 1 from rfl] at hh
      omega
    unfold cellOk
    rw [hn, hd, hp]
    simp only [bits, Nat.shiftRight_zero]
    rw [Nat.mul_comm, Nat.mul_add_mod, Nat.mod_eq_of_lt hc]
    simpa [cellWith] using hne
  · unfold cellType hdrF bits
    rw [hn, show (124 : Nat) = 32 + 92 from rfl, Nat.shiftRight_add, Nat.shiftRight_eq_div_pow _ 32, hd]

/-- Header fields of a data-path cell of a TYPE at slot 5, index 3 of frame 0. -/
def atSlot5 (typ : Nat) : Nat := typ * 2 ^ 92 + 5 * 2 ^ 60 + 3 * 2 ^ 54

/-- A receive entry of link 63 for slot 5: 4 cells of a class, handed on by link 0. -/
def anEntry (cls : Nat) : BitVec 128 := BitVec.ofNat 128 (5 * 2 ^ 96 + 63 * 2 ^ 90 + 4 * 2 ^ 84 + 2 ^ 83 + cls * 2 ^ 78 + 2 * 2 ^ 56)

/-- The running device that takes cells of a class on link 63, with cell 3 of slot 5 missing. -/
def receiving (cls : Nat) (relaying : Bool) : State :=
  { inMode .running with
    fabric := { State.reset.fabric with table := [anEntry cls], relaying := relaying }
    links := [(0, { state := 3, width := 4, data := true }),
      (63, { state := 3, width := 4, data := true, missing := [(5, 3)] })] }

theorem match_entry (cls : Nat) (h : cls = 0 ∨ cls = 1) (typ : Nat) (ht : typ = 1 ∨ typ = 5) (p : Bytes) :
    matchEntry (receiving cls false) 63 (mkCell (atSlot5 typ) p) = some (anEntry cls) ∧
    isMissing (receiving cls false) 63 (mkCell (atSlot5 typ) p) = true := by
  have hf : atSlot5 typ < 2 ^ 96 := by rcases ht with rfl | rfl <;> decide
  unfold matchEntry arrivalSlot framesSince isMissing
  rw [cellFrame_mkCell hf, cellSlot_mkCell hf, cellIndex_mkCell hf]
  rcases ht with rfl | rfl <;> rcases h with rfl | rfl <;> decide

theorem witness_CellsOnALink (p : Bytes) :
    (∀ r, ∀ cls ∈ [0, 1], linkTakes (receiving cls r) 63 = true ∧ swf {} (receiving cls r).links = true ∧
      memWf (receiving cls r).fabric.buffers = true ∧ (receiving cls r).fabric.relaying = r ∧ isUp (receiving cls r) 0 = true) ∧
    (∀ t ∈ [1, 4, 5], cellOk (mkCell (atSlot5 t) p) = true ∧ cellType (mkCell (atSlot5 t) p) = t ∧
      cellOk (cellWith false (atSlot5 t) p) = false ∧ cellType (cellWith false (atSlot5 t) p) = t ∧
      cellEpoch (mkCell (atSlot5 t) p) = 0) ∧
    relayOf (receiving 0 true) 63 = some 55 ∧ isUp (receiving 0 true) 55 = false ∧
    (let s := { receiving 0 true with fabric := { (receiving 0 true).fabric with relay := [(63, some 0)] } }
     linkTakes s 63 = true ∧ s.fabric.relaying = true ∧ relayOf s 63 = some 0 ∧ isUp s 0 = true ∧
       (freePosition (linkOf s 0) s.time.now (s.time.now + 257)).isSome = true ∧
       let t := modLink s 0 (fun l => { l with sent := (positionsIn s.time.now (s.time.now + 257)).map (fun q => (q, ⟨0, [], false⟩)) })
       linkTakes t 63 = true ∧ t.fabric.relaying = true ∧ relayOf t 63 = some 0 ∧ isUp t 0 = true ∧
         freePosition (linkOf t 0) t.time.now (t.time.now + 257) = none) ∧
    schedules (receiving 0 false) = true ∧ BitVec.ofNat 8 0 = (receiving 0 false).fabric.epoch ∧
    (∀ cls ∈ [0, 1], ∀ t ∈ [1, 5], matchEntry (receiving cls false) 63 (mkCell (atSlot5 t) p) = some (anEntry cls) ∧
      isMissing (receiving cls false) 63 (mkCell (atSlot5 t) p) = true) ∧
    leClass (anEntry 0) ≠ 1 ∧ leClass (anEntry 1) = 1 ∧ leOut (anEntry 1) ≠ 63 ∧
    (let s := { receiving 0 false with fabric := { (receiving 0 false).fabric with table := [] } }
     linkTakes s 63 = true ∧ matchEntry s 63 (mkCell (atSlot5 1) p) = none) ∧
    (let s := { receiving 0 false with dev := { (inMode .held).dev with heldReason := 3 } }
     linkTakes s 63 = true ∧ schedules s = false) := by
  have hf : ∀ t ∈ [1, 4, 5], atSlot5 t < 2 ^ 96 := by decide
  have hb : ∀ t ∈ [1, 4, 5], bits (atSlot5 t) 92 4 = t ∧ bits (atSlot5 t) 40 8 = 0 := by decide
  refine ⟨by decide, fun t ht => ⟨cellOk_mkCell (hf t ht) p, ?_, (broken_cell (hf t ht) p).1, ?_, ?_⟩, by decide, by decide, by decide,
    by decide, by decide, fun cls hc t ht => match_entry cls (by simpa using hc) t (by simpa using ht) p, by decide, by decide,
    by decide, ⟨by decide, ?_⟩, by decide⟩
  · rw [cellType_mkCell (hf t ht), (hb t ht).1]
  · rw [(broken_cell (hf t ht) p).2, (hb t ht).1]
  · rw [cellEpoch_mkCell (hf t ht), (hb t ht).2]
  · unfold matchEntry
    split <;> rfl

/-- A HALT's header fields: an epoch, restart point 7. -/
def haltFields (epoch : Nat) : Nat := 2 * 2 ^ 92 + epoch * 2 ^ 80 + 2 ^ 76 + 7 * 2 ^ 56

/-- A control cell's header fields. -/
def ctlFields (code seq : Nat) : Nat := 3 * 2 ^ 92 + code * 2 ^ 80 + seq * 2 ^ 64

/-- The payload of a LINK_DOWN for the peer's link 54, this device's 62, from frame 9. -/
def downPayload : Bytes := [54, 0, 0, 0] ++ natBe 8 9 ++ zeros 244

/-- Links 62 and 63 are up. -/
def twoLinks (m : Mode) (grid : Bool) : State :=
  { inMode m with
    links := [(62, { state := 3, width := 4, data := true }), (63, { state := 3, width := 4, data := true })]
    seq := { State.reset.seq with grid := grid } }

theorem witness_HaltAndLinkCells (p : Bytes) :
    (∀ m ∈ [Mode.idle, .running, .held], ∀ g, linkTakes (twoLinks m g) 63 = true ∧ swf {} (twoLinks m g).links = true ∧
      swf 0xFF (twoLinks m g).fabric.downTables = true) ∧
    (∀ e ∈ [0, 1, 2], cellOk (mkCell (haltFields e) p) = true ∧ cellType (mkCell (haltFields e) p) = 2 ∧
      hdrF (mkCell (haltFields e) p) 112 8 = e) ∧ (twoLinks .running true).fabric.epoch = 0 ∧
    alreadySent (twoLinks .running true) 7 = false ∧
    (let s := { twoLinks .running true with fabric := { State.reset.fabric with haltSent := some 7 } }
     linkTakes s 63 = true ∧ alreadySent s 7 = true) ∧
    (∀ c ∈ [5, 6], cellOk (mkCell (ctlFields c 1) p) = true ∧ cellType (mkCell (ctlFields c 1) p) = 3 ∧
      ctlCode (mkCell (ctlFields c 1) p) = c) ∧
    (peerLinkOf (beAt downPayload 0 1) = 62 ∧ dirOf 62 = dirOf 63 ∧ isUp (twoLinks .idle false) 62 = true ∧
      (linkOf (twoLinks .idle false) 62).width = 4 ∧ ∀ g, directionDown (twoLinks .running g) 62 = false) ∧
    beAt [0] 0 1 ≠ peerLinkOf 63 ∧ beAt [55] 0 1 = peerLinkOf 63 := by
  have hf : ∀ e ∈ [0, 1, 2], haltFields e < 2 ^ 96 ∧ bits (haltFields e) 92 4 = 2 ∧ bits (haltFields e) 80 8 = e := by decide
  have hg : ∀ c ∈ [5, 6], ctlFields c 1 < 2 ^ 96 ∧ bits (ctlFields c 1) 92 4 = 3 ∧ bits (ctlFields c 1) 80 8 = c := by decide
  refine ⟨by decide, fun e he => ⟨cellOk_mkCell (hf e he).1 p, ?_, ?_⟩, by decide, by decide, by decide, fun c hc =>
    ⟨cellOk_mkCell (hg c hc).1 p, ?_, ?_⟩, by decide, by decide, by decide⟩
  · rw [cellType_mkCell (hf e he).1, (hf e he).2.1]
  · rw [hdrF_mkCell (hf e he).1 p 112 8 (by decide), (hf e he).2.2]
  · rw [cellType_mkCell (hg c hc).1, (hg c hc).2.1]
  · rw [ctlCode_mkCell (hg c hc).1, (hg c hc).2.2]

theorem witness_ControlCellsAreFloodedOnce (p : Bytes) :
    (∀ c ∈ [2, 3, 4], NewControl (twoLinks .running true) 63 c (mkCell (ctlFields c 1) p)) ∧
    swf {} (twoLinks .running true).links = true ∧
    (let s := { twoLinks .running true with fabric := { State.reset.fabric with seqHigh := some 1, seqSeen := [1] } }
     linkTakes s 63 = true ∧ isNewSeq s.fabric (ctlSeq (mkCell (ctlFields 2 1) p)) = false) ∧
    (let s := { twoLinks .running true with time := { State.reset.time with master := true } }
     linkTakes s 63 = true ∧ s.time.master = true) ∧
    (∀ f ∈ [0, 1], beAt ([8, 0, 0, 0] ++ natBe 8 f) 4 8 = f ∧ (twoLinks .running false).seq.grid = false ∧
      (twoLinks .running true).seq.grid = true ∧ (twoLinks .running true).seq.frame = 0) ∧
    (twoLinks .running true).fabric.haltHeld = [] ∧ takesPart (twoLinks .running true) = true ∧
    takesPart (twoLinks .loaded true) = false ∧ (twoLinks .loaded true).dev.armPending = false ∧
    (linkTakes (twoLinks .running true) 63 = true ∧ cellType (mkCell (ctlFields 1 0) p) = 3 ∧
      ctlCode (mkCell (ctlFields 1 0) p) = 1 ∧ cellOk (mkCell (ctlFields 1 0) p) = true ∧
      swf none (twoLinks .running true).rate.children = true) := by
  have hg : ∀ c ∈ [2, 3, 4], ctlFields c 1 < 2 ^ 96 ∧ bits (ctlFields c 1) 92 4 = 3 ∧ bits (ctlFields c 1) 80 8 = c ∧
    bits (ctlFields c 1) 64 16 = 1 := by decide
  have h1 : ctlFields 1 0 < 2 ^ 96 := by decide
  refine ⟨fun c hc => ⟨by decide, ?_, ?_, cellOk_mkCell (hg c hc).1 p, rfl, rfl⟩, by decide, ⟨by decide, ?_⟩, by decide, by decide,
    by decide, by decide, by decide, by decide, by decide, ?_, ?_, cellOk_mkCell h1 p, by decide⟩
  · rw [cellType_mkCell (hg c hc).1, (hg c hc).2.1]
  · rw [ctlCode_mkCell (hg c hc).1, (hg c hc).2.2.1]
  · rw [ctlSeq_mkCell (hg 2 (by decide)).1, (hg 2 (by decide)).2.2.2]
    decide
  · rw [cellType_mkCell h1]
    decide
  · rw [ctlCode_mkCell h1]
    decide

/-- The payload of a commit cell of step 0, chunk 1, COUNT 3. -/
def commitPayload (step : Nat) : Bytes := natBe 8 step ++ natBe 4 1 ++ natBe 4 3 ++ zeros 240

/-- The running device of an image of two chunks. -/
def updating : State :=
  { twoLinks .running true with
    image := { State.reset.image with loaded := some { plan := [⟨6, 0, 0⟩, ⟨6, 0, 0⟩] } } }

theorem witness_CommitRoundCells :
    linkTakes updating 63 = true ∧ updating.fabric.relaying = false ∧ swf {} updating.links = true ∧
    cellType (mkCell (atSlot5 1) (commitPayload 0)) = 1 ∧ takesCommit updating (mkCell (atSlot5 1) (commitPayload 0)) = true ∧
    takesCommit updating (mkCell (atSlot5 1) (commitPayload 1)) = false ∧
    commitFields (mkCell (atSlot5 1) (commitPayload 0)) = (0, 1, 3) ∧ swf 0 updating.upd.childCount = true ∧
    swf .free updating.upd.states = true ∧ swf {} updating.upd.pending = true ∧ swf {} updating.tele.vec = true ∧
    sget .free updating.upd.states 1 ≠ .committed ∧
    (let s := { updating with upd := { updating.upd with states := [(1, .committed)] } }
     linkTakes s 63 = true ∧ swf .free s.upd.states = true ∧ sget .free s.upd.states 1 = .committed) := by
  have hf : atSlot5 1 < 2 ^ 96 := by decide
  have hn : ∀ n, commitFields (mkCell (atSlot5 1) (commitPayload n)) =
      (beAt (commitPayload n) 0 8, beAt (commitPayload n) 8 4, beAt (commitPayload n) 12 4) := fun _ => rfl
  refine ⟨by decide, by decide, by decide, ?_, ?_, ?_, ?_, by decide, by decide, by decide, by decide, by decide, by decide⟩
  · rw [cellType_mkCell hf]
    decide
  · unfold takesCommit
    rw [cellOk_mkCell hf, cellEpoch_mkCell hf, hn]
    decide
  · unfold takesCommit
    rw [cellOk_mkCell hf, cellEpoch_mkCell hf, hn]
    decide
  · rw [hn]
    decide

/-- A running device on the frame grid, in the second slot of a schedule of two segments, the first two frames long. -/
def onGrid (slot segFrame : Nat) : State :=
  { twoLinks .running true with
    seq := { State.reset.seq with
      grid := true, slot := slot, segFrame := segFrame, step := 1, segs := [⟨0, 2, 0, 0, 0, 2, 0, 0, 0⟩, ⟨1, 5, 0, 0, 0, 1, 0, 0, 0⟩] } }

/-- A halt at a restart point. -/
def aHalt : Halt := ⟨7, 7, 0x0201, false⟩

theorem witness_BoundariesAdvanceTheGrid :
    (inMode .running).seq.grid = false ∧
    (∀ n ∈ [0, 4094, 4095], let s := onGrid n 0
      s.seq.grid = true ∧ stopIsDue s = false ∧ s.seq.replay = none ∧ s.seq.slot = n ∧ s.dev.mode = .running) ∧
    (let s := { onGrid 4095 0 with rate := { State.reset.rate with announced := some (8, 1) } }
     stopIsDue s = false ∧ s.rate.announced = some (8, s.seq.frame + 1)) ∧
    (schedules (onGrid 4095 0) = true ∧ (onGrid 4095 0).seq.segFrame + 1 < (currentSeg (onGrid 4095 0)).frames) ∧
    ((currentSeg (onGrid 4095 1)).frames ≤ (onGrid 4095 1).seq.segFrame + 1 ∧
      (onGrid 4095 1).seq.segs[(onGrid 4095 1).seq.pos + 1]? = some ⟨1, 5, 0, 0, 0, 1, 0, 0, 0⟩) ∧
    (let s := { onGrid 9 0 with seq := { (onGrid 9 0).seq with stopped := true } }
     stopIsDue s = false ∧ schedules s = false) ∧
    (∀ due, let s := { onGrid 9 0 with seq := { (onGrid 9 0).seq with halt := some aHalt, stopDue := due } }
      s.seq.grid = true ∧ s.seq.slot < 4095 ∧ s.dev.mode = .running ∧ s.seq.halt.isSome = true ∧ s.seq.stopped = false ∧
        s.seq.stopDue = due ∧ s.seq.bankDue = none ∧ s.train.stepReplays.toNat < s.train.replayLimit.toNat) ∧
    (let s := { onGrid 9 0 with seq := { (onGrid 9 0).seq with bankDue := some 4 } }
     s.seq.grid = true ∧ s.dev.mode = .running ∧ s.seq.bankDue = some 4) ∧
    (∀ m ∈ [Mode.armed, .loaded], let s := { inMode m with
        time := { State.reset.time with startKnown := true, startTime := 1000192 }
        image := { State.reset.image with loaded := some {} } }
      s.time.startKnown = true ∧ s.image.loaded.isSome = true ∧ s.dev.activity ≠ 4 ∧ s.dev.mode = m ∧ s.seq.halt = none ∧
        s.seq.stopDue = false ∧ s.seq.bankDue = none) ∧
    State.reset.time.startKnown = false := by decide

/-- A class C force that is due, on the grid or not. -/
def forced (grid mask : Bool) (code unit : Nat) : State :=
  { twoLinks .running grid with
    faults := { State.reset.faults with sources := [(code, { mask := mask, force := some (0, BitVec.ofNat 12 unit) })] } }

/-- What link 63 waits for at slot 9 of the frame grid, or at 4064. -/
def awaiting (slot : Nat) (w m : List (Nat × Nat)) : State :=
  { onGrid slot 0 with links := [(63, { state := 3, awaited := w, missing := m })] }

theorem witness_MissesPositionsAndForces_units :
    (∀ m ∈ [MissUnit.hearth 1151, .flue 1151], ∃ o, (m, o, false) ∈ missUnits (onGrid 9 0)) ∧
    (∀ b, ∃ o, (MissUnit.spine b, o, true) ∈ missUnits (onGrid 9 0)) ∧
    (∀ x ∈ [(9, [(9, 3)], [(5, 3)], false), (9, [(5, 3)], [], true), (4063, [], [(5, 3)], false), (4064, [], [(5, 3)], true)],
      let s := awaiting x.1 x.2.1 x.2.2.1
      schedules s = true ∧ swf {} s.links = true ∧
        ((linkOf s 63).awaited.any (fun y => decide (y.1 < s.seq.slot)) ||
          (decide (4064 ≤ s.seq.slot) && !(linkOf s 63).missing.isEmpty)) = x.2.2.2) ∧
    (linkTakes (onGrid 9 0) 63 = true ∧ 7 * (onGrid 9 0).time.now < 32 * (0 + 1) ∧ (∀ x ∈ (linkOf (onGrid 9 0) 63).sent, x.1 ≠ 0)) := by
  refine ⟨fun m hm => ?_, fun b => ⟨_, List.mem_append_right _ (List.mem_map.mpr ⟨b, List.mem_finRange b, rfl⟩)⟩, by decide, by decide⟩
  rcases List.mem_cons.mp hm with rfl | hm
  · exact ⟨_, List.mem_append_left _ (List.mem_append_left _ (List.mem_map.mpr ⟨1151, List.mem_finRange _, rfl⟩))⟩
  · obtain rfl := List.mem_singleton.mp hm
    exact ⟨_, List.mem_append_left _ (List.mem_append_right _ (List.mem_map.mpr ⟨1151, List.mem_finRange _, rfl⟩))⟩

theorem witness_MissesPositionsAndForces (p : Bytes) :
    schedules (inMode .idle) = false ∧ schedules (onGrid 9 0) = true ∧ swf {} (onGrid 9 0).links = true ∧
    linkTakes (inMode .idle) 63 = false ∧ linkTakes (onGrid 9 0) 63 = true ∧ announceReady (onGrid 9 0) = false ∧
    (let s := { onGrid 9 0 with links := [(63, { state := 3, pendHalt := [mkCell (haltFields 0) p] })] }
     linkTakes s 63 = true ∧ announceReady s = false ∧ swf {} s.links = true ∧
       (linkOf s 63).pendHalt = [mkCell (haltFields 0) p]) ∧
    (let s := { onGrid 9 0 with links := [(63, { state := 3, pendControl := [mkCell (ctlFields 2 1) p] })] }
     linkTakes s 63 = true ∧ announceReady s = false ∧ swf {} s.links = true ∧ (linkOf s 63).pendHalt = [] ∧
       (linkOf s 63).pendControl = [mkCell (ctlFields 2 1) p]) ∧
    ((linkOf (onGrid 9 0) 63).pendHalt = [] ∧ (linkOf (onGrid 9 0) 63).pendControl = [] ∧
      (onGrid 9 0).rate.requestDue = false) ∧
    (let s := { onGrid 9 0 with
       rate := { State.reset.rate with requestDue := true }, time := { State.reset.time with parent := some 63 } }
     linkTakes s 63 = true ∧ announceReady s = false ∧ s.rate.requestDue = true ∧ s.time.parent = some 63) ∧
    (onGrid 9 0).faults.sources.find? (forceDue (onGrid 9 0)) = none := by
  refine ⟨by decide, by decide, by decide, by decide, by decide, by decide, ⟨rfl, rfl, rfl, rfl⟩,
    ⟨rfl, rfl, rfl, rfl, rfl⟩, by decide, by decide, rfl⟩

theorem witness_MissesPositionsAndForces_forced :
    ∀ g mask, ∀ c ∈ [(0x0102, 1151), (0x0401, 0x23F)], let s := forced g mask c.1 c.2
      s.dev.mode ≠ .off ∧ s.dev.mode ≠ .boot ∧ swf {} s.faults.sources = true ∧ s.seq.grid = g ∧
        (s.faults.sources.find? (forceDue s)).any (fun x => x.1 == c.1 && x.2.mask == mask &&
          ((sourceInfo c.1).any fun i => i.cls == 1 && reactionOf s i == 0 &&
            x.2.force.any (fun f => (forceOcc i f.2.toNat).isSome))) = true := by decide

/-- The running device in a segment of a kind, with a largest norm. -/
def inKind (kind : Nat) (maxNorm : BitVec 32) : State :=
  { onGrid 9 0 with
    seq := { (onGrid 9 0).seq with segs := [⟨0, kind, 0, 0, 0, 2, 0, 0, 0⟩] }
    train := { State.reset.train with maxNorm := maxNorm } }

/-- The report of a norm slot in which all devices agree. -/
def agreeing : NormReport := ⟨setsCrc [], false, 0, false⟩

/-- Totals of a statistics slot with hold flags. -/
def someTotals (flags thresholds : Nat) : Totals :=
  ⟨0, BitVec.ofNat 64 flags, [], [], [], BitVec.ofNat 32 thresholds, 0, 0, []⟩

/-- The norm slot of a device that is its whole fabric, with one trained tensor of 1 by 32 whose root node of squares is 1. -/
def soleDevice : State :=
  let s := withRegion (inKind 5 0) (nearRegion 2)
  { s with
    image := { s.image with loaded := some { imageOf s with
      torus := 0x01010101, tensors := [default, { (default : Tensor) with normIndex := 0 }] } }
    mem := { s.mem with dram := mwrite [] (placeKey s.mem (locate s (nearRegion 2) 0)) (natLe 16 (2 ^ 64 * 32 + 2 ^ 32)) }
    train := { s.train with nodes := [⟨1, 1, 5, 0, 0x3FF000000000, none⟩] } }

theorem witness_NormAndStatisticsSlots_whole :
    schedules soleDevice = true ∧ currentKind soleDevice = 5 ∧ isWholeFabric soleDevice = true ∧
    ownNorm soleDevice = some 0x3FF000000000 ∧ isWholeFabric (inKind 5 0) = false ∧
    totalsNow none (slotPassed (inKind 7 0)) = none ∧ (totalsNow (some (someTotals 0 0)) (slotPassed (inKind 7 0))).isSome = true := by
  decide +kernel

theorem witness_NormAndStatisticsSlots :
    (schedules (inMode .running) = true ∧ currentKind (inMode .running) ≠ 5) ∧ schedules (inMode .idle) = false ∧
    (schedules (inKind 5 0x7F800000) = true ∧ currentKind (inKind 5 0x7F800000) = 5 ∧
      (inKind 5 0x7F800000).rng.stepSeed = agreeing.masterSeed ∧ agreeing.othersSeedDiffer = false) ∧
    setsDiffer (inKind 5 0x7F800000) agreeing = false ∧ setsDiffer (inKind 5 0) { agreeing with othersDiffer := true } = true ∧
    (isBroken 0 = false ∧ sqrtW48 0 ≠ 0x7FC00000 ∧ sqrtW48 0 ≠ 0x7F800000 ∧
      vle (ofF32 (sqrtW48 0).toNat) (ofF32 0x7F800000) = true) ∧
    (let q := BitVec.ofNat 48 (encodeF w48 (ofF32 0x3F800000))
     isBroken q = false ∧ sqrtW48 q = 0x3F800000 ∧ vle (ofF32 (sqrtW48 q).toNat) (ofF32 0x3F000000) = false) ∧
    isBroken (BitVec.ofNat 48 (encodeF w48 (ofF32 0x7FC00000))) = true ∧
    ((onGrid 9 0).dev.mode = .running ∧ (onGrid 9 0).seq.step ≠ 0 ∧ mgmtRuns (onGrid 9 0) = true) ∧
    (inMode .running).seq.step = 0 ∧
    (let s := { inKind 7 0 with image := { State.reset.image with loaded := some { layers := [⟨2, 0, 1⟩] } } }
     schedules s = true ∧ currentKind s = 7 ∧ s.seq.segFrame = 0 ∧ s.tele.decision = none ∧
       (imageOf s).layers[0]? = some ⟨2, 0, 1⟩) ∧
    (∀ t ∈ [0, 0x8A041000], ∀ f ∈ [0, 1, 2, 3], (someTotals f t).masterNextSeed = (inKind 7 0).rng.nextSeed) := by
  refine ⟨by decide, by decide, by decide, ?_, by decide, by decide +kernel, by decide +kernel, by decide +kernel, by decide, by decide,
    by decide, by decide⟩
  simp only [setsDiffer, agreeing, bne_eq_false_iff_eq, Bool.false_or]
  rfl

/-- An op of hearth 1151 with streams from unit 0, 1024, 2048, 4096 and 8192, element formats, and a parameter record of
count elements in rows of len, with further parameter bits. -/
def opOf (code fin fout count len dst0 more : Nat) : OpCmd :=
  { hearth := 1151
    op := BitVec.ofNat 256 (code <<< 248 + 2 ^ 200 + 2 ^ 160 + 1024 * 2 ^ 128 + 2048 * 2 ^ 112 + dst0 * 2 ^ 96 + 8192 * 2 ^ 80
      + fin * 2 ^ 60 + fout * 2 ^ 56)
    par := BitVec.ofNat 512 (count <<< 480 + len <<< 448 + more) }

/-- The bits of MASK_MODE 1 and a mask plane at unit 12288. -/
def masked : Nat := 2 ^ 140 + 12288 * 2 ^ 99

/-- The bits of the fields that a vector op uses by itself: an exponent, a draw of the op's class and its table, a keep
threshold. -/
def ownBits (k : Nat) : Nat :=
  if k = 0x1B then 3 <<< 320
  else if k = 0x2B then 1 <<< 252 + 0x3F800000 <<< 256 + 0x8000 <<< 180
  else if k = 0x2C then 3 <<< 252
  else if k = 0x2D then 3 <<< 252 + 16384 <<< 67
  else 0

/-- The idle device with the hearths 0 and 1151 mapped. -/
def mapped (s : State) : State := { s with hearths := [(0, { logical := 0 }), (1151, { logical := 1 })] }

/-- The idle device of most ops. -/
def idleMapped : State := mapped (inMode .idle)

theorem idle_ops : OpReady idleMapped := by unfold OpReady; decide

/-- Eight elements that end at the last byte of the scratchpad, with a mask and a statistics record. -/
theorem witness_VectorOpsApplyTheirFunction :
    OpReady idleMapped ∧
    ∀ p ∈ vectorOps.map (fun p => (p.2.1, p.2.2.1)), ∀ f ∈ [5, 6], ∀ z ∈ [0, 1],
      let c := opOf p.1 f 6 8 8 65535 (masked + ownBits p.1 + z * 2 ^ 139 + 2 ^ 149)
      opSkipped idleMapped p.1 c = false ∧ vecFits c p.2 = true ∧ spadFits (pMaskPlane c) ((pCount c + 7) / 8) = true ∧
        spadFits (pAux c) (4 * 4097) = true ∧ c.hearth.val = 1151 ∧ pStatEn c = true ∧ pMaskZero c = (z == 1) :=
  ⟨idle_ops, by decide +kernel⟩

theorem witness_VectorOpsOfTheirOwnForm :
    OpReady idleMapped ∧ ∀ f ∈ [5, 6],
      (let c := opOf 0x1C f 6 8 8 4096 (masked + 2 <<< 320)
       opSkipped idleMapped 0x1C c = false ∧ vecInFits c 2 = true ∧ spadFits (opDst0 c) ((pCount c + 7) / 8) = true) ∧
      (let c := opOf 0x2E f 6 8 8 4096 (masked + 5 <<< 252)
       opSkipped idleMapped 0x2E c = false ∧ vecInFits c 0 = true ∧ spadFits (opDst0 c) (4 * pCount c) = true) ∧
      (let c := opOf 0x2F f 6 8 8 4096 masked
       opSkipped idleMapped 0x2F c = false ∧ spadFits (opSrc0 c) (4 * pCount c) = true ∧ spadFits (opSrc1 c) (4 * pCount c) = true ∧
        spadFits (opSrc2 c) (2 * pCount c) = true ∧ maskFits c = true ∧ spadFits (opDst0 c) (4 * pCount c) = true ∧
        spadFits (opDst1 c) (2 * pCount c) = true ∧
        ∀ e < pCount c, Apart (spadKey 1151 (opDst0 c) + 4 * e) 4 [(spadKey 1151 (opDst1 c), 2 * pCount c)]) := by
  refine ⟨idle_ops, ?_⟩
  unfold Apart
  decide +kernel

/-- A MATMUL record: 16 by 16 results in a format, one K block, streams at units 0, 4096 and 8192. -/
def matmulOf (fmt : Nat) : OpCmd :=
  ⟨0, BitVec.ofNat 256 (1 <<< 248 + 2 ^ 200 + 4096 * 2 ^ 128 + 8192 * 2 ^ 112 + fmt * 2 ^ 68 + 2 ^ 58 + 2 ^ 52 + 2 ^ 8), 0⟩

/-- A loaded image whose TAGS region holds the tag of an F4 tensor of 1 by 32, row blocked and packed. -/
def tagged : State :=
  let s := mapped (withRegion (inMode .held) (nearRegion 2))
  { s with mem := { s.mem with
    dram := mwrite [] (placeKey s.mem (locate s (nearRegion 2) 0)) (natLe 16 (0x3F800000 + 2 ^ 64 * 32 + 2 ^ 32 * 1 + 2 ^ 100 + 2 ^ 102)) } }

/-- A CONVERT of 32 FP32 elements in one row to F4. -/
def convertOf (more : Nat) : OpCmd := opOf 0x08 6 0 32 32 4096 more

theorem witness_MatmulConvertSoftmaxAndSample :
    OpReady tagged ∧ OpReady idleMapped ∧ swf {} tagged.tele.conv = true ∧
    (∀ s ∈ [idleMapped, tagged], ∀ f ∈ [5, 6, 7], opSkipped s 0x01 (matmulOf f) = false ∧ matmulFits s (matmulOf f) = true) ∧
    (opSkipped idleMapped 0x08 (convertOf (2 ^ 131)) = false ∧ pDiscard (convertOf (2 ^ 131)) = true) ∧
    (opSkipped idleMapped 0x08 (convertOf 0) = false ∧ pDiscard (convertOf 0) = false ∧
      tagAgrees (tagOf idleMapped (opTensor (convertOf 0))) (pTarget (convertOf 0)) false = false) ∧
    (let c := convertOf 0
     opSkipped tagged 0x08 c = false ∧ pDiscard c = false ∧ tagAgrees (tagOf tagged (opTensor c)) (pTarget c) false = true ∧
       convertFits tagged c = true) ∧
    (∀ f ∈ [5, 6], let c := opOf 0x30 f f 8 8 4096 (masked + 14000 * 2 ^ 83 + 2 ^ 139 + 2 ^ 128)
      opSkipped idleMapped 0x30 c = false ∧ softmaxFits c = true ∧ pLse c = true ∧ isSplit c = false ∧
        pColBase c = 0 ∧ ∀ e < pCount c, Apart (spadKey 1151 (opDst0 c) + fmtBytes f * e) (fmtBytes f)
          ([(spadKey 1151 (opDst1 c), 4 * shareRowCount c)] ++ [(spadKey 1151 (pFlagPlane c), flagBytes (shareRowCount c))])) ∧
    (∀ b ∈ [0, 8], let c := opOf 0x31 6 6 8 16 4096 (8 <<< 35 + b <<< 384 + 4 <<< 252 + 2 ^ 139 + 2 ^ 128 + 4 * 2 ^ 142 + 0x3F800000 <<< 320 +
        0x3F800000 <<< 288 + 14000 * 2 ^ 83)
     opSkipped idleMapped 0x31 c = false ∧ sampleFits c = true ∧ pLse c = true ∧ pColBase c = b ∧ isSplit c = true) := by
  refine ⟨by unfold OpReady; decide, idle_ops, ?_⟩
  unfold Apart
  decide +kernel

/-- A record of an update op of an opcode: one tile of 1,024 elements at unit 0, an F8G gradient at unit 1024, tensor 1. -/
def updateOf (code : Nat) : OpCmd :=
  let c := opOf code 2 6 1024 1024 0 0
  { c with op := c.op ||| BitVec.ofNat 256 (2 ^ 64) }

/-- The idle device with an image whose tensor 1 has n state slots. -/
def slotted (n : Nat) : State :=
  mapped { inMode .idle with image := { State.reset.image with loaded := some { tensors := [default, { (default : Tensor) with stateSlots := n }] } } }

theorem witness_GuardKeepsAnElement :
    ∀ p ∈ [(0x32, 1), (0x33, 2), (0x34, 1)], let s := slotted p.2
      opSkipped s p.1 (updateOf p.1) = false ∧ updFits s (updateOf p.1) = true ∧ tileSlots s (updateOf p.1) = p.2 ∧
      (updFrozen s (updateOf p.1)).flags.getLsbD 3 = false ∧ memWf s.mem.spad = true ∧
      swf {} s.mem.stackTable = true ∧ 1023 < pCount (updateOf p.1) := by
  decide +kernel

theorem witness_BellowsReduceRows :
    OpReady idleMapped ∧
    (∀ p ∈ bellowsOps.map (fun p => (p.2.1, p.2.2.1)), ∀ f ∈ [5, 6],
      let c := opOf p.1 f 6 8 4 4096 (if p.1 = 0x47 then 4 * 2 ^ 142 else 0)
      opSkipped idleMapped p.1 c = false ∧ (bellowsSrc idleMapped c).1 = f ∧ tapDiscarded idleMapped c = false ∧
        bellowsInFits idleMapped c = true ∧ spadFits (opDst0 c) (p.2 c * shareRowCount c) = true ∧
        shareRowCount c = 2) ∧
    (∀ k ∈ [0x44, 0x45, 0x46], ∀ f ∈ [5, 6, 7], ∀ o ∈ [6, 7], let c := opOf k f o 8 4 4096 0
      opSkipped idleMapped k c = false ∧ (bellowsSrc idleMapped c).1 = f ∧ tapDiscarded idleMapped c = false ∧
        bellowsInFits idleMapped c = true ∧ spadFits (sumDst c) (fmtBytes o * shareRowCount c) = true ∧ pColBase c = 0 ∧
        spadFits (opDst0 c) (fmtBytes o * pCount c) = true ∧ spadFits (opDst1 c) (8 * shareRowCount c) = true ∧
        ∀ e < pCount c, Apart (spadKey 1151 (opDst0 c) + fmtBytes o * e) (fmtBytes o)
          [(spadKey 1151 (opDst1 c), 8 * shareRowCount c)]) ∧
    (let c := opOf 0x46 6 7 8 8 4096 (4 <<< 384 + 4 <<< 35)
     opSkipped idleMapped 0x46 c = false ∧ pColBase c ≠ 0 ∧ spadFits (opSrc1 c) (8 * shareRowCount c) = true) ∧
    (let c := { opOf 0x48 7 7 8 4 4096 masked with op := (opOf 0x48 7 7 8 4 4096 masked).op ||| BitVec.ofNat 256 (2 ^ 49) }
     opSkipped idleMapped 0x48 c = false ∧ spadFits (opSrc0 c) (8 * pCount c) = true ∧ spadFits (opSrc1 c) (8 * pCount c) = true ∧
       maskFits c = true ∧ spadFits (opDst1 c) (8 * pCount c) = true) ∧
    (let c := opOf 0x49 6 6 8 4 4096 (4 * 2 ^ 142)
     opSkipped idleMapped 0x49 c = false ∧ spadFits (opSrc0 c) (8 * pTopK c * shareRowCount c) = true ∧
       spadFits (opSrc1 c) (8 * pTopK c * shareRowCount c) = true ∧
       spadFits (opDst0 c) (8 * pTopK c * shareRowCount c) = true) := by
  refine ⟨idle_ops, ?_⟩
  unfold Apart
  decide +kernel

/-- A flue entry of a KIND: n units of 64 bytes between a region or buffer 0 and the scratchpad from unit a, with a
read hint. -/
def flueOf (kind n a hint offset : Nat) : BitVec 256 :=
  BitVec.ofNat 256 (kind * 2 ^ 204 + 2 ^ 208 + hint * 2 ^ 201 + offset * 2 ^ 136 + a * 2 ^ 120 + n * 2 ^ 85)

/-- The running device in a segment of a kind, with one region and the undo ring, its stash at 0 for 4,096 bytes. -/
def moving (r : Region) (kind : Nat) : State :=
  let s := inKind kind 0
  { s with
    seq := { s.seq with segs := [⟨0, kind, 0, 0, 0, 2, 0, 4096, 0⟩] }
    image := { State.reset.image with loaded := some {
      regions := [r, ⟨4, 1, true, 0, 0, 0, 0, 1048576⟩], nearMap := { localBursts := 100 }, farMap := { localBursts := 2000000 } } }
    hearths := [(0, { logical := 2 }), (5, { logical := 0 }), (1151, { logical := 1 })] }

theorem witness_TransfersMoveTheirBytes :
    (∀ h ∈ [0, 1151], let s := moving (nearRegion 8) 2
      (∀ k ∈ [1, 2, 7], flSkipped s h (flueOf k 32 0 0 0) = false) ∧
      (∀ k ∈ [3, 4, 5], ∀ a ∈ [0, 65534], flSkipped s h (flueOf k 1 a 0 0) = false) ∧ memWf s.mem.spad = true ∧ memWf s.fabric.buffers = true ∧ memWf s.mem.cacheTier = true) ∧
    (∀ k ∈ [1, 2, 3, 4, 5, 7], ∀ a ∈ [0, 65534], let e := flueOf k 1 a 0 0
      flKind e = k ∧ spadFits (flSpad e) (flBytes e) = true) ∧ spadFits 65535 64 = false ∧
    physicalOf (moving (nearRegion 8) 2) (flPeer (flueOf 3 1 0 0 0)) = some 5 ∧
    (let s := moving (nearRegion 8) 2
     let e := flueOf 1 32 0 0 6144
     flTarget s e = some (0, nearRegion 8) ∧ flValid s (nearRegion 8) e = true ∧ flTranspose e = false ∧
       s.mem.lines = [] ∧ s.mem.lastWritten = [] ∧ regionPoison s (nearRegion 8) (flPlace s (nearRegion 8) e) (flBytes e) = []) ∧
    (let s := moving (nearRegion 7) 2
     flTarget s (flueOf 2 32 0 0 0) = some (0, nearRegion 7) ∧ flSkipped s 0 (flueOf 2 32 0 0 0) = false ∧ (nearRegion 7).role = 7) ∧
    (let s := moving (nearRegion 3) 2
     flTarget s (flueOf 2 32 0 0 0) = some (0, nearRegion 3) ∧ flSkipped s 0 (flueOf 2 32 0 0 4096) = false ∧ (nearRegion 3).role = 3 ∧
       stashFits s (nearRegion 3) (flueOf 2 32 0 0 2048) = true ∧ flValid s (nearRegion 3) (flueOf 2 32 0 0 2048) = true ∧
       stashFits s (nearRegion 3) (flueOf 2 32 0 0 4096) = false) ∧
    (∀ h ∈ [0, 2], let s := moving (nearRegion 8) 2
      flHint (flueOf 2 32 0 h 0) = h ∧ flTarget s (flueOf 2 32 0 h 0) = some (0, nearRegion 8) ∧ (nearRegion 8).role ≠ 7 ∧ flValid s (nearRegion 8) (flueOf 2 32 0 h 0) = true ∧
        (nearRegion 8).tier ≠ 2) ∧
    (let s := moving (nearRegion 8) 6
     currentKind s = 6 ∧ flSkipped s 0 (flueOf 7 32 0 0 0) = false ∧ regionNo s 0 = some (nearRegion 8) ∧ roleRegion s 4 = some ⟨4, 1, true, 0, 0, 0, 0, 1048576⟩ ∧
       flValid s (nearRegion 8) (flueOf 7 32 0 0 0) = true ∧ ringUsed s (chunkOf s) + flBytes (flueOf 7 32 0 0 0) ≤ ringSlot) ∧
    (∀ a ∈ [1, 8], let r : Region := ⟨8, 2, false, 0, a, 0, 0, 4⟩
      let s := moving r 2
      let e := flueOf 6 2 0 0 64
      regionNo s (flRegion e) = some r ∧ flSkipped s 1151 e = false ∧ flKind e = 6 ∧ spadFits (flSpad e) (atomicSpan s e) = true ∧ r.tier = 2 ∧
        atomicBytes r.atomic ≠ 0 ∧ flOffset e + flBytes e ≤ regionBytes r) := by decide

/-- A spine entry of an OP over dies 0 and 1. -/
def spineOf (op : Nat) : BitVec 128 := BitVec.ofNat 128 (op * 2 ^ 92 + 3 * 2 ^ 80 + 2 ^ 64 + (if op = 2 then 2 ^ 43 else 0))

theorem witness_TransfersMoveTheirBytes_spine :
    scheduleStopped (inMode .running) = false ∧ memWf (inMode .running).fabric.buffers = true ∧ swf {} (inMode .running).hearths = true ∧
    ∀ op ∈ [0, 1, 2, 3, 4, 5], bits (spineOf op).toNat 92 4 = op ∧ bits (spineOf op).toNat 80 8 = 3 ∧
      (spineBreaks (spineOf op).toNat).any (·.1) = (op == 0 || op == 5) := by decide

theorem witness_OnlyScratchpadRangeStops :
    (∀ p ∈ dataOps.map (·.2), opSkipped State.reset p (opOf p 6 6 9 9 65535 0) = true) ∧
    flSkipped State.reset 1151 (flueOf 3 1 0 0 0) = true ∧
    (let s := mapped { State.reset with fence := { State.reset.fence with hearths := [1151] } }
     isFenced s 1151 = true ∧ isMapped s 1151 = true) ∧
    (∀ p ∈ vectorOps.map (fun p => (p.2.1, p.2.2.1)), let c := opOf p.1 6 6 9 9 65535 (ownBits p.1 + if p.1 = 0x1D then masked else 0)
      opSkipped idleMapped p.1 c = false ∧ vecFits c p.2 = false) ∧
    matmulFits idleMapped (matmulOf 6) = true ∧ convertFits tagged (convertOf 0) = true ∧
    softmaxFits (opOf 0x30 6 6 8 8 4096 0) = true ∧ sampleFits (opOf 0x31 6 6 8 8 4096 0) = true := by decide +kernel

theorem witness_BankedAndFaultedAreLeftByReset :
    ∀ m ∈ [Mode.banked, .faulted], Confined (inMode m) ∧ ∃ t, step (inMode m) = .next t := by
  intro m _
  exact ⟨⟨fun _ => rfl, fun _ => ⟨rfl, rfl⟩⟩, _, rfl⟩

theorem witness_SingleValueEntriesAnswerAtZeroOnly :
    isHeard State.reset owner = true ∧ mayWrite owner = true ∧ (1 : BitVec 8) ≠ 0 ∧ (0xFF : BitVec 8) ≠ 0 ∧
    State.reset.dev.mode = .standby ∧ State.reset.dev.activity = 0 ∧
    (∀ body : Bytes, body.length < 2 ^ 16 → InSession (serving .running []) 1 (msgOf 1 1 11 0 body) aSession) ∧
    isNew aSession 11 = true ∧
    (∀ i ∈ [0x2001, 0x3420, 0x3421, 0x3430, 0x3440, 0x5010], (natBe 2 i ++ natBe 1 255 ++ zeros 9).length < 2 ^ 16) ∧
    (∀ x ∈ [(0, 1), (0, 3072), (3071, 1)], 1 ≤ x.2 ∧ x.2 ≤ 3072 ∧ x.1 + x.2 ≤ 3072) :=
  ⟨by decide, by decide, by decide, by decide, by decide, by decide, fun b hb => inSession_msgOf .running [] (by decide) _ _ _ b
    (.inl rfl) hb, by decide, by decide, by decide⟩

theorem witness_WithdrawalAgainstTaken :
    ∀ m ∈ [0, 31], let s := mailed m { owner := 3, status := 1 }
      swf {} s.mail = true ∧ (3 : Nat) ≠ 0 ∧ (mailOf s m).owner = 3 ∧ (mailOf s m).status = 1 ∧ mailReceiver m < 64 := by decide

/-! Worked examples of the spec: the expected values stand in the section named. -/

/-- An F4 code, a zero, an outlier value, and a block of a list of elements with zeros after them. -/
def f4e (c : Nat) : Elem := elemOf (ofF4 c) vzero
/-- A block of elements with a scale, filled up with zeros. -/
def blockOf (x8 : Nat) (l : List Elem) : Block := ⟨x8, 0, l ++ List.replicate (32 - l.length) (f4e 0)⟩

/-- The blocks 0, 5 and 16 of 03, Table 3.7; element 515 of A is the outlier 8.0. -/
def table37 (n : Nat) : Block × Block :=
  if n = 0 then (blockOf 0x80 [f4e 7, f4e 3, f4e 10], blockOf 0x7C [f4e 5, f4e 2, f4e 1])
  else if n = 5 then (blockOf 0x08 [f4e 6, f4e 3, f4e 1], blockOf 0x7F [f4e 5, f4e 1, f4e 2])
  else if n = 16 then (blockOf 0x7F [f4e 7, f4e 7, f4e 13, elemOf (ofF8A 0x50) vzero], blockOf 0x7E [f4e 7, f4e 1, f4e 4, f4e 2])
  else (blockOf 127 [], blockOf 127 [])

/-- 03, Table 3.8 and the steps after it: the two groups, the root, P and the FP32 output. -/
theorem test_forward_product :
    encodeF w48 (groupResult false false ((List.range 16).map table37)) = 0x401300000000 ∧
    encodeF w48 (groupResult false false ((List.range 16).map (fun n => table37 (n + 16)))) = 0x403480000000 ∧
    encodeF w48 (nodeOf false false ((List.range 32).map (fun n => (table37 n).1)) ((List.range 32).map (fun n => (table37 n).2)))
      = 0x403940000000 ∧
    encodeF w48 (scaleProduct 0x3E800000 0x40000000 true) = 0x3F9000000000 ∧
    (outputStage 6 true false (scaleProduct 0x3E800000 0x40000000 true) (decodeF w48 0x403940000000)).code = 0x3ECA0000 := by
  decide +kernel

/-- 03, Table 3.9: subnormal gradients; FP32 and BF16 outputs with what they count. -/
theorem test_subnormal_product :
    let a := [0x01, 0x03, 0x81, 0x04].map (fun c => elemOf (ofF8G c) vzero)
    let b := [1, 7, 3, 9].map f4e
    encodeF w48 (nodeOf false false [blockOf 0x70 a] [blockOf 0x81 b]) = 0x3E5E00000000 ∧
    outputStage 6 true false (scaleProduct 0x21800000 0x20800000 false) (decodeF w48 0x3E5E00000000) = ⟨4, false, false⟩ ∧
    outputStage 5 true false (scaleProduct 0x21800000 0x20800000 false) (decodeF w48 0x3E5E00000000) = ⟨0, false, true⟩ := by
  decide +kernel

/-- 04, the rotated F4 conversion before Table 4.6: T32, X8 and the data bytes. -/
theorem test_rotated_conversion :
    let x := (ofB16 0x4000 :: ofB16 0x3F40 :: List.replicate 30 vzero).map (fun v => (⟨v, none, none, false⟩ : ConvIn))
    let u := rotatedUnit ⟨0, false, 0x3EAAAAAB⟩ 0x20 2 x
    t32Of (ofB16 0x4000) 6 = 0x3EAAAAAB ∧ u.x8 = 0x80 ∧ dataOf 0 (u.elems.map (·.hi)) = List.replicate 16 0x64 ∧
    outlierRecord u = 0 := by decide +kernel

/-- 04, Table 4.6: stochastic rounding to F8G. -/
theorem test_stochastic_rounding :
    ([(0x3F200000, 0), (0x3EE66666, 0xC000), (0x3EE66666, 0xD000), (0x2E800000, 0xC000), (0x2E800000, 0x1234)].map
      (fun z => (quantise (targetOf 2) (ofF32 0x37800000) 0x7F true (some z.2) (ofF32 z.1)).code))
      = [0x79, 0x77, 0x78, 0x01, 0x00] ∧ t32Of (ofF32 0x3F600000) 57344 = 0x37800000 := by decide +kernel

/-- 04, Table 4.7: the filings after steps 1 and 8. -/
theorem test_filings :
    csum 0x3E4CCCCD 0xB0800000 0 = (0x3E4CCCCD, 0xB080) ∧ csum 0x3E4CCCCD 0xB0800000 0xB080 = (0x3E4CCCCD, 0xB100) ∧
    csum 0x3E4CCCCD 0xB0800000 0xB1E0 = (0x3E4CCCCC, 0x3200) := by decide +kernel

/-- 05, the worked example after R93: the jump to a block and the two words of the lane. -/
theorem test_generator :
    stateAt 0xA000000000800000 4096 = 0x32DCA000003DB080 ∧ stateAt 0xA000000000800000 4112 = 0xF5D832DCA000003D ∧
    streamBits 0xA000000000800000 0 1 0 16 = 0xB080 ∧ streamBits 0xA000000000800000 0 1 16 16 = 0x003D := by decide +kernel

/-- 06, the masked attention row after R123: two infinities among the active elements. -/
theorem test_softmax_infinities :
    let row := ([(true, 0x3F800000), (true, 0xFF800000), (false, 0), (true, 0x7F800000), (true, 0x7F800000), (true, 0x3F800000),
      (false, 0xFFC00000), (false, 0)].zip (List.range 8)).map (fun z => (⟨z.1.1, z.1.2, z.2⟩ : RowElem))
    softRow row {} = ⟨.inf, [0, 0, 0, 0x3F000000, 0x3F000000, 0, 0, 0], 0x7F800000⟩ := by decide +kernel

/-- 06, the sampling example after R126: the third candidate in reach, by the draw 0xA0_0000. -/
theorem test_sampling_pick :
    let c := opOf 0x31 6 6 6 6 0 (0x3F400000 * 2 ^ 288 + 4 * 2 ^ 142)
    let row := ((List.range 6).map (fun i => (⟨true, 0, i⟩ : RowElem)))
    let cands := candidates c row [0x3D800000, 0x3EC00000, 0x3E800000, 0x3E000000, 0x3E000000, 0x3D800000] {}
    cands.map (·.idx) = [1, 2, 3, 4] ∧ fn .rcp 0x3F600000 = 0x3F924925 ∧ fmul 0x3EC00000 0x3F924925 = 0x3EDB6DB8 ∧
    (prefixSums vzero [0x3EDB6DB8, 0x3E924925, 0x3E124925]).map (encodeF w48) =
      [0x3FDB6DB70000, 0x3FE6DB6DD000, 0x3FEB6DB6F800] ∧
    pickOf c 0xA00000 cands = ⟨2, 0x3E924925⟩ := by decide +kernel

/-- The image of 08, Table 8.2: four layers with one FWD and one BWD segment each, then REDUCE, NORM, UPDATE and STATS. -/
def table82 : Image :=
  let v := fun seg cast => (List.range 3).flatMap (fun l => (List.range 2).map (fun r =>
    let st := if r = 0 then [67239936, 134348800, 268697600] else [22020096, 34603008, 69206016]
    let fr := if cast = 0 then [1, 2, 3] else if cast = 1 then [4, 6, 10] else if r = 0 then [8, 12, 20] else [12, 18, 30]
    (⟨seg, l, r, fr.getD l 0, if cast = 1 then st.getD l 0 else 0, 0⟩ : Variant)))
  { layers := List.replicate 4 ⟨2, 0, 0⟩
    plan := [⟨1, 0, 0⟩, ⟨1, 1, 0⟩, ⟨1, 2, 0⟩, ⟨1, 3, 0⟩, ⟨2, 0, 1⟩, ⟨2, 1, 1⟩, ⟨2, 2, 1⟩, ⟨2, 3, 1⟩, ⟨3, 3, 2⟩, ⟨3, 2, 2⟩, ⟨3, 1, 2⟩,
      ⟨3, 0, 2⟩, ⟨4, 0, 3⟩, ⟨5, 0, 4⟩, ⟨6, 0, 5⟩, ⟨7, 0, 6⟩]
    variants := v 0 0 ++ v 1 1 ++ v 2 2 ++ [⟨3, 0, 0, 6, 0, 0⟩, ⟨4, 0, 0, 1, 0, 0⟩, ⟨5, 0, 0, 12, 0, 0⟩, ⟨6, 0, 0, 2, 0, 0⟩]
    stashBudget := 470286336
    statMap := (List.range 4).map (fun l => ⟨l, l, 3, false⟩) }

/-- 08, Table 8.3: the assembled step. -/
theorem test_assembled_step :
    let lev := fun l => [0, 2, 1, 2].getD l 0
    let recs := recomputeSet table82 lev false
    let l := assemble table82 lev recs 1
    recs = [2, 3] ∧ stepLength l = 136 ∧
    (l.filter (·.kind == 2)).map (fun x => (x.frames, x.stashLen, x.stashBase)) =
      [(4, 67239936, 0), (10, 268697600, 67239936), (6, 34603008, 335937536), (10, 69206016, 370540544)] ∧
    (l.filter (·.kind == 3)).map (fun x => (x.layer, x.frames)) = [(3, 30), (2, 18), (1, 20), (0, 8)] := by decide +kernel

/-- 08, the example after R170: a norm of 8.0 under two largest norms. -/
theorem test_clip_factor :
    sqrtW48 0x405000000000 = 0x41000000 ∧ clipOf 0x41000000 0x3F800000 = 0x3E000000 ∧
    clipOf 0x41000000 0x41200000 = 0x3F800000 := by decide +kernel

/-- 10, Table 10.6: of the four shares of layer 7 only the gradient's saturation breaches. -/
theorem test_breach :
    let t := someTotals 0 0x8A041000
    sideBreach t (33554432, 1048576, 32768, 0) = false ∧ sideBreach t (67108864, 2097152, 65537, 0) = true ∧
    sideBreach t (67108864, 2097152, 65536, 0) = false ∧
    nextLevel t ⟨2, 0, 0⟩ true {} 9 = ({ level := 1, rose := true }, 0) ∧
    nextLevel t ⟨2, 0, 0⟩ false { level := 1 } 15 = ({ fell := true }, 0) := by decide +kernel

/-- 10, the storm after R209: three of four layers rise, and the next step has 94 frames. -/
theorem test_storm :
    let s := { inKind 7 0 with
      image := { State.reset.image with loaded := some table82 }
      seq := { (inKind 7 0).seq with stepFrames := 73 } }
    let sat : Stat8 := { c0 := 1024, c4 := 2 }
    let t := applyDecision (decideStep s { someTotals 0 0x8A041000 with conv := [(0, sat), (1, sat), (2, sat), (3, { c0 := 1024 })] })
    t.tele.risen = 3 ∧ t.tele.storm = true ∧ t.tele.growth = 21 ∧ t.seq.nextFrames = 94 ∧ fallbackStatus t.tele = 0x00180002 ∧
    levelCounts table82 t.tele.levels = 0x0000000100030000 ∧ levelByte (sget {} t.tele.levels 0) = 0x09 ∧
    t.faults.detected.map (·.occ.source) = [0x0602] := by decide +kernel

/-- 11, the example after R235: a delay of 7.375 ns, and a peer that leads by 1.125 ns. -/
theorem test_time_code :
    let c : TimeCode := ⟨5120, 82056, 5120, 1, 2, 0, 4, 0, 0, 82020⟩
    codeSpans c = (136, 100) ∧ codeDelay c = 118 ∧ codeOffset c = 18 := by
  refine ⟨by decide, ?_, ?_⟩ <;> simp [codeDelay, codeOffset, halfOf, codeSpans]

/-- 12, the example after R244: burst 9,321 of a region at 1,000,000. -/
theorem test_interleave :
    let m : TierMap := ⟨16384, (List.range 256).map (fun e => (e % 8, e / 8))⟩
    let s := { inMode .loaded with image := { State.reset.image with loaded := some { nearMap := m } } }
    locate s { (default : Region) with base := 1000000, length := 100000 } (0x01234800 / 2048) = ⟨1, 21, 20326⟩ := by
  decide +kernel

/-- A device in step 40, plan entry 5, at the fabric time of 14's example, with a scratchpad fault forced on hearth 300. -/
def injected : State :=
  { onGrid 9 0 with
    image := { State.reset.image with loaded := some {} }
    time := { State.reset.time with now := 0x1849000000000000 }
    seq := { (onGrid 9 0).seq with step := 40, planEntry := 5, segs := [⟨5, 2, 0, 0, 0, 2, 0, 0, 0⟩] }
    faults := { State.reset.faults with
      hearthLimit := 2, sources := [(0x0101, { force := some (0x1849000000000000, 0x12C) })] } }

/-- 14, the worked fault injection, steps 2 and 3: what a force records, and what the second of a step takes. -/
theorem test_fault_injection :
    (after .forcedOccurrence injected fun t =>
      t.faults.lastFault == 0x010188001000012C && t.faults.log.map logBytes ==
        [natLe 8 0x1849000000000000 ++ natLe 8 40 ++ natLe 2 0x0101 ++ [0x8C, 0] ++ natLe 4 0x1000012C ++ natLe 4 5 ++ [6, 0, 0, 0]] &&
        t.pins.errN == false && t.fence.hearths == []) = true ∧
    (after .forcedOccurrence { injected with hearths := [(300, { stepU := 1, uOccurrences := 1 })] } fun t =>
      t.faults.lastFault == 0x010198001000012C && t.fence.hearths == [300]) = true := by decide +kernel

/-- 17, the example after R360: hearth 300 fenced and gated, its share on the spare 288. -/
theorem test_hearth_status :
    let s := { inMode .running with
      fence := { State.reset.fence with hearths := [300] }
      hearths := [(288, { logical := 292, selftest := 1 }), (300, { selftest := 1 })] }
    hearthStatus s 288 = 0x248046 ∧ hearthStatus s 300 = 0x00FFE049 := by decide

/-- 15, the mailbox example: GO, TAKEN, DONE and the release, as CONTROL reads. -/
theorem test_mailbox_control :
    (after (.mailGo 0 15 8 1) (mailed 0 { owner := 15 }) fun t => mailControl (mailOf t 0) == 0x810F0801) = true ∧
    (after (.mailTaken 0 1) (mailed 0 { owner := 15, status := 1, sender := 15, length := 8, code := 1 })
      fun t => mailControl (mailOf t 0) == 0x820F0801) = true ∧
    (after (.mailDone 0 1 8) (mailed 0 { owner := 15, status := 2, sender := 15, length := 8, code := 1 })
      fun t => mailControl (mailOf t 0) == 0x030F0801) = true ∧
    (after (.mailRelease 0 15) (mailed 0 { owner := 15, status := 3, sender := 15, length := 8, code := 1, data := [(0, 7)] })
      fun t => mailControl (mailOf t 0) == 0 && (mailOf t 0).data == []) = true := by decide

/-- 18, the record example: the clocks of 1,120 hearths as WORK. -/
theorem test_work_count :
    let s := { State.reset with hearths := [(0, { workClocks := 1120 * 1201 * 2 ^ 24 })] }
    (after .workCountDelivery s fun t => t.assay.workTotal == 0x0290CC0000000000 && t.hearths == []) = true := by decide +kernel

/-- 07, Table 7.8: a slot and a frame at N = 15; 01: a frame at N = 13. -/
theorem test_rate :
    slotTime { inMode .running with rate := { State.reset.rate with n := 15 } } 1 = 273 ∧
    frameNs { inMode .running with rate := { State.reset.rate with n := 15 } } = 1118481 ∧
    frameNs { inMode .running with rate := { State.reset.rate with n := 13 } } = 1290555 := by decide

/-- Published values of the standards that the spec names: SHA-256 of "abc", CRC-32 of "123456789", AES-256 of FIPS 197. -/
theorem test_standards :
    beNat (sha256 (text "abc")) = 0xBA7816BF8F01CFEA414140DE5DAE2223B00361A396177A9CB410FF61F20015AD ∧
    crc32 (text "123456789") = 0xCBF43926 ∧
    beNat (aesBlock (roundKeys (natBe 32 0x000102030405060708090A0B0C0D0E0F101112131415161718191A1B1C1D1E1F))
      (natBe 16 0x00112233445566778899AABBCCDDEEFF)) = 0x8EA2B7CA516745BFEAFC49904B496089 := by decide +kernel

/-- 02, the packed burst after R42: the values of elements 2, 3, 8 and 9. -/
theorem test_packed_burst :
    let bs : Bytes := (List.range 64).map (fun i =>
      if i = 1 then 0x7A else if i = 4 then 0x03 else if i = 48 then 0x7E else if i = 51 then 0x01 else if i = 52 then 0x50
      else if i = 53 then 0x09 else 0)
    let b := blockAt ⟨0, false, true, true, 1, 3⟩ bs (fun _ => true) 0 0
    ([2, 3, 8, 9].map (fun i => toF32 (elemValue 0x3E800000 b (b.elems.getD i (f4e 0))))) =
      [0xBE000000, 0x3F400000, 0x3E400000, 0x3F800000] := by decide +kernel

/-- 16, Table 16.14: the RECEIVED bits of window 5 without the units 24 to 31. -/
theorem test_received_bits :
    let c := { aChannel 2 false with units := (List.range 64).filterMap (fun i => if i / 8 = 3 then none else some (320 + i)) }
    receivedBits c 5 = 0xFFFFFFFF00FFFFFF ∧ windowDone c 5 = false ∧
    receivedBits { c with units := c.units ++ (List.range 8).map (· + 344) } 5 = 0xFFFFFFFFFFFFFFFF := by decide +kernel

/-- 08, Table 8.3: the step-relative frame at which FWD, the BWD of layer 1 and REDUCE begin. -/
theorem test_step_frames :
    let l := assemble table82 (fun l => [0, 2, 1, 2].getD l 0) [2, 3] 1
    [4, 10, 12].map (fun i => ((l.take i).map (·.frames)).sum) = [9, 87, 115] := by decide +kernel

/-! A context image that a restore takes: the owner's key of exponent 1 signs it, and its body is sealed under the key of
zeros. The parts are kept apart: nothing here evaluates them. -/

/-- The header: job 5 after step 3, a body of 26,880 bytes, no tensor, one layer, nothing retained. -/
def ctxHead : Bytes :=
  natLe 4 0x4E435458 ++ natLe 2 1 ++ natLe 2 0 ++ natLe 8 5 ++ natLe 8 3 ++ natLe 8 26880 ++ zeros 104 ++ natLe 4 0 ++ natLe 4 1 ++
    natLe 4 0 ++ zeros 108

/-- The trailer's fields before the signature. -/
def ctxTail (front signer : Bytes) : Bytes := natLe 4 0x4C525458 ++ zeros 4 ++ natLe 8 27664 ++ sha256 front ++ signer ++ zeros 48

/-- A SIGNER_ID that is not the device's own. -/
def ctxSigner : Bytes := (sha256 (keyBytes identityKey)).map (fun x => ~~~ x)

/-- A restore of a context image of 27,664 bytes runs on a channel that holds it whole. -/
def restoringWhole (image : Bytes) : State :=
  let c := { aChannel 3 false with length := 27664, units := List.range 28, final := some (27, 16) }
  { withChannel (inMode .loaded) c with
    dev := { (inMode .loaded).dev with activity := 2 }
    ctx := { State.reset.ctx with op := 2, inProgress := true }
    image := { State.reset.image with loaded := some { jobId := 5, layers := [⟨2, 0, 0⟩] } }
    sec := { State.reset.sec with owner := some ⟨256 ^ 384, 1⟩, ownerId := ctxSigner, jobKey := some (zeros 32) }
    host := { (withChannel (inMode .loaded) c).host with inbox := [(1, mwrite [] 0 image)] } }

theorem length_ctxHead : ctxHead.length = 256 := by decide +kernel

theorem length_ctxTail (front : Bytes) {signer : Bytes} (h : signer.length = 32) : (ctxTail front signer).length = 128 := by
  simp [ctxTail, zeros, h, -List.reduceReplicate]

theorem length_ctxSigner : ctxSigner.length = 32 := by simp [ctxSigner]

theorem map_not_ne (l : Bytes) (h : l.length = 32) : l.map (fun x => ~~~ x) ≠ l := by
  cases l with
  | nil => simp at h
  | cons x t =>
    intro e
    have h2 : (~~~ x).toNat = x.toNat := congrArg BitVec.toNat (List.cons.inj e).1
    rw [BitVec.toNat_not] at h2
    have := x.isLt
    omega

theorem signer_found (image : Bytes) : signerKey (restoringWhole image) ctxSigner = some ⟨256 ^ 384, 1⟩ := by
  have h : ctxSigner ≠ sha256 (keyBytes identityKey) := map_not_ne _ (length_sha256 _)
  rw [signerKey, if_neg h]
  exact if_pos rfl

/-- A trailer that holds the digest of what stands before it and the signature of its signer passes. -/
theorem trailerOk_of {s : State} {front signer sig : Bytes} {k : PubKey} (hs : signer.length = 32) (hg : sig.length = 384)
    (hk : signerKey s signer = some k) (hv : pssVerify k (ctxTail front signer) sig = true) :
    trailerOk s (front ++ (ctxTail front signer ++ sig)) = true := by
  have ht := length_ctxTail front hs
  have hd : (front ++ (ctxTail front signer ++ sig)).length - 512 = front.length := by simp [ht, hg]
  have h1 : slice (ctxTail front signer ++ sig) 16 32 = sha256 front := by
    have := slice_middle (natLe 4 0x4C525458 ++ zeros 4 ++ natLe 8 27664) (sha256 front) (signer ++ zeros 48 ++ sig)
    rw [length_sha256, show (natLe 4 0x4C525458 ++ zeros 4 ++ natLe 8 27664).length = 16 by decide] at this
    simp only [List.append_assoc] at this
    simpa only [ctxTail, List.append_assoc] using this
  have h2 : slice (ctxTail front signer ++ sig) 48 32 = signer := by
    have := slice_middle (natLe 4 0x4C525458 ++ zeros 4 ++ natLe 8 27664 ++ sha256 front) signer (zeros 48 ++ sig)
    rw [hs, show (natLe 4 0x4C525458 ++ zeros 4 ++ natLe 8 27664 ++ sha256 front).length = 48 by simp [zeros]] at this
    simp only [List.append_assoc] at this
    simpa only [ctxTail, List.append_assoc] using this
  unfold trailerOk
  simp only [hd, List.take_left, List.drop_left, h1, h2, hk, List.take_left' ht, List.drop_left' ht]
  simp [hv]

/-- The parts of an image: header, cipher text, tag and the rest. -/
theorem ctx_parts {ct tag r : Bytes} (hc : ct.length = 26880) (ht : tag.length = 16) :
    slice (ctxHead ++ (ct ++ tag) ++ r) 128 8 = zeros 8 ∧ (ctxHead ++ (ct ++ tag) ++ r).take 256 = ctxHead ∧
    slice (ctxHead ++ (ct ++ tag) ++ r) 256 26880 = ct ∧ slice (ctxHead ++ (ct ++ tag) ++ r) 27136 16 = tag ∧
    ∀ o n, o + n ≤ 256 → leAt (ctxHead ++ (ct ++ tag) ++ r) o n = leAt ctxHead o n := by
  have e2 := length_ctxHead
  refine ⟨?_, ?_, ?_, ?_, ?_⟩
  · rw [List.append_assoc, slice_append_left _ (by omega)]; decide +kernel
  · rw [List.append_assoc]; exact List.take_left' e2
  · have := slice_middle ctxHead ct (tag ++ r)
    rw [e2, hc] at this
    simpa only [List.append_assoc] using this
  · have := slice_middle (ctxHead ++ ct) tag r
    rw [List.length_append, e2, hc, ht] at this
    simpa only [List.append_assoc] using this
  · intro o n h
    rw [List.append_assoc, leAt_append_left _ (by omega)]

/-- The body opens. -/
theorem ctx_openBody {r pt : Bytes} (hp : pt.length = 26880) :
    let x := gcmSeal (zeros 32) (zeros 8 ++ natBe 4 0) (ctxHead ++ natBe 4 0) pt
    openBody (zeros 32) (ctxHead ++ (x.1 ++ x.2) ++ r) 1 0 [] = .inr pt := by
  intro x
  have hx := length_gcmSeal (zeros 32) (zeros 8 ++ natBe 4 0) (ctxHead ++ natBe 4 0) pt
  have ho := gcmOpen_gcmSeal (zeros 32) (zeros 8 ++ natBe 4 0) (ctxHead ++ natBe 4 0) pt
  change x.1.length = _ ∧ x.2.length = 16 at hx
  change gcmOpen _ _ _ x.1 x.2 = _ at ho
  generalize x = y at hx ho
  obtain ⟨h1, h2, h3, h4, h5⟩ := ctx_parts (ct := y.1) (tag := y.2) (r := r) (hx.1.trans hp) hx.2
  have e := h5 24 8 (by decide)
  rw [show leAt ctxHead 24 8 = 26880 by decide +kernel] at e
  generalize ctxHead ++ (y.1 ++ y.2) ++ r = b at *
  unfold openBody
  simp only [e, Nat.zero_mul, Nat.sub_zero, Nat.add_zero, show min 26880 segmentSize = 26880 by decide, h1, h2, h3, h4]
  rw [if_neg (by decide), ho]
  simp only [openBody, List.nil_append]

theorem slice_append_right {a : Bytes} (b : Bytes) {o : Nat} (n : Nat) (h : a.length ≤ o) :
    slice (a ++ b) o n = slice b (o - a.length) n := by
  rw [slice, slice, List.drop_append, List.drop_eq_nil_of_le h, List.nil_append]

theorem leNat_zero : ∀ {b : Bytes}, (∀ x ∈ b, x = 0) → leNat b = 0
  | [], _ => rfl
  | x :: t, h => by
    rw [leNat, h x (by simp), leNat_zero (fun y hy => h y (by simp [hy]))]; rfl

/-- A body of zeros has no reserved bit set. -/
theorem clear_body {b pt : Bytes} (h : ∀ x ∈ pt, x = 0) (hb : leAt b 136 4 = 0) : bodyClear b pt = true := by
  have hs : ∀ o n, ∀ x ∈ slice pt o n, x = 0 := by
    intro o n x hx
    rcases List.mem_append.mp hx with hx | hx
    · exact h x (List.mem_of_mem_drop (List.mem_of_mem_take hx))
    · exact (List.mem_replicate.mp hx).2
  have hl : ∀ o n, leAt pt o n = 0 := fun o n => leNat_zero (fun x hx => h x (List.mem_of_mem_drop (List.mem_of_mem_take hx)))
  have hz : ∀ o n, zeroAt pt o n = true := fun o n => List.all_eq_true.mpr (fun x hx => by rw [hs o n x hx]; rfl)
  have h4 : (slice pt 2304 4096).all (fun x => decide (x.toNat < 4)) = true :=
    List.all_eq_true.mpr (fun x hx => by rw [hs _ _ x hx]; rfl)
  unfold bodyClear
  simp only [hz, hl, hb, h4]
  rfl

/-- The checks of R285 on an image of these parts. -/
theorem ctx_check {s : State} {ct tag t g pt : Bytes} (hs : s.image.loaded = some { jobId := 5, layers := [⟨2, 0, 0⟩] })
    (hk : s.sec.jobKey = some (zeros 32)) (hc : ct.length = 26880) (ht : tag.length = 16) (hl : (t ++ g).length = 512)
    (hp : pt.length = 26880) (hm : leAt (t ++ g) 0 4 = 0x4C525458) (hz : leAt (t ++ g) 8 8 = 27664)
    (h0 : ∀ x ∈ pt, x = 0) (hr : slice (t ++ g) 4 4 = zeros 4) (hr2 : slice (t ++ g) 80 48 = zeros 48)
    (hok : trailerOk s (ctxHead ++ (ct ++ tag) ++ (t ++ g)) = true)
    (hop : openBody (zeros 32) (ctxHead ++ (ct ++ tag) ++ (t ++ g)) 1 0 [] = .inr pt) :
    restoreCheck s (ctxHead ++ (ct ++ tag) ++ (t ++ g)) = .inr pt := by
  have e2 := length_ctxHead
  obtain ⟨_, h2, _, _, h5⟩ := ctx_parts (ct := ct) (tag := tag) (r := t ++ g) hc ht
  have hf : (ctxHead ++ (ct ++ tag)).length = 27152 := by simp [e2, hc, ht]
  have l9 : leAt (ctxHead ++ (ct ++ tag) ++ (t ++ g)) 27152 4 = 0x4C525458 := by
    rw [leAt_append_right _ _ _ (by omega), hf]; exact hm
  have l10 : leAt (ctxHead ++ (ct ++ tag) ++ (t ++ g)) 27160 8 = 27664 := by
    rw [leAt_append_right _ _ _ (by omega), hf]; exact hz
  have hn : (ctxHead ++ (ct ++ tag) ++ (t ++ g)).length = 27664 := by rw [List.length_append, hf, hl]
  have r1 : zeroAt (ctxHead ++ (ct ++ tag) ++ (t ++ g)) 27156 4 = true := by
    rw [zeroAt, slice_append_right _ _ (by omega), hf, show 27156 - 27152 = 4 by decide, hr]; decide
  have r2 : zeroAt (ctxHead ++ (ct ++ tag) ++ (t ++ g)) 27232 48 = true := by
    rw [zeroAt, slice_append_right _ _ (by omega), hf, show 27232 - 27152 = 80 by decide, hr2]; decide
  have r3 : zeroAt (ctxHead ++ (ct ++ tag) ++ (t ++ g)) 148 108 = true := by
    rw [zeroAt, List.append_assoc, slice_append_left _ (by omega)]; decide +kernel
  generalize ctxHead ++ (ct ++ tag) ++ (t ++ g) = b at *
  have l1 := h5 0 4 (by decide)
  have l2 := h5 4 2 (by decide)
  have l3 := h5 24 8 (by decide)
  have l4 := h5 140 4 (by decide)
  have l5 := h5 144 4 (by decide)
  have l6 := h5 8 8 (by decide)
  have l7 := h5 6 2 (by decide)
  have l8 := h5 136 4 (by decide)
  rw [show leAt ctxHead 0 4 = 0x4E435458 by decide +kernel] at l1
  rw [show leAt ctxHead 4 2 = 1 by decide +kernel] at l2
  rw [show leAt ctxHead 24 8 = 26880 by decide +kernel] at l3
  rw [show leAt ctxHead 140 4 = 1 by decide +kernel] at l4
  rw [show leAt ctxHead 144 4 = 0 by decide +kernel] at l5
  rw [show leAt ctxHead 8 8 = 5 by decide +kernel] at l6
  rw [show leAt ctxHead 6 2 = 0 by decide +kernel] at l7
  rw [show leAt ctxHead 136 4 = 0 by decide +kernel] at l8
  have hsh : contextShape b = true := by
    unfold contextShape
    simp only [l1, l2, l3, l4, l5, hn, show (26880 + segmentSize - 1) / segmentSize = 1 by decide,
      show 256 + 26880 + 16 * 1 + 512 - 512 = 27152 by decide, show 256 + 26880 + 16 * 1 + 512 - 504 = 27160 by decide, l9, l10, l7,
      show 256 + 26880 + 16 * 1 + 512 - 508 = 27156 by decide, show 256 + 26880 + 16 * 1 + 512 - 432 = 27232 by decide, r1, r2, r3]
    decide
  have hg : imageOf s = { jobId := 5, layers := [⟨2, 0, 0⟩] } := by simp [imageOf, hs]
  have hla : layoutOk b pt = true := by
    unfold layoutOk
    simp only [l5, l8, hp, clear_body h0 l8]
    rfl
  have hma : matchesImage s b pt = true := by
    unfold matchesImage
    simp only [l4, l5, l8, hg]
    rfl
  unfold restoreCheck
  simp only [hsh, hok, l6, l7, l3, hg, show 26880 / segmentSize + 1 = 1 by decide, hk, hop, hla, hma]
  rfl

/-- A restore passes every check: its image has a body of 26,880 zeros, sealed under the job key, and the owner's signature. -/
theorem witness_LoadRestoreAndHashEnd_restore : ∃ image pt, let s := restoringWhole image
    ∃ c, channelKind s 3 false = some c ∧ s.dev.activity = 2 ∧ s.ctx.inProgress = true ∧ allArrived c = true ∧
      restoreCheck s (mread (sget [] s.host.inbox c.id.toNat) 0 (streamLength c)) = .inr pt := by
  obtain ⟨pt, hp, h0⟩ : ∃ pt : Bytes, pt.length = 26880 ∧ ∀ x ∈ pt, x = 0 :=
    ⟨List.replicate 26880 0, List.length_replicate, fun x hx => (List.mem_replicate.mp hx).2⟩
  have hx := length_gcmSeal (zeros 32) (zeros 8 ++ natBe 4 0) (ctxHead ++ natBe 4 0) pt
  have ho : ∀ r, let x := gcmSeal (zeros 32) (zeros 8 ++ natBe 4 0) (ctxHead ++ natBe 4 0) pt
    openBody (zeros 32) (ctxHead ++ (x.1 ++ x.2) ++ r) 1 0 [] = .inr pt := fun r => ctx_openBody hp
  generalize gcmSeal (zeros 32) (zeros 8 ++ natBe 4 0) (ctxHead ++ natBe 4 0) pt = x at hx ho
  obtain ⟨ct, tag⟩ := x
  have hc : ct.length = 26880 := hx.1.trans hp
  have ht : tag.length = 16 := hx.2
  have hlt := length_ctxTail (ctxHead ++ (ct ++ tag)) length_ctxSigner
  have hlg := length_pssEncode (ctxTail (ctxHead ++ (ct ++ tag)) ctxSigner) (salt := zeros 32) (by decide)
  have hv := pssVerify_pssEncode (ctxTail (ctxHead ++ (ct ++ tag)) ctxSigner) (salt := zeros 32) (by decide) (m := 256 ^ 384)
    (by decide +kernel)
  generalize pssEncode (ctxTail (ctxHead ++ (ct ++ tag)) ctxSigner) (zeros 32) = g at hlg hv
  have hmagic : leAt (ctxTail (ctxHead ++ (ct ++ tag)) ctxSigner ++ g) 0 4 = 0x4C525458 := by
    simp only [ctxTail, List.append_assoc]
    rw [leAt_append_left _ (by simp)]; decide
  have hsize : leAt (ctxTail (ctxHead ++ (ct ++ tag)) ctxSigner ++ g) 8 8 = 27664 := by
    rw [ctxTail, show ∀ a b c d e f g : Bytes, a ++ b ++ c ++ d ++ e ++ f ++ g = (a ++ b ++ c) ++ (d ++ e ++ f ++ g) by
      intros; simp only [List.append_assoc]]
    rw [leAt_append_left _ (by decide)]; decide
  have hres : slice (ctxTail (ctxHead ++ (ct ++ tag)) ctxSigner ++ g) 4 4 = zeros 4 := by
    have := slice_middle (natLe 4 0x4C525458) (zeros 4) (natLe 8 27664 ++ sha256 (ctxHead ++ (ct ++ tag)) ++ ctxSigner ++ zeros 48 ++ g)
    rw [show (natLe 4 0x4C525458).length = 4 by decide, show (zeros 4).length = 4 by decide] at this
    simpa only [ctxTail, List.append_assoc] using this
  have hres2 : slice (ctxTail (ctxHead ++ (ct ++ tag)) ctxSigner ++ g) 80 48 = zeros 48 := by
    have := slice_middle (natLe 4 0x4C525458 ++ zeros 4 ++ natLe 8 27664 ++ sha256 (ctxHead ++ (ct ++ tag)) ++ ctxSigner) (zeros 48) g
    rw [show (natLe 4 0x4C525458 ++ zeros 4 ++ natLe 8 27664 ++ sha256 (ctxHead ++ (ct ++ tag)) ++ ctxSigner).length = 80 by
      simp [zeros, length_sha256, length_ctxSigner], show (zeros 48).length = 48 by decide] at this
    simpa only [ctxTail, List.append_assoc] using this
  have hok : ∀ im, trailerOk (restoringWhole im) (ctxHead ++ (ct ++ tag) ++ (ctxTail (ctxHead ++ (ct ++ tag)) ctxSigner ++ g)) = true :=
    fun im => trailerOk_of length_ctxSigner hlg (signer_found im) hv
  have hn : (ctxHead ++ (ct ++ tag) ++ (ctxTail (ctxHead ++ (ct ++ tag)) ctxSigner ++ g)).length = 27664 := by
    simp [hc, ht, hlt, hlg, length_ctxHead]
  have hfin : ∀ im, restoreCheck (restoringWhole im) (ctxHead ++ (ct ++ tag) ++ (ctxTail (ctxHead ++ (ct ++ tag)) ctxSigner ++ g)) =
      .inr pt := fun im =>
    ctx_check (s := restoringWhole im) rfl rfl hc ht (by rw [List.length_append, hlt, hlg]) hp hmagic hsize h0 hres hres2
      (hok im) (ho _)
  have hr := mread_mwrite_nil (ctxHead ++ (ct ++ tag) ++ (ctxTail (ctxHead ++ (ct ++ tag)) ctxSigner ++ g))
  rw [hn] at hr
  generalize ctxHead ++ (ct ++ tag) ++ (ctxTail (ctxHead ++ (ct ++ tag)) ctxSigner ++ g) = b at hfin hr
  refine ⟨b, pt, _, rfl, rfl, rfl, by simp only [allArrived]; decide, ?_⟩
  show restoreCheck (restoringWhole b) (mread (mwrite [] 0 b) 0 27664) = _
  rw [hr]
  exact hfin b

/-! A Farmeram image that a load takes: the near stacks, one far stack with 8 channels, a plan of NORM and STATS, and the owner's signature
under exponent 1. The hashes, the fence signature and the signature stay unevaluated. -/

/-- The fence map of a device that has the far stack 0 alone beside its near stacks. -/
def lonelyFence : FenceMap :=
  { far := (List.range 7).map (fun i => (i + 1, 0)) }

/-- REGIONS: the five single roles in the far stack's local channels, a program region for each die; no tensor, nothing
retained. -/
def regionsPart : Bytes :=
  natLe 4 13 ++ zeros 252 ++ regionEntry ⟨2, 1, true, 0, 0, 0, 0, 1⟩ ++ regionEntry ⟨3, 1, true, 0, 0, 0, 1, 1⟩ ++
    regionEntry ⟨4, 1, true, 0, 0, 0, 2, 1048576⟩ ++ regionEntry ⟨5, 1, true, 0, 0, 0, 1048578, 1⟩ ++
    regionEntry ⟨6, 1, true, 0, 0, 0, 1048579, 1⟩ ++
    (List.range 8).flatMap (fun d => regionEntry ⟨1, 0, true, d, 0, 0, 0, 1⟩) ++ zeros 48
/-- INTERLEAVE: the entries of the near stacks, and the far entries of stack 0. -/
def interleavePart : Bytes :=
  natLe 4 256 ++ natLe 4 1 ++ zeros 8 ++ (List.range 256).flatMap (fun i => [BitVec.ofNat 8 (i / 32), BitVec.ofNat 8 (i % 32)]) ++
    zeros 240 ++ natLe 4 8 ++ natLe 4 200000 ++ zeros 8 ++ (List.range 8).flatMap (fun l => [0, BitVec.ofNat 8 l]) ++ zeros 224
/-- The two entries of PLAN; its layer table, statistics map and watch list are zeros. -/
def planHead : Bytes := natLe 8 (5 * 2 ^ 60) ++ natLe 8 (7 * 2 ^ 60 + 2 ^ 32)
/-- PLAN. -/
def planPart : Bytes := planHead ++ zeros 16884
/-- VARIANTS: one frame for NORM and two for STATS. -/
def variantsPart : Bytes := zeros 4 ++ natLe 4 1 ++ zeros 24 ++ natLe 2 1 ++ zeros 2 ++ natLe 4 2 ++ zeros 24
/-- Each share on its own hearth. -/
def remapList : List Nat := (List.range 1120).map (fun i => i / 140 * 144 + i % 140)
/-- REMAP. -/
def remapPart : Bytes := remapList.flatMap (natLe 2)
/-- CONSTANTS: the 16 sets at their defaults. -/
def constantsPart : Bytes := (List.range 16).flatMap (fun _ => setBytes {})
/-- Every section but the signature. -/
def imageBody : Bytes :=
  regionsPart ++ (interleavePart ++ (planPart ++ (zeros 252 ++ (variantsPart ++ (zeros 192 ++ (remapPart ++ (zeros 64 ++ constantsPart)))))))

/-- The header before and after the geometry signature: job 5, one layer, three frames, 2,048 bytes of stash. -/
def imageHead : Bytes := natLe 4 0x494D5246 ++ natLe 2 1 ++ natLe 2 12 ++ natLe 8 24704 ++ natLe 8 5 ++ zeros 32
/-- The rest of the header; the device is the torus, and its master. -/
def imageRest : Bytes := [1, 1, 1, 1] ++ zeros 8 ++ natLe 4 1 ++ natLe 4 3 ++ natLe 8 2048 ++ zeros 140

/-- TYPE, COUNT, OFFSET and SIZE of the sections. -/
def imageTable : List (Nat × Nat × Nat × Nat) :=
  [(1, 0, 1024, 0), (2, 0, 1024, 0), (3, 0, 1024, 0), (4, 0, 1024, 0), (5, 0, 1024, 0), (7, 0, 1024, 512), (8, 0, 1536, 1024),
   (9, 2, 2560, 16900), (10, 2, 19712, 64), (11, 0, 19968, 2240), (12, 0, 22272, 2048), (0xFF, 0, 24320, 384)]
/-- The first half of table entry i. -/
def entryHead (i : Nat) : Bytes :=
  let x := imageTable.getD i (0, 0, 0, 0)
  natLe 2 x.1 ++ zeros 2 ++ natLe 4 x.2.1 ++ natLe 8 x.2.2.1 ++ natLe 8 x.2.2.2 ++ zeros 8
/-- Section i as the table gives it, with a hash. -/
def sectNo (hash : Nat → Bytes) (i : Nat) : Sect :=
  let x := imageTable.getD i (0, 0, 0, 0)
  ⟨i, x.1, x.2.1, x.2.2.1, x.2.2.2, hash i, true⟩
/-- The bytes of section i. -/
def partNo (i : Nat) : Bytes :=
  if i = 5 then regionsPart else if i = 6 then interleavePart else if i = 7 then planPart else if i = 8 then variantsPart
  else if i = 9 then remapPart else if i = 10 then constantsPart else []
/-- The image before its signature. -/
def imageFront (fence : Bytes) (hash : Nat → Bytes) : Bytes :=
  imageHead ++ (fence ++ (imageRest ++ ((List.range 12).flatMap (fun i => entryHead i ++ hash i) ++ imageBody)))

/-- What the device holds of it. -/
def imageParsed : Image :=
  { jobId := 5, jobSeed := zeros 32, torus := 0x01010101, coord := 0, masterCoord := 0, stepFramesMax := 3, stashBudget := 2048
    layers := [⟨0, 0, 0⟩], plan := [⟨5, 0, 0⟩, ⟨7, 0, 1⟩]
    variants := [⟨0, 0, 0, 1, 0, 0⟩, ⟨1, 0, 0, 2, 0, 0⟩]
    regions := [⟨2, 1, true, 0, 0, 0, 0, 1⟩, ⟨3, 1, true, 0, 0, 0, 1, 1⟩, ⟨4, 1, true, 0, 0, 0, 2, 1048576⟩,
      ⟨5, 1, true, 0, 0, 0, 1048578, 1⟩, ⟨6, 1, true, 0, 0, 0, 1048579, 1⟩] ++
      (List.range 8).map (fun d => ⟨1, 0, true, d, 0, 0, 0, 1⟩)
    nearMap := ⟨1, (List.range 256).map (fun i => (i / 32, i % 32))⟩
    farMap := ⟨200000, (List.range 8).map (fun l => (0, l))⟩
    remap := remapList, sets := List.replicate 16 {} }

/-! Parts of byte strings -/

theorem part_left {a : Bytes} (b : Bytes) {o n : Nat} (h : o + n ≤ a.length) : ((a ++ b).drop o).take n = (a.drop o).take n := by
  rw [List.drop_append_of_le_length (by omega), List.take_append_of_le_length (by simp; omega)]

theorem part_right (a b : Bytes) {o : Nat} (n : Nat) (h : a.length ≤ o) :
    ((a ++ b).drop o).take n = (b.drop (o - a.length)).take n := by
  rw [List.drop_append, List.drop_eq_nil_of_le h, List.nil_append]

theorem slice_of {b : Bytes} {o n : Nat} {x : Bytes} (h : (b.drop o).take n = x) (hn : x.length = n) : slice b o n = x := by
  simp only [slice, h, hn, Nat.sub_self, List.replicate_zero, List.append_nil]

theorem drop_blocks {f : Nat → Bytes} {m : Nat} (hf : ∀ i, (f i).length = m) : ∀ (l : List Nat) (i : Nat) (h : i < l.length),
    (l.flatMap f).drop (m * i) = f l[i] ++ (l.drop (i + 1)).flatMap f
  | x :: l, 0, _ => by simp
  | x :: l, i + 1, h => by
    rw [List.flatMap_cons, List.drop_append, List.drop_eq_nil_of_le (by rw [hf, Nat.mul_succ]; omega), List.nil_append, hf,
      Nat.mul_succ, Nat.add_sub_cancel, drop_blocks hf l i (by simpa using h)]
    rfl

theorem length_blocks {f : Nat → Bytes} {m : Nat} (hf : ∀ i, (f i).length = m) (l : List Nat) : (l.flatMap f).length = m * l.length := by
  induction l with
  | nil => simp
  | cons x l ih => rw [List.flatMap_cons, List.length_append, hf, ih, List.length_cons, Nat.mul_succ]; omega

theorem zeros_part (n o m : Nat) : ∀ x ∈ ((zeros n).drop o).take m, x = 0 := by
  intro x hx
  have := List.mem_of_mem_drop (List.mem_of_mem_take hx)
  exact (List.mem_replicate.mp this).2

/-- Beyond its entries the plan section holds zeros. -/
theorem leAt_planPart {o n : Nat} (h : 16 ≤ o) : leAt planPart o n = 0 := by
  rw [planPart, leAt_append_right _ _ _ (by rw [show planHead.length = 16 by decide]; exact h)]
  exact leNat_zero (zeros_part _ _ _)

theorem length_zeros (n : Nat) : (zeros n).length = n := by simp [zeros, -List.reduceReplicate]

theorem length_planPart : planPart.length = 16900 := by
  rw [planPart, List.length_append, length_zeros]; rfl

theorem length_remapPart : remapPart.length = 2240 := by
  rw [remapPart, length_blocks (m := 2) (fun _ => length_natLe _ _)]; simp [remapList]

theorem length_constantsPart : constantsPart.length = 2048 := by
  rw [constantsPart, length_blocks (m := 128) (fun _ => by decide +kernel)]; simp

theorem length_imageBody : imageBody.length = 23296 := by
  simp only [imageBody, List.length_append, length_planPart, length_remapPart, length_constantsPart, length_zeros]
  decide +kernel

/-! The parts of the image -/

section Parts

variable {fence sig : Bytes} {hash : Nat → Bytes}

theorem length_table (hh : ∀ i, (hash i).length = 32) : ((List.range 12).flatMap (fun i => entryHead i ++ hash i)).length = 768 := by
  rw [length_blocks (m := 64) (fun i => by rw [List.length_append, hh]; simp [entryHead, zeros])]; simp

theorem length_imageFront (hf : fence.length = 32) (hh : ∀ i, (hash i).length = 32) : (imageFront fence hash).length = 24320 := by
  simp only [imageFront, List.length_append, hf, length_table hh, length_imageBody]
  decide +kernel

theorem head_part {o n : Nat} (h : o + n ≤ 56) :
    ((imageFront fence hash ++ sig).drop o).take n = (imageHead.drop o).take n := by
  have e : imageHead.length = 56 := by decide
  rw [imageFront, List.append_assoc, part_left _ (by omega)]

theorem fence_part (hf : fence.length = 32) : slice (imageFront fence hash ++ sig) 56 32 = fence := by
  have e : imageHead.length = 56 := by decide
  refine slice_of ?_ hf
  rw [imageFront, List.append_assoc, part_right _ _ _ (by omega), e, List.append_assoc, part_left _ (by omega)]
  simp [← hf]

theorem rest_part (hf : fence.length = 32) {o n : Nat} (h1 : 88 ≤ o) (h2 : o + n ≤ 256) :
    ((imageFront fence hash ++ sig).drop o).take n = (imageRest.drop (o - 88)).take n := by
  have e : imageHead.length = 56 := by decide
  have e2 : imageRest.length = 168 := by decide +kernel
  rw [imageFront, List.append_assoc, part_right _ _ _ (by omega), List.append_assoc, part_right _ _ _ (by omega), List.append_assoc,
    part_left _ (by omega), e, hf, show o - 56 - 32 = o - 88 by omega]

theorem body_part (hf : fence.length = 32) (hh : ∀ i, (hash i).length = 32) {o n : Nat} (h1 : 1024 ≤ o) (h2 : o + n ≤ 24320) :
    ((imageFront fence hash ++ sig).drop o).take n = (imageBody.drop (o - 1024)).take n := by
  have e : imageHead.length = 56 := by decide
  have e2 : imageRest.length = 168 := by decide +kernel
  have e3 := length_table hh
  have e4 := length_imageBody
  rw [imageFront, List.append_assoc, part_right _ _ _ (by omega), List.append_assoc, part_right _ _ _ (by omega), List.append_assoc,
    part_right _ _ _ (by omega), List.append_assoc, part_right _ _ _ (by omega), part_left _ (by omega), e, hf, e2, e3,
    show o - 56 - 32 - 168 - 768 = o - 1024 by omega]

theorem entry_part (hf : fence.length = 32) (hh : ∀ i, (hash i).length = 32) {i : Nat} (hi : i < 12) {o n : Nat} (h : o + n ≤ 64) :
    ((imageFront fence hash ++ sig).drop (256 + 64 * i + o)).take n = ((entryHead i ++ hash i).drop o).take n := by
  have e : imageHead.length = 56 := by decide
  have e2 : imageRest.length = 168 := by decide +kernel
  have e3 := length_table hh
  have he : ∀ j, (entryHead j ++ hash j).length = 64 := fun j => by rw [List.length_append, hh]; simp [entryHead, zeros]
  rw [imageFront, List.append_assoc, part_right _ _ _ (by omega), List.append_assoc, part_right _ _ _ (by omega), List.append_assoc,
    part_right _ _ _ (by omega), List.append_assoc, part_left _ (by omega), e, hf, e2,
    show 256 + 64 * i + o - 56 - 32 - 168 = 64 * i + o by omega, ← List.drop_drop,
    drop_blocks he _ _ (by simpa using hi), part_left _ (by rw [List.getElem_range, he]; omega), List.getElem_range]

theorem sect_at (hf : fence.length = 32) (hh : ∀ i, (hash i).length = 32) {i : Nat} (hi : i < 12) :
    sectAt (imageFront fence hash ++ sig) i = sectNo hash i := by
  have e : ∀ j, (entryHead j).length = 32 := fun j => by simp [entryHead, zeros]
  have p : ∀ {o n : Nat}, o + n ≤ 32 → ((imageFront fence hash ++ sig).drop (256 + 64 * i + o)).take n = ((entryHead i).drop o).take n :=
    fun {o n} h => by rw [entry_part hf hh hi (by omega), part_left _ (by rw [e]; exact h)]
  have q : slice (imageFront fence hash ++ sig) (256 + 64 * i + 32) 32 = hash i := by
    refine slice_of ?_ (hh i)
    rw [entry_part hf hh hi (by omega), part_right _ _ _ (by rw [e]), e]
    simp [← hh i]
  have p0 := p (o := 0) (n := 2) (by omega)
  rw [Nat.add_zero] at p0
  have c : ∀ j < 12, leNat (((entryHead j).drop 0).take 2) = (imageTable.getD j (0, 0, 0, 0)).1 ∧
      leNat (((entryHead j).drop 4).take 4) = (imageTable.getD j (0, 0, 0, 0)).2.1 ∧
      leNat (((entryHead j).drop 8).take 8) = (imageTable.getD j (0, 0, 0, 0)).2.2.1 ∧
      leNat (((entryHead j).drop 16).take 8) = (imageTable.getD j (0, 0, 0, 0)).2.2.2 ∧
      (!(((entryHead j).drop 2).take 2).any (· != 0) && !(((entryHead j).drop 24).take 8).any (· != 0)) = true := by decide +kernel
  obtain ⟨c1, c2, c3, c4, c5⟩ := c i hi
  simp only [sectAt, leAt, anySet, q, p0, p (o := 4) (n := 4) (by omega), p (o := 8) (n := 8) (by omega),
    p (o := 16) (n := 8) (by omega), p (o := 2) (n := 2) (by omega), p (o := 24) (n := 8) (by omega), c1, c2, c3, c4, c5, sectNo]

theorem sect_table (hf : fence.length = 32) (hh : ∀ i, (hash i).length = 32) :
    sectTable (imageFront fence hash ++ sig) = (List.range 12).map (sectNo hash) := by
  have hc : sectCount (imageFront fence hash ++ sig) = 12 := by
    rw [sectCount, leAt, head_part (by omega)]; decide +kernel
  rw [sectTable, hc]
  exact List.map_congr_left (fun i hi => sect_at hf hh (List.mem_range.mp hi))

theorem sect_bytes (hf : fence.length = 32) (hh : ∀ i, (hash i).length = 32) {i : Nat} (hi : i < 11) :
    sectBytes (imageFront fence hash ++ sig) (sectNo hash i) = partNo i := by
  have eb := length_imageBody
  have l1 : regionsPart.length = 512 := by decide +kernel
  have l2 : interleavePart.length = 1024 := by decide +kernel
  have l3 := length_planPart
  have l4 : variantsPart.length = 64 := by decide +kernel
  have l5 := length_remapPart
  have l6 := length_constantsPart
  have z1 := length_zeros 252
  have z2 := length_zeros 192
  have z3 := length_zeros 64
  have go : ∀ {o n : Nat} {x : Bytes}, 1024 ≤ o → o + n ≤ 24320 → x.length = n → (imageBody.drop (o - 1024)).take n = x →
      slice (imageFront fence hash ++ sig) o n = x := fun h1 h2 h3 h4 => slice_of (by rw [body_part hf hh h1 h2, h4]) h3
  have hz : i = 0 ∨ i = 1 ∨ i = 2 ∨ i = 3 ∨ i = 4 ∨ i = 5 ∨ i = 6 ∨ i = 7 ∨ i = 8 ∨ i = 9 ∨ i = 10 := by omega
  unfold sectBytes
  rcases hz with rfl | rfl | rfl | rfl | rfl | rfl | rfl | rfl | rfl | rfl | rfl
  · rfl
  · rfl
  · rfl
  · rfl
  · rfl
  · rw [show partNo 5 = regionsPart by simp [partNo]]
    exact go (x := regionsPart) (o := 1024) (n := 512) (by omega) (by omega) l1 (by
      rw [imageBody, part_left _ (by omega)]; simp [← l1])
  · rw [show partNo 6 = interleavePart by simp [partNo]]
    exact go (x := interleavePart) (o := 1536) (n := 1024) (by omega) (by omega) l2 (by
      rw [imageBody, part_right _ _ _ (by omega), part_left _ (by omega), l1,
        show 1536 - 1024 - 512 = 0 by decide, List.drop_zero, List.take_of_length_le (by omega)])
  · rw [show partNo 7 = planPart by simp [partNo]]
    exact go (x := planPart) (o := 2560) (n := 16900) (by omega) (by omega) l3 (by
      rw [imageBody, part_right _ _ _ (by omega), part_right _ _ _ (by omega), part_left _ (by omega), l1, l2]; simp [← l3])
  · rw [show partNo 8 = variantsPart by simp [partNo]]
    exact go (x := variantsPart) (o := 19712) (n := 64) (by omega) (by omega) l4 (by
      rw [imageBody, part_right _ _ _ (by omega), part_right _ _ _ (by omega), part_right _ _ _ (by omega),
        part_right _ _ _ (by omega), part_left _ (by omega), l1, l2, l3, z1]; simp [← l4])
  · rw [show partNo 9 = remapPart by simp [partNo]]
    exact go (x := remapPart) (o := 19968) (n := 2240) (by omega) (by omega) l5 (by
      rw [imageBody, part_right _ _ _ (by omega), part_right _ _ _ (by omega), part_right _ _ _ (by omega),
        part_right _ _ _ (by omega), part_right _ _ _ (by omega), part_right _ _ _ (by omega),
        part_left _ (by omega), l1, l2, l3, l4, z1, z2]; simp [← l5])
  · rw [show partNo 10 = constantsPart by simp [partNo]]
    exact go (x := constantsPart) (o := 22272) (n := 2048) (by omega) (by omega) l6 (by
      rw [imageBody, part_right _ _ _ (by omega), part_right _ _ _ (by omega), part_right _ _ _ (by omega),
        part_right _ _ _ (by omega), part_right _ _ _ (by omega), part_right _ _ _ (by omega),
        part_right _ _ _ (by omega), part_right _ _ _ (by omega), l1, l2, l3, l4, l5, z1, z2, z3]; simp [← l6])

end Parts

/-! The checks of the image -/

/-- What the checks use of an image's bytes. -/
structure Imaged (b fence sig : Bytes) (hash : Nat → Bytes) : Prop where
  size : b.length = 24704
  head : ∀ {o n : Nat}, o + n ≤ 56 → (b.drop o).take n = (imageHead.drop o).take n
  place : slice b 56 32 = fence
  rest : ∀ {o n : Nat}, 88 ≤ o → o + n ≤ 256 → (b.drop o).take n = (imageRest.drop (o - 88)).take n
  table : sectTable b = (List.range 12).map (sectNo hash)
  bytes : ∀ i < 11, sectBytes b (sectNo hash i) = partNo i
  last : sectBytes b (sectNo hash 11) = sig

theorem imaged {fence sig : Bytes} {hash : Nat → Bytes} (hf : fence.length = 32) (hh : ∀ i, (hash i).length = 32)
    (hg : sig.length = 384) : Imaged (imageFront fence hash ++ sig) fence sig hash :=
  { size := by rw [List.length_append, length_imageFront hf hh, hg]
    head := head_part
    place := fence_part hf
    rest := rest_part hf
    table := sect_table hf hh
    bytes := fun i hi => sect_bytes hf hh hi
    last := by
      refine slice_of (o := 24320) (n := 384) ?_ hg
      rw [part_right _ _ _ (by rw [length_imageFront hf hh]), length_imageFront hf hh]
      simp [← hg] }

section Checks

variable {b fence sig : Bytes} {hash : Nat → Bytes}

theorem Imaged.sectOf (h : Imaged b fence sig hash) {i typ : Nat}
    (hi : ((List.range 12).map (sectNo hash)).find? (fun x => x.typ == typ) = some (sectNo hash i)) :
    Machine.sectOf b typ = sectNo hash i := by
  rw [Machine.sectOf, h.table, hi]; rfl

theorem Imaged.sects (h : Imaged b fence sig hash) : Machine.sectOf b 1 = sectNo hash 0 ∧ Machine.sectOf b 2 = sectNo hash 1 ∧
    Machine.sectOf b 4 = sectNo hash 3 ∧ Machine.sectOf b 7 = sectNo hash 5 ∧
    Machine.sectOf b 8 = sectNo hash 6 ∧ Machine.sectOf b 9 = sectNo hash 7 ∧ Machine.sectOf b 10 = sectNo hash 8 ∧
    Machine.sectOf b 11 = sectNo hash 9 ∧ Machine.sectOf b 12 = sectNo hash 10 ∧ Machine.sectOf b 0xFF = sectNo hash 11 :=
  ⟨h.sectOf rfl, h.sectOf rfl, h.sectOf rfl, h.sectOf rfl, h.sectOf rfl, h.sectOf rfl, h.sectOf rfl, h.sectOf rfl, h.sectOf rfl, h.sectOf rfl⟩

theorem Imaged.headerVerdict (h : Imaged b fence sig hash) : Machine.headerVerdict b = none := by
  unfold Machine.headerVerdict sectCount
  simp only [leAt, anySet, h.size, h.head (o := 0) (n := 4) (by omega), h.head (o := 4) (n := 2) (by omega),
    h.head (o := 6) (n := 2) (by omega), h.head (o := 8) (n := 8) (by omega), h.rest (o := 100) (n := 4) (by omega) (by omega),
    h.rest (o := 120) (n := 136) (by omega) (by omega)]
  decide +kernel

theorem Imaged.tableVerdict (h : Imaged b fence sig hash) : Machine.tableVerdict b false = none := by
  unfold Machine.tableVerdict
  simp only [h.table, h.size]
  simp [firstBad, lowest, sectNo, imageTable, requiredTypes, List.range_succ]

theorem Imaged.hashVerdict (h : Imaged b fence sig hash) (hs : ∀ i < 11, hash i = sha256 (partNo i)) : Machine.hashVerdict b = none := by
  have e : ∀ i < 12, ((sectNo hash i).typ != 0xFF && sha256 (sectBytes b (sectNo hash i)) != (sectNo hash i).hash) = false := by
    intro i hi
    rcases Nat.lt_or_ge i 11 with h1 | h1
    · rw [h.bytes i h1, show (sectNo hash i).hash = hash i from rfl, hs i h1]; simp
    · obtain rfl : i = 11 := by omega
      rfl
  rw [Machine.hashVerdict, h.table, List.find?_eq_none.mpr (by
    intro x hx
    obtain ⟨i, hi, rfl⟩ := List.mem_map.mp hx
    simp [e i (List.mem_range.mp hi)])]
  rfl

/-- Numbers of an entry of REMAP. -/
theorem leAt_remap (l : List Nat) (hl : ∀ x ∈ l, x < 65536) {i : Nat} (hi : i < l.length) : leAt (l.flatMap (natLe 2)) (2 * i) 2 = l[i] := by
  rw [leAt, drop_blocks (m := 2) (fun x => length_natLe 2 x) l i hi, List.take_left' (length_natLe 2 _)]
  have := hl _ (List.getElem_mem hi)
  generalize l[i] = x at this ⊢
  simp [natLe, leNat]
  omega

/-- Every set of CONSTANTS is the default. -/
theorem sets_parse : (List.range 16).map (fun i => setAt constantsPart (128 * i)) = List.replicate 16 {} := by
  have hl : (setBytes {}).length = 128 := by decide +kernel
  have hp : ∀ {i : Nat}, i < 16 → ∀ {k n : Nat}, k + n ≤ 128 → leAt constantsPart (128 * i + k) n = leAt (setBytes {}) k n := by
    intro i hi k n h
    rw [leAt, leAt, constantsPart, ← List.drop_drop, drop_blocks (m := 128) (fun _ => hl) _ _ (by simpa using hi),
      part_left _ (by omega)]
  have hd : setAt (setBytes {}) 0 = {} := by decide +kernel
  rw [List.eq_replicate_iff]
  refine ⟨by simp, fun x hx => ?_⟩
  obtain ⟨i, hi, rfl⟩ := List.mem_map.mp hx
  have hi := List.mem_range.mp hi
  have h0 := hp hi (k := 0) (n := 4) (by omega)
  rw [Nat.add_zero] at h0
  rw [← hd]
  unfold setAt
  simp only [Nat.zero_add, h0, hp hi (k := 4) (n := 4) (by omega), hp hi (k := 8) (n := 4) (by omega),
    hp hi (k := 12) (n := 4) (by omega), hp hi (k := 16) (n := 4) (by omega), hp hi (k := 20) (n := 1) (by omega)]
  congr 1
  · exact List.map_congr_left (fun j hj => by
      rw [Nat.add_assoc, hp hi (by have := List.mem_range.mp hj; omega)])
  · exact List.map_congr_left (fun j hj => by
      rw [Nat.add_assoc, hp hi (by have := List.mem_range.mp hj; omega)])

theorem Imaged.parse (h : Imaged b fence sig hash) : parseImage b = imageParsed := by
  obtain ⟨s1, s2, s4, s7, s8, s9, s10, s11, s12, _⟩ := h.sects
  have b1 := h.bytes 0 (by decide)
  have b2 := h.bytes 1 (by decide)
  have b4 := h.bytes 3 (by decide)
  have b7 := h.bytes 5 (by decide)
  have b8 := h.bytes 6 (by decide)
  have b9 := h.bytes 7 (by decide)
  have b10 := h.bytes 8 (by decide)
  have b11 := h.bytes 9 (by decide)
  have b12 := h.bytes 10 (by decide)
  rw [show partNo 0 = [] by simp [partNo]] at b1
  rw [show partNo 1 = [] by simp [partNo]] at b2
  rw [show partNo 3 = [] by simp [partNo]] at b4
  rw [show partNo 5 = regionsPart by simp [partNo]] at b7
  rw [show partNo 6 = interleavePart by simp [partNo]] at b8
  rw [show partNo 7 = planPart by simp [partNo]] at b9
  rw [show partNo 8 = variantsPart by simp [partNo]] at b10
  rw [show partNo 9 = remapPart by simp [partNo]] at b11
  rw [show partNo 10 = constantsPart by simp [partNo]] at b12
  have c7 : (sectNo hash 7).count = 2 := rfl
  have c8 : (sectNo hash 8).count = 2 := rfl
  have hl : leAt b 100 4 = 1 := by
    rw [leAt, h.rest (by omega) (by omega)]; decide +kernel
  have hseed : slice b 24 32 = zeros 32 := slice_of (by rw [h.head (by omega)]; decide +kernel) (by decide)
  have hlay : layerAt planPart (layerTable (sectNo hash 7) + 2 * 0) = ⟨0, 0, 0⟩ := by
    rw [layerAt, leAt_planPart (by rw [layerTable, c7]; decide)]; rfl
  have hplan : (List.range 2).map (planAt planPart) = [⟨5, 0, 0⟩, ⟨7, 0, 1⟩] := by
    have p : ∀ {o n : Nat}, o + n ≤ 16 → leAt planPart o n = leAt planHead o n := fun {o n} hn => by
      rw [planPart, leAt_append_left _ (by rw [show planHead.length = 16 by decide]; exact hn)]
    simp only [List.range, List.range.loop, List.map, planAt, p (o := 8 * 0) (n := 8) (by omega), p (o := 8 * 1) (n := 8) (by omega)]
    decide +kernel
  have hstat : ((List.range 4096).map (statMapAt planPart (statTable (sectNo hash 7) 1))).filter (·.kind != 0) = [] := by
    rw [List.filter_eq_nil_iff]
    intro x hx
    obtain ⟨i, _, rfl⟩ := List.mem_map.mp hx
    rw [statMapAt, leAt_planPart (by
      have : 16 ≤ statTable (sectNo hash 7) 1 := by rw [statTable, layerTable, c7]; decide
      omega)]
    simp [bits]
  have hwatch : leAt planPart (watchTable (sectNo hash 7) 1) 4 = 0 :=
    leAt_planPart (by rw [watchTable, statTable, layerTable, c7]; decide)
  have hremap : (List.range 1120).map (fun i => leAt remapPart (2 * i) 2) = remapList := by
    have hn : remapList.length = 1120 := by simp [remapList]
    have hlt : ∀ x ∈ remapList, x < 65536 := by
      intro x hx
      obtain ⟨i, hi, rfl⟩ := List.mem_map.mp hx
      have := List.mem_range.mp hi
      omega
    apply List.ext_getElem (by simp [hn])
    intro i h1 h2
    rw [List.getElem_map, List.getElem_range, remapPart, leAt_remap remapList hlt h2]
  have hsets := sets_parse
  unfold parseImage
  simp only [s1, s2, s4, s7, s8, s9, s10, s11, s12, b1, b2, b4, b7, b8, b9, b10, b11, b12, c7, c8, hl, hseed, hplan, hstat, hwatch, hremap, hsets,
    show List.range 1 = [0] from rfl, List.range_zero, List.map_cons, List.map_nil, hlay]
  simp only [headerQuad, beAt, leAt, h.head (o := 16) (n := 8) (by omega), h.rest (o := 88) (n := 4) (by omega) (by omega),
    h.rest (o := 92) (n := 4) (by omega) (by omega), h.rest (o := 96) (n := 4) (by omega) (by omega),
    h.rest (o := 104) (n := 4) (by omega) (by omega), h.rest (o := 108) (n := 8) (by omega) (by omega),
    h.rest (o := 116) (n := 4) (by omega) (by omega)]
  decide +kernel

theorem firstBad_none {n : Nat} {f : Nat → Option Nat} (h : ∀ i < n, f i = none) : firstBad n f = none := by
  rw [firstBad, List.findSome?_eq_none_iff]
  intro i hi
  rw [h i (List.mem_range.mp hi)]; rfl

theorem remap_passes : remapVerdict lonelyFence imageParsed = none := by
  have hr : imageParsed.remap = remapList := by simp only [imageParsed]
  refine firstBad_none (fun i hi => ?_)
  have he : imageParsed.remap.getD i 0 = i / 140 * 144 + i % 140 := by
    rw [hr, remapList, List.getD_eq_getElem _ _ (by simpa using hi), List.getElem_map, List.getElem_range]
  have hc : (imageParsed.remap.take i).contains (i / 140 * 144 + i % 140) = false := by
    rw [← Bool.not_eq_true, List.contains_iff_mem]
    intro hm
    obtain ⟨j, hj, e⟩ := List.mem_take_iff_getElem.mp hm
    have hj' : j < i := by omega
    simp only [hr, remapList, List.getElem_map, List.getElem_range] at e
    omega
  simp only [he, hc]
  have h1 : decide (2048 ≤ i / 140 * 144 + i % 140) = false := by simp; omega
  have h2 : ((i / 140 * 144 + i % 140) / 144 != i / 140) = false := by simp; omega
  rw [h1, h2]
  rfl

theorem plan_passes : planVerdict imageParsed (sectNo hash 7) planPart = none := by
  have hc : (sectNo hash 7).count = 2 := rfl
  have p : ∀ {o n : Nat}, o + n ≤ 16 → leAt planPart o n = leAt planHead o n := fun {o n} hn => by
    rw [planPart, leAt_append_left _ (by rw [show planHead.length = 16 by decide]; exact hn)]
  have hlt : layerTable (sectNo hash 7) = 256 := by rw [layerTable, hc]; rfl
  have hst : statTable (sectNo hash 7) 1 = 512 := by rw [statTable, hlt]; rfl
  unfold planVerdict
  simp only [show imageParsed.plan.length = 2 from rfl, show imageParsed.layers.length = 1 from rfl,
    show imageParsed.watch.length = 0 from rfl, hlt, hst]
  rw [firstBad_none (n := 2) (by
    intro i hi
    rw [p (by omega)]
    have : ∀ j < 2, lowest [
      (leAt planHead (8 * j) 4 != 0 || (imageParsed.plan.getD j default).kind == 0 || 8 < (imageParsed.plan.getD j default).kind, 0x0005),
      (!planOrder ((imageParsed.plan.map (·.kind)).take j) (imageParsed.plan.getD j default).kind, 0x000D),
      ((imageParsed.plan.getD j default).kind == 6 &&
        255 ≤ (((imageParsed.plan.map (·.kind)).take j).filter (· == 6)).length, 0x000D)] = none := by decide +kernel
    exact this i hi)]
  rw [if_neg (by decide)]
  rw [firstBad_none (by
    intro i hi
    by_cases h0 : i < 1
    · obtain rfl : i = 0 := by omega
      rw [if_pos h0, leAt_planPart (by omega)]
      decide
    · rw [if_neg h0, if_pos (by omega)]
      simp only [statMapAt, leAt_planPart (o := 512 + 4 * (i - 1)) (by omega)]
      simp [lowest, bits])]
  rfl

theorem Imaged.sectVerdict (h : Imaged b fence sig hash) {s : State} (hl : s.fence = lonelyFence) (hc : (Config.tableVerdict b).1 = 0)
    {i : Nat} (hi : i < 12) : Machine.sectVerdict s b imageParsed (sectNo hash i) = none := by
  have hz : i = 0 ∨ i = 1 ∨ i = 2 ∨ i = 3 ∨ i = 4 ∨ i = 5 ∨ i = 6 ∨ i = 7 ∨ i = 8 ∨ i = 9 ∨ i = 10 ∨ i = 11 := by omega
  unfold Machine.sectVerdict
  have ho : ∀ x, openVerdict b x = none := fun x => by simp [openVerdict, hc]
  rcases hz with rfl | rfl | rfl | rfl | rfl | rfl | rfl | rfl | rfl | rfl | rfl | rfl
  · rw [ho]; rfl
  · rw [h.bytes 1 (by decide)]; rfl
  · rw [ho, h.bytes 2 (by decide)]; rfl
  · rw [ho, h.bytes 3 (by decide)]; rfl
  · rw [ho, h.bytes 4 (by decide)]; rfl
  · rw [h.bytes 5 (by decide), hl, show partNo 5 = regionsPart by simp [partNo]]
    have h0 : (anySet regionsPart 14 50 || decide (8 < imageParsed.cacheWays) || decide (8 < imageParsed.lastWays)
      || decide (16 < imageParsed.digests.length)) = false := by decide +kernel
    have h1 : firstBad imageParsed.regions.length
        (fun i => regionCode lonelyFence imageParsed (leAt regionsPart (256 + 16 * i) 16) i) = none := by decide +kernel
    have h2 : (!singleRoles.all (fun q => imageParsed.regions.any (·.role == q))
      || !(List.range 8).all (fun d => imageParsed.regions.any (fun r => r.role == 1 && r.stack == d))) = false := by decide +kernel
    have : regionsVerdict lonelyFence b imageParsed regionsPart = none := by
      unfold regionsVerdict
      simp only [h0, h1, h2, Bool.false_eq_true, if_false]
      rfl
    simp only [show (sectNo hash 5).typ = 7 from rfl, this, Option.map_none]
  · rw [h.bytes 6 (by decide), hl, show partNo 6 = interleavePart by simp [partNo]]
    have h1 : tierCode lonelyFence interleavePart 0 0 = none := by decide +kernel
    have h2 : tierCode lonelyFence interleavePart (farBlock interleavePart) 8 = none := by decide +kernel
    simp [sectNo, imageTable, h1, h2]
  · rw [h.bytes 7 (by decide), show partNo 7 = planPart by simp [partNo]]
    have := plan_passes (hash := hash)
    simp only [show (sectNo hash 7).typ = 9 from rfl, this, Option.map_none]
  · rw [h.bytes 8 (by decide), show partNo 8 = variantsPart by simp [partNo]]
    have : variantsVerdict imageParsed variantsPart = none := by decide +kernel
    simp [sectNo, imageTable, this]
  · rw [hl]
    have := remap_passes
    simp only [show (sectNo hash 9).typ = 11 from rfl, this, Option.map_none]
  · rw [h.bytes 10 (by decide), show partNo 10 = constantsPart by simp [partNo]]
    have e : constantsVerdict imageParsed (sectNo hash 10) constantsPart = none := by
      unfold constantsVerdict
      simp only [show (sectNo hash 10).count = 0 from rfl, show (sectNo hash 10).size = 2048 from rfl]
      decide +kernel
    simp only [show (sectNo hash 10).typ = 12 from rfl, e, Option.map_none]
  · simp [sectNo, imageTable]

/-- The checks of R144 on the image, for an owner's key that the signature verifies under. -/
theorem Imaged.verify (h : Imaged b fence sig hash) {s : State} {k : PubKey} (hs : ∀ i < 11, hash i = sha256 (partNo i))
    (hf : fence = fenceSignature s.fence) (hl : s.fence = lonelyFence) (hid : s.fabric.id = 0x0101010100000000) (hm : s.time.master = true)
    (ho : s.sec.owner = some k) (hv : pssVerify k (b.take 24320) sig = true) (hc : (Config.tableVerdict b).1 = 0) :
    verifyImage s false b = none := by
  obtain ⟨s1, s2, s4, s7, s8, s9, s10, s11, s12, sF⟩ := h.sects
  have h1 := h.headerVerdict
  have h2 := h.tableVerdict
  have h3 : signatureVerdict s b = none := by
    rw [signatureVerdict, sF, ho, h.last]
    exact if_pos hv
  have h4 := h.hashVerdict hs
  have h5 : placeVerdict s b = none := by
    rw [placeVerdict, h.place, hf]
    simp only [bne_self_eq_false, coordWord, isMaster, hid, hm, headerQuad, beAt, h.rest (o := 88) (n := 4) (by omega) (by omega),
      h.rest (o := 92) (n := 4) (by omega) (by omega), h.rest (o := 96) (n := 4) (by omega) (by omega)]
    decide +kernel
  have hno : ∀ i < 12, Machine.sectVerdict s b imageParsed (sectNo hash i) = none := fun i hi => h.sectVerdict hl hc hi
  have h6 : (sectTable b).findSome? (Machine.sectVerdict s b imageParsed) = none := by
    rw [h.table, List.findSome?_eq_none_iff]
    intro x hx
    obtain ⟨i, hi, rfl⟩ := List.mem_map.mp hx
    exact hno i (List.mem_range.mp hi)
  have h7 : joinVerdict imageParsed 7 = none := by decide +kernel
  have h8 : retainedVerdict s imageParsed 5 = none := rfl
  unfold verifyImage
  rw [h1, h2, h3, h4, h5]
  simp only [h.parse, h6, s9, s7, Bool.false_eq_true, if_false]
  rw [show (sectNo hash 7).index = 7 from rfl, show (sectNo hash 5).index = 5 from rfl, h7, h8]
  rfl

end Checks

/-- A load of an image runs on a device of the far stack 0 alone, whose owner's key has exponent 1. -/
def loadingWhole (image : Bytes) : State :=
  { loading true with
    fence := lonelyFence
    time := { State.reset.time with master := true }
    image := { State.reset.image with complete := true, store := mwrite [] 0 image, storeLen := 24704 }
    sec := { State.reset.sec with owner := some ⟨256 ^ 384, 1⟩ } }

/-- An image passes every check where the unlaid sections do (log 9). -/
theorem witness_LoadRestoreAndHashEnd_load : ∃ image, let s := loadingWhole image
    s.dev.activity = 1 ∧ s.dev.mode ≠ .banked ∧ ((Config.tableVerdict image).1 = 0 → storeVerdict s = none) := by
  have hf : (fenceSignature lonelyFence).length = 32 := length_sha256 _
  have hh : ∀ i, ((fun i => sha256 (partNo i)) i).length = 32 := fun _ => length_sha256 _
  obtain ⟨fence, hfe⟩ : ∃ x, x = fenceSignature lonelyFence := ⟨_, rfl⟩
  obtain ⟨hash, hha⟩ : ∃ x, x = fun i => sha256 (partNo i) := ⟨_, rfl⟩
  rw [← hfe] at hf
  rw [← hha] at hh
  have hl := length_imageFront hf hh
  have hg := length_pssEncode (imageFront fence hash) (salt := zeros 32) (by decide)
  have hv := pssVerify_pssEncode (imageFront fence hash) (salt := zeros 32) (by decide) (m := 256 ^ 384) (by decide +kernel)
  obtain ⟨sig, hs⟩ : ∃ x, x = pssEncode (imageFront fence hash) (zeros 32) := ⟨_, rfl⟩
  rw [← hs] at hg hv
  have him := imaged (sig := sig) hf hh hg
  rw [← List.take_left' (l₂ := sig) hl] at hv
  generalize imageFront fence hash ++ sig = b at him hv
  refine ⟨b, rfl, (by decide : Mode.idle ≠ .banked), fun hc => ?_⟩
  have hb : storeBytes (loadingWhole b) = b := by
    have := mread_mwrite_nil b
    rwa [him.size] at this
  have := him.verify (s := loadingWhole b) (k := ⟨256 ^ 384, 1⟩) (fun i _ => congrFun hha i) hfe rfl rfl rfl rfl hv hc
  rw [← hb] at this
  rw [storeVerdict, if_pos (show (loadingWhole b).image.complete = true from rfl), show ((loadingWhole b).dev.mode == Mode.banked) = false from rfl]
  rwa [hb] at this ⊢

end Sys2Proof.Tests
end

section
/-! PROOFS. Dictionary writes (00, R7, R8): what each check of a write answers, what an accepted write leaves, and the
entries HOLD_AFTER, SESSION_TIMEOUT and SCRUB_PERIOD. One step of the block (log 1). -/

namespace Sys2Proof.Machine

open Sys2Proof.Claims

/-! Scalar values -/

/-- The value of the low n bytes of x. -/
theorem leNat_natLe : ∀ n x : Nat, leNat (natLe n x) = x % 256 ^ n
  | 0, x => by rw [natLe, leNat, Nat.pow_zero, Nat.mod_one]
  | n + 1, x => by
    rw [natLe, leNat, leNat_natLe n, Nat.pow_succ', Nat.mod_mul, BitVec.toNat_ofNat]

/-- A whole scalar has its number and the entry's shape. -/
theorem putOf_scalar {x : Sub} {n : Nat} (typ : BitVec 8) (hx : isLong x.typ = false) (hn : n < 256 ^ x.size) :
    putOf x ⟨typ, 0, natLe x.size n⟩ = ⟨n, 0, natLe x.size n, true⟩ := by
  simp only [putOf, hx, leNat_natLe, Nat.mod_eq_of_lt hn, length_natLe, Bool.false_eq_true, if_false, beq_self_eq_true,
    Bool.and_self]

/-! The checks that the entries' writes share (R8) -/

/-- A write under a range check alone is accepted where the check holds, and refused with 0x0202 elsewhere. -/
theorem ranged_eq (ok : Bool) (s t : State) : ranged ok s t = if ok = true then (t, 0) else (s, 0x0202) := by
  cases ok <;> rfl

theorem inStates_of_mem {l : List Mode} {s : State} (h : s.dev.mode ∈ l) (ok : Bool) (t : State) :
    inStates l ok s t = ranged ok s t := by
  rw [inStates, List.contains_iff_mem.mpr h]
  rfl

theorem inStates_of_not_mem {l : List Mode} {s : State} (h : s.dev.mode ∉ l) (ok : Bool) (t : State) :
    inStates l ok s t = (s, 0x0301) := by
  have hc : l.contains s.dev.mode = false := by simpa using h
  rw [inStates, hc]
  rfl

/-! The checks before the entry's own, in the order of R8 -/

section Checks

variable {a : Agent} {i sub : Nat} {e : Entry} {x : Sub} (typ : Nat)

theorem writeCheck_noEntry (he : entryOf i = none) : writeCheck a i sub typ = (0x0101, none) := by
  simp only [writeCheck, he]

theorem writeCheck_noSub (he : entryOf i = some e) (hx : subOf i e sub = none) :
    writeCheck a i sub typ = (0x0102, none) := by
  simp only [writeCheck, he, hx]

theorem writeCheck_noSession (he : entryOf i = some e) (hx : subOf i e sub = some x) (ha : mayWrite a = false) :
    writeCheck a i sub typ = (0x0401, none) := by
  simp only [writeCheck, he, hx, ha, Bool.not_false, if_true]

/-- With a session, the access and then the TYPE decide. -/
theorem writeCheck_session (he : entryOf i = some e) (hx : subOf i e sub = some x) (ha : mayWrite a = true) :
    writeCheck a i sub typ =
      if x.acc = .seal then (0x0501, none)
      else if x.acc = .ro then (0x0201, none)
      else if x.typ ≠ typ then (0x0203, some x)
      else (0, some x) := by
  simp only [writeCheck, he, hx, ha, Bool.not_true, Bool.false_eq_true, if_false]

end Checks

/-! A dictionary write -/

section Write

variable {a : Agent} {s : State} {i sub : Nat} {v : DictValue} {e : Entry} {x : Sub} {c : BitVec 16}

/-- A write that a check before the entry's own refuses for good changes nothing. -/
theorem dictWrite_of_refused (h : writeCheck a i sub v.typ.toNat = (c, none)) : dictWrite s a i sub v = (s, c) := by
  simp only [dictWrite, h]

/-- A value of the subentry's TYPE reaches the entry's own write. -/
theorem dictWrite_of_writable (he : entryOf i = some e) (hx : subOf i e sub = some x) (ha : mayWrite a = true)
    (hw : x.acc = .rw ∨ x.acc = .wo) (ht : x.typ = v.typ.toNat) :
    dictWrite s a i sub v = writeSub s a i sub (putOf x v) := by
  have hc : writeCheck a i sub v.typ.toNat = (0, some x) := by
    rw [writeCheck_session _ he hx ha]
    rcases hw with hw | hw <;> simp [hw, ht]
  simp only [dictWrite, hc, if_true]

/-- A value of another TYPE is refused with 0x0203, where the agent and the policy permit the write. -/
theorem dictWrite_of_wrongType (he : entryOf i = some e) (hx : subOf i e sub = some x) (ha : mayWrite a = true)
    (hw : x.acc = .rw ∨ x.acc = .wo) (ht : x.typ ≠ v.typ.toNat) (hd : writeDenied s a i sub (putOf x v) = false) :
    dictWrite s a i sub v = (s, 0x0203) := by
  have hc : writeCheck a i sub v.typ.toNat = (0x0203, some x) := by
    rw [writeCheck_session _ he hx ha]
    rcases hw with hw | hw <;> simp [hw, ht]
  simp only [dictWrite, hc, hd, Bool.false_eq_true, if_false]
  rfl

end Write

/-! The entries' own writes -/

theorem writeSub_holdAfter {s : State} (a : Agent) {w : Put} (hm : s.dev.mode ∈ [Mode.loaded, .armed, .running, .held])
    (hw : w.fit = true) :
    writeSub s a 0x2000 6 w = ({ s with dev := { s.dev with holdAfter := BitVec.ofNat 64 w.num } }, 0) := by
  have he : writeSub s a 0x2000 6 w = writeHoldAfter s w := if_neg (fun h => absurd h.2 (by decide))
  rw [he, writeHoldAfter, inStates_of_mem hm, ranged_eq, if_pos hw]

theorem writeSub_sessionTimeout (s : State) (a : Agent) (w : Put) :
    writeSub s a 0x1110 1 w = ranged (w.fit && decide (5 ≤ w.num) && decide (w.num ≤ 3600)) s
      { s with port := { s.port with sessionTimeout := BitVec.ofNat 32 w.num } } :=
  if_neg (fun h => absurd h.2 (by decide))

/-- Outside STANDBY and IDLE the write of SCRUB_PERIOD is refused, in BANKED too, where the memories have no power. -/
theorem writeSub_scrubPeriod_of_not_mem {s : State} (a : Agent) (w : Put) (hm : s.dev.mode ∉ [Mode.standby, .idle]) :
    writeSub s a 0x4800 2 w = (s, 0x0301) := by
  by_cases hb : s.dev.mode = .banked
  · exact if_pos ⟨hb, by decide⟩
  · have he : writeSub s a 0x4800 2 w = writeMemory s 2 w := if_neg (fun h => hb h.1)
    rw [he, writeMemory, inStates_of_not_mem hm]

/-- No write of SESSION_TIMEOUT is denied to an agent that may write. -/
theorem writeDenied_sessionTimeout (s : State) (a : Agent) (w : Put) : writeDenied s a 0x1110 1 w = false := by
  rw [writeDenied, writeSub_sessionTimeout, ranged_eq]
  split <;> rfl

/-! The command DICTIONARY_WRITE -/

/-- An agent that is heard gets the code of its write. -/
theorem exec_dictionaryWrite {a : Agent} {s t : State} {i : BitVec 16} {sub : BitVec 8} {v : DictValue} {c : BitVec 16}
    (ha : isHeard s a = true) (h : dictWrite s a i.toNat sub.toNat v = (t, c)) :
    exec (.dictionaryWrite a i sub v) s = .next (coded t c) := by
  have he : exec (.dictionaryWrite a i sub v) s = access a (fun s => dictWrite s a i.toNat sub.toNat v) s := rfl
  rw [he, access, if_pos ha, h]
  rfl

/-- A heard agent's write that a check before the entry's own refuses changes the answered code alone. -/
theorem exec_dictionaryWrite_of_refused {a : Agent} {s : State} {i : BitVec 16} {sub : BitVec 8} {v : DictValue}
    {c : BitVec 16} (ha : isHeard s a = true) (h : writeCheck a i.toNat sub.toNat v.typ.toNat = (c, none)) :
    exec (.dictionaryWrite a i sub v) s = .next (coded s c) :=
  exec_dictionaryWrite ha (dictWrite_of_refused h)

section Commands

variable {a : Agent} {s : State} (ha : isHeard s a = true) (hw : mayWrite a = true)

include ha hw

/-- A heard agent that may write gets, for a whole scalar of the subentry's TYPE, the code of the entry's own write. -/
theorem exec_dictionaryWrite_scalar {i : BitVec 16} {sub typ : BitVec 8} {e : Entry} {x : Sub} {n : Nat} {t : State}
    {c : BitVec 16} (he : entryOf i.toNat = some e) (hx : subOf i.toNat e sub.toNat = some x)
    (hacc : x.acc = .rw ∨ x.acc = .wo) (htyp : x.typ = typ.toNat) (hlong : isLong x.typ = false) (hn : n < 256 ^ x.size)
    (h : writeSub s a i.toNat sub.toNat ⟨n, 0, natLe x.size n, true⟩ = (t, c)) :
    exec (.dictionaryWrite a i sub ⟨typ, 0, natLe x.size n⟩) s = .next (coded t c) := by
  refine exec_dictionaryWrite ha ?_
  rw [dictWrite_of_writable he hx hw hacc htyp, putOf_scalar typ hlong hn, h]

/-- HOLD_AFTER takes every U64 (13, R271). -/
theorem exec_write_holdAfter {n : Nat} (hm : s.dev.mode ∈ [Mode.loaded, .armed, .running, .held]) (hn : n < 2 ^ 64) :
    exec (.dictionaryWrite a 0x2000 6 ⟨5, 0, natLe 8 n⟩) s =
      .next (coded { s with dev := { s.dev with holdAfter := BitVec.ofNat 64 n } } 0) :=
  exec_dictionaryWrite_scalar ha hw (x := u64 .rw) rfl rfl (.inl rfl) rfl rfl hn (writeSub_holdAfter a hm rfl)

/-- SESSION_TIMEOUT takes the values from 5 to 3,600 (16, R332). -/
theorem exec_write_sessionTimeout {n : Nat} (hn : n < 2 ^ 32) :
    exec (.dictionaryWrite a 0x1110 1 ⟨4, 0, natLe 4 n⟩) s = .next (
      if 5 ≤ n ∧ n ≤ 3600 then coded { s with port := { s.port with sessionTimeout := BitVec.ofNat 32 n } } 0
      else coded s 0x0202) := by
  have hx {t : State} {c : BitVec 16} := exec_dictionaryWrite_scalar ha hw (i := 0x1110) (sub := 1) (typ := 4)
    (x := u32 .rw) (t := t) (c := c) rfl rfl (.inl rfl) rfl rfl hn
  have hr := writeSub_sessionTimeout s a ⟨n, 0, natLe 4 n, true⟩
  split
  case isTrue h => exact hx (hr.trans (by simp [ranged_eq, h]))
  case isFalse h => exact hx (hr.trans (by simpa [ranged_eq] using h))

/-- SESSION_TIMEOUT takes a U32 alone. -/
theorem exec_write_sessionTimeout_of_wrongType {typ : BitVec 8} (bs : Bytes) (ht : typ ≠ 4) :
    exec (.dictionaryWrite a 0x1110 1 ⟨typ, 0, bs⟩) s = .next (coded s 0x0203) :=
  exec_dictionaryWrite ha (dictWrite_of_wrongType (i := 0x1110) (sub := 1) (x := u32 .rw) rfl rfl hw (.inl rfl)
    (fun h => ht (BitVec.eq_of_toNat_eq h.symm)) (writeDenied_sessionTimeout s a _))

/-- SCRUB_PERIOD is written in STANDBY and IDLE (12, R249). -/
theorem exec_write_scrubPeriod_of_not_mem (hm : s.dev.mode ∉ [Mode.standby, .idle]) (n : Nat) :
    exec (.dictionaryWrite a 0x4800 2 ⟨4, 0, natLe 4 n⟩) s = .next (coded s 0x0301) :=
  exec_dictionaryWrite ha ((dictWrite_of_writable (i := 0x4800) (sub := 2) (x := u32 .rw) rfl rfl hw (.inl rfl) rfl).trans
    (writeSub_scrubPeriod_of_not_mem a _ hm))

end Commands

/-- Settles O25: each refusal is that of the first check of R8 that fails; an accepted write is the entry's own. -/
theorem dictionaryWriteChecksInOrder : Obligations.DictionaryWriteChecksInOrder := by
  unfold Obligations.DictionaryWriteChecksInOrder
  intro a s ha
  refine ⟨fun i sub v => ⟨fun he => ?_, fun e he hx => ?_, fun e x he hx => ⟨fun hw => ?_, fun hw hs => ?_, fun hw hr => ?_⟩⟩,
    fun hw => ⟨fun hm n => exec_write_holdAfter ha hw hm, fun n => exec_write_sessionTimeout ha hw,
      fun typ bs => exec_write_sessionTimeout_of_wrongType ha hw bs, fun hm n => ?_⟩⟩
  · exact exec_dictionaryWrite_of_refused ha (writeCheck_noEntry _ he)
  · exact exec_dictionaryWrite_of_refused ha (writeCheck_noSub _ he hx)
  · exact exec_dictionaryWrite_of_refused ha (writeCheck_noSession _ he hx hw)
  · exact exec_dictionaryWrite_of_refused ha ((writeCheck_session _ he hx hw).trans (if_pos hs))
  · exact exec_dictionaryWrite_of_refused ha ((writeCheck_session _ he hx hw).trans (by simp [hr]))
  · exact exec_write_scrubPeriod_of_not_mem ha hw (fun h => hm (List.mem_append_left [Mode.banked] h)) n

/-! One step -/

/-- A waiting command is run with the queue's rest. -/
theorem step_of_cons (c : Instr) (rest : List Instr) (s : State) :
    step { s with pending := c :: rest } = exec c { s with pending := rest } := rfl

/-- An empty queue lets one nanosecond pass. -/
theorem step_of_nil {s : State} (h : s.pending = []) : step s = .next (idle s) := by
  rw [step, h]

/-- Settles O1: the two cases of the queue. -/
theorem stepRunsFrontCommand : Obligations.StepRunsFrontCommand :=
  ⟨step_of_cons, fun _ h => step_of_nil h⟩

end Sys2Proof.Machine
end

section
/-! How every command ends: with a next state, or with the one fault, of an op or a flue transfer whose bytes do not lie in the
scratchpad. -/

namespace Sys2Proof.Machine

open Sys2Proof.Claims

/-! Outcomes -/

/-- The command has a next state. -/
def Completes (r : Host.Outcome State Fault Refusal) : Prop := ∃ t, r = .next t

/-- The command has a next state, or its bytes do not lie in the scratchpad. -/
def CompletesOrStops (r : Host.Outcome State Fault Refusal) : Prop := Completes r ∨ r = .fault .scratchpadRange

/-- A unit that skips the command leaves s as it is; one that runs it completes or stops. -/
structure Guarded (skip : Bool) (s : State) (r : Host.Outcome State Fault Refusal) : Prop where
  skipped : skip = true → r = .next s
  ends : CompletesOrStops r

section Branches

variable {p : Prop} {_ : Decidable p} {b skip : Bool} {s t : State} {r r' : Host.Outcome State Fault Refusal}

theorem Completes.next : Completes (.next t) := ⟨t, rfl⟩

theorem Completes.ite (h : Completes r) (h' : Completes r') : Completes (if p then r else r') := by
  split
  · exact h
  · exact h'

theorem Completes.of_pos (hp : p) (h : Completes r) : Completes (if p then r else r') := by
  rwa [if_pos hp]

theorem CompletesOrStops.next : CompletesOrStops (.next t) := .inl .next

theorem CompletesOrStops.stop : CompletesOrStops (.fault .scratchpadRange) := .inr rfl

theorem CompletesOrStops.ite (h : CompletesOrStops r) (h' : CompletesOrStops r') :
    CompletesOrStops (if p then r else r') := by
  split
  · exact h
  · exact h'

/-- The shape of the meanings of the data path: what skips the command comes first. -/
theorem Guarded.skip_first (hb : skip = true → b = true) (h : CompletesOrStops r) :
    Guarded skip s (if b = true then .next s else r) :=
  ⟨fun hs => if_pos (hb hs), .ite .next h⟩

/-- A check before a command that lets every skipped one pass either runs it or stops one that is not skipped. -/
theorem checked_cases {x : Bool} : (if (skip || x) = true then r else .fault .scratchpadRange) = r ∨
    (skip = false ∧ (if (skip || x) = true then r else .fault .scratchpadRange) = .fault .scratchpadRange) := by
  by_cases h : (skip || x) = true
  · exact .inl (if_pos h)
  · have hx : skip = false ∧ x = false := by simpa using h
    exact .inr ⟨hx.1, if_neg h⟩

/-- A command that stops is not skipped. -/
theorem Guarded.completes_or_stops (h : Guarded skip s r) :
    (∃ t, r = .next t) ∨ (r = .fault .scratchpadRange ∧ skip = false) := by
  refine h.ends.imp_right fun hr => ⟨hr, ?_⟩
  cases hs : skip with
  | false => rfl
  | true => exact nomatch hr.symm.trans (h.skipped hs)

end Branches

/-! The data path -/

section DataPath

variable {s : State} {c : OpCmd} {code n : Nat}

theorem vecOp_guarded {f : VElem → Nat} : Guarded (opSkipped s code c) s (vecOp code n f c s) :=
  .skip_first id (.ite .next .stop)

theorem vecOp_of_not_fits {f : VElem → Nat} (hs : opSkipped s code c = false) (hf : vecFits c n = false) :
    vecOp code n f c s = .fault .scratchpadRange := by
  simp [vecOp, hs, hf]

theorem rowReduce_guarded {skips : Bool} {f : List BElem → Bytes} :
    Guarded (opSkipped s code c) s (rowReduce code n skips f c s) :=
  .skip_first (by simp +contextual) (.ite .next .stop)

theorem sumReduce_guarded {leaf : Val → Val} : Guarded (opSkipped s code c) s (sumReduce code leaf c s) :=
  .skip_first (by simp +contextual) (.ite .next .stop)

theorem updOp_guarded {r : Rule} : Guarded (opSkipped s code c) s (updOp code r c s) :=
  .skip_first id (.ite .next .stop)

/-- BSUMSQ is a sum that notes its nodes where it runs. -/
theorem execBsumsq_guarded : Guarded (opSkipped s 0x45 c) s (execBsumsq c s) := by
  have hg : Guarded (opSkipped s 0x45 c) s (sumReduce 0x45 squareLeaf c s) := sumReduce_guarded
  refine ⟨fun hs => ?_, ?_⟩
  · simp [execBsumsq, hg.skipped hs, hs]
  · rcases hg.ends with ⟨t, ht⟩ | hf
    · rw [execBsumsq, ht]
      exact .next
    · rw [execBsumsq, hf]
      exact .stop

/-- An element op without a check of its own. -/
theorem exists_exec_eq_vecOp : ∀ p ∈ simpleOps ++ functionOps, ∀ (c : OpCmd) (s : State),
    ∃ f, exec (p.1 c) s = vecOp p.2.1 p.2.2.1 f c s := by
  simp only [simpleOps, functionOps, List.cons_append, List.nil_append, List.forall_mem_cons, List.not_mem_nil,
    false_implies, implies_true, and_true]
  and_intros
  all_goals exact fun c s => ⟨_, rfl⟩

/-- Every element op runs alike, but that VSEL and VINITN first check the mask plane and the table that they read. -/
theorem exec_vectorOp_cases : ∀ p ∈ vectorOps, ∀ (c : OpCmd) (s : State),
    (∃ f, exec (p.1 c) s = vecOp p.2.1 p.2.2.1 f c s) ∨
      (opSkipped s p.2.1 c = false ∧ exec (p.1 c) s = .fault .scratchpadRange) := by
  rw [vectorOps, List.forall_mem_append]
  refine ⟨fun p hp c s => .inl (exists_exec_eq_vecOp p hp c s), ?_⟩
  simp only [drawnOps, List.forall_mem_cons, List.not_mem_nil, false_implies, implies_true, and_true]
  refine ⟨fun c s => ?vsel, fun c s => .inl ⟨_, rfl⟩, fun c s => .inl ⟨_, rfl⟩, fun c s => ?vinitn⟩
  case vsel => exact checked_cases.imp_left fun h => ⟨_, h⟩
  case vinitn => exact checked_cases.imp_left fun h => ⟨_, h⟩

theorem vectorOp_guarded {p} (hp : p ∈ vectorOps) : Guarded (opSkipped s p.2.1 c) s (exec (p.1 c) s) := by
  rcases exec_vectorOp_cases p hp c s with ⟨f, hf⟩ | ⟨hs, hr⟩
  · rw [hf]
    exact vecOp_guarded
  · rw [hr, hs]
    exact ⟨nofun, .stop⟩

theorem vectorOp_of_not_fits {p} (hp : p ∈ vectorOps) (hs : opSkipped s p.2.1 c = false) (hf : vecFits c p.2.2.1 = false) :
    exec (p.1 c) s = .fault .scratchpadRange := by
  rcases exec_vectorOp_cases p hp c s with ⟨f, hr⟩ | ⟨-, hr⟩
  · rw [hr, vecOp_of_not_fits hs hf]
  · exact hr

/-- Every op of the data path has no effect where it is skipped, and else completes or stops. -/
theorem dataOp_guarded : ∀ p ∈ dataOps, ∀ (c : OpCmd) (s : State), Guarded (opSkipped s p.2 c) s (exec (p.1 c) s) := by
  simp only [dataOps, List.forall_mem_append, List.forall_mem_map]
  refine ⟨⟨fun p hp c s => vectorOp_guarded hp, ?bellows⟩, ?other⟩
  case bellows =>
    simp only [bellowsOps, List.forall_mem_cons, List.not_mem_nil, false_implies, implies_true, and_true]
    and_intros
    all_goals exact fun c s => rowReduce_guarded
  case other =>
    simp only [otherOps, List.forall_mem_cons, List.not_mem_nil, false_implies, implies_true, and_true]
    refine ⟨fun c s => ?matmul, fun c s => ?convert, fun c s => ?vcmp, fun c s => ?vrand, fun c s => ?vcsum,
      fun c s => ?softmax, fun c s => ?sample, fun c s => updOp_guarded, fun c s => updOp_guarded, fun c s => updOp_guarded,
      fun c s => sumReduce_guarded, fun c s => execBsumsq_guarded, fun c s => ?bprefix, fun c s => ?bnode,
      fun c s => ?bmerge⟩
    case convert => exact .skip_first id (.ite .next (.ite .next (.ite .next .stop)))
    case bprefix => exact .skip_first (by simp +contextual) (.ite .next .stop)
    all_goals exact .skip_first id (.ite .next .stop)

/-- An op is skipped on a hearth that takes no part, and where its record is not one of the op. -/
theorem opSkipped_of_stopped (h : isFenced s c.hearth.val = true ∨ isMapped s c.hearth.val = false ∨
    isGated s c.hearth.val = true ∨ s.seq.stopped = true ∨ updateSkips s = true ∨ opCode c ≠ code) :
    opSkipped s code c = true := by
  rcases h with h | h | h | h | h | h <;>
    simp [opSkipped, opStopped, opRefused, hearthStopped, scheduleStopped, h]

/-! Ops whose streams fit -/

theorem exec_matmul_of_fits (hf : matmulFits s c = true) : Completes (exec (.matmul c) s) :=
  .ite .next (.of_pos hf .next)

theorem exec_convert_of_fits (hf : convertFits s c = true) : Completes (exec (.convert c) s) :=
  .ite .next (.ite .next (.ite .next (.of_pos hf .next)))

theorem exec_softmax_of_fits (hf : softmaxFits c = true) : Completes (exec (.softmax c) s) :=
  .ite .next (.of_pos hf .next)

theorem exec_sample_of_fits (hf : sampleFits c = true) : Completes (exec (.sample c) s) :=
  .ite .next (.of_pos hf .next)

/-! Flue transfers -/

theorem flueTransfer_guarded {h : Fin 1152} {e : BitVec 256} :
    Guarded (flSkipped s h.val e) s (exec (.flueTransfer h e) s) :=
  .skip_first id (.ite (.ite .next .next) .stop)

theorem flueAtomic_guarded {h : Fin 1152} {e : BitVec 256} :
    Guarded (flSkipped s h.val e) s (exec (.flueAtomic h e) s) :=
  .skip_first (by simp +contextual) (.ite .next .stop)

end DataPath

/-! The other commands -/

section Control

variable {s : State}

theorem execPwrcapAssert_completes {width : Nat} : Completes (execPwrcapAssert width s) := .ite .next .next

theorem execPwrcapRelease_completes : Completes (execPwrcapRelease s) := .next

theorem execDamperEvaluation_completes {d : Damper} : Completes (execDamperEvaluation d s) :=
  .ite .next (.ite .next .next)

theorem execRefreshNormal_completes {stack : Fin 16} : Completes (execRefreshNormal stack s) := .ite .next .next

theorem execJobStart_completes {m : Metering} : Completes (execJobStart m s) := by
  unfold execJobStart
  split
  · exact .ite .next (.ite .next .next)
  · exact .next

theorem execJobEnd_completes {m : Metering} : Completes (execJobEnd m s) := by
  unfold execJobEnd
  split
  · exact .ite .next (.ite .next .next)
  · exact .next

theorem execRecordReady_completes : Completes (execRecordReady s) := by
  unfold execRecordReady
  split
  · exact .ite .next (.ite .next .next)
  · exact .next

theorem execAssayRestartDone_completes : Completes (execAssayRestartDone s) := by
  unfold execAssayRestartDone
  split
  · exact .ite .next .next
  · exact .next

theorem execFaultOccurrence_completes : ∀ {o : Option Occ}, Completes (execFaultOccurrence o s)
  | some _ => .ite .next .next
  | none => by
    unfold execFaultOccurrence
    cases h : s.faults.detected with
    | nil => exact .next
    | cons d l => exact .next

theorem execForcedOccurrence_completes : Completes (execForcedOccurrence s) := by
  unfold execForcedOccurrence
  refine .ite .next ?_
  split
  · dsimp only
    split
    · exact .next
    · exact .next
  · exact .next

theorem execSlotMiss_completes {m : MissUnit} : Completes (execSlotMiss m s) := by
  refine .ite .next ?_
  cases m with
  | hearth | flue | cell | spine => exact .next

theorem execFallbackDecision_completes {t : Option Totals} : Completes (execFallbackDecision t s) := by
  refine .ite ?_ .next
  dsimp only
  split
  · exact .next
  · exact .next

theorem execChannelRetrainDone_completes {stack : Fin 16} {r : ChannelReport} :
    Completes (execChannelRetrainDone stack r s) := by
  refine .ite .next (.ite (.ite .next .next) ?_)
  split
  · exact .ite .next (.ite .next .next)
  · exact .next
  · exact .next

theorem execHashDone_completes {r : Fin 16} : Completes (execHashDone r s) := by
  refine .ite ?_ .next
  split
  · exact .next
  · exact .next

theorem execRailGoodRise_completes : ∀ {g : RailGroup}, Completes (execRailGoodRise g s)
  | .a => .ite .next (.ite .next .next)
  | .b => .ite .next (.ite .next .next)

theorem execRestoreDone_completes : Completes (execRestoreDone s) := by
  unfold execRestoreDone
  split
  · exact .ite .next .next
  · exact .next

theorem execLoadDone_completes : Completes (execLoadDone s) := by
  refine .ite .next ?_
  split
  · exact .next
  · exact .ite .next .next

theorem execAckDelayExpiry_completes {channel : BitVec 16} {window : Nat} :
    Completes (execAckDelayExpiry channel window s) := by
  unfold execAckDelayExpiry
  split
  · exact .ite .next .next
  · exact .next

theorem execRetxTimeout_completes {channel : BitVec 16} {window : Nat} :
    Completes (execRetxTimeout channel window s) := by
  unfold execRetxTimeout
  split
  · exact .ite .next (.ite .next .next)
  · exact .next

end Control

/-- Which commands may stop: the ops of the data path and the flue transfers. -/
def MayStop (c : Instr) : Prop := (∃ p ∈ dataOps, ∃ o, c = p.1 o) ∨ ∃ h e, c = .flueTransfer h e ∨ c = .flueAtomic h e

theorem dataOp_mayStop : ∀ p ∈ dataOps, ∀ o, MayStop (p.1 o) := fun p hp o => .inl ⟨p, hp, o, rfl⟩

/-- Every other command completes. The cases are grouped by the branches of their meanings. -/
theorem exec_completes_of_not_mayStop {c : Instr} (hc : ¬MayStop c) (s : State) : Completes (exec c s) := by
  have hdata := dataOp_mayStop
  simp only [dataOps, vectorOps, simpleOps, functionOps, drawnOps, bellowsOps, otherOps, List.forall_mem_append,
    List.forall_mem_map, List.forall_mem_cons] at hdata
  cases c with
  -- one branch: the messages, the frames, the mailboxes and what is not checked
  | readEntry | writeEntry | readBlock | writeBlock | sessionNonce | sessionOpen | sessionClose | bulkOpen | bulkData
  | bulkAck | bulkClose | nonceExpiry | arpRequest | neighborSolicitation | icmpEchoRequest | mailLock | mailRelease
  | mailGo | mailboxWithdraw | mailTaken | mailDone | mailRejected | pfcPauseExpiry | assayUpdateRequest
  | rateAnnounce | startTimeCell | replayStart | chunkRestoreDone => exact .next
  -- two branches: the commands and writes of an agent and of the monitor, which are heard or not
  | powerUp | powerDown | load | restoreContext | exportContext | arm | hold | resume | jobReset | hearthReset
  | unfenceHearth | bank | warmReset | coldReset | dictionaryWrite | taiSet | startTimeWrite | fabricIdWrite | fenceLink
  | retrainLink | forceDownLink | statReadSelect | faultLogSelect | clearLog | sourceSelect | forceFault | errHeldRelease
  | rotateRequest | verifyRetained | wrappedJobKey | attestNonce
  | monRd | monWr | monMbLock | monMbSend | monMbShow | monMbStatus | monMbFree | monLog | monReset | monBaud =>
    exact .ite .next .next
  -- two branches: the events and cells with one check
  | sessionTimeout | pfcRepeat | pfcResume | portLinkChange | quoteDone | selftestDone | powerOn | rstNLow
  | bootEnd | railGoodFall | railGoodTimeout | thermalTrip | timePpsEdge | ppsTimeout | vassayReturn
  | vassayLoss | assayCheckpoint | workCountDelivery | mgmtWatchdogExpiry | mgmtRestartDone | heartbeatTimeout
  | errPulseEnd | frameBoundary | nextSeedDelivery | clipFactor | linkPeriod | haltPosition
  | supplyRemoval | dataCell | idleCell | timeCode | lockAcquired | fecAlarm | trainingRetryTimer | rotateIntervalExpiry
  | rotationStart | rotationSwitch => exact .ite .next .next
  -- three branches and more, in the order of their checks
  | monPeek | zeroisationDone | slotBoundary | rstNRise | spineCombination | ptpSourceLoss | retryCell
  | rateRequest | trainingPhaseTimeout => exact .ite .next (.ite .next .next)
  | ptpMessage | pfcFrame | mailEcho | assayFirmwareInstall | retryRequest | linkDown | linkUp
  | trainingPhaseDone | linkLost => exact .ite .next (.ite .next (.ite .next .next))
  | startTimeReached | haltCell | commitToken | commitCell => exact .ite .next (.ite .next (.ite .next (.ite .next .next)))
  | pwrcapAssert => exact execPwrcapAssert_completes
  | pwrcapRelease => exact execPwrcapRelease_completes
  | damperEvaluation => exact execDamperEvaluation_completes
  | refreshNormal => exact execRefreshNormal_completes
  -- a case of what the state or the report holds
  | jobStart => exact execJobStart_completes
  | jobEnd => exact execJobEnd_completes
  | recordReady => exact execRecordReady_completes
  | assayRestartDone => exact execAssayRestartDone_completes
  | faultOccurrence => exact execFaultOccurrence_completes
  | forcedOccurrence => exact execForcedOccurrence_completes
  | slotMiss => exact execSlotMiss_completes
  | fallbackDecision => exact execFallbackDecision_completes
  | channelRetrainDone => exact execChannelRetrainDone_completes
  | hashDone => exact execHashDone_completes
  | railGoodRise => exact execRailGoodRise_completes
  | restoreDone => exact execRestoreDone_completes
  | loadDone => exact execLoadDone_completes
  | ackDelayExpiry => exact execAckDelayExpiry_completes
  | retxTimeout => exact execRetxTimeout_completes
  -- the commands that may stop
  | flueTransfer h e => exact absurd (.inr ⟨h, e, .inl rfl⟩) hc
  | flueAtomic h e => exact absurd (.inr ⟨h, e, .inr rfl⟩) hc
  | _ => exact absurd (by simp only [hdata]) hc

/-! Every command -/

/-- Settles O57: the guards of the data path and of the flues, and every other command completes. -/
theorem onlyScratchpadRangeStops : Obligations.OnlyScratchpadRangeStops := by
  unfold Obligations.OnlyScratchpadRangeStops
  refine ⟨fun c s => ?_, fun p hp o s => ?_, fun h e s hs => ?_, fun p hp o s => ?_, fun o s => ?_, fun s => ?_⟩
  · by_cases hc : MayStop c
    · rcases hc with ⟨p, hp, o, rfl⟩ | ⟨h, e, rfl | rfl⟩
      · exact (dataOp_guarded p hp o s).completes_or_stops.imp_right
          fun ⟨hr, hs⟩ => ⟨hr, .inl ⟨p, hp, o, rfl, hs⟩⟩
      · exact flueTransfer_guarded.completes_or_stops.imp_right fun ⟨hr, hs⟩ => ⟨hr, .inr ⟨h, e, .inl rfl, hs⟩⟩
      · exact flueAtomic_guarded.completes_or_stops.imp_right fun ⟨hr, hs⟩ => ⟨hr, .inr ⟨h, e, .inr rfl, hs⟩⟩
    · exact .inl (exec_completes_of_not_mayStop hc s)
  · have hskip := (dataOp_guarded p hp o s).skipped
    exact ⟨hskip, fun h => hskip (opSkipped_of_stopped h)⟩
  · exact ⟨flueTransfer_guarded.skipped hs, flueAtomic_guarded.skipped hs⟩
  · exact vectorOp_of_not_fits hp
  · exact ⟨exec_matmul_of_fits, exec_convert_of_fits, exec_softmax_of_fits, exec_sample_of_fits⟩
  · exact ⟨fun w => execPwrcapAssert_completes, execPwrcapRelease_completes, fun d => execDamperEvaluation_completes,
      fun k => execRefreshNormal_completes⟩

end Sys2Proof.Machine
end

section
/-! Streams in the scratchpad: what an op reads from a memory and finds there after a write. -/

namespace Sys2Proof.Machine

open Sys2Proof.Claims

/-! Bytes of a memory -/

section Bytes

variable {m : List Host.Cell} {a b n o : Nat} {bs : Bytes}

/-- Reading n bytes, as the list of the bytes read. -/
theorem mread_eq (h : memWf m = true) (a n : Nat) : mread m a n = (List.range n).map fun i => mget m (a + i) := by
  refine List.ext_getElem (by simp [mread_length]) fun i hi _ => ?_
  rw [mread_length] at hi
  rw [List.getElem_map, List.getElem_range, ← mread_get h hi, List.getD_eq_getElem]

theorem mread_add (h : memWf m = true) (a n k : Nat) : mread m a (n + k) = mread m a n ++ mread m (a + n) k := by
  simp [mread_eq h, List.range_add, Function.comp_def, Nat.add_assoc]

/-- A part of what was written reads back. -/
theorem mread_mwrite_part (h : memWf m = true) (hn : o + n ≤ bs.length) :
    mread (mwrite m a bs) (a + o) n = (bs.drop o).take n := by
  refine List.ext_getElem (by simp [mread_length]; omega) fun i hi _ => ?_
  rw [mread_length] at hi
  simp only [mread_eq (mwrite_wf h), List.getElem_map, List.getElem_range, List.getElem_take, List.getElem_drop]
  rw [mget_mwrite h, if_pos (by omega), Nat.add_assoc, Nat.add_sub_cancel_left, List.getD_eq_getElem]

theorem mread_mwrite_same (h : memWf m = true) : mread (mwrite m a bs) a bs.length = bs := by
  simpa using mread_mwrite_part (a := a) (o := 0) h (Nat.zero_add bs.length).le

/-- Bytes outside what was written read as before. -/
theorem mread_mwrite_of_apart (h : memWf m = true) (ha : b + n ≤ a ∨ a + bs.length ≤ b) :
    mread (mwrite m a bs) b n = mread m b n := by
  rw [mread_eq (mwrite_wf h), mread_eq h]
  refine List.map_congr_left fun i hi => ?_
  rw [List.mem_range] at hi
  rw [mget_mwrite h, if_neg (by omega)]

end Bytes

/-! Lists cut into rows -/

section Rows

variable {α : Type} {w : Nat}

/-- Fuel beyond the length of the list cuts no further row. -/
theorem rowsAux_fuel (hw : 0 < w) : ∀ {f g : Nat} {l : List α}, l.length ≤ f → l.length ≤ g → rowsAux w f l = rowsAux w g l
  | f, g, [], _, _ => by cases f <;> cases g <;> rfl
  | f + 1, g + 1, x :: l, hf, hg => by
    have hd : ((x :: l).drop w).length ≤ l.length := by simp; omega
    rw [rowsAux, rowsAux, rowsAux_fuel hw (hd.trans (Nat.le_of_succ_le_succ hf)) (hd.trans (Nat.le_of_succ_le_succ hg))]

/-- A list that is not empty is cut into its first row and the rows of the rest. -/
theorem rowsAux_of_ne_nil (hw : 0 < w) {l : List α} (hl : l ≠ []) :
    rowsAux w l.length l = l.take w :: rowsAux w (l.drop w).length (l.drop w) := by
  obtain ⟨x, t, rfl⟩ := List.exists_cons_of_ne_nil hl
  rw [List.length_cons, rowsAux, rowsAux_fuel hw (by simp; omega) le_rfl]
  rfl

theorem piecesAux_eq_rowsAux : ∀ (f : Nat) (bs : Bytes), piecesAux w f bs = rowsAux w f bs
  | 0, _ => rfl
  | f + 1, bs => by rw [piecesAux, rowsAux, piecesAux_eq_rowsAux f]

end Rows

/-! Codes of a stream -/

section Codes

variable {w : Nat}

/-- The codes of bytes that begin with a whole code. -/
theorem codesOf_append (hw : 0 < w) {x : Bytes} (hx : x.length = w) (y : Bytes) :
    codesOf w (x ++ y) = leNat x :: codesOf w y := by
  have hne : x ++ y ≠ [] := List.append_ne_nil_of_left_ne_nil (List.ne_nil_of_length_pos (hx ▸ hw)) y
  rw [codesOf, codesOf, pieces, pieces, piecesAux_eq_rowsAux, piecesAux_eq_rowsAux, rowsAux_of_ne_nil hw hne,
    List.map_cons, List.take_left' hx, List.drop_left' hx]

/-- Codes written as bytes of w each are read back modulo the width. -/
theorem codesOf_codeBytes (hw : 0 < w) : ∀ l : List Nat, codesOf w (codeBytes w l) = l.map (· % 256 ^ w)
  | [] => rfl
  | x :: l => by
    rw [codeBytes, List.flatMap_cons, codesOf_append hw (length_natLe w x), leNat_natLe, List.map_cons,
      ← codesOf_codeBytes hw l, codeBytes]

@[simp] theorem length_codeBytes (w : Nat) (l : List Nat) : (codeBytes w l).length = w * l.length := by
  induction l with
  | nil => rfl
  | cons x l ih =>
    rw [codeBytes, List.flatMap_cons, List.length_append, length_natLe, ← codeBytes, ih, List.length_cons, Nat.mul_succ,
      Nat.add_comm]

/-- The codes of a memory's bytes are those of its elements. -/
theorem codesOf_mread (hw : 0 < w) {m : List Host.Cell} (h : memWf m = true) : ∀ n a : Nat,
    codesOf w (mread m a (w * n)) = (List.range n).map fun e => leNat (mread m (a + w * e) w)
  | 0, _ => rfl
  | n + 1, a => by
    rw [Nat.mul_succ, Nat.add_comm, mread_add h, codesOf_append hw mread_length, codesOf_mread hw h n,
      List.range_succ_eq_map, List.map_cons, List.map_map]
    simp only [Nat.mul_zero, Nat.add_zero, Function.comp_def, Nat.mul_succ, Nat.add_assoc, Nat.add_comm w]

theorem codesAt_eq {s : State} (hm : memWf s.mem.spad = true) (hw : 0 < w) (h a n : Nat) :
    codesAt s h a w n = (List.range n).map (elemAt s h a w) :=
  codesOf_mread hw hm n _

/-- An element of a stream after the stream was written. -/
theorem leNat_mread_codeBytes {m : List Host.Cell} (hm : memWf m = true) (hw : 0 < w) (a : Nat) {n e : Nat} (he : e < n)
    (f : Nat → Nat) :
    leNat (mread (mwrite m a (codeBytes w ((List.range n).map f))) (a + w * e) w) = f e % 256 ^ w := by
  have hb : (codeBytes w ((List.range n).map f)).length = w * n := by simp
  have hc := codesOf_mread hw (mwrite_wf hm) n a (m := mwrite m a (codeBytes w ((List.range n).map f)))
  rw [← hb, mread_mwrite_same hm, codesOf_codeBytes hw, List.map_map] at hc
  exact (List.map_inj_left.mp hc e (List.mem_range.mpr he)).symm

end Codes

/-! Bits of a plane -/

/-- The bits of a number put together of bits, lowest first. -/
theorem testBit_foldr_bits : ∀ (l : List Bool) (i : Nat),
    (l.foldr (fun b acc => 2 * acc + b2n b) 0).testBit i = l.getD i false
  | [], i => by simp
  | b :: l, 0 => by cases b <;> simp [b2n]
  | b :: l, i + 1 => by
    have hb : b2n b / 2 = 0 := by cases b <;> rfl
    rw [List.foldr_cons, Nat.testBit_succ, Nat.mul_add_div two_pos, hb, Nat.add_zero, testBit_foldr_bits l i,
      List.getD_cons_succ]

theorem planeBit_cons_of_lt (b : Byte) (bs : Bytes) {e : Nat} (h : e < 8) : planeBit (b :: bs) e = b.getLsbD e := by
  rw [planeBit, Nat.div_eq_of_lt h, Nat.mod_eq_of_lt h, List.getD_cons_zero]

theorem planeBit_cons_add_eight (b : Byte) (bs : Bytes) (e : Nat) : planeBit (b :: bs) (e + 8) = planeBit bs e := by
  rw [planeBit, Nat.add_div_right e (by omega), Nat.add_mod_right, List.getD_cons_succ, planeBit]

/-- Bits packed into bytes, first byte first. -/
theorem packBits_of_ne_nil {l : List Bool} (hl : l ≠ []) : packBits l =
    BitVec.ofNat 8 ((l.take 8).foldr (fun b acc => 2 * acc + b2n b) 0) :: packBits (l.drop 8) := by
  rw [packBits, rowsAux_of_ne_nil (by omega) hl, List.map_cons, packBits]

theorem length_packBits (l : List Bool) : (packBits l).length = (l.length + 7) / 8 := by
  by_cases hl : l = []
  · subst hl; rfl
  · have hp := List.length_pos_of_ne_nil hl
    rw [packBits_of_ne_nil hl, List.length_cons, length_packBits (l.drop 8), List.length_drop]
    omega
termination_by l.length
decreasing_by simp; omega

/-- Each bit of packed bits is the one packed there; beyond them the plane reads 0. -/
theorem planeBit_packBits (l : List Bool) (e : Nat) : planeBit (packBits l) e = l.getD e false := by
  by_cases hl : l = []
  · subst hl; simp [packBits, rowsAux, planeBit]
  · rw [packBits_of_ne_nil hl]
    by_cases he : e < 8
    · rw [planeBit_cons_of_lt _ _ he, BitVec.getLsbD_ofNat, testBit_foldr_bits]
      simp [he]
    · obtain ⟨i, rfl⟩ := Nat.exists_eq_add_of_le' (Nat.le_of_not_lt he)
      have hp := List.length_pos_of_ne_nil hl
      rw [planeBit_cons_add_eight, planeBit_packBits (l.drop 8) i]
      simp [Nat.add_comm]
termination_by l.length
decreasing_by simp; omega

@[simp] theorem length_keepTail (n : Nat) (prev bs : Bytes) : (keepTail n prev bs).length = bs.length := by
  unfold keepTail
  split <;> simp

/-- A byte of the low bits of x below bit k and the bits of y from there. -/
theorem getLsbD_splice (x y : Byte) {k j : Nat} (hj : j < 8) :
    (BitVec.ofNat 8 (x.toNat % 2 ^ k + y.toNat / 2 ^ k * 2 ^ k)).getLsbD j = if j < k then x.getLsbD j else y.getLsbD j := by
  rw [BitVec.getLsbD_ofNat, Nat.add_comm, Nat.mul_comm, Nat.testBit_two_pow_mul_add _ (Nat.mod_lt _ (by positivity)),
    Nat.testBit_mod_two_pow, Nat.testBit_div_two_pow]
  by_cases h : j < k
  · simp [h, hj, BitVec.getLsbD]
  · simp [h, hj, BitVec.getLsbD, Nat.sub_add_cancel (Nat.le_of_not_lt h)]

/-- Of the bits of n elements, those beyond the last keep their contents. -/
theorem planeBit_keepTail {n e : Nat} {prev bs : Bytes} (hb : bs.length = (n + 7) / 8) (he : e < 8 * bs.length) :
    planeBit (keepTail n prev bs) e = if e < n then planeBit bs e else planeBit prev e := by
  unfold keepTail
  split
  next h => rw [if_pos (by omega)]
  next h =>
    have hd : e / 8 < bs.length := by omega
    simp only [planeBit, List.getD_eq_getElem?_getD, List.getElem?_modify, List.getElem?_eq_getElem hd, Option.map_eq_map,
      Option.map_some, Option.getD_some]
    by_cases hn : n / 8 = e / 8
    · rw [if_pos hn, hn]
      rw [getLsbD_splice _ _ (Nat.mod_lt e (by omega))]
      exact if_congr (by omega) rfl rfl
    · rw [if_neg hn, if_pos (by omega)]

end Sys2Proof.Machine
end

section
/-! The ops of the vector engine whose results are not streams of floats (04, R87; 06, R104, R108 to R110, R113, R114): mask
bits, raw draws and compensated sums. -/

namespace Sys2Proof.Machine

open Sys2Proof.Claims

variable {s t : State} {c : OpCmd}

/-! The elements of an op -/

theorem fmtBytes_pos (f : Nat) : 0 < fmtBytes f := by
  unfold fmtBytes
  split
  · exact two_pos
  · split <;> decide

theorem activity_eq : activity s c = (List.range (pCount c)).map (onAt s c) := rfl

/-- An input stream, element by element. -/
theorem vecIn_eq (hm : memWf s.mem.spad = true) (n i : Nat) : vecIn s c n i = (List.range (pCount c)).map (inAt s c n i) := by
  unfold vecIn
  split
  next h =>
    rw [codesAt_eq hm (fmtBytes_pos _), List.map_map]
    exact List.map_congr_left fun e _ => (if_pos h).symm
  next h =>
    have h0 : inAt s c n i = fun _ => 0 := funext fun _ => if_neg h
    rw [h0, List.map_const', List.length_range]

theorem zip_map_self {α β : Type} (f : α → β) (l : List α) : l.zip (l.map f) = l.map fun x => (x, f x) := by
  simpa using List.zip_map' (f := id) (g := f) (l := l)

/-- The elements of an op, each with its activity and its inputs. -/
theorem vecElems_eq (hm : memWf s.mem.spad = true) (n : Nat) : vecElems s c n =
    (List.range (pCount c)).map fun e => ⟨e, onAt s c e, inAt s c n 0 e, inAt s c n 1 e, inAt s c n 2 e⟩ := by
  rw [vecElems, activity_eq, vecIn_eq hm, vecIn_eq hm, vecIn_eq hm, List.zip_map', List.zip_map', List.zip_map', zip_map_self,
    List.map_map]
  rfl

/-! A destination -/

/-- The bytes that an op writes to a stream at unit a: the code x e of an active element, a masked one's +0 or previous code
(R109). -/
def mergedBytes (s : State) (c : OpCmd) (a w : Nat) (x : Nat → Nat) : Bytes :=
  codeBytes w (mergeOut c (codesAt s c.hearth.val a w (pCount c))
    ((List.range (pCount c)).map fun e => if onAt s c e then some (x e) else none))

section Merged

variable {w e : Nat}

/-- A destination's codes, element by element. -/
theorem mergedBytes_eq (hm : memWf s.mem.spad = true) (hw : 0 < w) (a : Nat) (x : Nat → Nat) : mergedBytes s c a w x =
    codeBytes w ((List.range (pCount c)).map fun e =>
      if onAt s c e then x e else if pMaskZero c then 0 else elemAt s c.hearth.val a w e) := by
  rw [mergedBytes, codesAt_eq hm hw, mergeOut, List.zip_map', List.map_map]
  congr 2
  funext e
  rw [Function.comp_apply]
  cases onAt s c e <;> rfl

theorem length_mergedBytes (hm : memWf s.mem.spad = true) (hw : 0 < w) (a : Nat) (x : Nat → Nat) :
    (mergedBytes s c a w x).length = w * pCount c := by
  simp [mergedBytes_eq hm hw]

/-- An element of a destination after the op wrote it. -/
theorem leNat_mread_merged (hm : memWf s.mem.spad = true) (hw : 0 < w) {m : List Host.Cell} (hm' : memWf m = true) (a : Nat)
    (x : Nat → Nat) (he : e < pCount c) :
    leNat (mread (spadWrite m c.hearth.val a (mergedBytes s c a w x)) (spadKey c.hearth.val a + w * e) w) =
      if onAt s c e then x e % 256 ^ w else if pMaskZero c then 0 else elemAt s c.hearth.val a w e := by
  have hlt : elemAt s c.hearth.val a w e < 256 ^ w := by
    have := leNat_lt (mread s.mem.spad (spadKey c.hearth.val a + w * e) w)
    rwa [mread_length] at this
  rw [mergedBytes_eq hm hw, spadWrite, leNat_mread_codeBytes hm' hw _ he]
  split
  · rfl
  · split
    · exact Nat.zero_mod _
    · exact Nat.mod_eq_of_lt hlt

end Merged

/-! The state after an op -/

/-- An op puts its records in its hearth's program buffer. -/
theorem sget_ranOp (hh : swf {} s.hearths = true) (i : Nat) : sget {} (ranOp s c) i = streamedAt s c false i := by
  rw [ranOp, smod, sget_sput hh, streamedAt]
  by_cases h : i = c.hearth.val
  · subst h; simp [hearthOf]
  · simp [h, hearthOf]

theorem addVec_eq (x : Telemetry) (st : Stat8) : addVec x c st = { x with vec := (addVec x c st).vec } := by
  unfold addVec
  split <;> rfl

theorem pendVec_eq (st : Stat8) : pendVec s c st = { s.upd with pending := (pendVec s c st).pending } := by
  unfold pendVec
  split <;> rfl

/-- The counts of an op change the vector records and the pending counts alone. -/
theorem vecStat_eq (st : Stat8) : vecStat s c st =
    ({ s.tele with vec := (vecStat s c st).1.vec }, { s.upd with pending := (vecStat s c st).2.pending }) := by
  unfold vecStat
  split
  · exact Prod.ext rfl (pendVec_eq st)
  · exact Prod.ext (addVec_eq s.tele st) rfl

/-- Outside an UPDATE segment the counts go to the op's vector record, where STAT_EN is 1. -/
theorem sget_vecStat_vec (hv : swf {} s.tele.vec = true) (st : Stat8) {i : Nat}
    (h : pStatEn c = false ∨ currentKind s = 6 ∨ i ≠ pVstatId c) :
    sget {} (vecStat s c st).1.vec i = sget {} s.tele.vec i := by
  unfold vecStat addVec
  split
  · rfl
  · split
    · rw [smod, sget_sput hv, if_neg (by simp_all)]
    · rfl

/-- In an UPDATE segment the counts wait with their chunk, where STAT_EN is 1. -/
theorem sget_vecStat_pending (hp : swf {} s.upd.pending = true) (st : Stat8) {i : Nat}
    (h : pStatEn c = false ∨ currentKind s ≠ 6 ∨ i ≠ 1024 * chunkOf s + pVstatId c) :
    sget {} (vecStat s c st).2.pending i = sget {} s.upd.pending i := by
  unfold vecStat pendVec
  split
  · split
    · rw [smod, sget_sput hp, if_neg (by simp_all)]
    · rfl
  · rfl

section Done

variable {spad : List Host.Cell} {st : Stat8} {struck : Nat} {writes : List (Nat × Nat)}

@[simp] theorem withEcc_vecDone_spad : (withEcc c struck writes (vecDone s c spad st)).mem.spad = spad := by
  obtain ⟨l, heq, -⟩ := withEcc_eq c struck writes (vecDone s c spad st)
  rw [heq]
  rfl

/-- What an op that ends with these writes, counts and words read leaves as it was. -/
theorem opFrame_withEcc_vecDone (hs : OpReady s) {whole : List (Nat × Nat)}
    (hw : whole = writes.map fun x => (spadKey c.hearth.val x.1, x.2)) :
    OpFrame s (withEcc c struck writes (vecDone s c spad st)) c false whole 0 struck := by
  obtain ⟨-, hh, hv, hp⟩ := hs
  obtain ⟨l, heq, hocc⟩ := withEcc_eq c struck writes (vecDone s c spad st)
  rw [heq, hw]
  refine ⟨?_, sget_ranOp hh, fun i => sget_vecStat_vec hv st, fun i => sget_vecStat_pending hp st, fun k => ?_, rfl, ?_⟩
  · rw [vecDone, vecStat_eq]
  · simp only [mem_restored, List.forall_mem_map]
    rfl
  · simp only [List.map_append, hocc, List.replicate_zero, List.append_nil]
    rfl

end Done

/-- A write at a unit leaves every other byte of the scratchpads. -/
theorem mget_spadWrite_of_outside {m : List Host.Cell} (hm : memWf m = true) {h a n x : Nat} {bs : Bytes} (hb : bs.length = n)
    (hx : x < spadKey h a ∨ spadKey h a + n ≤ x) : mget (spadWrite m h a bs) x = mget m x := by
  rw [spadWrite, mget_mwrite hm, if_neg (by omega)]

/-- What was written at a unit reads back. -/
theorem mread_spadWrite {m : List Host.Cell} (hm : memWf m = true) {h a n : Nat} {bs : Bytes} (hb : bs.length = n) :
    mread (spadWrite m h a bs) (spadKey h a) n = bs := by
  rw [← hb, spadWrite, mread_mwrite_same hm]

theorem onlySpad_of_write (hm : memWf s.mem.spad = true) {h a n : Nat} {bs : Bytes}
    (ht : t.mem.spad = spadWrite s.mem.spad h a bs) (hb : bs.length = n) : OnlySpad s t [(spadKey h a, n)] := by
  intro x hx
  rw [ht, mget_spadWrite_of_outside hm hb (hx _ (List.mem_singleton_self _))]

/-! VCMP -/

/-- The bit of element e that VCMP writes; prev is the plane before it. -/
def cmpBit (s : State) (c : OpCmd) (prev : Bytes) (e : Nat) : Bool :=
  if onAt s c e then fpred (pA c % 8) (inAt s c 2 0 e) (inAt s c 2 1 e)
  else if pMaskZero c then false else planeBit prev e

theorem cmpBits_eq (hm : memWf s.mem.spad = true) (prev : Bytes) :
    cmpBits c prev (vecElems s c 2) = (List.range (pCount c)).map (cmpBit s c prev) := by
  rw [vecElems_eq hm, cmpBits, List.map_map]
  rfl

/-- The plane that VCMP writes. -/
def cmpPlane (s : State) (c : OpCmd) (prev : Bytes) : Bytes :=
  keepTail (pCount c) prev (packBits (cmpBits c prev (vecElems s c 2)))

theorem length_cmpPlane (hm : memWf s.mem.spad = true) (prev : Bytes) : (cmpPlane s c prev).length = (pCount c + 7) / 8 := by
  rw [cmpPlane, length_keepTail, length_packBits, cmpBits_eq hm, List.length_map, List.length_range]

/-- Each bit of the plane is the predicate of an active element, 0 or the previous bit of a masked one, and the previous bit
beyond COUNT. -/
theorem planeBit_cmpPlane (hm : memWf s.mem.spad = true) (prev : Bytes) {e : Nat} (he : e < 8 * ((pCount c + 7) / 8)) :
    planeBit (cmpPlane s c prev) e =
      if e < pCount c ∧ onAt s c e = true then fpred (pA c % 8) (inAt s c 2 0 e) (inAt s c 2 1 e)
      else if e < pCount c ∧ pMaskZero c = true then false else planeBit prev e := by
  have hl : (packBits (cmpBits c prev (vecElems s c 2))).length = (pCount c + 7) / 8 := by
    rw [← length_cmpPlane hm prev, cmpPlane, length_keepTail]
  rw [cmpPlane, planeBit_keepTail hl (hl.symm ▸ he), planeBit_packBits, cmpBits_eq hm]
  by_cases hn : e < pCount c
  · simp [hn, cmpBit]
  · simp [hn]

theorem exec_vcmp (hs : opSkipped s 0x1C c = false) (hi : vecInFits c 2 = true)
    (hd : spadFits (opDst0 c) ((pCount c + 7) / 8) = true) : ∃ st, exec (.vcmp c) s =
      .next (withEcc c (vecStruck s c 2 (opDst0 c) 1) [(opDst0 c, (pCount c + 7) / 8)] (vecDone s c
        (spadWrite s.mem.spad c.hearth.val (opDst0 c)
          (cmpPlane s c (mread s.mem.spad (spadKey c.hearth.val (opDst0 c)) ((pCount c + 7) / 8)))) st)) := by
  refine ⟨plainCounts 2 (vecElems s c 2), ?_⟩
  rw [show exec (.vcmp c) s = execVcmp c s from rfl, execVcmp]
  simp only [hs, hi, hd, Bool.false_eq_true, if_false, Bool.and_self, if_true]
  rfl

/-! VRAND -/

theorem exec_vrand (hm : memWf s.mem.spad = true) (hs : opSkipped s 0x2E c = false) (hi : vecInFits c 0 = true)
    (hd : spadFits (opDst0 c) (4 * pCount c) = true) : ∃ st, exec (.vrand c) s =
      .next (withEcc c (vecStruck s c 0 (opDst0 c) 4) [(opDst0 c, 4 * pCount c)] (vecDone s c
        (spadWrite s.mem.spad c.hearth.val (opDst0 c) (mergedBytes s c (opDst0 c) 4 (drawBits s c))) st)) := by
  refine ⟨plainCounts 0 (vecElems s c 0), ?_⟩
  rw [show exec (.vrand c) s = execVrand c s from rfl, execVrand]
  simp only [hs, hi, hd, Bool.false_eq_true, if_false, Bool.and_self, if_true]
  rw [vecElems_eq hm, List.map_map]
  rfl

/-! VCSUM -/

/-- The new ingot and filings of element e. -/
def sumAt (s : State) (c : OpCmd) (e : Nat) : Nat × Nat :=
  csum (elemAt s c.hearth.val (opSrc0 c) 4 e) (elemAt s c.hearth.val (opSrc1 c) 4 e) (elemAt s c.hearth.val (opSrc2 c) 2 e)

/-- The scratchpads after the ingots are written. -/
def ingotsWritten (s : State) (c : OpCmd) : List Host.Cell :=
  spadWrite s.mem.spad c.hearth.val (opDst0 c) (mergedBytes s c (opDst0 c) 4 fun e => (sumAt s c e).1)

/-- The scratchpads after the filings are written too. -/
def sumsWritten (s : State) (c : OpCmd) : List Host.Cell :=
  spadWrite (ingotsWritten s c) c.hearth.val (opDst1 c) (mergedBytes s c (opDst1 c) 2 fun e => (sumAt s c e).2)

theorem ingotsWritten_wf (hm : memWf s.mem.spad = true) : memWf (ingotsWritten s c) = true := mwrite_wf hm

/-- An ingot that the filings do not overwrite. -/
theorem leNat_mread_ingot (hm : memWf s.mem.spad = true) {e : Nat} (he : e < pCount c)
    (ha : Apart (spadKey c.hearth.val (opDst0 c) + 4 * e) 4 [(spadKey c.hearth.val (opDst1 c), 2 * pCount c)]) :
    leNat (mread (sumsWritten s c) (spadKey c.hearth.val (opDst0 c) + 4 * e) 4) =
      if onAt s c e then (sumAt s c e).1 % 256 ^ 4 else if pMaskZero c then 0
      else elemAt s c.hearth.val (opDst0 c) 4 e := by
  have ha := ha _ (List.mem_singleton_self _)
  rw [sumsWritten, spadWrite, mread_mwrite_of_apart (ingotsWritten_wf hm) (by rwa [length_mergedBytes hm two_pos])]
  exact leNat_mread_merged hm four_pos hm _ _ he

theorem leNat_mread_filings (hm : memWf s.mem.spad = true) {e : Nat} (he : e < pCount c) :
    leNat (mread (sumsWritten s c) (spadKey c.hearth.val (opDst1 c) + 2 * e) 2) =
      if onAt s c e then (sumAt s c e).2 % 256 ^ 2 else if pMaskZero c then 0
      else elemAt s c.hearth.val (opDst1 c) 2 e :=
  leNat_mread_merged hm two_pos (ingotsWritten_wf hm) _ _ he

theorem onlySpad_sumsWritten (hm : memWf s.mem.spad = true) (ht : t.mem.spad = sumsWritten s c) : OnlySpad s t
    [(spadKey c.hearth.val (opDst0 c), 4 * pCount c), (spadKey c.hearth.val (opDst1 c), 2 * pCount c)] := by
  intro x hx
  simp only [List.forall_mem_cons, List.not_mem_nil, false_implies, implies_true, and_true] at hx
  obtain ⟨h0, h1⟩ := hx
  rw [ht, sumsWritten, mget_spadWrite_of_outside (ingotsWritten_wf hm) (length_mergedBytes hm two_pos _ _) h1, ingotsWritten,
    mget_spadWrite_of_outside hm (length_mergedBytes hm four_pos _ _) h0]

theorem exec_vcsum (hm : memWf s.mem.spad = true) (hs : opSkipped s 0x2F c = false)
    (ha : spadFits (opSrc0 c) (4 * pCount c) = true) (hb : spadFits (opSrc1 c) (4 * pCount c) = true)
    (hf : spadFits (opSrc2 c) (2 * pCount c) = true) (hk : maskFits c = true)
    (hd0 : spadFits (opDst0 c) (4 * pCount c) = true) (hd1 : spadFits (opDst1 c) (2 * pCount c) = true) :
    ∃ st, exec (.vcsum c) s =
      .next (withEcc c (struckStream s c (opSrc0 c) 4 + struckStream s c (opSrc1 c) 4 + struckStream s c (opSrc2 c) 2 +
          struckPlane s c (usesPlane c) + struckMerge s c (opDst0 c) 4 + struckMerge s c (opDst1 c) 2)
        [(opDst0 c, 4 * pCount c), (opDst1 c, 2 * pCount c)] (vecDone s c (sumsWritten s c) st)) := by
  rw [show exec (.vcsum c) s = execVcsum c s from rfl, execVcsum]
  simp only [hs, ha, hb, hf, hk, hd0, hd1, Bool.false_eq_true, if_false, Bool.and_self, if_true, activity_eq,
    codesAt_eq hm four_pos c.hearth.val (opSrc0 c), codesAt_eq hm four_pos c.hearth.val (opSrc1 c),
    codesAt_eq hm two_pos c.hearth.val (opSrc2 c), List.zip_map', List.map_map, Function.comp_def,
    apply_ite (Option.map _), Option.map_some, Option.map_none]
  exact ⟨_, rfl⟩

/-! The obligation -/

/-- Settles O52: each op writes its plane or its merged streams, and its end reports and records the rest. -/
theorem vectorOpsOfTheirOwnForm : Obligations.VectorOpsOfTheirOwnForm := by
  unfold Obligations.VectorOpsOfTheirOwnForm
  intro c s hr
  have hm := hr.1
  refine ⟨fun hs hi hd => ?vcmp, fun hs hi hd => ?vrand, fun hs ha hb hf hk hd0 hd1 => ?vcsum⟩
  case vcmp =>
    obtain ⟨st, hx⟩ := exec_vcmp hs hi hd
    refine ⟨_, hx, fun e he => ?_, onlySpad_of_write hm withEcc_vecDone_spad (length_cmpPlane hm _),
      opFrame_withEcc_vecDone hr rfl⟩
    rw [withEcc_vecDone_spad, mread_spadWrite hm (length_cmpPlane hm _)]
    exact planeBit_cmpPlane hm _ he
  case vrand =>
    obtain ⟨st, hx⟩ := exec_vrand hm hs hi hd
    refine ⟨_, hx, fun e he => ?_, onlySpad_of_write hm withEcc_vecDone_spad (length_mergedBytes hm four_pos _ _),
      opFrame_withEcc_vecDone hr rfl⟩
    rw [elemAt, withEcc_vecDone_spad]
    exact leNat_mread_merged hm four_pos hm _ _ he
  case vcsum =>
    obtain ⟨st, hx⟩ := exec_vcsum hm hs ha hb hf hk hd0 hd1
    refine ⟨_, hx, fun e he => ?_, fun e he hap => ?_, onlySpad_sumsWritten hm withEcc_vecDone_spad,
      opFrame_withEcc_vecDone hr rfl⟩
    · rw [elemAt, withEcc_vecDone_spad]
      exact leNat_mread_filings hm he
    · rw [elemAt, withEcc_vecDone_spad]
      exact leNat_mread_ingot hm he hap

end Sys2Proof.Machine
end

section
/-! The element ops of the vector engine with float results (06, R102, R109, R114, Table 6.1): the function that each op
applies, the stream that it writes, and its count of active elements. -/

namespace Sys2Proof.Machine

open Sys2Proof.Claims

variable {s : State} {c : OpCmd}

/-! The counts of an op -/

/-- A saturating sum stands at the width's maximum from there on. -/
theorem toNat_satAdd {w : Nat} (x : BitVec w) (n : Nat) : (satAdd x n).toNat = min (x.toNat + n) (2 ^ w - 1) := by
  unfold satAdd
  split
  next h => rw [BitVec.toNat_allOnes, min_eq_right (by omega)]
  next h => rw [BitVec.toNat_ofNat, Nat.mod_eq_of_lt (by omega), min_eq_left (by omega)]

/-- Saturating sums may be taken in either order. -/
theorem satAdd_toNat_comm {w : Nat} {x y : BitVec w} {n : Nat} (hx : x.toNat = min n (2 ^ w - 1)) :
    satAdd x y.toNat = satAdd y n := by
  apply BitVec.eq_of_toNat_eq
  rw [toNat_satAdd, toNat_satAdd, hx]
  omega

/-- Each active element counts 1 in ELEMENTS (R114). -/
theorem toNat_c0_foldl_elements (r : VElem → Stat8) (h : ∀ x, (r x).c0 = 1) (xs : List VElem) :
    ∀ acc : Stat8, (xs.foldl (fun acc x => if x.on then statAdd acc (r x) else acc) acc).c0.toNat =
      min (acc.c0.toNat + (xs.filter (·.on)).length) (2 ^ 64 - 1) := by
  induction xs with
  | nil => intro acc; have := acc.c0.isLt; simp; omega
  | cons x xs ih =>
    intro acc
    rw [List.foldl_cons, ih]
    cases hx : x.on
    · simp [hx]
    · simp only [if_true, List.filter_cons, hx, List.length_cons, statAdd, cntAdd, h, toNat_satAdd,
        show (1 : BitVec 64).toNat = 1 from rfl]
      omega

theorem toNat_c0_vecCounts (n : Nat) (f : VElem → Nat) (xs : List VElem) :
    (vecCounts c n f xs).c0.toNat = min (xs.filter (·.on)).length (2 ^ 64 - 1) := by
  rw [vecCounts, toNat_c0_foldl_elements _ fun _ => rfl]
  simp

/-- The record of an op with STAT_EN takes the op's active elements. -/
theorem c0_vecRecord_of_vecStat {t : State} {st : Stat8} {n : Nat} (hv : swf {} s.tele.vec = true)
    (hp : swf {} s.upd.pending = true) (ht : (t.tele, t.upd) = vecStat s c st) (he : pStatEn c = true)
    (hst : st.c0.toNat = min n (2 ^ 64 - 1)) :
    (vecRecord s t c).c0 = satAdd (vecRecord s s c).c0 n := by
  obtain ⟨hvec, hupd⟩ := Prod.ext_iff.mp ht
  have hsum (r : Stat8) : (statAdd st r).c0 = satAdd r.c0 n := satAdd_toNat_comm hst
  simp only at hvec hupd
  unfold vecRecord
  rw [hvec, hupd]
  unfold vecStat
  split
  · simp only [pendVec, he, if_true, smod, sget_sput hp, hsum]
  · simp only [addVec, he, if_true, smod, sget_sput hv, hsum]

/-! The ops -/

theorem exec_vectorOp_of_simple : ∀ p ∈ simpleOps ++ functionOps, ∀ (c : OpCmd) (s : State),
    exec (p.1 c) s = vecOp p.2.1 p.2.2.1 (fun x => p.2.2.2 s c x.e x.a x.b x.d) c s := by
  simp only [simpleOps, functionOps, List.cons_append, List.nil_append, List.forall_mem_cons, List.not_mem_nil,
    false_implies, implies_true, and_true]
  and_intros
  all_goals exact fun c s => rfl

/-- Each element op applies the function that Table 6.1 gives it. -/
theorem exec_vectorOp_eq (hm : memWf s.mem.spad = true) : ∀ p ∈ vectorOps,
    (p.2.1 = 0x1D → spadFits (pMaskPlane c) ((pCount c + 7) / 8) = true) →
    (p.2.1 = 0x2D → spadFits (pAux c) (4 * 4097) = true) →
    exec (p.1 c) s = vecOp p.2.1 p.2.2.1 (fun x => p.2.2.2 s c x.e x.a x.b x.d) c s := by
  rw [vectorOps, List.forall_mem_append]
  refine ⟨fun p hp _ _ => exec_vectorOp_of_simple p hp c s, ?_⟩
  simp only [drawnOps, List.forall_mem_cons, List.not_mem_nil, false_implies, implies_true, and_true]
  refine ⟨fun hp _ => ?vsel, fun _ _ => rfl, fun _ _ => rfl, fun _ ht => ?vinitn⟩
  case vsel => exact if_pos (by rw [hp trivial, Bool.or_true])
  case vinitn =>
    rw [← codesAt_eq hm four_pos]
    exact if_pos (by rw [ht trivial, Bool.or_true])

/-- The codes that an element op writes. -/
theorem mergeOut_vecResults (hm : memWf s.mem.spad = true) (n : Nat) (f : VElem → Nat) :
    codeBytes (fmtBytes (opFmtOut c)) (mergeOut c (codesAt s c.hearth.val (opDst0 c) (fmtBytes (opFmtOut c)) (pCount c))
      (vecResults c f (vecElems s c n))) =
    mergedBytes s c (opDst0 c) (fmtBytes (opFmtOut c)) fun e => narrow (opFmtOut c)
      (f ⟨e, onAt s c e, inAt s c n 0 e, inAt s c n 1 e, inAt s c n 2 e⟩) := by
  rw [vecElems_eq hm, vecResults, List.map_map]
  rfl

theorem length_filter_on_vecElems (hm : memWf s.mem.spad = true) (n : Nat) :
    ((vecElems s c n).filter (·.on)).length = ((List.range (pCount c)).filter (onAt s c)).length := by
  rw [vecElems_eq hm, List.filter_map, List.length_map]
  rfl

theorem withEcc_tele_upd (c : OpCmd) (k : Nat) (l : List (Nat × Nat)) (t : State) :
    ((withEcc c k l t).tele, (withEcc c k l t).upd) = (t.tele, t.upd) := by
  obtain ⟨_, heq, -⟩ := withEcc_eq c k l t
  rw [heq]

/-! The obligation -/

/-- Settles O51: the op writes its merged stream, and its end reports, counts and records the rest. -/
theorem vectorOpsApplyTheirFunction : Obligations.VectorOpsApplyTheirFunction := by
  unfold Obligations.VectorOpsApplyTheirFunction
  intro p hp c s hs hf hplane haux hr
  have ⟨hm, _, hv, hpend⟩ := hr
  have hw := fmtBytes_pos (opFmtOut c)
  have hx : exec (p.1 c) s = .next (vecRun s c p.2.2.1 fun x => p.2.2.2 s c x.e x.a x.b x.d) := by
    rw [exec_vectorOp_eq hm p hp hplane haux, vecOp, hs, if_neg Bool.false_ne_true, if_pos hf]
  rw [vecRun, mergeOut_vecResults hm] at hx
  refine ⟨_, hx, fun e he => ?_, onlySpad_of_write hm withEcc_vecDone_spad (length_mergedBytes hm hw _ _),
    opFrame_withEcc_vecDone hr rfl, fun hen => ?_⟩
  · rw [elemAt, withEcc_vecDone_spad]
    exact leNat_mread_merged hm hw hm _ _ he
  · refine c0_vecRecord_of_vecStat hv hpend (withEcc_tele_upd ..) hen ?_
    rw [toNat_c0_vecCounts, length_filter_on_vecElems hm]

end Sys2Proof.Machine
end

section
/-! Lists cut into rows, and the records of equal length that a memory holds one after another (06, R108, R115). -/

namespace Sys2Proof.Machine

/-! Lists cut into rows -/

section Rows

variable {α β : Type} {w : Nat}

/-- Row r of a list cut into rows of w. -/
theorem getD_rowsAux (hw : 0 < w) : ∀ (r : Nat) (l : List α),
    (rowsAux w l.length l).getD r [] = (l.drop (w * r)).take w
  | r, [] => by simp [rowsAux]
  | 0, x :: l => by rw [rowsAux_of_ne_nil hw (List.cons_ne_nil x l)]; rfl
  | r + 1, x :: l => by
    rw [rowsAux_of_ne_nil hw (List.cons_ne_nil x l), List.getD_cons_succ, getD_rowsAux hw r, List.drop_drop, Nat.mul_succ,
      Nat.add_comm]

theorem length_rowsAux (hw : 0 < w) (l : List α) : (rowsAux w l.length l).length = (l.length + w - 1) / w := by
  by_cases hl : l = []
  · subst hl
    exact (Nat.div_eq_of_lt (by simp; omega)).symm
  · have hp := List.length_pos_of_ne_nil hl
    rw [rowsAux_of_ne_nil hw hl, List.length_cons, length_rowsAux hw (l.drop w), List.length_drop, ← Nat.add_div_right _ hw]
    by_cases h : w ≤ l.length
    · rw [show l.length - w + w - 1 + w = l.length + w - 1 by omega]
    · rw [Nat.div_eq_of_lt_le (k := 1), Nat.div_eq_of_lt_le (k := 1)] <;> omega
termination_by l.length
decreasing_by simp; omega

theorem length_getD_map {f : List α → List β} (hf : ∀ x, (f x).length = x.length) (l : List (List α)) (r : Nat) :
    ((l.map f).getD r []).length = (l.getD r []).length := by
  simp only [List.getD_eq_getElem?_getD, List.getElem?_map]
  cases l[r]? <;> simp [hf]

theorem eq_map_range_getD (l : List α) (d : α) : l = (List.range l.length).map fun r => l.getD r d :=
  List.ext_getElem (by simp) fun i hi _ => by simp [hi]

/-- Rows that n elements fill w at a time, put together again element by element. -/
theorem flatten_eq_of_rows (hw : 0 < w) (d : α) : ∀ (ls : List (List α)) (n : Nat),
    (∀ r, (ls.getD r []).length = min w (n - w * r)) →
    ls.flatten = (List.range n).map fun e => (ls.getD (e / w) []).getD (e % w) d
  | [], n, h => by
    obtain rfl : n = 0 := by simpa [hw.ne'] using (h 0).symm
    rfl
  | x :: ls, n, h => by
    have hx : x.length = min w n := h 0
    have ht (r : Nat) : (ls.getD r []).length = min w (n - w - w * r) := by
      rw [Nat.sub_sub, Nat.add_comm w, ← Nat.mul_succ, ← h (r + 1), List.getD_cons_succ]
    have hfirst : x = (List.range (min w n)).map fun e => ((x :: ls).getD (e / w) []).getD (e % w) d := by
      nth_rw 1 [eq_map_range_getD x d, hx]
      refine List.map_congr_left fun e he => ?_
      have he : e < w := by rw [List.mem_range] at he; omega
      rw [Nat.div_eq_of_lt he, Nat.mod_eq_of_lt he, List.getD_cons_zero]
    have hrest : ls.flatten = (List.range (n - w)).map fun e =>
        ((x :: ls).getD ((min w n + e) / w) []).getD ((min w n + e) % w) d := by
      rw [flatten_eq_of_rows hw d ls (n - w) ht]
      refine List.map_congr_left fun e he => ?_
      have he : min w n = w := by rw [List.mem_range] at he; omega
      rw [he, Nat.add_comm w, Nat.add_div_right _ hw, Nat.add_mod_right, List.getD_cons_succ]
    have hn : n = min w n + (n - w) := by omega
    calc (x :: ls).flatten = x ++ ls.flatten := List.flatten_cons
      _ = (List.range (min w n + (n - w))).map fun e => ((x :: ls).getD (e / w) []).getD (e % w) d := by
        rw [List.range_add, List.map_append, ← hfirst, List.map_map, hrest]
        rfl
      _ = _ := by rw [← hn]

end Rows

/-! Records of k bytes each -/

section Records

variable {α : Type} {g : α → Bytes} {k : Nat} {l : List α}

theorem length_flatMap_records (hk : ∀ x ∈ l, (g x).length = k) : (l.flatMap g).length = k * l.length := by
  rw [List.length_flatMap, List.map_congr_left hk, List.map_const', List.sum_replicate, smul_eq_mul, Nat.mul_comm]

/-- Record r among the bytes of records. -/
theorem take_drop_flatMap : ∀ {l : List α} (_ : ∀ x ∈ l, (g x).length = k) (r : Nat) (hr : r < l.length),
    ((l.flatMap g).drop (k * r)).take k = g l[r]
  | x :: l, hk, 0, _ => by
    rw [List.flatMap_cons]
    exact List.take_left' (hk x List.mem_cons_self)
  | x :: l, hk, r + 1, hr => by
    rw [List.forall_mem_cons] at hk
    rw [List.flatMap_cons, Nat.mul_succ, Nat.add_comm, ← List.drop_drop, List.drop_left' hk.1, List.getElem_cons_succ]
    exact take_drop_flatMap hk.2 r (Nat.lt_of_succ_lt_succ hr)

/-- A record after the records were written. -/
theorem mread_spadWrite_record {m : List Host.Cell} (hm : memWf m = true) (hk : ∀ x ∈ l, (g x).length = k)
    {h a r : Nat} (hr : r < l.length) : mread (spadWrite m h a (l.flatMap g)) (spadKey h a + k * r) k = g l[r] := by
  rw [spadWrite, mread_mwrite_part hm, take_drop_flatMap hk r hr]
  rw [length_flatMap_records hk, ← Nat.mul_succ]
  exact Nat.mul_le_mul_left k hr

end Records

end Sys2Proof.Machine
end

section
/-! The bellows (03, R53; 06, R115 to R119, Table 6.5): the share rows that its ops read, the records and streams that they
write, and the containers and words that they report. -/

namespace Sys2Proof.Machine

open Sys2Proof.Claims

variable {s t : State} {c : OpCmd}

/-! What an op that is not skipped keeps -/

theorem opCode_of_not_skipped {code : Nat} (hs : opSkipped s code c = false) : opCode c = code := by
  simp only [opSkipped, opRefused, Bool.or_eq_false_iff, bne_eq_false_iff_eq] at hs
  obtain ⟨-, ⟨hcode, -⟩, -⟩ := hs
  exact hcode

/-- A bellows op that is not skipped breaks none of the rules on bellows records. -/
theorem bellowsBreaks_of_not_skipped {code : Nat} (hk : 0x40 ≤ code) (hs : opSkipped s code c = false) :
    ∀ b ∈ bellowsBreaks c, b.1 = false := by
  obtain rfl := opCode_of_not_skipped hs
  simp only [opSkipped, opRefused, Bool.or_eq_false_iff, List.any_eq_false] at hs
  obtain ⟨-, -, hb⟩ := hs
  rw [opBreaks, List.forall_mem_cons, List.forall_mem_cons, if_neg (by omega)] at hb
  obtain ⟨hcode, -, hb⟩ := hb
  have hcode : isOpcode (opCode c) = true := by
    cases h : isOpcode (opCode c)
    · simp [h] at hcode
    · rfl
  have hupd : ¬ isUpdate (opCode c) = true := by simp only [isUpdate, Bool.and_eq_true, decide_eq_true_eq]; omega
  have hbel : isBellows (opCode c) = true := by simpa [isBellows] using hk
  simp only [hcode, if_true, streamBreaks, List.forall_mem_cons] at hb
  obtain ⟨-, -, hb⟩ := hb
  by_cases hptr : opParamPtr c = 0
  · simp [hptr] at hb
  · rw [if_neg hptr, List.forall_mem_cons, List.forall_mem_cons, if_neg (show ¬ opCode c = 8 by omega), if_neg hupd,
      if_pos hbel] at hb
    obtain ⟨-, -, hb⟩ := hb
    simpa using hb

theorem pWidth_pos {code : Nat} (hk : 0x40 ≤ code) (hs : opSkipped s code c = false) : 0 < pWidth c := by
  have h : pRowLen c ≠ 0 := by
    simpa using bellowsBreaks_of_not_skipped hk hs (pRowLen c == 0, 0x0008) (by simp [bellowsBreaks, rowBreaks])
  unfold pWidth
  split <;> omega

theorem pTopK_pos (hs : opSkipped s 0x49 c = false) : 0 < pTopK c := by
  have hb := bellowsBreaks_of_not_skipped (by omega) hs
    ((opCode c == 0x47 || opCode c == 0x49) && (pTopK c == 0 || decide (64 < pTopK c)), 0x0008) (by simp [bellowsBreaks])
  have h : ¬ pTopK c = 0 := fun h => by simp [opCode_of_not_skipped hs, h] at hb
  omega

/-! The share rows that an op reads -/

@[simp] theorem length_activity : (activity s c).length = pCount c := by simp [activity]

@[simp] theorem length_convRead (hm : memWf s.mem.spad = true) (v : OpCmd) (n : Nat) : (convRead s v n).length = n := by
  unfold convRead
  split <;> simp [codesAt_eq hm (fmtBytes_pos _), codesAt_eq hm two_pos]

theorem length_bellowsCodes (hm : memWf s.mem.spad = true) : (bellowsCodes s c).length = pCount c := by
  unfold bellowsCodes
  dsimp only
  split <;> simp [codesAt_eq hm (fmtBytes_pos _), length_convRead hm]

theorem length_getD_bellowsRows (hm : memWf s.mem.spad = true) (hw : 0 < pWidth c) (r : Nat) :
    ((bellowsRows s c).getD r []).length = min (pWidth c) (pCount c - pWidth c * r) := by
  rw [bellowsRows, length_getD_map fun r => by simp, shareRows, if_neg hw.ne', getD_rowsAux hw]
  simp [length_bellowsCodes hm]

theorem length_bellowsRows (hm : memWf s.mem.spad = true) (hw : 0 < pWidth c) :
    (bellowsRows s c).length = shareRowCount c := by
  rw [bellowsRows, List.length_map, shareRows, if_neg hw.ne', length_rowsAux hw, shareRowCount, if_neg hw.ne']
  simp [length_bellowsCodes hm]

theorem bellowsRows_eq (hm : memWf s.mem.spad = true) (hw : 0 < pWidth c) :
    bellowsRows s c = (List.range (shareRowCount c)).map fun r => (bellowsRows s c).getD r [] := by
  rw [← length_bellowsRows hm hw]
  exact eq_map_range_getD _ _

/-! The state after an op -/

theorem sget_ranBellows (hh : swf {} s.hearths = true) (i : Nat) : sget {} (ranBellows s c) i = streamedAt s c true i := by
  rw [ranBellows, smod, sget_sput hh, streamedAt]
  by_cases h : i = c.hearth.val
  · subst h; simp [hearthOf]
  · simp [h, hearthOf]

/-- The end of a bellows op: its bytes, counts and program buffer, and an occurrence for each malformed container. -/
theorem bellowsDone_eq (spad : List Host.Cell) (st : Stat8) (bad : Nat) : ∃ l,
    bellowsDone s c spad st bad = { s with
      mem := { s.mem with spad := spad }, tele := (vecStat s c st).1, upd := (vecStat s c st).2
      hearths := ranBellows s c, faults := { s.faults with detected := s.faults.detected ++ l } } ∧
    l.map (·.occ) = List.replicate bad (occAt 0x0104 1 c.hearth.val) :=
  noteAt_eq 0x0104 c.hearth.val bad _

section Done

variable {spad : List Host.Cell} {st : Stat8} {bad struck : Nat} {writes : List (Nat × Nat)}

@[simp] theorem withEcc_bellowsDone_spad : (withEcc c struck writes (bellowsDone s c spad st bad)).mem.spad = spad := by
  obtain ⟨_, heq, -⟩ := withEcc_eq c struck writes (bellowsDone s c spad st bad)
  obtain ⟨_, heq', -⟩ := bellowsDone_eq (s := s) (c := c) spad st bad
  rw [heq, heq']

theorem withEcc_bellowsDone_train : (withEcc c struck writes (bellowsDone s c spad st bad)).train = s.train := by
  obtain ⟨_, heq, -⟩ := withEcc_eq c struck writes (bellowsDone s c spad st bad)
  obtain ⟨_, heq', -⟩ := bellowsDone_eq (s := s) (c := c) spad st bad
  rw [heq, heq']

/-- What a bellows op that ends with these writes, counts, malformed containers and words read leaves as it was. -/
theorem opFrame_withEcc_bellowsDone (hs : OpReady s) {whole : List (Nat × Nat)}
    (hw : whole = writes.map fun x => (spadKey c.hearth.val x.1, x.2)) :
    OpFrame s (withEcc c struck writes (bellowsDone s c spad st bad)) c true whole bad struck := by
  obtain ⟨-, hh, hv, hp⟩ := hs
  obtain ⟨l, heq, hocc⟩ := withEcc_eq c struck writes (bellowsDone s c spad st bad)
  obtain ⟨l', heq', hocc'⟩ := bellowsDone_eq (s := s) (c := c) spad st bad
  rw [heq, heq', hw]
  refine ⟨?_, sget_ranBellows hh, fun i => sget_vecStat_vec hv st, fun i => sget_vecStat_pending hp st, fun k => ?_, rfl,
    ?_⟩
  · rw [vecStat_eq]
  · simp only [mem_restored, List.forall_mem_map]
  · simp only [List.map_append, hocc, hocc']

end Done

/-! Reductions to a record -/

theorem length_rankInsert (x : Pair) (l : List Pair) : (rankInsert x l).length = l.length + 1 := by
  induction l with
  | nil => rfl
  | cons y t ih => unfold rankInsert; split <;> simp [ih]

theorem length_rankTop_le (k : Nat) (l : List Pair) : (rankTop k l).length ≤ k :=
  List.foldlRecOn (motive := fun acc : List Pair => acc.length ≤ k) l _ (Nat.zero_le k)
    fun _ _ _ _ => List.length_take_le _ _

/-- A ranked list is filled up to k pairs (R116). -/
@[simp] theorem length_rankFill (k : Nat) (l : List Pair) : (rankFill k l).length = k := by
  have h := length_rankTop_le k l
  rw [rankFill, List.length_append, List.length_replicate]
  omega

theorem length_pairBytes_rankFill (k : Nat) (l : List Pair) : ((rankFill k l).flatMap pairBytes).length = 8 * k := by
  rw [length_flatMap_records (k := 8) fun x _ => by simp [pairBytes], length_rankFill]

theorem exec_rowReduce {code k : Nat} {skips : Bool} {f : List BElem → Bytes} (hs : opSkipped s code c = false)
    (hf : (bellowsSrc s c).1 = 5 ∨ (bellowsSrc s c).1 = 6) (ht : tapDiscarded s c = false) (hi : bellowsInFits s c = true)
    (hd : spadFits (opDst0 c) (k * shareRowCount c) = true) : ∃ st, rowReduce code k skips f c s =
      .next (withEcc c (bellowsStruck s c) [(opDst0 c, k * shareRowCount c)] (bellowsDone s c
        (spadWrite s.mem.spad c.hearth.val (opDst0 c) ((bellowsRows s c).flatMap f)) st 0)) := by
  have hf : isFloatFmt (bellowsSrc s c).1 = true := by rcases hf with h | h <;> rw [h] <;> rfl
  simp only [rowReduce, hs, hf, ht, hi, hd, Bool.not_true, Bool.or_self, Bool.false_eq_true, if_false, Bool.and_self,
    if_true]
  exact ⟨_, rfl⟩

theorem exec_bellowsOp : ∀ p ∈ bellowsOps, ∃ skips, ∀ (c : OpCmd) (s : State),
    exec (p.1 c) s = rowReduce p.2.1 (p.2.2.1 c) skips (p.2.2.2 c) c s := by
  simp only [bellowsOps, List.forall_mem_cons, List.not_mem_nil, false_implies, implies_true, and_true]
  exact ⟨⟨true, fun _ _ => rfl⟩, ⟨true, fun _ _ => rfl⟩, ⟨false, fun _ _ => rfl⟩, ⟨true, fun _ _ => rfl⟩,
    ⟨true, fun _ _ => rfl⟩⟩

theorem bellowsOp_code : ∀ p ∈ bellowsOps, 0x40 ≤ p.2.1 := by
  simp [bellowsOps]

theorem length_bellowsOp_record : ∀ p ∈ bellowsOps, ∀ (c : OpCmd) (row : List BElem),
    (p.2.2.2 c row).length = p.2.2.1 c := by
  simp only [bellowsOps, List.forall_mem_cons, List.not_mem_nil, false_implies, implies_true, and_true]
  exact ⟨fun _ _ => length_natLe .., fun _ _ => length_natLe .., fun _ _ => length_natLe ..,
    fun _ _ => length_pairBytes_rankFill .., fun _ _ => length_pairBytes_rankFill ..⟩

/-! Sums -/

theorem exec_sumReduce {code : Nat} {leaf : Val → Val} (hs : opSkipped s code c = false)
    (hf : (bellowsSrc s c).1 = 5 ∨ (bellowsSrc s c).1 = 6 ∨ (bellowsSrc s c).1 = 7) (ht : tapDiscarded s c = false)
    (hi : bellowsInFits s c = true) (hd : spadFits (sumDst c) (fmtBytes (opFmtOut c) * shareRowCount c) = true) :
    ∃ st, sumReduce code leaf c s = .next (withEcc c (bellowsStruck s c)
      [(sumDst c, fmtBytes (opFmtOut c) * shareRowCount c)] (bellowsDone s c
        (spadWrite s.mem.spad c.hearth.val (sumDst c) (codeBytes (fmtBytes (opFmtOut c))
          ((bellowsRows s c).map fun r => sumCode (opFmtOut c) (sumRow (bellowsSrc s c).1 leaf r)))) st
        (badCount (bellowsSrc s c).1 (bellowsRows s c)))) := by
  have hf : isSumFmt (bellowsSrc s c).1 = true := by rcases hf with h | h | h <;> rw [h] <;> rfl
  simp only [sumReduce, hs, hf, ht, hi, hd, Bool.not_true, Bool.or_self, Bool.false_eq_true, if_false, Bool.and_self,
    if_true]
  exact ⟨_, rfl⟩

theorem with_train_of_eq {x : Train} (h : t.train = x) : { t with train := x } = t := by
  subst h
  rfl

/-- A sum writes a code for each share row, and its end reports and records the rest. -/
theorem sumReduce_spec {code : Nat} {leaf : Val → Val} (hr : OpReady s) (hk : 0x40 ≤ code)
    (hs : opSkipped s code c = false)
    (hf : (bellowsSrc s c).1 = 5 ∨ (bellowsSrc s c).1 = 6 ∨ (bellowsSrc s c).1 = 7) (ht : tapDiscarded s c = false)
    (hi : bellowsInFits s c = true) (hd : spadFits (sumDst c) (fmtBytes (opFmtOut c) * shareRowCount c) = true) :
    ∃ t, sumReduce code leaf c s = .next t ∧
      (∀ r < shareRowCount c, elemAt t c.hearth.val (sumDst c) (fmtBytes (opFmtOut c)) r =
        sumCode (opFmtOut c) (sumRow (bellowsSrc s c).1 leaf ((bellowsRows s c).getD r [])) % 256 ^ fmtBytes (opFmtOut c)) ∧
      t.train = s.train ∧
      OnlySpad s t [(spadKey c.hearth.val (sumDst c), fmtBytes (opFmtOut c) * shareRowCount c)] ∧
      OpFrame s t c true [(spadKey c.hearth.val (sumDst c), fmtBytes (opFmtOut c) * shareRowCount c)]
        (badCount (bellowsSrc s c).1 (bellowsRows s c)) (bellowsStruck s c) := by
  have hm := hr.1
  obtain ⟨st, hx⟩ := exec_sumReduce (leaf := leaf) hs hf ht hi hd
  nth_rw 1 [bellowsRows_eq hm (pWidth_pos hk hs), List.map_map] at hx
  refine ⟨_, hx, fun r hr => ?_, withEcc_bellowsDone_train, onlySpad_of_write hm withEcc_bellowsDone_spad (by simp),
    opFrame_withEcc_bellowsDone hr rfl⟩
  rw [elemAt, withEcc_bellowsDone_spad]
  exact leNat_mread_codeBytes hm (fmtBytes_pos _) _ hr _

theorem exec_bsumsq (hs : opSkipped s 0x45 c = false) (ht : tapDiscarded s c = false)
    (hx : sumReduce 0x45 squareLeaf c s = .next t) : exec (.bsumsq c) s = .next (noteNodes t (squareNodes s c)) := by
  rw [show exec (.bsumsq c) s = execBsumsq c s from rfl, execBsumsq, hx]
  simp [hs, ht]

/-! Running sums -/

/-- The running sums of a row from a carry in, after each element. -/
def runningSums (f : Nat) (cin : Val) (row : List BElem) : List Val := (prefixRow f cin [] row).map (·.2.1)

/-- What a row of BPREFIX notes of its inputs has no part in its sums. -/
theorem map_prefixRow (f : Nat) (ins ins' : List Val) (row : List BElem) : ∀ acc : Val,
    (prefixRow f acc ins row).map (·.2.1) = (prefixRow f acc ins' row).map (·.2.1) := by
  induction row generalizing ins ins' with
  | nil => intro _; rfl
  | cons x row ih =>
    intro acc
    unfold prefixRow
    split
    · exact congrArg (_ :: ·) (ih ..)
    · exact congrArg (_ :: ·) (ih ..)

theorem length_prefixRow (f : Nat) (ins : List Val) (row : List BElem) : ∀ acc : Val,
    (prefixRow f acc ins row).length = row.length := by
  induction row generalizing ins with
  | nil => intro _; rfl
  | cons x row ih =>
    intro acc
    unfold prefixRow
    split
    · exact congrArg (· + 1) (ih ..)
    · exact congrArg (· + 1) (ih ..)

theorem getD_map_eq_elim {α β : Type} (o : Option α) (g : α → β) (d : β) : (o.map g).getD d = o.elim d g := by
  cases o <;> rfl

/-- The carry into share row r (R118). -/
def carryAt (s : State) (c : OpCmd) (r : Nat) : Nat := if pColBase c = 0 then 0 else elemAt s c.hearth.val (opSrc1 c) 8 r

theorem carriesIn_eq (hm : memWf s.mem.spad = true) :
    carriesIn s c = (List.range (shareRowCount c)).map (carryAt s c) := by
  unfold carriesIn carryAt
  split
  · rw [List.map_const', List.length_range]
  · exact codesAt_eq hm (by omega) _ _ _

/-- The running sums of share row r. -/
def rowSums (s : State) (c : OpCmd) (r : Nat) : List Val :=
  runningSums (bellowsSrc s c).1 (ofW48c (carryAt s c r)).1 ((bellowsRows s c).getD r [])

/-- Beyond the last share row there are no sums. -/
theorem getD_map_rowSums (hm : memWf s.mem.spad = true) (hw : 0 < pWidth c) (r : Nat) :
    ((List.range (shareRowCount c)).map (rowSums s c)).getD r [] = rowSums s c r := by
  by_cases h : r < shareRowCount c
  · simp [h]
  · rw [List.getD_eq_default _ _ (by simpa using h), rowSums,
      List.getD_eq_default _ _ (by rwa [length_bellowsRows hm hw, ← not_lt])]
    rfl

/-- The sums that BPREFIX gives, element by element. -/
theorem flatten_rowSums (hm : memWf s.mem.spad = true) (hw : 0 < pWidth c) :
    ((List.range (shareRowCount c)).map (rowSums s c)).flatten =
      (List.range (pCount c)).map fun e => (rowSums s c (e / pWidth c)).getD (e % pWidth c) vzero := by
  rw [flatten_eq_of_rows hw vzero _ (pCount c)]
  · simp only [getD_map_rowSums hm hw]
  · intro r
    rw [getD_map_rowSums hm hw, rowSums, runningSums, List.length_map, length_prefixRow, length_getD_bellowsRows hm hw]

/-- The code that BPREFIX writes for element e. -/
def prefixCode (s : State) (c : OpCmd) (e : Nat) : Nat :=
  sumCode (opFmtOut c) ((rowSums s c (e / pWidth c)).getD (e % pWidth c) vzero)

/-- The code of the carry out of share row r. -/
def carryCode (s : State) (c : OpCmd) (r : Nat) : Nat :=
  encodeF w48 ((rowSums s c r).getLast?.getD (ofW48c (carryAt s c r)).1)

/-- The rows of BPREFIX, each with its carry in. -/
def prefixRows (s : State) (c : OpCmd) : List (List (Bool × Val × List Val) × Val) :=
  ((bellowsRows s c).zip (carriesIn s c)).map fun z =>
    (prefixRow (bellowsSrc s c).1 (ofW48c z.2).1 (if visFin (ofW48c z.2).1 then [] else [(ofW48c z.2).1]) z.1,
      (ofW48c z.2).1)

/-- The sums of those rows. -/
theorem map_prefixRows (hm : memWf s.mem.spad = true) (hw : 0 < pWidth c) :
    (prefixRows s c).map (fun r => (r.1.map (·.2.1), r.2)) =
      (List.range (shareRowCount c)).map fun r => (rowSums s c r, (ofW48c (carryAt s c r)).1) := by
  rw [prefixRows, bellowsRows_eq hm hw, carriesIn_eq hm, List.zip_map', List.map_map, List.map_map]
  exact List.map_congr_left fun r _ => congrArg (·, _) (map_prefixRow _ _ _ _ _)

theorem flatMap_prefixRows (hm : memWf s.mem.spad = true) (hw : 0 < pWidth c) :
    (prefixRows s c).flatMap (fun r => r.1.map fun x => sumCode (opFmtOut c) x.2.1) =
      (List.range (pCount c)).map (prefixCode s c) := by
  have h := congrArg (·.flatMap fun r => r.1.map (sumCode (opFmtOut c))) (map_prefixRows hm hw)
  simp only [List.flatMap_map, List.map_map] at h
  refine Eq.trans h ?_
  rw [← List.map_flatMap, List.flatMap_def, flatten_rowSums hm hw, List.map_map]
  rfl

theorem map_carry_prefixRows (hm : memWf s.mem.spad = true) (hw : 0 < pWidth c) :
    (prefixRows s c).map (fun r => encodeF w48 ((r.1.getLast?).elim r.2 (·.2.1))) =
      (List.range (shareRowCount c)).map (carryCode s c) := by
  have h := congrArg (·.map fun r => encodeF w48 (r.1.getLast?.getD r.2)) (map_prefixRows hm hw)
  simp only [List.map_map, Function.comp_def, List.getLast?_map, getD_map_eq_elim] at h
  exact h

/-- The scratchpads after the running sums are written. -/
def sumsInPlace (s : State) (c : OpCmd) : List Host.Cell :=
  spadWrite s.mem.spad c.hearth.val (opDst0 c)
    (codeBytes (fmtBytes (opFmtOut c)) ((List.range (pCount c)).map (prefixCode s c)))

/-- The scratchpads after the carries are written too. -/
def prefixWritten (s : State) (c : OpCmd) : List Host.Cell :=
  spadWrite (sumsInPlace s c) c.hearth.val (opDst1 c) (codeBytes 8 ((List.range (shareRowCount c)).map (carryCode s c)))

theorem sumsInPlace_wf (hm : memWf s.mem.spad = true) : memWf (sumsInPlace s c) = true := mwrite_wf hm

theorem exec_bprefix (hm : memWf s.mem.spad = true) (hs : opSkipped s 0x46 c = false)
    (hf : (bellowsSrc s c).1 = 5 ∨ (bellowsSrc s c).1 = 6 ∨ (bellowsSrc s c).1 = 7) (ht : tapDiscarded s c = false)
    (hi : bellowsInFits s c = true) (hc : pColBase c = 0 ∨ spadFits (opSrc1 c) (8 * shareRowCount c) = true)
    (hd0 : spadFits (opDst0 c) (fmtBytes (opFmtOut c) * pCount c) = true)
    (hd1 : spadFits (opDst1 c) (8 * shareRowCount c) = true) : ∃ st, exec (.bprefix c) s =
      .next (withEcc c (bellowsStruck s c +
          if pColBase c = 0 then 0 else struckBytes s c.hearth.val (opSrc1 c) (8 * shareRowCount c))
        [(opDst0 c, fmtBytes (opFmtOut c) * pCount c), (opDst1 c, 8 * shareRowCount c)]
        (bellowsDone s c (prefixWritten s c) st (badCount (bellowsSrc s c).1 (bellowsRows s c) +
          ((List.range (shareRowCount c)).filter fun r => (ofW48c (carryAt s c r)).2).length))) := by
  have hw := pWidth_pos (by omega) hs
  have hf : isSumFmt (bellowsSrc s c).1 = true := by rcases hf with h | h | h <;> rw [h] <;> rfl
  have hc : (pColBase c == 0 || spadFits (opSrc1 c) (8 * shareRowCount c)) = true := by simpa using hc
  have hbad : ((carriesIn s c).filter fun x => (ofW48c x).2).length =
      ((List.range (shareRowCount c)).filter fun r => (ofW48c (carryAt s c r)).2).length := by
    rw [carriesIn_eq hm, List.filter_map, List.length_map]
    rfl
  rw [show exec (.bprefix c) s = execBprefix c s from rfl, execBprefix, prefixWritten, sumsInPlace,
    ← flatMap_prefixRows hm hw, ← map_carry_prefixRows hm hw, ← hbad]
  simp only [hs, hf, ht, hi, hc, hd0, hd1, Bool.not_true, Bool.or_self, Bool.false_eq_true, if_false, Bool.and_self,
    if_true]
  exact ⟨_, rfl⟩

theorem leNat_mread_carry (hm : memWf s.mem.spad = true) {r : Nat} (hr : r < shareRowCount c) :
    leNat (mread (prefixWritten s c) (spadKey c.hearth.val (opDst1 c) + 8 * r) 8) = carryCode s c r % 256 ^ 8 :=
  leNat_mread_codeBytes (sumsInPlace_wf hm) (by omega) _ hr _

/-- A running sum that the carries do not overwrite. -/
theorem leNat_mread_prefix (hm : memWf s.mem.spad = true) {e : Nat} (he : e < pCount c)
    (ha : Apart (spadKey c.hearth.val (opDst0 c) + fmtBytes (opFmtOut c) * e) (fmtBytes (opFmtOut c))
      [(spadKey c.hearth.val (opDst1 c), 8 * shareRowCount c)]) :
    leNat (mread (prefixWritten s c) (spadKey c.hearth.val (opDst0 c) + fmtBytes (opFmtOut c) * e) (fmtBytes (opFmtOut c))) =
      prefixCode s c e % 256 ^ fmtBytes (opFmtOut c) := by
  have ha := ha _ (List.mem_singleton_self _)
  rw [prefixWritten, spadWrite, mread_mwrite_of_apart (sumsInPlace_wf hm) (by simpa using ha)]
  exact leNat_mread_codeBytes hm (fmtBytes_pos _) _ he _

theorem onlySpad_prefixWritten (hm : memWf s.mem.spad = true) (ht : t.mem.spad = prefixWritten s c) : OnlySpad s t
    [(spadKey c.hearth.val (opDst0 c), fmtBytes (opFmtOut c) * pCount c),
     (spadKey c.hearth.val (opDst1 c), 8 * shareRowCount c)] := by
  intro x hx
  simp only [List.forall_mem_cons, List.not_mem_nil, false_implies, implies_true, and_true] at hx
  obtain ⟨h0, h1⟩ := hx
  rw [ht, prefixWritten, mget_spadWrite_of_outside (sumsInPlace_wf hm) (by simp) h1, sumsInPlace,
    mget_spadWrite_of_outside hm (by simp) h0]

/-! Node addition -/

/-- The code of the sum of node e of SRC0 and SRC1. -/
def nodeCode (s : State) (c : OpCmd) (e : Nat) : Nat :=
  encodeF w48 (wadd (ofW48c (elemAt s c.hearth.val (opSrc0 c) 8 e)).1 (ofW48c (elemAt s c.hearth.val (opSrc1 c) 8 e)).1)

/-- Malformed containers among node e of SRC0 and SRC1. -/
def nodeBad (s : State) (c : OpCmd) (e : Nat) : Nat :=
  b2n (ofW48c (elemAt s c.hearth.val (opSrc0 c) 8 e)).2 + b2n (ofW48c (elemAt s c.hearth.val (opSrc1 c) 8 e)).2

theorem sum_map_ite_zero {α : Type} (p : α → Bool) (f : α → Nat) (l : List α) :
    (l.map fun x => if p x then f x else 0).sum = ((l.filter p).map f).sum := by
  induction l with
  | nil => rfl
  | cons x l ih => cases hp : p x <;> simp [hp, ih]

theorem exec_bnode (hm : memWf s.mem.spad = true) (hs : opSkipped s 0x48 c = false)
    (ha : spadFits (opSrc0 c) (8 * pCount c) = true) (hb : spadFits (opSrc1 c) (8 * pCount c) = true)
    (hk : maskFits c = true) (hd : spadFits (opDst1 c) (8 * pCount c) = true) : ∃ st, exec (.bnode c) s =
      .next (withEcc c (struckStream s c (opSrc0 c) 8 + struckStream s c (opSrc1 c) 8 + struckPlane s c (usesPlane c) +
          struckMerge s c (opDst1 c) 8) [(opDst1 c, 8 * pCount c)] (bellowsDone s c
        (spadWrite s.mem.spad c.hearth.val (opDst1 c) (mergedBytes s c (opDst1 c) 8 (nodeCode s c))) st
        (((List.range (pCount c)).filter (onAt s c)).map (nodeBad s c)).sum)) := by
  rw [show exec (.bnode c) s = execBnode c s from rfl, execBnode, ← sum_map_ite_zero]
  simp only [hs, ha, hb, hk, hd, Bool.false_eq_true, if_false, Bool.and_self, if_true, activity_eq,
    codesAt_eq hm (Nat.succ_pos 7) c.hearth.val (opSrc0 c), codesAt_eq hm (Nat.succ_pos 7) c.hearth.val (opSrc1 c),
    List.zip_map', List.map_map, Function.comp_def]
  exact ⟨_, rfl⟩

/-! Merge -/

/-- A list of TOP_K pairs stands for each share row. -/
theorem length_pairsAt (hk : 0 < pTopK c) (a : Nat) : (pairsAt s c a).length = shareRowCount c := by
  have hk : 0 < 8 * pTopK c := by omega
  rw [pairsAt, List.length_map, pieces, piecesAux_eq_rowsAux, length_rowsAux hk, spadRead, mread_length,
    Nat.add_sub_assoc hk, Nat.mul_add_div hk, Nat.div_eq_of_lt (by omega), Nat.add_zero]

theorem exec_bmerge (hs : opSkipped s 0x49 c = false) (ha : spadFits (opSrc0 c) (8 * pTopK c * shareRowCount c) = true)
    (hb : spadFits (opSrc1 c) (8 * pTopK c * shareRowCount c) = true)
    (hd : spadFits (opDst0 c) (8 * pTopK c * shareRowCount c) = true) : ∃ st, exec (.bmerge c) s =
      .next (withEcc c (struckBytes s c.hearth.val (opSrc0 c) (8 * pTopK c * shareRowCount c) +
          struckBytes s c.hearth.val (opSrc1 c) (8 * pTopK c * shareRowCount c))
        [(opDst0 c, 8 * pTopK c * shareRowCount c)] (bellowsDone s c
          (spadWrite s.mem.spad c.hearth.val (opDst0 c)
            (((pairsAt s c (opSrc0 c)).zip (pairsAt s c (opSrc1 c))).flatMap fun z =>
              (rankFill (pTopK c) (z.1 ++ z.2)).flatMap pairBytes)) st 0)) := by
  rw [show exec (.bmerge c) s = execBmerge c s from rfl, execBmerge]
  simp only [hs, ha, hb, hd, Bool.false_eq_true, if_false, Bool.and_self, if_true]
  exact ⟨_, rfl⟩

/-! The obligation -/

/-- Settles O55: each op writes its records, codes or merged stream, and its end reports and records the rest. -/
theorem bellowsReduceRows : Obligations.BellowsReduceRows := by
  unfold Obligations.BellowsReduceRows
  intro c s hr h f o w n rows
  have hm := hr.1
  refine ⟨fun p hp hs hf ht hi hd => ?record, fun hf ht hi => ⟨?sum, fun hs hc hd0 hd1 => ?running⟩,
    fun hs ha hb hk hd => ?node, fun hs ha hb hd => ?merge⟩
  case record =>
    have hrec := length_bellowsOp_record p hp c
    have hn : rows.length = n := length_bellowsRows hm (pWidth_pos (bellowsOp_code p hp) hs)
    obtain ⟨skips, hexec⟩ := exec_bellowsOp p hp
    obtain ⟨st, hx⟩ := exec_rowReduce hs hf ht hi hd
    refine ⟨_, (hexec c s).trans hx, fun r hlt => ?_, onlySpad_of_write hm withEcc_bellowsDone_spad ?_,
      opFrame_withEcc_bellowsDone hr rfl⟩
    · rw [← hn] at hlt
      rw [withEcc_bellowsDone_spad, mread_spadWrite_record hm (fun x _ => hrec x) hlt, List.getD_eq_getElem]
    · rw [length_flatMap_records fun x _ => hrec x, hn]
  case sum =>
    simp only [List.forall_mem_cons, List.not_mem_nil, false_implies, implies_true, and_true]
    refine ⟨fun hs hd => ?bsum, fun hs hd => ?bsumsq⟩
    case bsum =>
      obtain ⟨t, hx, helem, htrain, hspad, hframe⟩ := sumReduce_spec (leaf := id) hr (by omega) hs hf ht hi hd
      exact ⟨t, hx, helem, htrain, hspad, (with_train_of_eq htrain).symm ▸ hframe⟩
    case bsumsq =>
      obtain ⟨t, hx, helem, htrain, hspad, hframe⟩ := sumReduce_spec (leaf := squareLeaf) hr (by omega) hs hf ht hi hd
      refine ⟨_, exec_bsumsq hs ht hx, helem, ?_, hspad, ?_⟩
      · rw [noteNodes, htrain]; rfl
      · exact (with_train_of_eq htrain).symm ▸ hframe
  case running =>
    obtain ⟨st, hx⟩ := exec_bprefix hm hs hf ht hi hc hd0 hd1
    refine ⟨_, hx, fun r hlt => ?_, fun e he hap => ?_, onlySpad_prefixWritten hm withEcc_bellowsDone_spad,
      opFrame_withEcc_bellowsDone hr rfl⟩
    · rw [elemAt, withEcc_bellowsDone_spad, leNat_mread_carry hm hlt, carryCode, rowSums, runningSums, List.getLast?_map,
        getD_map_eq_elim]
      rfl
    · rw [elemAt, withEcc_bellowsDone_spad, leNat_mread_prefix hm he hap, prefixCode, rowSums, runningSums,
        List.getD_eq_getElem?_getD, List.getElem?_map, getD_map_eq_elim]
      rfl
  case node =>
    obtain ⟨st, hx⟩ := exec_bnode hm hs ha hb hk hd
    refine ⟨_, hx, fun e he => ?_, onlySpad_of_write hm withEcc_bellowsDone_spad (length_mergedBytes hm (by omega) _ _),
      opFrame_withEcc_bellowsDone hr rfl⟩
    rw [elemAt, withEcc_bellowsDone_spad]
    exact leNat_mread_merged hm (by omega) hm _ _ he
  case merge =>
    obtain ⟨st, hx⟩ := exec_bmerge hs ha hb hd
    have hk := pTopK_pos hs
    have hn : ((pairsAt s c (opSrc0 c)).zip (pairsAt s c (opSrc1 c))).length = n := by
      rw [List.length_zip, length_pairsAt hk, length_pairsAt hk, min_self]
    have hrec (z : List Pair × List Pair) := length_pairBytes_rankFill (pTopK c) (z.1 ++ z.2)
    refine ⟨_, hx, fun r hlt => ?_, onlySpad_of_write hm withEcc_bellowsDone_spad ?_, opFrame_withEcc_bellowsDone hr rfl⟩
    · rw [← hn] at hlt
      rw [withEcc_bellowsDone_spad, mread_spadWrite_record hm (fun z _ => hrec z) hlt, List.getElem_zip,
        List.getD_eq_getElem, List.getD_eq_getElem]
    · rw [length_flatMap_records fun z _ => hrec z, hn]

end Sys2Proof.Machine
end

section
/-! Writes of the time and of FABRIC_ID (07, R128, R134; 11, R218, R234, R239): a scalar write reaches its entry's own write, a
cell that floods waits on every link that is up, and the time-parent tree is found anew. -/

namespace Sys2Proof.Machine

open Sys2Proof.Claims

/-! Links changed one after another -/

/-- Links that are changed one after another: the links alone. -/
theorem foldl_modLink_eq (f : State → Nat → Link → Link) : ∀ (l : List Nat) (s : State), ∃ x,
    l.foldl (fun s k => modLink s k (f s k)) s = { s with links := x }
  | [], s => ⟨s.links, rfl⟩
  | k :: l, s => foldl_modLink_eq f l (modLink s k (f s k))

/-- Distinct links that are changed one after another, each by its own function. -/
theorem linkOf_foldl_modLink (f : Nat → Link → Link) : ∀ {l : List Nat} {s : State} {i : Nat}, l.Nodup →
    swf {} s.links = true →
    linkOf (l.foldl (fun s k => modLink s k (f k)) s) i = if i ∈ l then f i (linkOf s i) else linkOf s i
  | [], _, _, _, _ => rfl
  | k :: l, s, i, hl, hs => by
    obtain ⟨hk, hl⟩ := List.nodup_cons.mp hl
    rw [List.foldl_cons, linkOf_foldl_modLink f hl (sput_swf hs), linkOf_modLink hs]
    by_cases hi : i = k
    · subst hi
      simp [hk]
    · simp [hi]

/-! A scalar that an agent writes -/

/-- A heard agent that may write gets, for a scalar of a subentry, the code of the entry's own write. -/
theorem agentWrite_scalar {a : Agent} {s t : State} {i sub n : Nat} {e : Entry} {x : Sub} {c : BitVec 16}
    (ha : mayCommand s a) (he : entryOf i = some e) (hx : subOf i e sub = some x) (hacc : x.acc = .rw ∨ x.acc = .wo)
    (htyp : x.typ < 256) (hlong : isLong x.typ = false) (hn : n < 256 ^ x.size)
    (h : writeSub s a i sub ⟨n, 0, natLe x.size n, true⟩ = (t, c)) : agentWrite a i sub (scalar x n) s = .next (coded t c) := by
  have ht : x.typ = (BitVec.ofNat 8 x.typ).toNat := by rw [BitVec.toNat_ofNat, Nat.mod_eq_of_lt htyp]
  rw [agentWrite, access, if_pos ha.1, dictWrite_of_writable he hx ha.2 hacc (v := scalar x n) ht, scalar,
    putOf_scalar _ hlong hn, h]
  rfl

section Time

variable {a : Agent} {s : State} (ha : mayCommand s a) (v : BitVec 64)

include ha

/-- TAI_SET answers as its own write does. -/
theorem exec_taiSet {t : State} {c : BitVec 16} (h : writeTai s ⟨v.toNat, 0, natLe 8 v.toNat, true⟩ = (t, c)) :
    exec (.taiSet a v) s = .next (coded t c) :=
  agentWrite_scalar ha (i := 0x2400) (sub := 6) (x := t64 .rw) rfl rfl (.inl rfl) (by decide) rfl v.isLt
    ((if_neg (fun h => absurd h.2 (by decide))).trans h)

/-- START_TIME answers as its own write does. -/
theorem exec_startTimeWrite {t : State} {c : BitVec 16}
    (h : writeStartTime s ⟨v.toNat, 0, natLe 8 v.toNat, true⟩ = (t, c)) :
    exec (.startTimeWrite a v) s = .next (coded t c) :=
  agentWrite_scalar ha (i := 0x2400) (sub := 3) (x := t64 .rw) rfl rfl (.inl rfl) (by decide) rfl v.isLt
    ((if_neg (fun h => absurd h.2 (by decide))).trans h)

/-- FABRIC_ID answers as its own write does. -/
theorem exec_fabricIdWrite {t : State} {c : BitVec 16}
    (h : writeFabricId s ⟨v.toNat, 0, natLe 8 v.toNat, true⟩ = (t, c)) :
    exec (.fabricIdWrite a v) s = .next (coded t c) :=
  agentWrite_scalar ha (i := 0x4040) (sub := 1) (x := u64 .rw) rfl rfl (.inl rfl) (by decide) rfl v.isLt
    ((if_neg (fun h => absurd h.2 (by decide))).trans h)

end Time

/-! Cells that flood (11, R234) -/

/-- A cell that floods changes the links alone. -/
theorem floodBut_eq (skip : Option Nat) (c : Cell) (s : State) : ∃ x, floodBut skip c s = { s with links := x } :=
  foldl_modLink_eq (fun _ _ l => { l with pendControl := l.pendControl ++ [c] }) _ s

theorem mem_upLinks {s : State} {k : Nat} : k ∈ upLinks s ↔ k < 64 ∧ isUp s k = true := by
  rw [upLinks, List.mem_filter, List.mem_range]

/-- A cell that floods waits on every link that is up but the one left out. -/
theorem linkOf_floodBut {s : State} (hs : swf {} s.links = true) (skip : Option Nat) (c : Cell) {k : Nat} (hk : k < 64) :
    linkOf (floodBut skip c s) k = if isUp s k = true ∧ some k ≠ skip then
      { linkOf s k with pendControl := (linkOf s k).pendControl ++ [c] } else linkOf s k := by
  have hl : ((upLinks s).filter (fun k => some k != skip)).Nodup := (List.nodup_range.filter _).filter _
  have hm : k ∈ (upLinks s).filter (fun k => some k != skip) ↔ isUp s k = true ∧ some k ≠ skip := by
    simp [mem_upLinks, hk]
  refine (linkOf_foldl_modLink (fun _ l => { l with pendControl := l.pendControl ++ [c] }) hl hs).trans ?_
  simp only [hm]

/-- A cell that the master originates takes the next SEQ and waits on links; nothing else changes. -/
theorem originate_eq (code : Nat) (payload : Bytes) (s : State) : ∃ x, originate code payload s =
    { s with fabric := { s.fabric with seqOut := s.fabric.seqOut + 1 }, links := x } :=
  floodBut_eq none _ _

/-- A cell that the master originates waits on every link that is up. -/
theorem linkOf_originate {s : State} (hs : swf {} s.links = true) (code : Nat) (payload : Bytes) {k : Nat} (hk : k < 64) :
    linkOf (originate code payload s) k = if isUp s k then { linkOf s k with
      pendControl := (linkOf s k).pendControl ++ [mkControl code s.fabric.seqOut.toNat payload] } else linkOf s k :=
  (linkOf_floodBut (s := { s with fabric := { s.fabric with seqOut := s.fabric.seqOut + 1 } }) hs none _ hk).trans
    (if_congr (and_iff_left (Option.some_ne_none k)) rfl rfl)

/-! The time-parent tree found anew -/

/-- Between s and t only the time base, the depth, the requests and the waiting occurrences have changed. -/
def OnlyTree (s t : State) : Prop :=
  t = { s with time := t.time, upd := t.upd, rate := t.rate, faults := { s.faults with detected := t.faults.detected } }

theorem OnlyTree.trans {r s t : State} (h : OnlyTree r s) (k : OnlyTree s t) : OnlyTree r t := by
  unfold OnlyTree at *
  rw [h] at k
  exact k

theorem refreshDepth_only (s : State) : OnlyTree s (refreshDepth s) := rfl

theorem refreshRequest_only (s : State) : OnlyTree s (refreshRequest s) := by
  unfold refreshRequest
  dsimp only
  split <;> rfl

theorem refreshParent_only (s : State) : OnlyTree s (refreshParent s) := by
  unfold refreshParent
  dsimp only
  split
  · rfl
  · refine OnlyTree.trans ?_ (refreshDepth_only _)
    split <;> rfl

theorem refreshTree_only (s : State) : OnlyTree s (refreshTree s) :=
  ((refreshParent_only s).trans (refreshDepth_only _)).trans (refreshRequest_only _)

/-! FABRIC_ID -/

theorem relink_eq (s : State) (k : Nat) : ∃ x, relink s k = { s with links := x } := by
  unfold relink
  dsimp only
  repeat' split
  all_goals exact ⟨_, rfl⟩

theorem foldl_relink_eq : ∀ (l : List Nat) (s : State), ∃ x, l.foldl relink s = { s with links := x }
  | [], s => ⟨s.links, rfl⟩
  | k :: l, s => by
    obtain ⟨x, hx⟩ := relink_eq s k
    rw [List.foldl_cons, hx]
    exact foldl_relink_eq l { s with links := x }

/-- An accepted FABRIC_ID changes the entry, the links and what the tree shows. -/
theorem writeFabricId_accepted {s : State} {w : Put} (hm : s.dev.mode ∈ [Mode.standby, .idle]) (hw : w.fit = true)
    (hv : fabricIdOk w.num = true) : ∃ x t, writeFabricId s w = (t, 0) ∧
      OnlyTree { s with fabric := { s.fabric with id := BitVec.ofNat 64 w.num }, links := x } t := by
  obtain ⟨x, hx⟩ := foldl_relink_eq (List.range 64) { s with fabric := { s.fabric with id := BitVec.ofNat 64 w.num } }
  rw [writeFabricId, inStates_of_mem hm, ranged_eq, if_pos (by rw [hw, hv]; rfl), hx]
  split
  · exact ⟨x, _, rfl, refreshTree_only _⟩
  · exact ⟨s.links, _, rfl, rfl⟩

/-! The obligation -/

/-- START_TIME on a master in LOADED, on a frame boundary and far enough ahead, is set and floods. -/
theorem exec_startTimeWrite_accepted {a : Agent} {s : State} (ha : mayCommand s a) {v : BitVec 64} (hm : s.time.master = true)
    (hl : s.dev.mode = .loaded) (hv : v.toNat % 256 = 0) (hn : s.time.now + 10000000 ≤ v.toNat) :
    exec (.startTimeWrite a v) s = .next (coded (originate 3 (natBe 8 v.toNat)
      { s with time := { s.time with startTime := v, startKnown := true } }) 0) := by
  refine exec_startTimeWrite ha v ?_
  have hok : (v.toNat % 256 == 0 && decide (s.time.now + 10000000 ≤ v.toNat)) = true := by simp [hv, hn]
  simp only [writeStartTime, isMaster, hm, inStates_of_mem (l := [.loaded]) (List.mem_singleton.mpr hl), ranged_eq, hok,
    Bool.true_and, BitVec.ofNat_toNat, BitVec.setWidth_eq, Bool.not_true, Bool.false_eq_true, if_false, if_true]

/-- Settles O21: each write through its entry's own write; START_TIME by what a cell that floods leaves waiting. -/
theorem timeAndFabricIdWrites : Obligations.TimeAndFabricIdWrites := by
  unfold Obligations.TimeAndFabricIdWrites
  intro a s ha
  refine ⟨fun v => ⟨fun hm => ?_, fun hm hmode => ⟨fun hs => ?_, fun hs hv => ?_⟩⟩, fun v => ⟨fun hm => ?_,
    fun hm hl hv hn hw => ?_⟩, fun v hv => ⟨fun hmode => ?_, fun hs hi => ?_⟩⟩
  · exact exec_taiSet ha v (by simp [writeTai, isMaster, hm])
  · have hin : s.dev.mode ∈ [Mode.idle, .loaded] := by simpa using hmode
    exact exec_taiSet ha v (by simp [writeTai, isMaster, hm, hs, inStates_of_mem hin, ranged_eq])
  · have hin : s.dev.mode ∈ [Mode.idle, .loaded] := by simpa using hmode
    exact exec_taiSet ha v (by simp [writeTai, isMaster, hm, hs, hv, inStates_of_mem hin, ranged_eq])
  · exact exec_startTimeWrite ha v (by simp [writeStartTime, isMaster, hm])
  · refine ⟨_, exec_startTimeWrite_accepted ha hm hl hv hn, ?_⟩
    obtain ⟨x, hx⟩ := originate_eq 3 (natBe 8 v.toNat) { s with time := { s.time with startTime := v, startKnown := true } }
    refine ⟨?_, ?_, ?_, rfl, fun k hk => linkOf_originate (s := { s with
      time := { s.time with startTime := v, startKnown := true } }) hw 3 (natBe 8 v.toNat) hk, ?_⟩
    all_goals rw [hx]; simp only [coded, and_self]
  · have hin : s.dev.mode ∈ [Mode.standby, .idle] := by simpa using hmode
    obtain ⟨x, t, ht, ho⟩ := writeFabricId_accepted (w := ⟨v.toNat, 0, natLe 8 v.toNat, true⟩) hin rfl hv
    refine ⟨_, exec_fabricIdWrite ha v ht, ?_⟩
    rw [ho]
    simp [coded]
  · have hin : s.dev.mode ∉ [Mode.standby, .idle] := by simp [hs, hi]
    exact exec_fabricIdWrite ha v (by rw [writeFabricId, inStates_of_not_mem hin])

end Sys2Proof.Machine
end

section
/-! Slot misses, HALT positions and forced occurrences (07, R136, R138; 11, R234; 14, R289, R304). -/

namespace Sys2Proof.Machine

open Sys2Proof.Claims

/-! Slot misses -/

/-- While the schedule runs, a unit that is no link misses where the schedule gives it work. -/
theorem exec_slotMiss_unit {s : State} (hs : schedules s = true) {m : MissUnit} {o : Occ} {b : Bool}
    (hm : (m, o, b) ∈ missUnits s) : exec (.slotMiss m) s = .next (if b then detect s o else s) := by
  simp only [missUnits, List.mem_append, List.mem_map] at hm
  rcases hm with (⟨h, -, heq⟩ | ⟨h, -, heq⟩) | ⟨h, -, heq⟩ <;> cases heq
  all_goals exact if_neg (by rw [hs]; decide)

/-- While the schedule runs, a link misses where cells that it awaits are past their deadline. -/
theorem exec_slotMiss_cell {s : State} (hs : schedules s = true) (k : Fin 64) :
    exec (.slotMiss (.cell k)) s = .next (missCells s.seq.slot s k.val) :=
  if_neg (by rw [hs]; decide)

/-! HALT positions -/

/-- The link dies of link k have nothing to put into position p, or cannot. -/
def PositionLost (s : State) (k : Fin 64) (p : Nat) : Prop :=
  p % 16 ≠ 0 ∨ linkTakes s k.val = false ∨ 32 * (p + 1) ≤ 7 * s.time.now ∨ ∃ x ∈ (linkOf s k.val).sent, x.1 = p

theorem exec_haltPosition_lost {s : State} {k : Fin 64} {p : Nat} (h : PositionLost s k p) :
    exec (.haltPosition k p) s = .next s := by
  refine if_pos ?_
  rcases h with h | h | h | ⟨x, hx, rfl⟩
  · exact .inl h
  · exact .inr (.inl (by rw [h]; rfl))
  · exact .inr (.inr (by simp [positionOpen, h]))
  · have ha : (linkOf s k.val).sent.any (fun y => y.1 == x.1) = true := List.any_eq_true.mpr ⟨x, hx, beq_self_eq_true _⟩
    exact .inr (.inr (by simp [positionOpen, ha]))

/-- The rate request is due on link k (07, R140). -/
def requestDueOn (s : State) (k : Nat) : Bool := s.rate.requestDue && s.time.parent == some k

/-- Link k once its HALT position p has carried a cell: the oldest HALT, the request that is due, the oldest control cell, or
the idle cell. -/
def carriedLink (p : Nat) (s : State) (k : Nat) : Link :=
  let l := linkOf s k
  match l.pendHalt with
  | h :: r => { l with pendHalt := r, sent := l.sent ++ [(p, h)] }
  | [] =>
    if requestDueOn s k then { l with sent := l.sent ++ [(p, mkControl 1 0 [BitVec.ofNat 8 (combinedRequest s).toNat])] }
    else
      match l.pendControl with
      | c :: r => { l with pendControl := r, sent := l.sent ++ [(p, c)] }
      | [] => { l with sent := l.sent ++ [(p, mkIdle)] }

section Carried

variable {p : Nat} {s : State} {k : Nat}

theorem carriedLink_halt {h : Cell} {r : List Cell} (hh : (linkOf s k).pendHalt = h :: r) :
    carriedLink p s k = { linkOf s k with pendHalt := r, sent := (linkOf s k).sent ++ [(p, h)] } := by
  simp only [carriedLink, hh]

theorem carriedLink_request (hh : (linkOf s k).pendHalt = []) (hd : requestDueOn s k = true) : carriedLink p s k =
    { linkOf s k with sent := (linkOf s k).sent ++ [(p, mkControl 1 0 [BitVec.ofNat 8 (combinedRequest s).toNat])] } := by
  simp only [carriedLink, hh, hd, if_true]

theorem carriedLink_control {c : Cell} {r : List Cell} (hh : (linkOf s k).pendHalt = []) (hd : requestDueOn s k = false)
    (hc : (linkOf s k).pendControl = c :: r) :
    carriedLink p s k = { linkOf s k with pendControl := r, sent := (linkOf s k).sent ++ [(p, c)] } := by
  simp only [carriedLink, hh, hd, hc, Bool.false_eq_true, if_false]

theorem carriedLink_idle (hh : (linkOf s k).pendHalt = []) (hd : requestDueOn s k = false)
    (hc : (linkOf s k).pendControl = []) :
    carriedLink p s k = { linkOf s k with sent := (linkOf s k).sent ++ [(p, mkIdle)] } := by
  simp only [carriedLink, hh, hd, hc, Bool.false_eq_true, if_false]

end Carried

/-- A HALT position changes its link, and the request that it carries is due no more. -/
theorem positionCell_eq (p : Nat) (s : State) (k : Nat) :
    positionCell p s k = modLink { s with rate := { s.rate with
      requestDue := s.rate.requestDue && !(requestDueOn s k && (linkOf s k).pendHalt.isEmpty) } } k
      (fun _ => carriedLink p s k) := by
  cases hh : (linkOf s k).pendHalt with
  | cons h r =>
    have hl : positionCell p s k = modLink s k (fun l => putCell p h { l with pendHalt := r }) := by
      simp only [positionCell, hh]
    rw [hl, carriedLink_halt hh, List.isEmpty_cons, Bool.and_false, Bool.not_false, Bool.and_true]
    rfl
  | nil =>
    cases hd : requestDueOn s k with
    | true =>
      have hl : positionCell p s k = modLink { s with rate := { s.rate with requestDue := false } } k
          (putCell p (mkControl 1 0 [BitVec.ofNat 8 (combinedRequest s).toNat])) := by
        rw [positionCell, hh]
        exact if_pos hd
      rw [hl, carriedLink_request hh hd, List.isEmpty_nil, Bool.and_true, Bool.not_true, Bool.and_false]
      rfl
    | false =>
      rw [List.isEmpty_nil, Bool.and_true, Bool.not_false, Bool.and_true]
      have hn : ¬((s.rate.requestDue && s.time.parent == some k) = true) := by
        rw [← requestDueOn, hd]
        decide
      cases hc : (linkOf s k).pendControl with
      | cons c r =>
        have hl : positionCell p s k = modLink s k (fun l => putCell p c { l with pendControl := r }) := by
          simp only [positionCell, hh, if_neg hn, hc]
        rw [hl, carriedLink_control hh hd hc]
        rfl
      | nil =>
        have hl : positionCell p s k = modLink s k (putCell p mkIdle) := by
          simp only [positionCell, hh, if_neg hn, hc]
        rw [hl, carriedLink_idle hh hd hc]
        rfl

/-- An open HALT position, with no announcement due, carries its cell at its time. -/
theorem exec_haltPosition_open {s : State} {k : Fin 64} {p : Nat} (hp : p % 16 = 0) (ht : linkTakes s k.val = true)
    (hn : 7 * s.time.now < 32 * (p + 1)) (hs : ∀ x ∈ (linkOf s k.val).sent, x.1 ≠ p) (ha : announceReady s = false) :
    exec (.haltPosition k p) s = .next (positionCell p
      { s with time := { s.time with now := clock64 (max s.time.now (32 * p / 7)) } } k.val) := by
  have ho : positionOpen s k.val p = true := by simpa [positionOpen, hn] using hs
  refine (if_neg (by simp [hp, ht, ho])).trans ?_
  exact congrArg (fun t => Host.Outcome.next (positionCell p t k.val)) (if_neg (Bool.eq_false_iff.mp ha))

/-! Occurrences of class C (14, R289) -/

/-- The keys of a canonical table from b on are not below b. -/
theorem le_of_sabove {α : Type} [DecidableEq α] {d : α} : ∀ {t : Sparse α} {b : Nat} {x : Nat × α}, sabove d b t = true →
    x ∈ t → b ≤ x.1
  | (j, w) :: t, b, x, h, hm => by
    simp only [sabove, Bool.and_eq_true, decide_eq_true_eq] at h
    rcases List.mem_cons.mp hm with rfl | hm
    · exact h.1.1
    · exact Nat.le_of_lt (Nat.lt_of_le_of_lt h.1.1 (le_of_sabove h.2 hm))

/-- A listed entry of a canonical table is read under its key. -/
theorem sget_of_mem {α : Type} [DecidableEq α] {d : α} : ∀ {t : Sparse α} {b : Nat} {x : Nat × α}, sabove d b t = true →
    x ∈ t → sget d t x.1 = x.2
  | (j, w) :: t, b, x, h, hm => by
    simp only [sabove, Bool.and_eq_true] at h
    rcases List.mem_cons.mp hm with rfl | hm
    · simp [sget]
    · have hj := le_of_sabove h.2 hm
      rw [sget, if_neg (by omega), if_neg (by omega)]
      exact sget_of_mem h.2 hm

/-- What the classification of an occurrence of class C without a reaction asks of the sources (Table 14.1). -/
theorem classC_code {c : Nat} {i : SourceInfo} (hi : sourceInfo c = some i) (hc : i.cls = 1) :
    i.code = c ∧ c < 65536 ∧ isMemoryError c = false ∧ c ≠ 0x0205 ∧ c ≠ 0x0206 ∧ c ≠ 0x0503 := by
  have hcode : i.code = c := by simpa using List.find?_some hi
  have htab : ∀ x ∈ sourceTable, x.cls = 1 → x.code < 65536 ∧ isMemoryError x.code = false ∧ x.code ≠ 0x0205 ∧
    x.code ≠ 0x0206 ∧ x.code ≠ 0x0503 := by decide
  exact ⟨hcode, hcode ▸ htab i (List.mem_of_find?_eq_some hi) hc⟩

/-- An occurrence of class C is reported as it was detected. -/
theorem reported_classC {s : State} {d : Detected} {i : SourceInfo} (hi : sourceInfo d.occ.source.toNat = some i)
    (hc : i.cls = 1) : reported s d = d.occ := by
  obtain ⟨-, -, hm, h5, h6, -⟩ := classC_code hi hc
  simp [reported, hm, h5, h6]

/-- An occurrence of class C takes its source's reaction: no hearth reaches its limit by it (R292). -/
theorem takenReaction_classC {s : State} {i : SourceInfo} (hc : i.cls = 1) (o : Occ) :
    takenReaction s i o = reactionOf s i := by
  unfold takenReaction
  cases hearthAt o <;> simp [hc]

/-- The count of an occurrence of class C in COUNT_C and at its source. -/
theorem countOccurrence_faults_classC {s : State} {i : SourceInfo} (hc : i.cls = 1) (o : Occ) :
    (countOccurrence s i o).faults = { s.faults with
      countC := satInc s.faults.countC
      sources := smod {} s.faults.sources i.code (fun x => { x with count := satInc x.count }) } := by
  unfold countOccurrence
  cases hearthAt o <;> simp [hc, countHearth, modSource]

theorem sendEvent_faults (s : State) (r : Bytes) : (sendEvent s r).faults = s.faults := by
  unfold sendEvent
  split <;> rfl

/-- The log takes one record, the newest first, with the occurrence's source, its location and whether it was forced. -/
theorem logOccurrence_faults (s : State) {i : SourceInfo} (o : Occ) (d : Detected) (m : Bool) (hc : i.cls = 1) :
    ∃ r x, (logOccurrence s i o d 0 m).faults = { s.faults with log := (r :: s.faults.log).take 1024, lastFault := x } ∧
      r.source = BitVec.ofNat 16 i.code ∧ r.disposition.getLsbD 2 = d.forced ∧ r.location = locWord o := by
  refine ⟨_, _, sendEvent_faults _ _, rfl, ?_, rfl⟩
  show (disposition i.cls 0 d.forced m).getLsbD 2 = d.forced
  rw [hc]
  cases d.forced <;> cases m <;> decide

theorem qualify_faults (s : State) (i : SourceInfo) (m : Bool) :
    ∃ h p, (qualify s i m).faults = { s.faults with errHeld := h, pulsing := p } := by
  unfold qualify
  dsimp only
  repeat' split
  all_goals exact ⟨_, _, rfl⟩

theorem noteLost_faults (s : State) (c : Nat) : (noteLost s c).faults = s.faults := by
  unfold noteLost
  split <;> rfl

/-- The reaction of a source stays when an occurrence of it is counted. -/
theorem reactionOf_countOccurrence {s : State} {i : SourceInfo} (hc : i.cls = 1) (o : Occ)
    (hw : swf {} s.faults.sources = true) : reactionOf (countOccurrence s i o) i = reactionOf s i := by
  simp only [reactionOf, sourceOf, countOccurrence_faults_classC hc, smod, sget_sput hw, if_true]

/-- What an occurrence of class C without a reaction leaves of the faults but its counts: a record of it, unless its source is
masked or only counts. -/
theorem logged_classC (s : State) {i : SourceInfo} (o : Occ) (d : Detected) (m : Bool) (hc : i.cls = 1) :
    ∃ l x, (if (i.code == 0x0102 || i.code == 0x0301 || (i.cls == 1 && m)) = true then s
      else logOccurrence s i o d 0 m).faults = { s.faults with log := l, lastFault := x } ∧
      (m = false → i.code ≠ 0x0102 → i.code ≠ 0x0301 → ∃ r, l = (r :: s.faults.log).take 1024 ∧
        r.source = BitVec.ofNat 16 i.code ∧ r.disposition.getLsbD 2 = d.forced ∧ r.location = locWord o) := by
  split
  case isTrue hq => exact ⟨_, _, rfl, fun hm h2 h1 => by simp [hm, h2, h1] at hq⟩
  case isFalse =>
    obtain ⟨r, x, hf, hr⟩ := logOccurrence_faults s o d m hc
    exact ⟨_, x, hf, fun _ _ _ => ⟨r, rfl, hr⟩⟩

/-- A class C occurrence without a reaction is counted, and logged unless its source is masked or only counts (R289). -/
theorem classify_classC {s : State} {d : Detected} {i : SourceInfo} (hi : sourceInfo d.occ.source.toNat = some i)
    (hc : i.cls = 1) (hr : reactionOf s i = 0) (hw : swf {} s.faults.sources = true) :
    ∃ t, classify s d = (t, some ⟨i, d.occ, 0, d.kind, d.planEntry.toNat, d.forced⟩) ∧
      t.faults.countC = satInc s.faults.countC ∧ t.faults.detected = s.faults.detected ∧
      t.faults.sources = smod {} s.faults.sources i.code (fun x => { x with count := satInc x.count }) ∧
      ((sourceOf s i.code).mask = false → i.code ≠ 0x0102 → i.code ≠ 0x0301 →
        ∃ r, t.faults.log = (r :: s.faults.log).take 1024 ∧ r.source = BitVec.ofNat 16 i.code ∧
          r.disposition.getLsbD 2 = d.forced ∧ r.location = locWord d.occ) := by
  obtain ⟨-, -, -, -, h6, -⟩ := classC_code hi hc
  have hsrc : ¬d.occ.source = 0x0206 := fun h => h6 (by rw [h]; rfl)
  have hnone : takenReaction (countOccurrence s i d.occ) i d.occ = 0 := by
    rw [takenReaction_classC hc, reactionOf_countOccurrence hc _ hw, hr]
  unfold classify
  simp only [reported_classC hi hc, if_neg hsrc, hi, hnone]
  refine ⟨_, rfl, ?_⟩
  obtain ⟨l, x, hlog, hrec⟩ := logged_classC (countOccurrence s i d.occ) d.occ d (sourceOf s i.code).mask hc
  obtain ⟨h, p, hf⟩ := qualify_faults _ i (sourceOf s i.code).mask
  rw [hf]
  simp only [noteLost_faults, hlog]
  rw [countOccurrence_faults_classC hc] at hrec ⊢
  exact ⟨rfl, rfl, rfl, hrec⟩

/-! Forced occurrences (14, R304) -/

/-- A source that forces an occurrence is read under its code. -/
theorem sourceOf_of_find? {s : State} {p : Nat × Source → Bool} {c : Nat} {x : Source}
    (hw : swf {} s.faults.sources = true) (h : s.faults.sources.find? p = some (c, x)) : sourceOf s c = x :=
  sget_of_mem hw (List.mem_of_find?_eq_some h)

theorem exec_forcedOccurrence_none {s : State} (h : s.faults.sources.find? (forceDue s) = none) :
    exec .forcedOccurrence s = .next s := by
  show execForcedOccurrence s = _
  unfold execForcedOccurrence
  split
  · rfl
  · rw [h]

/-- Fabric time at which a force of x that is due is classified: without a frame grid the next multiple of 256 ns (log 97). -/
def forcedAt (s : State) (x : Source) : Nat :=
  if s.seq.grid then s.time.now else clock64 ((max s.time.now (x.force.elim 0 (·.1.toNat)) + 255) / 256 * 256)

/-- The state in which a due force of a source is classified: its time, and no force of the source. -/
def unforced (s : State) (code : Nat) (x : Source) : State :=
  modSource { s with time := { s.time with now := forcedAt s x } } code (fun y => { y with force := none })

section Unforced

variable {s : State} (hw : swf {} s.faults.sources = true) (x : Source)

include hw

theorem sourceOf_unforced (code c : Nat) : sourceOf (unforced s code x) c =
    if c = code then { sourceOf s code with force := none } else sourceOf s c :=
  sourceOf_modSource hw

theorem reactionOf_unforced (i : SourceInfo) : reactionOf (unforced s i.code x) i = reactionOf s i := by
  simp only [reactionOf, sourceOf_unforced hw, if_true]

/-- The sources once a force has been classified: no force, and one occurrence more. -/
theorem sourceOf_of_counted {t : State} {code : Nat} (c : Nat) (ht : t.faults.sources =
      smod {} (unforced s code x).faults.sources code (fun y => { y with count := satInc y.count })) :
    sourceOf t c = if c = code then { sourceOf s code with force := none, count := satInc (sourceOf s code).count }
      else sourceOf s c := by
  have hself := (sourceOf_unforced hw x code code).trans (if_pos rfl)
  have hw' : swf {} (unforced s code x).faults.sources = true := sput_swf hw
  rw [sourceOf, ht, smod, sget_sput hw']
  by_cases he : c = code
  · rw [if_pos he, if_pos he]
    exact congrArg (fun y : Source => { y with count := satInc y.count }) hself
  · rw [if_neg he, if_neg he]
    exact (sourceOf_unforced hw x code c).trans (if_neg he)

end Unforced

theorem exec_forcedOccurrence_due {s : State} {code : Nat} {x : Source} {f : BitVec 64 × BitVec 12} {i : SourceInfo} {o : Occ}
    (hoff : s.dev.mode ≠ .off) (hboot : s.dev.mode ≠ .boot) (h : s.faults.sources.find? (forceDue s) = some (code, x))
    (hx : x.force = some f) (hi : sourceInfo code = some i) (ho : forceOcc i f.2.toNat = some o) :
    exec .forcedOccurrence s =
      .next (collect (unforced s code x) (detectedNow (unforced s code x) o true) false) := by
  show execForcedOccurrence s = _
  have hm : ¬((decide (s.dev.mode = .off) || decide (s.dev.mode = .boot)) = true) := by simp [hoff, hboot]
  have hb : (sourceInfo code).bind (fun i => forceOcc i (x.force.elim 0 (·.2.toNat))) = some o := by
    rw [hi, hx]
    exact ho
  unfold execForcedOccurrence
  rw [if_neg hm, h]
  simp only [hb]
  rfl

/-- The occurrence that a force names carries its source's code. -/
theorem source_of_forceOcc {i : SourceInfo} {u : Nat} {o : Occ} (h : forceOcc i u = some o) :
    o.source = BitVec.ofNat 16 i.code := by
  simp only [forceOcc, Option.ite_none_right_eq_some, Option.some.injEq] at h
  rw [← h.2]
  rfl

/-- A classified occurrence that takes no reaction has none, but for a thermal trip. -/
theorem collect_of_no_reaction {s t : State} {d : Detected} {c : Classified} {b : Bool}
    (h : classify s d = (t, some c)) (hr : c.reaction = 0) (hc : c.info.code ≠ 0x0503) : collect s d b = t := by
  rw [collect, h]
  simp only [react, if_neg hc, if_pos hr]

/-! The obligation -/

/-- Settles O49: the units one by one, the cell that a position carries, and the classification of class C. -/
theorem missesPositionsAndForces : Obligations.MissesPositionsAndForces := by
  unfold Obligations.MissesPositionsAndForces
  intro s
  refine ⟨fun m hs => ?_, fun hs hw => ⟨fun m o b hm => ⟨fun hb => ?_, fun hb => ?_⟩, fun k => ⟨fun hl => ?_, fun hl => ?_⟩⟩,
    fun k p h => exec_haltPosition_lost h, fun k p hp ht hn hsent ha hw => ?_, exec_forcedOccurrence_none,
    fun code x f i o hoff hboot hw hfind hx hi ho hc hr => ?_⟩
  · exact if_pos (by rw [hs]; rfl)
  · rw [exec_slotMiss_unit hs hm, hb, if_neg Bool.false_ne_true]
  · rw [exec_slotMiss_unit hs hm, hb, if_pos rfl]
    exact ⟨_, rfl, rfl⟩
  · rw [exec_slotMiss_cell hs]
    exact congrArg Host.Outcome.next (if_neg (Bool.eq_false_iff.mp hl))
  · rw [exec_slotMiss_cell hs]
    refine ⟨_, _, congrArg Host.Outcome.next (if_pos hl), rfl, rfl, fun i => ?_⟩
    rw [linkOf, detect_links]
    exact linkOf_modLink hw
  · rw [exec_haltPosition_open hp ht hn hsent ha, positionCell_eq]
    refine ⟨_, rfl, rfl, fun i hi => ?_, fun h r hh => ?_, fun hh hd => ?_, fun hh hd c r hq => ?_, fun hh hd hq => ?_⟩
    · exact (linkOf_modLink hw).trans (if_neg hi)
    · exact ((linkOf_modLink hw).trans (if_pos rfl)).trans (carriedLink_halt hh)
    · exact ((linkOf_modLink hw).trans (if_pos rfl)).trans (carriedLink_request hh hd)
    · exact ((linkOf_modLink hw).trans (if_pos rfl)).trans (carriedLink_control hh hd hq)
    · exact ((linkOf_modLink hw).trans (if_pos rfl)).trans (carriedLink_idle hh hd hq)
  · obtain ⟨hcode, hlt, -, -, -, h503⟩ := classC_code hi hc
    subst hcode
    have hsrc : o.source.toNat = i.code := by rw [source_of_forceOcc ho, BitVec.toNat_ofNat, Nat.mod_eq_of_lt hlt]
    obtain ⟨t, ht, hcount, hdet, hsrcs, hlog⟩ := classify_classC (d := detectedNow (unforced s i.code x) o true)
      (by rw [← hi, ← hsrc]; rfl) hc ((reactionOf_unforced hw x i).trans hr) (sput_swf hw)
    have honly : OnlyCollected (unforced s i.code x) t := by
      rw [show t = (classify (unforced s i.code x) (detectedNow (unforced s i.code x) o true)).1 by rw [ht]]
      exact classify_only
    have hexec := exec_forcedOccurrence_due hoff hboot hfind hx hi ho
    rw [collect_of_no_reaction ht rfl h503] at hexec
    refine ⟨t, hexec, ?_, ?_, hcount, fun c hne => ?_, hdet, fun hmask h2 h1 => hlog ?_ h2 h1, fun hg => ?_, ?_⟩
    · rw [sourceOf_of_counted hw x _ hsrcs, if_pos rfl]
    · rw [sourceOf_of_counted hw x _ hsrcs, if_pos rfl]
    · rw [sourceOf_of_counted hw x _ hsrcs, if_neg hne]
    · rw [sourceOf_unforced hw, if_pos rfl, ← hmask, ← sourceOf_of_find? hw hfind]
    · rw [honly]
      simp only [unforced, modSource_time, forcedAt, hg, if_true]
    · rw [honly]
      exact ⟨rfl, rfl, rfl, rfl, rfl⟩

end Sys2Proof.Machine
end

section
/-! Temperatures and gates (07, R140, R141, R158; 12, R250, R255; 19, R388): what one evaluation sets in the evaluator's entries,
its die's gate and the stacks that it reads, and the level of PWRCAP_N. -/

namespace Sys2Proof.Machine

open Sys2Proof.Claims

/-! The hottest reading -/

/-- The hottest of readings is the largest. -/
theorem hottest_cons : ∀ (l : List Int) (x : Int), hottest (x :: l) = l.foldl max x
  | [], _ => rfl
  | y :: l, x => by
    rw [hottest, hottest_cons l y, List.foldl_cons]
    · exact (List.foldl_assoc (op := max) (l := l)).symm
    · nofun

/-- Every reading lies below a limit where the hottest does. -/
theorem allBelow_cons (t : Int) : ∀ (l : List Int) (x : Int), allBelow (x :: l) t = decide (l.foldl max x < t)
  | [], x => Bool.and_true _
  | y :: l, x => by
    have ih := allBelow_cons t l y
    have hm : hottest (x :: y :: l) = max x (hottest (y :: l)) := by
      rw [hottest]
      nofun
    rw [← hottest_cons] at ih ⊢
    rw [allBelow, List.all_cons, ← allBelow, ih, hm, ← Bool.decide_and, decide_eq_decide, max_lt_iff]

/-- A reading reaches a limit where the hottest does. -/
theorem any_le_cons (t : Int) (l : List Int) (x : Int) :
    (x :: l).any (fun y => decide (t ≤ y)) = decide (t ≤ l.foldl max x) := by
  have h : (x :: l).any (fun y => decide (t ≤ y)) = !allBelow (x :: l) t := by
    simp only [allBelow, List.any_eq_not_all_not, ← not_lt, decide_not, Bool.not_not]
  rw [h, allBelow_cons, ← decide_not, decide_eq_decide, not_lt]

/-! The evaluator's entries -/

/-- The request of readings whose hottest is h, 256 frames after every sensor fell below 90 C at the earliest (R140). -/
theorem dampRequest_eq (l : List Int) (x : Int) (frame : Nat) (cool : Option Nat) :
    dampRequest (x :: l) frame (if allBelow (x :: l) 1440 then some (cool.getD frame) else none) =
      if 1600 ≤ l.foldl max x then 2 else if 1520 ≤ l.foldl max x then 1
      else if l.foldl max x < 1440 ∧ cool.any (fun f => decide (f + 256 ≤ frame)) = true then 0xF else 0 := by
  have hany : (if decide (l.foldl max x < 1440) = true then some (cool.getD frame) else none).any
      (fun f => decide (f + 256 ≤ frame)) =
      decide (l.foldl max x < 1440 ∧ cool.any (fun f => decide (f + 256 ≤ frame)) = true) := by
    by_cases h : l.foldl max x < 1440 <;> cases cool <;> simp [h]
  rw [dampRequest, hottest_cons, allBelow_cons, hany]
  simp only [decide_eq_true_eq]

/-- The requests after an evaluation by unit u. -/
theorem requests_evaluate {s : State} (hw : swf 0 s.rate.requests = true) (u : Nat) (l : List Int) (x : Int) (i : Nat) :
    sget 0 (evaluate u (x :: l) s).rate.requests i =
      if i ≠ u then sget 0 s.rate.requests i else if 1600 ≤ l.foldl max x then 2 else if 1520 ≤ l.foldl max x then 1
      else if l.foldl max x < 1440 ∧ (sget none s.rate.coolSince u).any (fun f => decide (f + 256 ≤ s.seq.frame)) = true
        then 0xF else 0 := by
  rw [evaluate, sget_sput hw, dampRequest_eq, ite_not]

/-- The combined request is found anew: two fields of RATE alone. -/
theorem refreshRequest_eq (s : State) : ∃ c b, refreshRequest s =
    { s with rate := { s.rate with reqLocal := c, requestDue := b } } := by
  unfold refreshRequest
  dsimp only
  split <;> exact ⟨_, _, rfl⟩

/-! A compute die -/

/-- The gate of a die whose hottest reading is h (R141). -/
theorem dieGate_gateDie {s : State} (hw : swf false s.rate.dieGate = true) (u : Nat) (l : List Int) (x : Int) (i : Nat) :
    sget false (gateDie u (x :: l) s).rate.dieGate i =
      if i ≠ u then sget false s.rate.dieGate i else if 1680 ≤ l.foldl max x then true
      else if l.foldl max x < 1600 then false else sget false s.rate.dieGate u := by
  have h (b : Bool) (o : Occ) (t : State) : (if b = true then detect t o else t).rate = t.rate := by cases b <;> rfl
  simp only [gateDie, any_le_cons, allBelow_cons, decide_eq_true_eq, h, sget_sput hw, ite_not]

/-- An occurrence that a condition raises changes the faults alone. -/
theorem ite_detect_eq (p : Prop) [Decidable p] (t : State) (o : Occ) :
    (if p then detect t o else t) = { t with faults := (if p then detect t o else t).faults } := by split <;> rfl

/-- The gate's watch changes the gates and the faults alone. -/
theorem gateDie_eq (u : Nat) (l : List Int) (s : State) : ∃ g f, gateDie u l s =
    { s with rate := { s.rate with dieGate := g }, faults := f } :=
  ⟨_, _, ite_detect_eq _ _ _⟩

/-- A gate that closes is an occurrence of its die. -/
theorem gateDie_closing {s : State} {u : Nat} {l : List Int} {x : Int} (hh : 1680 ≤ l.foldl max x)
    (ho : sget false s.rate.dieGate u = false) : ∃ y,
      (gateDie u (x :: l) s).faults = { s.faults with detected := s.faults.detected ++ [y] } ∧ y.occ = occAt 0x0501 5 u := by
  have h : gateDie u (x :: l) s = detect { s with
      rate := { s.rate with dieGate := sput false s.rate.dieGate u true } } (occAt 0x0501 5 u) := by
    simp only [gateDie, any_le_cons, hh, ho, decide_true, if_true, Bool.not_false, Bool.and_true]
  rw [h]
  exact ⟨_, rfl, rfl⟩

/-- A gate that does not close is none. -/
theorem gateDie_not_closing {s : State} {u : Nat} {l : List Int} {x : Int}
    (h : l.foldl max x < 1680 ∨ sget false s.rate.dieGate u = true) :
    (gateDie u (x :: l) s).faults = s.faults := by
  refine (congrArg State.faults (if_neg ?_)).trans rfl
  rw [any_le_cons, allBelow_cons]
  rcases h with h | h
  · by_cases h16 : l.foldl max x < 1600 <;> simp [not_le.mpr h, h16]
  · simp [h]

/-! The stacks -/

/-- A stack after a reading t in a frame (12, R250). -/
def readingStack (frame : Nat) (t : Int) (k : Stack) : Stack :=
  { k with
    temperature := BitVec.ofInt 32 t, refresh2x := k.refresh2x || decide (1360 ≤ t)
    coolSince := if t < 1312 then some (k.coolSince.getD frame) else none }

theorem readStack_eq (n : Nat) (t : Int) (s : State) : readStack n t s = modStack s n (readingStack s.seq.frame t) := rfl

/-- Whether a far stack's fault is raised after a reading t (12, R255). -/
def hotAfter (t : Int) (hot : Bool) : Bool := if 1680 ≤ t then true else if t < 1600 then false else hot

theorem hotAfter_of_le {t : Int} (h : 1680 ≤ t) (hot : Bool) : hotAfter t hot = true := if_pos h

theorem hotAfter_of_lt {t : Int} (h : t < 1600) (hot : Bool) : hotAfter t hot = false := by
  rw [hotAfter, if_neg (by omega), if_pos h]

/-- Between 100 C and 105 C nothing changes, nor above where the fault is raised already. -/
theorem hotAfter_same {t : Int} {hot : Bool} (hrise : ¬(1680 ≤ t ∧ (!hot) = true)) (hcold : ¬t < 1600) :
    hotAfter t hot = hot := by
  rw [hotAfter, if_neg hcold]
  split
  case isTrue h => simpa [h] using hrise
  case isFalse => rfl

/-- A far stack after a reading t in a frame. -/
def farStack (frame : Nat) (t : Int) (k : Stack) : Stack := { readingStack frame t k with hot := hotAfter t k.hot }

/-- Between s and t the far stacks have been read: the table of stacks, FAR_HOT, which is not cleared, and new occurrences. -/
def FarRead (s t : State) : Prop :=
  t = { s with mem := { s.mem with stackTable := t.mem.stackTable, farHot := t.mem.farHot }
               faults := { s.faults with detected := t.faults.detected } } ∧
    (s.mem.farHot = true → t.mem.farHot = true) ∧ s.faults.detected ⊆ t.faults.detected

theorem FarRead.refl (s : State) : FarRead s s := ⟨rfl, id, List.Subset.refl _⟩

theorem FarRead.trans {r s t : State} (h : FarRead r s) (k : FarRead s t) : FarRead r t := by
  obtain ⟨he, hf, hd⟩ := h
  obtain ⟨ke, kf, kd⟩ := k
  refine ⟨?_, kf ∘ hf, List.Subset.trans hd kd⟩
  rw [he] at ke
  exact ke

theorem readFar_only (s : State) (x : Nat × Int) : FarRead s (readFar s x) := by
  unfold readFar watchFar
  dsimp only
  repeat' split
  · exact ⟨rfl, fun _ => rfl, List.subset_append_left _ _⟩
  · exact ⟨rfl, id, List.Subset.refl _⟩
  · exact ⟨rfl, id, List.Subset.refl _⟩

theorem foldl_readFar_only : ∀ (l : List (Nat × Int)) (s : State), FarRead s (l.foldl readFar s)
  | [], s => FarRead.refl s
  | x :: l, s => (readFar_only s x).trans (foldl_readFar_only l (readFar s x))

theorem stackTable_readFar_swf {s : State} (hw : swf {} s.mem.stackTable = true) (x : Nat × Int) :
    swf {} (readFar s x).mem.stackTable = true := by
  unfold readFar watchFar
  dsimp only
  repeat' split
  · exact sput_swf (sput_swf hw)
  · exact sput_swf (sput_swf hw)
  · exact sput_swf hw

/-- The watch of one far stack arms or disarms that stack alone. -/
theorem stackOf_watchFar {s : State} (hw : swf {} s.mem.stackTable = true) (i : Nat) (t : Int) (n : Nat) :
    stackOf (watchFar i t s) n =
      if n = 8 + i then { stackOf s n with hot := hotAfter t (stackOf s n).hot } else stackOf s n := by
  by_cases hrise : 1680 ≤ t ∧ !(stackOf s (8 + i)).hot
  · rw [watchFar, if_pos hrise, stackOf, detect_mem, hotAfter_of_le hrise.1]
    exact (stackOf_modStack hw).trans (ite_congr rfl (fun hn => by rw [hn]) (fun _ => rfl))
  · by_cases hcold : t < 1600
    · rw [watchFar, if_neg hrise, if_pos hcold, hotAfter_of_lt hcold]
      exact (stackOf_modStack hw).trans (ite_congr rfl (fun hn => by rw [hn]) (fun _ => rfl))
    · rw [watchFar, if_neg hrise, if_neg hcold]
      split
      case isFalse => rfl
      case isTrue hn => rw [hn, hotAfter_same hrise hcold]

/-- One far stack's reading changes that stack alone. -/
theorem stackOf_readFar {s : State} (hw : swf {} s.mem.stackTable = true) (x : Nat × Int) (n : Nat) :
    stackOf (readFar s x) n = if n = 8 + x.1 then farStack s.seq.frame x.2 (stackOf s n) else stackOf s n := by
  have hw' : swf {} (readStack (8 + x.1) x.2 s).mem.stackTable = true := sput_swf hw
  have hr (i : Nat) : stackOf (readStack (8 + x.1) x.2 s) i =
    if i = 8 + x.1 then readingStack s.seq.frame x.2 (stackOf s (8 + x.1)) else stackOf s i := stackOf_modStack hw
  rw [readFar, stackOf_watchFar hw']
  split
  case isTrue hn =>
    rw [hn, (hr _).trans (if_pos rfl)]
    rfl
  case isFalse hn => rw [hr, if_neg hn]

section Fold

variable {s : State} (hw : swf {} s.mem.stackTable = true)

include hw

/-- A stack that no reading of the list is of stays as it is. -/
theorem stackOf_foldl_readFar_of_not_mem {l : List (Nat × Int)} {n : Nat} (hn : ∀ x ∈ l, n ≠ 8 + x.1) :
    stackOf (l.foldl readFar s) n = stackOf s n := by
  induction l generalizing s with
  | nil => rfl
  | cons y l ih =>
    rw [List.foldl_cons, ih (stackTable_readFar_swf hw y) (fun x hx => hn x (List.mem_cons_of_mem y hx)),
      stackOf_readFar hw, if_neg (hn y List.mem_cons_self)]

/-- A stack takes its reading, where the list reads each stack once. -/
theorem stackOf_foldl_readFar {l : List (Nat × Int)} (hl : l.Pairwise (fun x y => x.1 ≠ y.1)) {x : Nat × Int} (hx : x ∈ l) :
    stackOf (l.foldl readFar s) (8 + x.1) = farStack s.seq.frame x.2 (stackOf s (8 + x.1)) := by
  induction l generalizing s with
  | nil => cases hx
  | cons y l ih =>
    obtain ⟨hy, hl⟩ := List.pairwise_cons.mp hl
    have hw' := stackTable_readFar_swf hw y
    have hf : (readFar s y).seq.frame = s.seq.frame := by rw [(readFar_only s y).1]
    rw [List.foldl_cons]
    rcases List.mem_cons.mp hx with rfl | hx
    · rw [stackOf_foldl_readFar_of_not_mem hw' (fun z hz => by have := hy z hz; omega), stackOf_readFar hw, if_pos rfl]
    · have hne : y.1 ≠ x.1 := hy x hx
      rw [ih hw' hl hx, hf, stackOf_readFar hw, if_neg (by omega)]

/-- A far stack that rises to 105 C sets FAR_HOT and is an occurrence, where the list reads each stack once. -/
theorem foldl_readFar_rises {l : List (Nat × Int)} (hl : l.Pairwise (fun x y => x.1 ≠ y.1)) {x : Nat × Int} (hx : x ∈ l)
    (ht : 1680 ≤ x.2) (hh : (stackOf s (8 + x.1)).hot = false) :
    (l.foldl readFar s).mem.farHot = true ∧ ∃ y ∈ (l.foldl readFar s).faults.detected, y.occ = occAt 0x030A 4 x.1 := by
  induction l generalizing s with
  | nil => cases hx
  | cons y l ih =>
    obtain ⟨hy, hl⟩ := List.pairwise_cons.mp hl
    rw [List.foldl_cons]
    rcases List.mem_cons.mp hx with rfl | hx
    · have hrise : 1680 ≤ x.2 ∧ !(stackOf (readStack (8 + x.1) x.2 s) (8 + x.1)).hot := by
        have hr : stackOf (readStack (8 + x.1) x.2 s) (8 + x.1) = readingStack s.seq.frame x.2 (stackOf s (8 + x.1)) :=
          (stackOf_modStack hw).trans (if_pos rfl)
        exact ⟨ht, by rw [hr, readingStack, hh]; rfl⟩
      obtain ⟨-, hfar, hdet⟩ := foldl_readFar_only l (readFar s x)
      have hx : readFar s x = detect _ _ := if_pos hrise
      rw [hx] at hfar hdet ⊢
      exact ⟨hfar rfl, _, hdet (List.mem_append_right _ List.mem_cons_self), rfl⟩
    · have hne : y.1 ≠ x.1 := hy x hx
      refine ih (stackTable_readFar_swf hw y) hl hx ?_
      rw [stackOf_readFar hw, if_neg (by omega), hh]

end Fold

/-! An evaluation of a compute die -/

/-- The readings of a compute die's near stack, where it has some. -/
def nearRead (d : Damper) (s : State) : State :=
  if d.stackTemps.isEmpty then s else readStack d.unit.val (hottest d.stackTemps) s

/-- The state after the evaluation of a compute die. -/
def dieEvaluated (d : Damper) (s : State) : State :=
  refreshRequest (gateDie d.unit.val (d.dieTemp :: d.stackTemps)
    (evaluate d.unit.val (d.dieTemp :: d.stackTemps) (nearRead d s)))

theorem exec_damperEvaluation_die {d : Damper} {s : State} (hp : isPowered s = true) (hu : d.unit.val < 8) :
    exec (.damperEvaluation d) s = .next (dieEvaluated d s) := by
  show execDamperEvaluation d s = _
  rw [execDamperEvaluation]
  simp only [hp, hu, Bool.not_true, Bool.false_eq_true, if_false, if_true]
  rfl

/-- The readings change the table of stacks alone. -/
theorem nearRead_eq (d : Damper) (s : State) : ∃ t, nearRead d s = { s with mem := { s.mem with stackTable := t } } := by
  unfold nearRead
  split <;> exact ⟨_, rfl⟩

/-- The evaluation of a die by its parts: the readings, the evaluator's entries, the gate, and the requests combined. -/
theorem dieEvaluated_eq (d : Damper) (s : State) : ∃ x g f c b,
    let l := d.dieTemp :: d.stackTemps
    let e := evaluate d.unit.val l { s with mem := { s.mem with stackTable := x } }
    (nearRead d s).mem.stackTable = x ∧ gateDie d.unit.val l e = { e with rate := { e.rate with dieGate := g }, faults := f } ∧
      dieEvaluated d s = { e with
        rate := { e.rate with dieGate := g, reqLocal := c, requestDue := b }
        faults := f } := by
  obtain ⟨x, hx⟩ := nearRead_eq d s
  obtain ⟨g, f, hg⟩ := gateDie_eq d.unit.val (d.dieTemp :: d.stackTemps) (evaluate d.unit.val (d.dieTemp :: d.stackTemps)
    { s with mem := { s.mem with stackTable := x } })
  obtain ⟨c, b, hr⟩ := refreshRequest_eq (gateDie d.unit.val (d.dieTemp :: d.stackTemps) (evaluate d.unit.val (d.dieTemp :: d.stackTemps)
    { s with mem := { s.mem with stackTable := x } }))
  refine ⟨x, g, f, c, b, by rw [hx], hg, ?_⟩
  rw [dieEvaluated, hx, hr, hg]

/-- A near stack that is not read stays. -/
theorem stackOf_nearRead_of_ne {d : Damper} {s : State} (hw : swf {} s.mem.stackTable = true) {n : Nat}
    (h : n ≠ d.unit.val ∨ d.stackTemps = []) : stackOf (nearRead d s) n = stackOf s n := by
  unfold nearRead
  split
  case isTrue => rfl
  case isFalse he =>
    have hn : n ≠ d.unit.val := h.resolve_right (fun h0 => he (by rw [h0]; rfl))
    rw [readStack_eq, stackOf_modStack hw, if_neg hn]

/-- A near stack with readings takes the hottest. -/
theorem stackOf_nearRead {d : Damper} {s : State} (hw : swf {} s.mem.stackTable = true) {x : Int} {rest : List Int}
    (h : d.stackTemps = x :: rest) : stackOf (nearRead d s) d.unit.val =
      readingStack s.seq.frame (rest.foldl max x) (stackOf s d.unit.val) := by
  rw [nearRead, h, if_neg (by simp), hottest_cons, readStack_eq, stackOf_modStack hw, if_pos rfl]

/-! An evaluation of the management processor -/

/-- The far stacks with their readings, in order. -/
def farReadings (d : Damper) : List (Nat × Int) := (List.range 8).zip d.stackTemps

/-- The state after the evaluation of the management processor, with the far stacks. -/
def farEvaluated (d : Damper) (s : State) : State :=
  refreshRequest (evaluate 8 (d.dieTemp :: d.stackTemps) ((farReadings d).foldl readFar s))

theorem exec_damperEvaluation_far {d : Damper} {s : State} (hp : isPowered s = true) (hu : ¬d.unit.val < 8) :
    exec (.damperEvaluation d) s = .next (farEvaluated d s) := by
  show execDamperEvaluation d s = _
  rw [execDamperEvaluation]
  simp only [hp, hu, Bool.not_true, Bool.false_eq_true, if_false]
  rfl

/-- Each far stack is read at most once. -/
theorem farReadings_pairwise (d : Damper) : (farReadings d).Pairwise (fun x y => x.1 ≠ y.1) := by
  rw [List.pairwise_iff_getElem]
  intro i j hi hj hij
  simp only [farReadings, List.getElem_zip, List.getElem_range]
  exact Nat.ne_of_lt hij

theorem mem_farReadings {d : Damper} {i : Nat} {x : Int} (hi : i < 8) (hx : d.stackTemps[i]? = some x) :
    (i, x) ∈ farReadings d :=
  List.mem_iff_getElem?.mpr ⟨i, List.getElem?_zip_eq_some.mpr ⟨by rw [List.getElem?_range hi], hx⟩⟩

/-- A far reading is of a stack from 8 on. -/
theorem stackOf_farReadings_of_lt {d : Damper} {s : State} (hw : swf {} s.mem.stackTable = true) {n : Nat} (hn : n < 8) :
    stackOf ((farReadings d).foldl readFar s) n = stackOf s n :=
  stackOf_foldl_readFar_of_not_mem hw (fun x _ => by omega)

/-- The evaluation of the management processor by its parts: the readings, the evaluator's entries, and the requests
combined. -/
theorem farEvaluated_eq (d : Damper) (s : State) : ∃ c b,
    let r := (farReadings d).foldl readFar s
    let e := evaluate 8 (d.dieTemp :: d.stackTemps) s
    farEvaluated d s = { e with
      mem := { s.mem with stackTable := r.mem.stackTable, farHot := r.mem.farHot }
      faults := { s.faults with detected := r.faults.detected }
      rate := { e.rate with reqLocal := c, requestDue := b } } := by
  obtain ⟨hr, -, -⟩ := foldl_readFar_only (farReadings d) s
  obtain ⟨c, b, he⟩ := refreshRequest_eq (evaluate 8 (d.dieTemp :: d.stackTemps) ((farReadings d).foldl readFar s))
  refine ⟨c, b, ?_⟩
  rw [farEvaluated, he, hr]
  rfl

/-! PWRCAP_N (07, R158) -/

/-- A pulse of at least 20 ns on a high PWRCAP_N takes it low. -/
theorem exec_pwrcapAssert_taken {s : State} {w : Nat} (hw : 20 ≤ w) (hp : s.pins.pwrcapN = true) :
    exec (.pwrcapAssert w) s = .next (if isPowered s then detect { s with pins := { s.pins with pwrcapN := false } } (occNone 0x0502)
      else { s with pins := { s.pins with pwrcapN := false } }) := by
  show execPwrcapAssert w s = _
  simp only [execPwrcapAssert, capRecognised, hw, hp, if_neg (show ¬(10 ≤ w ∧ w < 20) by omega), decide_true, Bool.true_or,
    Bool.not_true, Bool.or_self, Bool.false_eq_true, if_false]

/-- A short pulse, and any pulse on a low PWRCAP_N, has no effect. -/
theorem exec_pwrcapAssert_ignored {s : State} {w : Nat} (h : w < 10 ∨ (20 ≤ w ∧ s.pins.pwrcapN = false)) :
    exec (.pwrcapAssert w) s = .next s := by
  show execPwrcapAssert w s = _
  have hn : ¬(10 ≤ w ∧ w < 20) := by omega
  rcases h with h | ⟨-, h⟩
  · simp [execPwrcapAssert, capRecognised, show ¬20 ≤ w by omega, show ¬10 ≤ w by omega]
  · simp [execPwrcapAssert, hn, h]

/-! The obligation -/

/-- Settles O40: the evaluation of a compute die and that of the management processor, each by its parts, and PWRCAP_N by the
width of its pulse. -/
theorem temperaturesAndGates : Obligations.TemperaturesAndGates := by
  unfold Obligations.TemperaturesAndGates
  intro s
  refine ⟨fun hp => ⟨fun d => ?_, fun n => ?_⟩, fun hp hst hreq hgate d => ?_, fun n hp => ?_, fun w hw hp => ?_,
    fun w hw => exec_pwrcapAssert_ignored hw, fun w _ _ => execPwrcapAssert_completes, rfl⟩
  · exact if_pos (by rw [hp]; rfl)
  · exact if_neg (by simp [hp])
  · by_cases hu : d.unit.val < 8
    · obtain ⟨x, g, f, c, b, hx, hg, ht⟩ := dieEvaluated_eq d s
      have hs (n : Nat) : stackOf (dieEvaluated d s) n = stackOf (nearRead d s) n := by
        rw [ht, stackOf, stackOf, hx]
        rfl
      have hgate' (i : Nat) := dieGate_gateDie (s := evaluate d.unit.val (d.dieTemp :: d.stackTemps)
        { s with mem := { s.mem with stackTable := x } }) hgate d.unit.val d.stackTemps d.dieTemp i
      rw [hg] at hgate'
      refine ⟨_, exec_damperEvaluation_die hp hu, ⟨fun i => ?_, fun _ => ⟨fun i => ?_, fun ⟨hh, ho⟩ => ?_, fun h => ?_,
        fun n hn => ?_, fun y rest hl => ?_⟩, fun h8 => absurd hu (by omega)⟩, ?_⟩
      · rw [ht]
        exact requests_evaluate hreq _ _ _ _
      · rw [ht]
        exact hgate' i
      · obtain ⟨y, hy, hocc⟩ := gateDie_closing (s := evaluate d.unit.val (d.dieTemp :: d.stackTemps)
          { s with mem := { s.mem with stackTable := x } }) hh ho
        rw [hg] at hy
        rw [ht]
        exact ⟨y, hy, hocc⟩
      · have hf := gateDie_not_closing (s := evaluate d.unit.val (d.dieTemp :: d.stackTemps)
          { s with mem := { s.mem with stackTable := x } }) h
        rw [hg] at hf
        rw [ht]
        exact hf
      · rw [hs, stackOf_nearRead_of_ne hst hn]
      · rw [hs, stackOf_nearRead hst hl]
        exact ⟨rfl, rfl⟩
      · rw [ht]
        exact ⟨rfl, rfl, rfl, rfl, rfl⟩
    · obtain ⟨c, b, ht⟩ := farEvaluated_eq d s
      have hs (n : Nat) : stackOf (farEvaluated d s) n = stackOf ((farReadings d).foldl readFar s) n := by
        rw [ht]
        rfl
      have hu8 : d.unit.val = 8 := by omega
      refine ⟨_, exec_damperEvaluation_far hp hu, ⟨fun i => ?_, fun h => absurd h hu, fun _ => ⟨?_, fun n hn => ?_,
        fun i hi x hx => ?_⟩⟩, ?_⟩
      · rw [ht, hu8]
        exact requests_evaluate hreq _ _ _ _
      · rw [ht]
        rfl
      · rw [hs, stackOf_farReadings_of_lt hst hn]
      · have hm := mem_farReadings hi hx
        have hi := stackOf_foldl_readFar hst (farReadings_pairwise d) hm
        have hrise := foldl_readFar_rises hst (farReadings_pairwise d) hm
        rw [hs, hi, ht]
        refine ⟨rfl, rfl, rfl, fun h => ?_, fun h hh => (hrise h hh).2⟩
        cases hh : (stackOf s (8 + i)).hot with
        | true => exact .inr rfl
        | false => exact .inl (hrise h hh).1
      · rw [ht]
        exact ⟨rfl, rfl, rfl, rfl, rfl⟩
  · show execRefreshNormal n s = _
    rw [execRefreshNormal, hp, Bool.true_and]
    split <;> rfl
  · refine ⟨_, detectedNow s (occNone 0x0502) false, rfl, exec_pwrcapAssert_taken hw hp, ite_detect_eq _ _ _, ?_⟩
    split <;> rfl

end Sys2Proof.Machine
end

section
/-! The ends of a load, a restore and a hash (07, R144, R397, R398; 13, R268, R285, R287; 12, R261): which parts of the state each
of their parts writes. -/

namespace Sys2Proof.Machine
open Sys2Proof.Claims

/-! Work that writes memory and hearths alone -/

/-- The second state differs from the first in memory and hearths alone. -/
def OnlyStores (s t : State) : Prop := t = { s with mem := t.mem, hearths := t.hearths }

theorem OnlyStores.trans {r s t : State} (h : OnlyStores r s) (k : OnlyStores s t) : OnlyStores r t := by
  unfold OnlyStores at *
  rw [h] at k
  exact k

theorem OnlyStores.foldl {α : Type} {g : State → α → State} (h : ∀ s x, OnlyStores s (g s x)) :
    ∀ (l : List α) (s : State), OnlyStores s (l.foldl g s)
  | [], _ => rfl
  | x :: l, s => (h s x).trans (OnlyStores.foldl h l (g s x))

theorem dropRecord_only (g : Image) (s : State) (r : Nat) : OnlyStores s (dropRecord g s r) := by
  unfold dropRecord
  dsimp only
  split <;> rfl

theorem addRecord_only (g : Image) (s : State) (x : Region) : OnlyStores s (addRecord g s x) := by
  unfold addRecord
  split
  · rfl
  · split <;> rfl

theorem pairRecords_only (g : Image) (s : State) : OnlyStores s (pairRecords g s) :=
  (OnlyStores.foldl (dropRecord_only g) _ s).trans (OnlyStores.foldl (addRecord_only g) _ _)

theorem OnlyStores.setMem {s t : State} (h : OnlyStores s t) (m : Memory) : OnlyStores s { t with mem := m } := by
  unfold OnlyStores at *
  rw [h]

/-- A fold of writes to memory. -/
theorem OnlyStores.foldl_mem {α : Type} (f : State → α → Memory) (l : List α) (s : State) :
    OnlyStores s (l.foldl (fun s x => { s with mem := f s x }) s) :=
  OnlyStores.foldl (g := fun s x => { s with mem := f s x }) (fun _ _ => rfl) l s

theorem mapHearths_only (g : Image) (s : State) : OnlyStores s (mapHearths g s) :=
  OnlyStores.trans (s := unmapAll s) rfl
    (OnlyStores.foldl (g := fun s l => modHearth s (g.remap.getD l 0) (fun k => { k with logical := l })) (fun _ _ => rfl) _ _)

theorem writeInit_only (b : Bytes) (s : State) (d : InitData) : OnlyStores s (writeInit b s d) := by
  unfold writeInit
  split <;> rfl

theorem unsetTags_only (g : Image) (s : State) : OnlyStores s (unsetTags g s) := OnlyStores.foldl_mem _ _ s

theorem writePrograms_only (g : Image) (s : State) : OnlyStores s (writePrograms g s) := OnlyStores.foldl_mem _ _ s

theorem writePlane_only (s : State) (r : Region) (t : Tensor) (n : Nat) (p : Nat × Nat) (bs : Bytes) :
    OnlyStores s (writePlane s r t n p bs) :=
  OnlyStores.foldl_mem _ _ s

theorem restoreTensor_only (step : Nat) (b body : Bytes) (s : State) (x : Nat × Nat) : OnlyStores s (restoreTensor step b body s x) := by
  unfold restoreTensor
  dsimp only
  cases regionNo s (tensorNo s x.2).region with
  | none =>
    dsimp only
    split <;> rfl
  | some r =>
    have hplanes := fun t n (p : Nat → Nat × Nat) (bs : Nat → Bytes) => OnlyStores.foldl (fun s j => writePlane_only s r t n (p j) (bs j))
    dsimp only
    split
    · exact (((writePlane_only ..).trans (writePlane_only ..)).trans (hplanes ..)).setMem _
    · exact ((writePlane_only ..).trans (writePlane_only ..)).trans (hplanes ..)

/-! A loaded image -/

/-- What enterLoaded sets before the stores are written. -/
def loadedJob (b : Bytes) (s : State) : State :=
  let g := parseImage b
  noteVerdict (0, 0, 0) { s with
    dev := { s.dev with mode := .loaded, jobId := g.jobId }
    ctx := { s.ctx with restoreTried := false }
    image := { s.image with loaded := some g, hash := sha256 b }
    rng := { s.rng with jobSeed := g.jobSeed }
    sets := sofList {} 0 g.sets
    fabric := { s.fabric with relay := relayMap b } }

/-- After the job's values, a load writes memory and hearths, then refreshes the tree. -/
theorem enterLoaded_eq (b : Bytes) (s : State) : ∃ u, OnlyStores (loadedJob b s) u ∧ OnlyTree u (enterLoaded b s) :=
  ⟨_, ((((pairRecords_only _ _).trans (mapHearths_only _ _)).trans (OnlyStores.foldl (writeInit_only _) _ _)).trans
    (unsetTags_only _ _)).trans (writePrograms_only _ _), refreshTree_only _⟩

/-- A table made of a list reads the list's values. -/
theorem sget_sofList_of_getElem? {α : Type} [DecidableEq α] {d x : α} {l : List α} {n : Nat} (h : l[n]? = some x) :
    sget d (sofList d 0 l) n = x := by
  rw [sget_sofList (Nat.zero_le n), Nat.sub_zero, List.getD_eq_getElem?_getD, h, Option.getD_some]

theorem exec_loadDone_failed {s : State} (h : s.dev.activity = 1) {v : Nat × Nat × Nat} (hv : storeVerdict s = some v) :
    exec .loadDone s = .next (noteVerdict v s) := by
  show execLoadDone s = _
  rw [execLoadDone, if_neg (not_not_intro h), hv]

theorem exec_loadDone_loaded {s : State} (h : s.dev.activity = 1) (hv : storeVerdict s = none) (hm : s.dev.mode ≠ .banked) :
    exec .loadDone s = .next (enterLoaded (storeBytes s) s) := by
  show execLoadDone s = _
  rw [execLoadDone, if_neg (not_not_intro h), hv]
  exact if_neg hm

/-! The end of a restore -/

theorem send_eq (s : State) (t : Tx) : ∃ p, send s t = { s with port := p } := by
  unfold send
  split <;> exact ⟨_, rfl⟩

/-- A close sends its message and takes the channel out of the open ones. -/
theorem closeChannel_eq (reason : Nat) (code : BitVec 16) (s : State) (c : Channel) : ∃ p h,
    closeChannel reason code s c = { s with port := p, host := h } ∧ h.channels = s.host.channels.filter (·.id != c.id) := by
  obtain ⟨p, hp⟩ := send_eq { s with host := { s.host with bulkSeq := s.host.bulkSeq + 1 } } _
  unfold closeChannel sendBulk sendMsg
  rw [hp]
  exact ⟨_, _, rfl, rfl⟩

/-- A restore's end writes its result, ends the activity and closes the channel. -/
theorem restoreEnds_eq (result : BitVec 8) (seg len : Nat) (c : Channel) {s : State} (h : s.ctx.inProgress = true) :
    ∃ x p q, restoreEnds result seg len c s = { s with ctx := x, dev := { s.dev with activity := 0 }, port := p, host := q } ∧
      x.result = result ∧ x.inProgress = false ∧ q.channels = s.host.channels.filter (·.id != c.id) := by
  unfold restoreEnds endOperation endContext
  rw [if_pos h, if_pos h]
  obtain ⟨p, q, he, hq⟩ := closeChannel_eq _ _ _ _
  exact ⟨_, p, q, he, rfl, rfl, hq⟩

/-- No failed check of a restore gives RESULT 0x01. -/
theorem restoreCheck_ne_one {s : State} {b : Bytes} {r : BitVec 8} {i : Nat} (h : restoreCheck s b = .inl (r, i)) : r ≠ 1 := by
  rintro rfl
  unfold restoreCheck at h
  repeat' split at h
  all_goals simp at h

theorem restoreTensors_only (step : Nat) (b body : Bytes) (l : List (Nat × Nat)) (s : State) :
    OnlyStores s (l.foldl (restoreTensor step b body) s) :=
  OnlyStores.foldl (restoreTensor_only step b body) l s

/-- A failed restore ends with its RESULT. -/
theorem restoreRun_of_inl {s : State} {c : Channel} {b : Bytes} {r : BitVec 8} {i : Nat} (h : restoreCheck s b = .inl (r, i)) :
    restoreRun s c b = restoreEnds r i b.length c s := by
  delta restoreRun
  rw [h]

/-- A good restore writes memory, sets its values and ends with RESULT 0x01. -/
theorem restoreRun_of_inr {s : State} {c : Channel} {b body : Bytes} (h : restoreCheck s b = .inr body) :
    ∃ u, OnlyStores s u ∧ restoreRun s c b = restoreEnds 1 0 b.length c (restoreValues (leAt b 16 8) body u) := by
  delta restoreRun
  rw [h]
  exact ⟨_, restoreTensors_only _ _ _ _ _, rfl⟩

theorem exec_restoreDone {s : State} {c : Channel} (hc : channelKind s 3 false = some c) (ha : s.dev.activity = 2)
    (hp : s.ctx.inProgress = true) (hr : allArrived c = true) :
    exec .restoreDone s = .next (restoreRun s c (mread (sget [] s.host.inbox c.id.toNat) 0 (streamLength c))) := by
  show execRestoreDone s = _
  rw [execRestoreDone, hc]
  exact if_pos ⟨ha, hp, hr⟩

/-! The end of a hash -/

/-- Latent errors change the counts of stacks, the flag of latent errors and the detected occurrences. -/
theorem foldl_noteLatent_eq (role : Nat) : ∀ (l : List Place) (s : State), ∃ x b d, l.foldl (noteLatent role) s =
    { s with mem := { s.mem with stackTable := x, ueLatent := b }, faults := { s.faults with detected := d } }
  | [], s => ⟨s.mem.stackTable, s.mem.ueLatent, s.faults.detected, rfl⟩
  | p :: l, s => by
    obtain ⟨x, b, d, h⟩ := foldl_noteLatent_eq role l (noteLatent role s p)
    exact ⟨x, b, d, h⟩

/-- A record set to STAGING changes the table of records alone, which stays well formed. -/
theorem stageRecord_eq {s : State} (r : Region) (h : swf {} s.mem.retained = true) :
    ∃ x, stageRecord s r = { s with mem := { s.mem with retained := x } } ∧ swf {} x = true := by
  unfold stageRecord
  repeat' split
  · exact ⟨_, rfl, smod_swf h⟩
  · exact ⟨_, rfl, h⟩
  · exact ⟨_, rfl, h⟩

/-- A maintenance read keeps what DRAM holds and the table of records well formed. -/
theorem noteHostRead_dram {s : State} (x : Region) (off len : Nat) (h : swf {} s.mem.retained = true) :
    (noteHostRead s x off len).mem.dram = s.mem.dram ∧ swf {} (noteHostRead s x off len).mem.retained = true := by
  obtain ⟨k, b, d, hf⟩ := foldl_noteLatent_eq x.role (regionPoison s x off len) s
  unfold noteHostRead
  dsimp only
  split
  · exact ⟨rfl, h⟩
  · rw [hf]
    obtain ⟨y, hy, hw⟩ := stageRecord_eq (s := { s with
      mem := { s.mem with stackTable := k, ueLatent := b }, faults := { s.faults with detected := d } }) x h
    rw [hy]
    exact ⟨rfl, hw⟩

theorem exec_hashDone {s : State} {r : Fin 16} {x : Region} (h : (retainedOf s r.val).state = 2)
    (hx : (retainedOf s r.val).placement = some x) : exec (.hashDone r) s = .next (endHash r.val x s) := by
  show execHashDone r s = _
  simp only [execHashDone, h, hx, if_true]

/-- A hash over a region without poison decides by its digest. -/
theorem endHash_of_clean {s : State} {r : Nat} {x : Region} (h : regionPoison s x 0 (regionBytes x) = []) :
    endHash r x s = modRetained s r (fun k =>
      if sha256 (regionRead s x 0 (regionBytes x)) = (retainedOf s r).digest then { k with state := 3 }
      else { k with state := 1, hashFail := true }) := by
  have hread : noteHostRead s x 0 (regionBytes x) = s := by
    unfold noteHostRead
    rw [h]
    rfl
  unfold endHash
  rw [hread, h]
  refine congrArg (modRetained s r) (funext fun k => ?_)
  by_cases hd : sha256 (regionRead s x 0 (regionBytes x)) = (retainedOf s r).digest
  · rw [if_pos hd, hd]
    simp
  · rw [if_neg hd]
    simp [hd]

/-- A hash that met poison fails. -/
theorem endHash_of_poison {s : State} {r : Nat} {x : Region} (h : regionPoison s x 0 (regionBytes x) ≠ []) :
    endHash r x s = modRetained (noteHostRead s x 0 (regionBytes x)) r (fun k => { k with state := 1, hashFail := true }) := by
  have he : (regionPoison s x 0 (regionBytes x)).isEmpty = false := Bool.eq_false_iff.mpr (by simpa using h)
  unfold endHash
  simp [he]

/-! The obligation -/

/-- Settles O39: each end by its verdict; the rest of the state through what loads, restores and hashes write. -/
theorem loadRestoreAndHashEnd : Obligations.LoadRestoreAndHashEnd := by
  unfold Obligations.LoadRestoreAndHashEnd
  intro s
  refine ⟨fun h => if_pos h, fun h => ⟨fun hc => ?_, fun c x r _ hv => exec_loadDone_failed h hv, fun hv hm => ?_⟩,
    fun c hc ha hp hr => ?_, fun r => ⟨fun h => if_neg h, fun x h hx => ⟨fun hg => ?_, fun hg hw => ?_⟩⟩⟩
  · exact exec_loadDone_failed h (v := (1, 0xFF, 0)) (by simp [storeVerdict, hc])
  · obtain ⟨u, hu, ht⟩ := enterLoaded_eq (storeBytes s) s
    unfold OnlyStores at hu
    unfold OnlyTree at ht
    refine ⟨_, exec_loadDone_loaded h hv hm, ?_⟩
    rw [ht, hu]
    exact ⟨rfl, rfl, rfl, rfl, rfl, rfl, rfl, fun n x hn => sget_sofList_of_getElem? hn, rfl, rfl, rfl⟩
  · refine ⟨_, exec_restoreDone hc ha hp hr, ?_⟩
    generalize mread (sget [] s.host.inbox c.id.toNat) 0 (streamLength c) = b
    cases hk : restoreCheck s b with
    | inl x =>
      rw [restoreRun_of_inl hk]
      obtain ⟨y, p, q, he, hres, hpr, hq⟩ := restoreEnds_eq x.1 x.2 b.length c hp
      rw [he]
      refine ⟨hpr, rfl, rfl, hq, rfl, rfl, fun r i hri => ?_, fun body hb => by cases hb⟩
      cases hri
      exact ⟨restoreCheck_ne_one hk, hres, rfl, rfl, rfl, rfl, rfl⟩
    | inr body =>
      obtain ⟨u, hu, hrun⟩ := restoreRun_of_inr (c := c) hk
      unfold OnlyStores at hu
      have hpu : (restoreValues (leAt b 16 8) body u).ctx.inProgress = true := by
        rw [hu]
        exact hp
      obtain ⟨y, p, q, he, hres, hpr, hq⟩ := restoreEnds_eq 1 0 b.length c hpu
      rw [hrun, he]
      rw [hu] at hq ⊢
      refine ⟨hpr, rfl, rfl, hq, rfl, rfl, fun r i hri => (by cases hri), fun body' hb => ?_⟩
      cases hb
      refine ⟨hres, rfl, rfl, rfl, rfl, fun n hn => sget_sofList_of_getElem? ?_⟩
      rw [List.getElem?_map, List.getElem?_range hn, Option.map_some]
  · rw [exec_hashDone h hx, endHash_of_clean hg]
  · obtain ⟨hd, hw'⟩ := noteHostRead_dram x 0 (regionBytes x) hw
    refine ⟨_, exec_hashDone h hx, ?_⟩
    rw [endHash_of_poison hg, retainedOf_modRetained hw', if_pos rfl]
    exact ⟨rfl, rfl, hd⟩

end Sys2Proof.Machine
end

section
/-! The frame grid (07, R134, R139, R153, R154, R157; 13, R270; 14, R292, R304, R305): what the work of a slot leaves unchanged, where
a boundary takes the schedule, and what stops it. -/

namespace Sys2Proof.Machine
open Sys2Proof.Claims

/-! Work of the host port -/

/-- The second state differs from the first in the host port, its channels and the code of the last access alone. -/
def HostOnly (s t : State) : Prop := t = { s with dev := { s.dev with lastCode := t.dev.lastCode }, port := t.port, host := t.host }

theorem HostOnly.trans {r s t : State} (h : HostOnly r s) (k : HostOnly s t) : HostOnly r t := by
  unfold HostOnly at *
  rw [h] at k
  exact k

theorem HostOnly.foldl {α : Type} {g : State → α → State} (h : ∀ s x, HostOnly s (g s x)) (l : List α) (s : State) :
    HostOnly s (l.foldl g s) :=
  l.foldlRecOn g (motive := HostOnly s) rfl (fun t ht x _ => ht.trans (h t x))

theorem HostOnly.mem {s t : State} (h : HostOnly s t) : t.mem = s.mem := by
  unfold HostOnly at h
  rw [h]

theorem send_only (s : State) (t : Tx) : HostOnly s (send s t) := by
  obtain ⟨p, h⟩ := send_eq s t
  rw [h]
  rfl

theorem sendBulk_only (s : State) (c : Channel) (typ flags : BitVec 8) (body : Bytes) : HostOnly s (sendBulk s c typ flags body) :=
  HostOnly.trans (s := { s with host := { s.host with bulkSeq := s.host.bulkSeq + 1 } }) rfl (send_only _ _)

theorem closeChannel_only (reason : Nat) (code : BitVec 16) (s : State) (c : Channel) : HostOnly s (closeChannel reason code s c) := by
  obtain ⟨p, q, h, -⟩ := closeChannel_eq reason code s c
  rw [h]
  rfl

theorem closeStages_only (s : State) (n : Nat) : HostOnly s (closeStages s n) := HostOnly.foldl (closeChannel_only 4 0x0301) _ s

theorem closeContext_only (s : State) : HostOnly s (closeContext s) := by
  unfold closeContext
  split
  · exact HostOnly.foldl (closeChannel_only 5 0) _ s
  · rfl

theorem sendUnits_only (c : Channel) (flags : BitVec 8) : ∀ (f u n : Nat) (s : State), HostOnly s (sendUnits c flags f u n s)
  | 0, _, _, _ => rfl
  | f + 1, u, n, s => by
    rw [sendUnits]
    split
    · rfl
    · exact (sendBulk_only _ _ _ _ _).trans (sendUnits_only c flags f _ _ _)

theorem pump_only (s : State) (id : BitVec 16) : HostOnly s (pump s id) := by
  unfold pump
  split
  · rfl
  · dsimp only
    split
    · exact (sendUnits_only ..).trans rfl
    · rfl

theorem servePeek_only (s : State) (x : Nat × Nat × Nat × Nat) : HostOnly s
    (send { s with dev := { s.dev with lastCode := (peekRead s x).1 } } (monLine (peekRead s x).1 (peekRead s x).2)) :=
  HostOnly.trans (s := { s with dev := { s.dev with lastCode := (peekRead s x).1 } }) rfl (send_only _ _)

theorem servePeeks_only (s : State) : HostOnly s (servePeeks s) :=
  HostOnly.trans (s := { s with port := { s.port with peeks := [] } }) rfl
    (HostOnly.foldl servePeek_only _ _)

/-! The work of a slot -/

/-- The second state differs from the first only where the work of a slot writes: not in the device's state, its time and rate,
its image and job, or its place in the schedule. -/
def SlotKept (s t : State) : Prop := t = { s with
  dev := { s.dev with lastCode := t.dev.lastCode }
  seq := { s.seq with holdFrozen := t.seq.holdFrozen, statTime := t.seq.statTime }
  train := t.train, tele := t.tele, mem := t.mem, hearths := t.hearths, links := t.links, fabric := t.fabric
  faults := { s.faults with detected := t.faults.detected, spineMismatches := t.faults.spineMismatches }
  port := t.port, host := t.host, splitRows := t.splitRows, jobRecord := t.jobRecord, fresh := t.fresh }

theorem SlotKept.trans {r s t : State} (h : SlotKept r s) (k : SlotKept s t) : SlotKept r t := by
  unfold SlotKept at *
  rw [h] at k
  exact k

theorem SlotKept.foldl {α : Type} {g : State → α → State} (h : ∀ s x, SlotKept s (g s x)) (l : List α) (s : State) :
    SlotKept s (l.foldl g s) :=
  l.foldlRecOn g (motive := SlotKept s) rfl (fun t ht x _ => ht.trans (h t x))

theorem SlotKept.ite {s t u : State} {p : Prop} [Decidable p] (h : SlotKept s t) (k : SlotKept s u) :
    SlotKept s (if p then t else u) := by
  split
  · exact h
  · exact k

theorem HostOnly.kept {s t : State} (h : HostOnly s t) : SlotKept s t := by
  unfold HostOnly at h
  unfold SlotKept
  rw [h]

/-- Where the first state is changed in parts that the work of a slot leaves alone, so is the second. -/
theorem SlotKept.setParts {s t : State} (h : SlotKept s t) (q : Sequencer) (u : Update) (r : Rng) (e : Sparse HyperSet) :
    SlotKept { s with seq := q, upd := u, rng := r, sets := e } { t with seq := q, upd := u, rng := r, sets := e } := by
  unfold SlotKept at *
  rw [h]

theorem SlotKept.setUpd {s t : State} (h : SlotKept s t) (u : Update) : SlotKept { s with upd := u } { t with upd := u } := by
  unfold SlotKept at *
  rw [h]

/-! Maintenance -/

theorem stageRecord_keeps (s : State) (r : Region) : SlotKept s (stageRecord s r) := by
  unfold stageRecord
  repeat' split
  all_goals rfl

theorem patrolScrub_keeps (s : State) : SlotKept s (patrolScrub s) := by
  refine SlotKept.ite (SlotKept.trans (SlotKept.foldl (fun s x => ?_) _ s) rfl) rfl
  exact SlotKept.trans (s := noteLatent x.1.role s x.2) rfl (stageRecord_keeps _ _)

theorem stageUnit_keeps (c : Channel) (r : Region) (s : State) (u : Nat) : SlotKept s (stageUnit c r s u) := rfl

theorem flushStage_keeps (s : State) (c : Channel) : SlotKept s (flushStage s c) := by
  unfold flushStage
  split
  next r _ =>
    have h (l : List Nat) (n : Nat) (f : Channel → Channel) :
        SlotKept s (modChannel (drainUnits (l.foldl (stageUnit c r) s) n) c.id f) :=
      (SlotKept.foldl (stageUnit_keeps c r) l s).trans rfl
    exact ((h ..).trans (closeChannel_only 0 0 _ _).kept).ite (h ..)
  · rfl

theorem maintenance_keeps (s : State) : SlotKept s (maintenance s) := by
  have h : SlotKept s (if s.seq.slot = 3520 then flushStages (patrolScrub s) else s) :=
    ((patrolScrub_keeps s).trans (SlotKept.foldl flushStage_keeps _ _)).ite rfl
  exact (h.trans (servePeeks_only _).kept).ite h

theorem chimneyWindow_keeps (s : State) : SlotKept s (chimneyWindow s) := by
  refine SlotKept.ite ?_ rfl
  cases channelKind s 4 true with
  | none => rfl
  | some c => exact (pump_only s c.id).kept

theorem beginTraining_keeps (s : State) : SlotKept s (beginTraining s) := SlotKept.ite rfl rfl

/-! Cells -/

theorem missCells_keeps (n : Nat) (s : State) (k : Nat) : SlotKept s (missCells n s k) := SlotKept.ite rfl rfl

theorem deadlines_keeps (s : State) : SlotKept s (deadlines s) := SlotKept.foldl (missCells_keeps _) _ s

theorem statsSlot_keeps (s : State) : SlotKept s (statsSlot s) :=
  SlotKept.ite (SlotKept.ite rfl (SlotKept.ite rfl rfl)) rfl

theorem transmitEntry_keeps (s : State) (e : BitVec 128) : SlotKept s (transmitEntry s e) := by
  have h : SlotKept s (countStat s e) := SlotKept.ite rfl rfl
  exact SlotKept.ite (h.trans rfl) rfl

theorem expectEntry_keeps (s : State) (e : BitVec 128) : SlotKept s (expectEntry s e) := rfl

theorem slotCells_keeps (s : State) : SlotKept s (slotCells s) :=
  SlotKept.ite rfl ((SlotKept.foldl transmitEntry_keeps _ s).trans (SlotKept.foldl expectEntry_keeps _ _))

theorem sendRequests_keeps (s : State) (k : Nat) : SlotKept s (sendRequests s k) := rfl

theorem sendRetries_keeps (s : State) (k : Nat) : SlotKept s (sendRetries s k) := rfl

theorem dropCopies_keeps (s : State) (k : Nat) : SlotKept s (dropCopies s k) := rfl

theorem makeUp_keeps (s : State) : SlotKept s (makeUp s) :=
  SlotKept.ite (SlotKept.foldl sendRequests_keeps _ s)
    (SlotKept.ite (SlotKept.foldl sendRetries_keeps _ s) (SlotKept.ite (SlotKept.foldl dropCopies_keeps _ s) rfl))

/-! The commit round -/

theorem commitChunk_keeps (k : Nat) (s : State) : ∃ u, SlotKept { s with upd := u } (commitChunk k s) := by
  unfold commitChunk
  split
  · exact ⟨s.upd, rfl⟩
  · exact ⟨_, rfl⟩

theorem sendCommitOn_keeps (c : Cell) (s : State) (l : Nat) : SlotKept s (sendCommitOn c s l) := rfl

theorem sendToken_keeps (s : State) (k : Nat) : SlotKept s (sendToken s k) := by
  unfold sendToken
  split
  · exact SlotKept.ite rfl rfl
  · rfl

theorem compareCount_keeps (s : State) (k : Nat) : ∃ u, SlotKept { s with upd := u } (compareCount s k) := by
  unfold compareCount
  split
  · exact ⟨s.upd, rfl⟩
  · exact ⟨_, rfl⟩

theorem sendCommit_keeps (s : State) (k : Nat) : ∃ u, SlotKept { s with upd := u } (sendCommit s k) := by
  unfold sendCommit
  split
  · obtain ⟨u, h⟩ := commitChunk_keeps k { s with upd := { s.upd with frontier := k } }
    exact ⟨u, SlotKept.trans (s := commitChunk k _) h (SlotKept.foldl (sendCommitOn_keeps _) _ _)⟩
  · exact ⟨s.upd, rfl⟩

/-- No segment comes before the first: it has no commit round. -/
theorem roundChunk_of_pos {s : State} (h : s.seq.pos = 0) : roundChunk s = none :=
  if_neg (fun ⟨_, hp, _⟩ => absurd hp (by omega))

/-- The commit round writes the chunks of the update beside what any slot writes, and nothing in the first segment. -/
theorem commitSlot_keeps (s : State) : ∃ u, SlotKept { s with upd := u } (commitSlot s) ∧ (s.seq.pos = 0 → u = s.upd) := by
  by_cases hp : s.seq.pos = 0
  · refine ⟨s.upd, ?_, fun _ => rfl⟩
    rw [commitSlot, roundChunk_of_pos hp]
    rfl
  · suffices h : ∃ u, SlotKept { s with upd := u } (commitSlot s) from h.imp fun _ k => ⟨k, fun h0 => absurd h0 hp⟩
    unfold commitSlot
    repeat' split
    · exact compareCount_keeps s _
    · exact sendCommit_keeps s _
    · exact ⟨s.upd, rfl⟩
    · exact ⟨s.upd, sendToken_keeps s _⟩
    · exact ⟨s.upd, rfl⟩
    · exact ⟨s.upd, rfl⟩

/-! A whole slot -/

/-- The maintenance windows of a slot. -/
def windowWork (s : State) : State := beginTraining (chimneyWindow (maintenance { s with splitRows := [] }))

/-- The work of a slot beside its stop. -/
def workOfSlot (s : State) : State :=
  let s1 := windowWork s
  if schedules s1 then makeUp (slotCells (commitSlot (statsSlot (deadlines s1)))) else s1

theorem slotWork_eq (s : State) : slotWork s = workOfSlot (if stopIsDue s then stopNow s else s) := rfl

theorem windowWork_keeps (s : State) : SlotKept s (windowWork s) :=
  SlotKept.trans (s := { s with splitRows := [] }) rfl
    (((maintenance_keeps _).trans (chimneyWindow_keeps _)).trans (beginTraining_keeps _))

theorem schedules_of_kept {s t : State} (h : SlotKept s t) : schedules t = schedules s := by
  unfold SlotKept at h
  rw [h]
  rfl

/-- A device that does not run its schedule works in the windows alone. -/
theorem workOfSlot_of_not_schedules {s : State} (h : schedules s = false) : workOfSlot s = windowWork s := by
  rw [workOfSlot, schedules_of_kept (windowWork_keeps s), h]
  rfl

/-- The work of a slot beside its stop. In the first segment it leaves the update alone. -/
theorem workOfSlot_keeps (s : State) : ∃ u, SlotKept { s with upd := u } (workOfSlot s) ∧ (s.seq.pos = 0 → u = s.upd) := by
  unfold workOfSlot
  dsimp only
  split
  · have h := (windowWork_keeps s).trans ((deadlines_keeps _).trans (statsSlot_keeps _))
    obtain ⟨u, hu, h0⟩ := commitSlot_keeps (statsSlot (deadlines (windowWork s)))
    refine ⟨u, (h.setUpd u).trans (hu.trans ((slotCells_keeps _).trans (makeUp_keeps _))), fun hp => ?_⟩
    unfold SlotKept at h
    rw [h] at h0
    exact h0 hp
  · exact ⟨s.upd, windowWork_keeps s, fun _ => rfl⟩

/-- A slot at whose boundary nothing is due only works. -/
theorem slotWork_of_not_due {s : State} (h : stopIsDue s = false) : slotWork s = workOfSlot s := by
  rw [slotWork_eq, h]
  rfl

theorem slotWork_of_due {s : State} (h : stopIsDue s = true) : slotWork s = workOfSlot (stopNow s) := by
  rw [slotWork_eq, h]
  rfl

/-! Slot boundaries -/

/-- Slot k of the frame in progress, before its work. -/
def slotStart (s : State) (k : Nat) : State :=
  { s with seq := { s.seq with slot := k }, time := { s.time with now := clock64 (max s.time.now (slotTime s k)) } }

theorem runSlot_eq (s : State) (k : Nat) : runSlot s k = slotWork (slotStart s k) := rfl

theorem lockstep_true (s : State) : lockstep true s = s := rfl

/-- Before the last slot a boundary begins the next one. -/
theorem exec_slotBoundary_within {s : State} (hg : s.seq.grid = true) (hs : s.seq.slot < 4095) :
    exec (.slotBoundary true) s = .next (slotWork (slotStart s (s.seq.slot + 1))) := by
  show execSlotBoundary true s = _
  simp only [execSlotBoundary, hg, hs, lockstep_true, Bool.not_true, Bool.false_eq_true, if_false, if_true, runSlot_eq]

/-- From the last slot a boundary begins the next frame. -/
theorem exec_slotBoundary_last {s : State} (hg : s.seq.grid = true) (hs : 4095 ≤ s.seq.slot) :
    exec (.slotBoundary true) s = .next (nextFrame s) := by
  show execSlotBoundary true s = _
  simp only [execSlotBoundary, hg, if_neg (Nat.not_lt.mpr hs), lockstep_true, Bool.not_true, Bool.false_eq_true, if_false]

theorem exec_slotBoundary_no_grid {s : State} (hg : s.seq.grid = false) : exec (.slotBoundary true) s =
    .next (servePeeks { s with time := { s.time with now := clock64 ((s.time.now / 256 + 1) * 256) } }) := by
  show execSlotBoundary true s = _
  simp only [execSlotBoundary, hg, lockstep_true, Bool.not_false, if_true]

theorem exec_frameBoundary {s : State} (hg : s.seq.grid = true) : exec .frameBoundary s = .next (nextFrame (restOfFrame s)) :=
  if_pos hg

theorem exec_frameBoundary_no_grid {s : State} (hg : s.seq.grid = false) : exec .frameBoundary s = .next s :=
  if_neg (Bool.eq_false_iff.mp hg)

/-- Slots that have passed with nothing due: the frame in progress at another slot, as work leaves it. -/
def FrameKept (s t : State) : Prop := ∃ k x u, SlotKept { s with seq := { s.seq with slot := k }, time := x, upd := u } t

theorem FrameKept.runSlot {s t : State} (h : FrameKept s t) (hd : stopIsDue s = false) (k : Nat) : FrameKept s (runSlot t k) := by
  obtain ⟨j, x, u, h⟩ := h
  have hdue : stopIsDue (slotStart t k) = false := by
    unfold SlotKept at h
    rw [h]
    exact hd
  obtain ⟨v, hv, -⟩ := workOfSlot_keeps (slotStart t k)
  refine ⟨k, (slotStart t k).time, v, ?_⟩
  rw [runSlot_eq, slotWork_of_not_due hdue]
  refine SlotKept.trans (s := { slotStart t k with upd := v }) ?_ hv
  unfold SlotKept at h ⊢
  unfold slotStart
  rw [h]

/-- The rest of a frame in which nothing is due runs its slots. -/
theorem restOfFrame_frameKept {s : State} (hd : stopIsDue s = false) : FrameKept s (restOfFrame s) :=
  List.foldlRecOn _ runSlot (motive := FrameKept s) ⟨s.seq.slot, s.time, s.upd, rfl⟩ (fun _ h k _ => h.runSlot hd k)

/-! The place in the schedule -/

/-- The place in the frame grid, and the N in force. -/
def gridPlace (s : State) : Nat × Nat × Nat × Nat := (s.seq.frame, s.seq.slot, s.seq.frameStart, s.rate.n)

/-- The place in the segment list. -/
def segmentPlace (s : State) : Nat × Nat × BitVec 32 × List Seg := (s.seq.pos, s.seq.segFrame, s.seq.planEntry, s.seq.segs)

/-- The two states stand at the same place of the schedule. -/
def SamePlace (s t : State) : Prop := gridPlace t = gridPlace s ∧ segmentPlace t = segmentPlace s

theorem SamePlace.trans {r s t : State} (h : SamePlace r s) (k : SamePlace s t) : SamePlace r t :=
  ⟨k.1.trans h.1, k.2.trans h.2⟩

theorem SlotKept.place {s t : State} (h : SlotKept s t) : SamePlace s t := by
  unfold SlotKept at h
  rw [h]
  exact ⟨rfl, rfl⟩

/-- Dies without power clear mailboxes alone. -/
theorem diesOff_eq (s : State) : ∃ x, diesOff s = { s with mail := x } := by
  have hmail {α : Type} (g : State → α → State) (hg : ∀ s x, ∃ m, g s x = { s with mail := m }) (l : List α) (s : State) :
      ∃ m, l.foldl g s = { s with mail := m } := by
    refine l.foldlRecOn g (motive := fun t => ∃ m, t = { s with mail := m }) ⟨s.mail, rfl⟩ (fun t ht x _ => ?_)
    obtain ⟨m, rfl⟩ := ht
    exact hg _ x
  have hclear : ∃ m, clearAbsent s = { s with mail := m } := by
    refine hmail _ (fun s x => ?_) _ s
    split
    · exact ⟨_, rfl⟩
    · exact ⟨s.mail, rfl⟩
  obtain ⟨m, hm⟩ := hclear
  unfold diesOff
  rw [hm]
  refine hmail _ (fun s a => ?_) _ _
  split
  · exact ⟨s.mail, rfl⟩
  · refine hmail _ (fun s x => ?_) _ s
    dsimp only
    repeat' split
    · exact ⟨_, rfl⟩
    · exact ⟨_, rfl⟩
    · exact ⟨s.mail, rfl⟩

/-- What ends with a job that is left, before its schedule is cleared: every stack stands in self-refresh. -/
theorem leavingJob_eq (s : State) : ∃ j c m d p q,
    cutHashes (endContext 7 (closeContext (selfRefreshAll (recordJob s)))) =
      { s with jobRecord := j, ctx := c, mem := m, dev := { s.dev with lastCode := d }, port := p, host := q } ∧
    m.stackTable = allStacks (fun _ k => { k with selfRefresh := true }) s.mem.stackTable := by
  have hrecord : ∃ j, recordJob s = { s with jobRecord := j } := by
    unfold recordJob
    split
    · exact ⟨_, rfl⟩
    · exact ⟨s.jobRecord, rfl⟩
  have hend (t : State) : ∃ c, endContext 7 t = { t with ctx := c } := by
    unfold endContext
    split
    · exact ⟨_, rfl⟩
    · exact ⟨t.ctx, rfl⟩
  obtain ⟨j, hj⟩ := hrecord
  have hclose := closeContext_only (selfRefreshAll (recordJob s))
  unfold HostOnly at hclose
  obtain ⟨c, hc⟩ := hend (closeContext (selfRefreshAll (recordJob s)))
  rw [hc, hclose, hj]
  exact ⟨_, _, _, _, _, _, rfl, rfl⟩

theorem pushEnd_eq (reason : Nat) (s : State) : ∃ m, pushEnd reason s = { s with markers := m } := by
  unfold pushEnd
  split
  · exact ⟨_, rfl⟩
  · exact ⟨s.markers, rfl⟩

/-- The place of a sequencer in the schedule. -/
def seqPlace (q : Sequencer) : Nat × Nat × Nat × Nat × Nat × BitVec 32 × List Seg :=
  (q.frame, q.slot, q.frameStart, q.pos, q.segFrame, q.planEntry, q.segs)

theorem leaveJob_eq (s : State) : ∃ j c m d p q w,
    leaveJob s = { s with jobRecord := j, ctx := c, mem := m, dev := d, port := p, host := q, seq := w } ∧
    m.stackTable = allStacks (fun _ k => { k with selfRefresh := true }) s.mem.stackTable ∧ seqPlace w = seqPlace s.seq := by
  obtain ⟨j, c, x, d, p, q, he, hx⟩ := leavingJob_eq s
  unfold leaveJob
  rw [he]
  exact ⟨_, _, _, _, _, _, _, rfl, hx, rfl⟩

/-- What a device that enters BANKED writes. -/
theorem enterBanked_eq {s : State} (cause : BitVec 4) (h : ¬(s.dev.mode = .banked ∨ s.dev.mode = .faulted)) :
    ∃ k j c p q w f y, ∃ (m : Memory) (d : Device), enterBanked cause s = { s with
      markers := k, jobRecord := j, ctx := c, port := p, host := q, seq := w, fabric := f, mail := y
      mem := { m with stackTable := allStacks (fun _ k => dropRotation k) m.stackTable }
      dev := { d with mode := .banked }, pins := { s.pins with railEnA := false, railEnB := true }
      faults := { s.faults with bankCause := cause } } ∧
    m.stackTable = allStacks (fun _ k => { k with selfRefresh := true }) s.mem.stackTable ∧ seqPlace w = seqPlace s.seq := by
  obtain ⟨k, hk⟩ := pushEnd_eq 3 s
  obtain ⟨j, c, m, d, p, q, w, he, hm, hw⟩ := leaveJob_eq { s with markers := k }
  unfold enterBanked
  rw [if_neg h, hk, he]
  obtain ⟨y, hy⟩ := diesOff_eq _
  exact ⟨k, j, c, p, q, w, _, y, m, d, hy, hm, hw⟩

theorem samePlace_of_seqPlace {s t : State} (h : seqPlace t.seq = seqPlace s.seq) (hn : t.rate.n = s.rate.n) : SamePlace s t := by
  simp only [seqPlace, Prod.mk.injEq] at h
  simp only [SamePlace, gridPlace, segmentPlace, h, hn, and_self]

theorem enterBanked_place (cause : BitVec 4) (s : State) : SamePlace s (enterBanked cause s) := by
  by_cases h : s.dev.mode = .banked ∨ s.dev.mode = .faulted
  · rw [enterBanked, if_pos h]
    exact ⟨rfl, rfl⟩
  · obtain ⟨k, j, c, p, q, w, f, y, m, d, he, -, hw⟩ := enterBanked_eq cause h
    rw [he]
    exact samePlace_of_seqPlace hw rfl

/-- A stop moves nothing in the schedule. -/
theorem stopNow_place (s : State) : SamePlace s (stopNow s) := by
  have h1 : SamePlace s { s with seq := { s.seq with stopped := true } } := samePlace_of_seqPlace rfl rfl
  unfold stopNow
  dsimp only
  split
  · exact h1.trans (enterBanked_place _ _)
  · split
    · exact samePlace_of_seqPlace rfl rfl
    · split
      · exact samePlace_of_seqPlace rfl rfl
      · exact h1
  · exact h1

theorem workOfSlot_place (s : State) : SamePlace s (workOfSlot s) := by
  obtain ⟨u, h, -⟩ := workOfSlot_keeps s
  exact h.place

/-- The work of a slot moves nothing in the schedule. -/
theorem slotWork_place (s : State) : SamePlace s (slotWork s) := by
  rw [slotWork_eq]
  split
  · exact (stopNow_place s).trans (workOfSlot_place _)
  · exact workOfSlot_place s

/-! The start of a frame -/

/-- The second state differs from the first in the rate, the fabric's entries and the links alone. -/
def RateOnly (s t : State) : Prop := t = { s with rate := t.rate, fabric := t.fabric, links := t.links }

theorem RateOnly.trans {r s t : State} (h : RateOnly r s) (k : RateOnly s t) : RateOnly r t := by
  unfold RateOnly at *
  rw [h] at k
  exact k

/-- N of the frame after the one in progress: the announced one where it is for that frame. -/
def nextFrameN (s : State) : Nat :=
  match s.rate.announced with
  | some (n, g) => if g = s.seq.frame + 1 then n else s.rate.n
  | none => s.rate.n

theorem nextFrameN_announced {s : State} {n : Nat} (h : s.rate.announced = some (n, s.seq.frame + 1)) : nextFrameN s = n := by
  unfold nextFrameN
  rw [h]
  exact if_pos rfl

theorem nextFrameN_kept {s : State} (h : ∀ n, s.rate.announced ≠ some (n, s.seq.frame + 1)) : nextFrameN s = s.rate.n := by
  unfold nextFrameN
  split
  next n g hg =>
    refine if_neg fun h0 => h n ?_
    rw [hg, h0]
  · rfl

theorem applyRate_only (f : Nat) (s : State) : RateOnly s (applyRate f s) := by
  unfold applyRate
  repeat' split
  all_goals rfl

theorem applyRate_n {s r : State} (h : r.rate = s.rate) : (applyRate (s.seq.frame + 1) r).rate.n = nextFrameN s := by
  unfold applyRate nextFrameN
  rw [h]
  cases s.rate.announced with
  | none => rfl
  | some x =>
    dsimp only
    split
    · split
      next hn => exact hn.symm
      · rfl
    · rfl

theorem announceRate_only (f : Nat) (s : State) : RateOnly s (announceRate f s) ∧ (announceRate f s).rate.n = s.rate.n := by
  unfold announceRate
  split
  · obtain ⟨x, h⟩ := originate_eq 2 _ _
    rw [h]
    exact ⟨rfl, rfl⟩
  · exact ⟨rfl, rfl⟩

theorem refreshRequest_rateOnly (s : State) : RateOnly s (refreshRequest s) ∧ (refreshRequest s).rate.n = s.rate.n := by
  obtain ⟨c, b, h⟩ := refreshRequest_eq s
  rw [h]
  exact ⟨rfl, rfl⟩

/-- Slot 0 of the next frame at its time, before the rate is taken. -/
def frameOpened (s : State) : State :=
  { s with
    time := { s.time with now := clock64 (max s.time.now (s.seq.frameStart + frameNs s)) }
    seq := { s.seq with frame := s.seq.frame + 1, slot := 0, frameStart := s.seq.frameStart + frameNs s, haltFresh := false }
    fabric := { s.fabric with relaying := s.fabric.relaying || s.dev.mode == .banked } }

/-- The rate of the next frame taken and the one after it announced. -/
def rateTaken (s : State) : State :=
  refreshRequest (announceRate (s.seq.frame + 1) (applyRate (s.seq.frame + 1) (frameOpened s)))

theorem rateTaken_only (s : State) : RateOnly (frameOpened s) (rateTaken s) ∧ (rateTaken s).rate.n = nextFrameN s := by
  have h1 := applyRate_only (s.seq.frame + 1) (frameOpened s)
  have hn : (applyRate (s.seq.frame + 1) (frameOpened s)).rate.n = nextFrameN s := applyRate_n rfl
  unfold rateTaken
  generalize applyRate (s.seq.frame + 1) (frameOpened s) = r at h1 hn ⊢
  obtain ⟨h2, hn2⟩ := announceRate_only (s.seq.frame + 1) r
  obtain ⟨h3, hn3⟩ := refreshRequest_rateOnly (announceRate (s.seq.frame + 1) r)
  exact ⟨h1.trans (h2.trans h3), hn3.trans (hn2.trans hn)⟩

/-- The next frame as the sequencer finds it. -/
def frameReady (s : State) : State :=
  applyDown (s.seq.frame + 1) { rateTaken s with rate := { (rateTaken s).rate with requestDue := !isMaster (rateTaken s) } }

theorem nextFrame_eq (s : State) : nextFrame s = slotWork (frameSequence (frameReady s)) := by
  unfold nextFrame frameReady rateTaken frameOpened
  rfl

theorem frameReady_only (s : State) : RateOnly (frameOpened s) (frameReady s) ∧ (frameReady s).rate.n = nextFrameN s := by
  obtain ⟨h, hn⟩ := rateTaken_only s
  unfold frameReady
  generalize rateTaken s = r at h hn ⊢
  exact ⟨h.trans rfl, hn⟩

end Sys2Proof.Machine
end

section
/-! Frames, stops and the start of a job (07, R134, R139, R153, R157; 13, R270; 14, R305): the next frame and segment, the three stops
of a slot boundary, and the first step. -/

namespace Sys2Proof.Machine
open Sys2Proof.Claims

/-! The advance -/

/-- A HALT that the device raises moves nothing in the schedule. -/
theorem raiseHalt_place (h : Halt) (s : State) : SamePlace s (raiseHalt h s) := by
  have hnote : SamePlace s (noteHalt (if h.diag then startDiag s else s) h) := by
    unfold startDiag
    repeat' split
    all_goals exact samePlace_of_seqPlace rfl rfl
  unfold raiseHalt
  dsimp only
  split
  · exact samePlace_of_seqPlace rfl rfl
  · split
    · exact hnote
    · unfold queueHalt
      obtain ⟨x, hx⟩ := foldl_modLink_eq (fun _ _ => _) (upLinks _) _
      rw [hx]
      exact hnote

theorem normEnd_place (s : State) : SamePlace s (normEnd s) := by
  unfold normEnd
  dsimp only
  split
  · split <;> exact samePlace_of_seqPlace rfl rfl
  · split
    · exact raiseHalt_place _ s
    · exact samePlace_of_seqPlace rfl rfl

theorem endChunk_place (s : State) : SamePlace s (endChunk s) := by
  unfold endChunk
  dsimp only
  split <;> exact samePlace_of_seqPlace rfl rfl

/-- The end of a segment moves nothing in the schedule. -/
theorem endSeg_place (s : State) : SamePlace s (endSeg s) := by
  unfold endSeg
  repeat' split
  · exact normEnd_place s
  · exact endChunk_place s
  · exact samePlace_of_seqPlace rfl rfl
  · exact samePlace_of_seqPlace rfl rfl

theorem advance_within {s : State} (h : s.seq.segFrame + 1 < (currentSeg s).frames) :
    advance s = { s with seq := { s.seq with segFrame := s.seq.segFrame + 1 } } := if_pos h

/-- From its last frame a segment goes on to the next of the list. -/
theorem advance_enters {s : State} (h : (currentSeg s).frames ≤ s.seq.segFrame + 1) {x : Seg} (hx : s.seq.segs[s.seq.pos + 1]? = some x) :
    advance s = enterSeg (endSeg s) (s.seq.pos + 1) := by
  obtain ⟨hlen, -⟩ := List.getElem?_eq_some_iff.mp hx
  rw [advance, if_neg (Nat.not_lt.mpr h)]
  exact if_pos hlen

/-! The beginning of a step -/

theorem remapFenced_keeps (s : State) : SlotKept s (remapFenced s) := by
  refine SlotKept.foldl (fun s h => ?_) _ s
  unfold remapOne
  dsimp only
  repeat' split
  all_goals rfl

theorem returnLinks_keeps (s : State) : SlotKept s (returnLinks s) := by
  refine SlotKept.foldl (fun s k => ?_) _ s
  dsimp only
  repeat' split
  all_goals rfl

theorem applyDecision_keeps (s : State) : SlotKept s (applyDecision s) := by
  have hdetect (d : List Nat) (t : State) (h : SlotKept s t) :
      SlotKept s (d.foldl (fun s _ => detect s (occNone 0x0603)) t) :=
    h.trans (SlotKept.foldl (g := fun s _ => detect s (occNone 0x0603)) (fun _ _ => rfl) d t)
  unfold applyDecision
  split
  · rfl
  · dsimp only
    refine hdetect _ _ ?_
    split <;> rfl

theorem chimneyStart_keeps (s : State) (c : Channel) (r : Bytes) : SlotKept s (chimneyStart s c r) :=
  SlotKept.ite (SlotKept.trans (s := modChannel { s with tele := { s.tele with chimneySending := some r } } c.id _) rfl
    (pump_only _ _).kept) rfl

theorem chimneyPut_keeps (s : State) (r : Bytes) : SlotKept s (chimneyPut s r) := by
  unfold chimneyPut
  split
  · rfl
  · exact (chimneyStart_keeps _ _ _).ite (SlotKept.ite rfl rfl)

theorem chimneyStep_keeps (s : State) (n time replays frames : Nat) (ids : List Nat) :
    SlotKept s (chimneyStep s n time replays frames ids) := by
  refine SlotKept.ite (SlotKept.ite rfl ?_) rfl
  cases s.tele.lastTotals with
  | none => rfl
  | some tot => exact SlotKept.trans (s := { s with tele := { s.tele with chimneySteps := 0 } }) rfl (chimneyPut_keeps _ _)

/-- A sequencer's place in the frame grid, and what is due at its next slot boundary. -/
def seqGrid (q : Sequencer) : Bool × Nat × Nat × Nat × Option Halt × Bool × Option (BitVec 4) × Bool :=
  (q.grid, q.frame, q.slot, q.frameStart, q.halt, q.stopped, q.bankDue, q.stopDue)

/-- A step that begins writes what the work of a slot may write, its seeds and sets, an update in which no chunk has committed, and
the sequencer, which stands in its first segment. -/
theorem beginStep_keeps (s : State) (n : Nat) : ∃ q u r e, SlotKept { s with seq := q, upd := u, rng := r, sets := e } (beginStep s n) ∧
    u.committed = -1 ∧ q.step = n ∧ q.pos = 0 ∧ seqGrid q = seqGrid s.seq := by
  unfold beginStep
  extract_lets g ids ended slot s1 lev recs marked _ m1 s2 segs sets first seed _ _ _ _ _ s3
  have h1 : SlotKept s s1 := ((remapFenced_keeps s).trans (returnLinks_keeps _)).trans (applyDecision_keeps _)
  clear_value s1
  have hm : SlotKept s m1 := h1.trans (s := s1) rfl
  have h2 : SlotKept s s2 := (hm.trans (chimneyStep_keeps _ _ _ _ _ _)).ite hm
  clear_value g recs marked segs sets seed s2
  have hq : seqGrid s2.seq = seqGrid s.seq := by
    unfold SlotKept at h2
    rw [h2]
    rfl
  have hb : SlotKept { s2 with
      seq := (recordStep (enterSeg s3 0) n).seq, upd := (recordStep (enterSeg s3 0) n).upd
      rng := (recordStep (enterSeg s3 0) n).rng, sets := (recordStep (enterSeg s3 0) n).sets } (recordStep (enterSeg s3 0) n) := rfl
  refine ⟨_, _, _, _, (h2.setParts _ _ _ _).trans (hb.trans (closeStages_only _ n).kept), ?_, ?_, ?_, ?_⟩
  · rfl
  · rfl
  · rfl
  · exact hq

end Sys2Proof.Machine
end

section
/-! Boundaries of the schedule (07, R134, R139, R153, R157; 13, R270; 14, R292, R305): the next frame, the three stops of a slot
boundary, and the first step. -/

namespace Sys2Proof.Machine
open Sys2Proof.Claims

/-! The next frame -/

theorem beginStep_gridPlace (s : State) (n : Nat) : gridPlace (beginStep s n) = gridPlace s := by
  obtain ⟨q, u, r, e, h, -, -, -, hq⟩ := beginStep_keeps s n
  simp only [seqGrid, Prod.mk.injEq] at hq
  rw [h.place.1]
  simp only [gridPlace, hq]

/-- The advance stays in its frame. -/
theorem advance_gridPlace (s : State) : gridPlace (advance s) = gridPlace s := by
  have hend : gridPlace (endStep (endSeg s)) = gridPlace (endSeg s) := by
    unfold endStep
    split
    · exact beginStep_gridPlace _ _
    · rfl
  unfold advance
  dsimp only
  split
  · rfl
  · split
    · exact (endSeg_place s).1
    · exact hend.trans (endSeg_place s).1

/-- Without an announced replay the sequencer advances where the schedule runs and nothing is due. -/
theorem frameSequence_of_no_replay {s : State} (hr : s.seq.replay = none) (hd : stopIsDue s = false) :
    frameSequence s = if schedules s then advance s else s := by
  unfold frameSequence
  rw [hr, hd]
  simp

/-- What the frame after the one in progress brings. -/
def FrameBegun (s t : State) : Prop :=
  t.seq.frame = s.seq.frame + 1 ∧ t.seq.slot = 0 ∧ t.seq.frameStart = s.seq.frameStart + frameNs s ∧
    (∀ n, s.rate.announced = some (n, s.seq.frame + 1) → t.rate.n = n) ∧
    ((∀ n, s.rate.announced ≠ some (n, s.seq.frame + 1)) → t.rate.n = s.rate.n) ∧
    (schedules s = false → t.seq.pos = s.seq.pos ∧ t.seq.segFrame = s.seq.segFrame) ∧
    (schedules s = true → s.seq.segFrame + 1 < (currentSeg s).frames →
      t.seq.segFrame = s.seq.segFrame + 1 ∧ t.seq.pos = s.seq.pos) ∧
    (schedules s = true → (currentSeg s).frames ≤ s.seq.segFrame + 1 → ∀ x, s.seq.segs[s.seq.pos + 1]? = some x →
      t.seq.segFrame = 0 ∧ t.seq.pos = s.seq.pos + 1 ∧ t.seq.planEntry = BitVec.ofNat 32 x.entry)

/-- The frame that begins, by the advance of the state that the sequencer finds. -/
theorem nextFrame_begun {s : State} (hd : stopIsDue s = false) (hr : s.seq.replay = none) : FrameBegun s (nextFrame s) := by
  obtain ⟨hR, hn⟩ := frameReady_only s
  rw [nextFrame_eq]
  obtain ⟨hg, hs⟩ := slotWork_place (frameSequence (frameReady s))
  generalize slotWork (frameSequence (frameReady s)) = t at hg hs
  generalize frameReady s = r at hR hn hg hs
  have hd' : stopIsDue r = false := by
    rw [hR]
    exact hd
  have hr' : r.seq.replay = none := by
    rw [hR]
    exact hr
  have hsch : schedules r = schedules s := by
    rw [hR]
    rfl
  have hseq : r.seq = (frameOpened s).seq := by rw [hR]
  have hcur : currentSeg r = currentSeg s := by
    unfold currentSeg
    rw [hseq]
    rfl
  rw [frameSequence_of_no_replay hr' hd', hsch] at hg hs
  have hgr : gridPlace t = gridPlace r := by
    rw [hg]
    split
    · exact advance_gridPlace r
    · rfl
  simp only [gridPlace, hseq, hn, frameOpened, Prod.mk.injEq] at hgr
  obtain ⟨hframe, hslot, hstart, hrate⟩ := hgr
  refine ⟨hframe, hslot, hstart, fun n h => hrate.trans (nextFrameN_announced h), fun h => hrate.trans (nextFrameN_kept h),
    fun h => ?_, fun h hw => ?_, fun h hw x hx => ?_⟩
  · rw [h, if_neg Bool.false_ne_true] at hs
    simp only [segmentPlace, hseq, frameOpened, Prod.mk.injEq] at hs
    obtain ⟨hp, hf, -, -⟩ := hs
    exact ⟨hp, hf⟩
  · rw [if_pos h, advance_within (by rw [hseq, hcur]; exact hw)] at hs
    simp only [segmentPlace, hseq, frameOpened, Prod.mk.injEq] at hs
    obtain ⟨hp, hf, -, -⟩ := hs
    exact ⟨hf, hp⟩
  · have hx' : r.seq.segs[r.seq.pos + 1]? = some x := by
      rw [hseq]
      exact hx
    have hsegs : (endSeg r).seq.segs = r.seq.segs := congrArg (·.2.2.2) (endSeg_place r).2
    rw [if_pos h, advance_enters (by rw [hseq, hcur]; exact hw) hx'] at hs
    simp only [segmentPlace, enterSeg, hsegs, hx', Option.getD_some, Prod.mk.injEq] at hs
    obtain ⟨hp, hf, he, -⟩ := hs
    exact ⟨hf, by rw [hp, hseq]; rfl, he⟩

/-- Slots that have passed with nothing due lead to the same next frame. -/
theorem FrameKept.nextFrame_begun {s r : State} (hk : FrameKept s r) (hd : stopIsDue s = false) (hr : s.seq.replay = none) :
    FrameBegun s (nextFrame r) := by
  obtain ⟨j, x, u, h⟩ := hk
  unfold SlotKept at h
  have hd' : stopIsDue r = false := by
    rw [h]
    exact hd
  have hr' : r.seq.replay = none := by
    rw [h]
    exact hr
  have k := Machine.nextFrame_begun hd' hr'
  generalize nextFrame r = t at k ⊢
  rw [h] at k
  exact k

/-! The stops of a slot boundary -/

/-- A halt below the replay limit stops the schedule and waits for the replay start. -/
theorem stopNow_waits {s : State} (hh : s.seq.halt.isSome = true) (hd : s.seq.stopDue = false) (hb : s.seq.bankDue = none)
    (hl : s.train.stepReplays.toNat < s.train.replayLimit.toNat) : stopNow s = { s with seq := { s.seq with stopped := true } } := by
  obtain ⟨h, hs⟩ := Option.isSome_iff_exists.mp hh
  unfold stopNow
  simp only [hb, hs, hd, if_neg (Nat.not_le.mpr hl), Bool.false_eq_true, if_false]

/-- An image stop holds the device. -/
theorem stopNow_holds {s : State} (hh : s.seq.halt.isSome = true) (hd : s.seq.stopDue = true) (hb : s.seq.bankDue = none) :
    (stopNow s).dev.mode = .held ∧ (stopNow s).dev.heldReason = 3 ∧ (stopNow s).seq.stopDue = false ∧ (stopNow s).image = s.image := by
  obtain ⟨h, hs⟩ := Option.isSome_iff_exists.mp hh
  unfold stopNow
  rw [hb, hs]
  dsimp only
  rw [if_pos hd]
  exact ⟨rfl, rfl, rfl, rfl⟩

theorem stopNow_banks {s : State} {cause : BitVec 4} (hb : s.seq.bankDue = some cause) :
    stopNow s = enterBanked cause { s with seq := { s.seq with stopped := true } } := by
  unfold stopNow
  simp only [hb]

/-- Every stack stands in self-refresh. -/
def Refreshing (m : Memory) : Prop := swf {} m.stackTable = true ∧ ∀ n < 16, (sget {} m.stackTable n).selfRefresh = true

theorem allStacks_swf (f : Nat → Stack → Stack) (t : Sparse Stack) : swf {} (allStacks f t) = true := sofList_above

theorem sget_allStacks (f : Nat → Stack → Stack) (t : Sparse Stack) {n : Nat} (hn : n < 16) :
    sget {} (allStacks f t) n = f n (sget {} t n) :=
  sget_sofList_of_getElem? (by rw [List.getElem?_map, List.getElem?_range hn, Option.map_some])

theorem enterBanked_running {s : State} (cause : BitVec 4) (h : s.dev.mode = .running) :
    (enterBanked cause s).dev.mode = .banked ∧ (enterBanked cause s).faults.bankCause = cause ∧
      (enterBanked cause s).pins.railEnA = false ∧ (enterBanked cause s).pins.railEnB = true := by
  obtain ⟨k, j, c, p, q, w, f, y, m, d, he, -, -⟩ := enterBanked_eq (s := s) cause (by simp [h])
  rw [he]
  exact ⟨rfl, rfl, rfl, rfl⟩

theorem enterBanked_refreshing {s : State} (cause : BitVec 4) (h : s.dev.mode = .running) : Refreshing (enterBanked cause s).mem := by
  obtain ⟨k, j, c, p, q, w, f, y, m, d, he, hm, -⟩ := enterBanked_eq (s := s) cause (by simp [h])
  rw [he]
  refine ⟨allStacks_swf (fun _ k => dropRotation k) m.stackTable, fun n hn => ?_⟩
  show (sget {} (allStacks (fun _ k => dropRotation k) m.stackTable) n).selfRefresh = true
  rw [sget_allStacks _ _ hn, hm, sget_allStacks _ _ hn]
  rfl

/-- Writes to a region change the contents of memory, not the stacks' entries. -/
theorem spanWrite_stackTable (s : State) (r : Region) : ∀ (l : List (Nat × Nat × Nat)) (m : Memory) (bs : Bytes),
    (spanWrite s r m l bs).stackTable = m.stackTable
  | [], _, _ => rfl
  | x :: l, m, bs => by
    rw [spanWrite, spanWrite_stackTable s r l]
    unfold placeWrite
    dsimp only
    split <;> rfl

theorem regionWrite_stackTable (s : State) (r : Region) (off : Nat) (bs : Bytes) :
    (regionWrite s r off bs).stackTable = s.mem.stackTable := by
  unfold regionWrite
  split
  · rfl
  · exact spanWrite_stackTable s r _ _ _

theorem flushStage_stackTable (s : State) (c : Channel) : (flushStage s c).mem.stackTable = s.mem.stackTable := by
  have hunits (r : Region) (l : List Nat) : (l.foldl (stageUnit c r) s).mem.stackTable = s.mem.stackTable :=
    l.foldlRecOn _ (motive := fun t => t.mem.stackTable = s.mem.stackTable) rfl
      (fun t ht u _ => (regionWrite_stackTable t r _ _).trans ht)
  unfold flushStage
  split
  · dsimp only
    split
    · rw [(closeChannel_only 0 0 _ c).mem]
      exact hunits _ _
    · exact hunits _ _
  · rfl

theorem flushStages_stackTable (s : State) : (flushStages s).mem.stackTable = s.mem.stackTable :=
  List.foldlRecOn _ flushStage (motive := fun t => t.mem.stackTable = s.mem.stackTable) rfl
    (fun t ht c _ => (flushStage_stackTable t c).trans ht)

theorem Refreshing.of_stackTable {m n : Memory} (h : Refreshing m) (k : n.stackTable = m.stackTable) : Refreshing n := by
  unfold Refreshing
  rw [k]
  exact h

theorem stageRecord_stackTable (s : State) (r : Region) : (stageRecord s r).mem.stackTable = s.mem.stackTable := by
  unfold stageRecord
  repeat' split
  all_goals rfl

/-- A latent error counts in its stack, whose refresh stays. -/
theorem noteLatent_refreshing {s : State} (h : Refreshing s.mem) (role : Nat) (p : Place) : Refreshing (noteLatent role s p).mem := by
  have hw : swf {} (smod {} s.mem.stackTable p.stack (fun k : Stack => { k with ueCount := k.ueCount + 1 })) = true := smod_swf h.1
  refine ⟨hw, fun n hn => ?_⟩
  show (stackOf (modStack s p.stack (fun k => { k with ueCount := k.ueCount + 1 })) n).selfRefresh = true
  rw [stackOf_modStack h.1]
  split
  next he =>
    subst he
    exact h.2 _ hn
  · exact h.2 n hn

theorem patrolScrub_refreshing {s : State} (h : Refreshing s.mem) : Refreshing (patrolScrub s).mem := by
  unfold patrolScrub
  split
  · exact List.foldlRecOn _ (fun s (x : Region × Place) => stageRecord (noteLatent x.1.role s x.2) x.1)
      (motive := fun t => Refreshing t.mem) h
      (fun t ht x _ => (noteLatent_refreshing ht x.1.role x.2).of_stackTable (stageRecord_stackTable _ _))
  · exact h

theorem maintenance_refreshing {s : State} (h : Refreshing s.mem) : Refreshing (maintenance s).mem := by
  have hserve (t : State) (ht : Refreshing t.mem) : Refreshing (if hostMayWrite t then servePeeks t else t).mem := by
    split
    · exact ht.of_stackTable (congrArg (·.stackTable) (servePeeks_only t).mem)
    · exact ht
  refine hserve _ ?_
  split
  · exact (patrolScrub_refreshing h).of_stackTable (flushStages_stackTable _)
  · exact h

/-- The maintenance windows leave every stack in self-refresh. -/
theorem windowWork_refreshing {s : State} (h : Refreshing s.mem) : Refreshing (windowWork s).mem := by
  have hc : (chimneyWindow (maintenance { s with splitRows := [] })).mem = (maintenance { s with splitRows := [] }).mem := by
    unfold chimneyWindow
    split
    · cases channelKind (maintenance { s with splitRows := [] }) 4 true with
      | none => rfl
      | some c => exact (pump_only _ c.id).mem
    · rfl
  have hb (t : State) : (beginTraining t).mem = t.mem := by
    unfold beginTraining
    split <;> rfl
  unfold windowWork
  rw [hb, hc]
  exact maintenance_refreshing (s := { s with splitRows := [] }) h

/-! The start of a job -/

/-- Frame 0 of the grid that START_TIME gives. -/
def gridStarted (s : State) : State :=
  { s with
    time := { s.time with now := clock64 (max s.time.now s.time.startTime.toNat) }
    seq := { s.seq with grid := true, frame := 0, slot := 0, frameStart := s.time.startTime.toNat } }

/-- An armed device that starts, before its first step. -/
def jobStarted (s : State) : State :=
  announceRate 0 (pushStart { gridStarted s with dev := { s.dev with mode := .running } })

/-- A device in neither BANKED nor FAULTED, with its job, starts or has missed the start. -/
theorem exec_startTimeReached_with_job {s : State} (hk : s.time.startKnown = true) (hi : s.image.loaded.isSome = true)
    (ha : s.dev.activity ≠ 4) (hb : s.dev.mode ≠ .banked) (hf : s.dev.mode ≠ .faulted) : exec .startTimeReached s =
      if s.dev.mode = .armed then .next (slotWork (beginStep (jobStarted s) (s.train.completedStep.toNat + 1)))
      else if s.dev.mode = .loaded then .next { gridStarted s with dev := { s.dev with startMissed := true, armPending := false } }
      else .next s := by
  have hgrid : ((s.dev.mode == .banked || s.dev.mode == .faulted) && s.time.startKnown && !s.seq.grid) = false := by
    simp [hb, hf]
  have hjob : (!s.time.startKnown || s.image.loaded.isNone || s.dev.activity == 4) = false := by
    rw [hk, Option.isNone_eq_false_iff.mpr hi, beq_false_of_ne ha]
    rfl
  show execStartTimeReached s = _
  unfold execStartTimeReached
  dsimp only
  rw [hgrid, if_neg Bool.false_ne_true, hjob, if_neg Bool.false_ne_true]
  rfl

theorem exec_startTimeReached_armed {s : State} (hk : s.time.startKnown = true) (hi : s.image.loaded.isSome = true)
    (ha : s.dev.activity ≠ 4) (hm : s.dev.mode = .armed) :
    exec .startTimeReached s = .next (slotWork (beginStep (jobStarted s) (s.train.completedStep.toNat + 1))) := by
  rw [exec_startTimeReached_with_job hk hi ha (by simp [hm]) (by simp [hm]), if_pos hm]

theorem exec_startTimeReached_loaded {s : State} (hk : s.time.startKnown = true) (hi : s.image.loaded.isSome = true)
    (ha : s.dev.activity ≠ 4) (hm : s.dev.mode = .loaded) : exec .startTimeReached s =
      .next { gridStarted s with dev := { s.dev with startMissed := true, armPending := false } } := by
  rw [exec_startTimeReached_with_job hk hi ha (by simp [hm]) (by simp [hm]), if_neg (by simp [hm]), if_pos hm]

/-- A banked or faulted device without a grid begins it. -/
theorem exec_startTimeReached_without_job {s : State} (hk : s.time.startKnown = true) (hg : s.seq.grid = false)
    (hm : s.dev.mode = .banked ∨ s.dev.mode = .faulted) : exec .startTimeReached s = .next (announceRate 0 (gridStarted s)) := by
  have hgrid : ((s.dev.mode == .banked || s.dev.mode == .faulted) && s.time.startKnown && !s.seq.grid) = true := by
    simpa [hk, hg] using hm
  exact if_pos hgrid

/-- START_TIME does nothing where it is not known, in the other states, and to a banked or faulted device that holds a grid. -/
theorem exec_startTimeReached_ignored {s : State} (h : s.time.startKnown = false ∨
    s.dev.mode ∉ [Mode.armed, .loaded, .banked, .faulted] ∨ (s.dev.mode ∈ [Mode.banked, .faulted] ∧ s.seq.grid = true)) :
    exec .startTimeReached s = .next s := by
  show execStartTimeReached s = _
  rcases h with hk | hm | ⟨hm, hg⟩
  · simp [execStartTimeReached, hk]
  · simp only [List.mem_cons, List.not_mem_nil, or_false, not_or] at hm
    obtain ⟨harmed, hloaded, hbanked, hfaulted⟩ := hm
    simp [execStartTimeReached, harmed, hloaded, hbanked, hfaulted]
  · simp only [List.mem_cons, List.not_mem_nil, or_false] at hm
    rcases hm with hm | hm <;> simp [execStartTimeReached, hm, hg]

/-- The first slot of a job does its work in a state that has just begun its first step. -/
theorem slotWork_jobStarted {s : State} (n : Nat) (hh : s.seq.halt = none) (hd : s.seq.stopDue = false) (hb : s.seq.bankDue = none) :
    ∃ q u r e, SlotKept { jobStarted s with seq := q, upd := u, rng := r, sets := e } (slotWork (beginStep (jobStarted s) n)) ∧
      u.committed = -1 ∧ q.step = n ∧ q.pos = 0 ∧ seqGrid q = seqGrid (gridStarted s).seq := by
  obtain ⟨q, u, r, e, h, hu, hstep, hpos, hq⟩ := beginStep_keeps (jobStarted s) n
  have hjob := (announceRate_only 0 (pushStart { gridStarted s with dev := { s.dev with mode := .running } })).1
  have hgrid : seqGrid q = seqGrid (gridStarted s).seq := by
    unfold RateOnly at hjob
    rw [hq, jobStarted, hjob]
    rfl
  generalize beginStep (jobStarted s) n = v at h ⊢
  have hdue : stopIsDue v = false := by
    have hg := hgrid
    simp only [seqGrid, gridStarted, Prod.mk.injEq] at hg
    unfold SlotKept at h
    rw [h]
    simp [stopIsDue, hg, hh, hd, hb]
  have hv : v.seq.pos = 0 := by
    unfold SlotKept at h
    rw [h]
    exact hpos
  obtain ⟨x, hx, h0⟩ := workOfSlot_keeps v
  rw [h0 hv] at hx
  refine ⟨q, u, r, e, ?_, hu, hstep, hpos, hgrid⟩
  rw [slotWork_of_not_due hdue]
  exact h.trans hx

/-! The obligation -/

/-- A slot boundary at which nothing is due. -/
theorem slotWork_slotStart_of_not_due {s : State} (hd : stopIsDue s = false) (k : Nat) :
    ∃ u, SlotKept { slotStart s k with upd := u } (slotWork (slotStart s k)) := by
  obtain ⟨u, h, -⟩ := workOfSlot_keeps (slotStart s k)
  rw [slotWork_of_not_due (s := slotStart s k) hd]
  exact ⟨u, h⟩

theorem stopIsDue_slotStart {s : State} (hm : s.dev.mode = .running)
    (h : (s.seq.halt.isSome = true ∧ s.seq.stopped = false) ∨ s.seq.stopDue = true ∨ s.seq.bankDue.isSome = true) (k : Nat) :
    stopIsDue (slotStart s k) = true := by
  show stopIsDue s = true
  rcases h with ⟨h, hs⟩ | h | h <;> simp [stopIsDue, *]

/-- A boundary at which something is due stops, then works in the windows alone. -/
theorem slotWork_of_stop {s t : State} (hd : stopIsDue s = true) (ht : stopNow s = t) (hs : schedules t = false) :
    slotWork s = windowWork t := by
  rw [slotWork_of_due hd, ht, workOfSlot_of_not_schedules hs]

/-- Settles O48: boundaries by what is due at them, START_TIME by the state that it finds. -/
theorem boundariesAdvanceTheGrid : Obligations.BoundariesAdvanceTheGrid := by
  unfold Obligations.BoundariesAdvanceTheGrid
  intro s
  refine ⟨fun hg => ⟨exec_frameBoundary_no_grid hg, exec_slotBoundary_no_grid hg⟩, fun hg hd hr => ⟨fun hs => ?_, fun c hc => ?_⟩,
    fun hg hs hm => ⟨fun hh hst hsd hb hl => ?_, fun hh hsd hb => ?_, fun cause hb => ?_⟩,
    fun hk hi ha => ⟨fun hm hh hsd hb => ?_, fun hm => ?_⟩, fun hm hk hg => ?_, exec_startTimeReached_ignored⟩
  · obtain ⟨u, h⟩ := slotWork_slotStart_of_not_due hd (s.seq.slot + 1)
    refine ⟨_, exec_slotBoundary_within hg hs, ?_⟩
    unfold SlotKept at h
    rw [h]
    exact ⟨rfl, rfl, rfl, rfl, rfl, rfl, rfl⟩
  · rcases hc with rfl | ⟨rfl, hs⟩
    · exact ⟨_, exec_frameBoundary hg, (restOfFrame_frameKept hd).nextFrame_begun hd hr⟩
    · exact ⟨_, exec_slotBoundary_last hg hs, nextFrame_begun hd hr⟩
  · have hw := slotWork_of_stop (stopIsDue_slotStart hm (.inl ⟨hh, hst⟩) (s.seq.slot + 1))
      (stopNow_waits (s := slotStart s (s.seq.slot + 1)) hh hsd hb hl) (by simp [schedules])
    refine ⟨_, exec_slotBoundary_within hg hs, ?_⟩
    have h := windowWork_keeps { slotStart s (s.seq.slot + 1) with seq := { (slotStart s (s.seq.slot + 1)).seq with stopped := true } }
    unfold SlotKept at h
    rw [hw, h]
    exact ⟨rfl, hm, rfl, rfl⟩
  · obtain ⟨hmode, hreason, hstop, himage⟩ := stopNow_holds (s := slotStart s (s.seq.slot + 1)) hh hsd hb
    have hw := slotWork_of_stop (stopIsDue_slotStart hm (.inr (.inl hsd)) (s.seq.slot + 1)) rfl (by simp [schedules, hmode])
    refine ⟨_, exec_slotBoundary_within hg hs, ?_⟩
    have h := windowWork_keeps (stopNow (slotStart s (s.seq.slot + 1)))
    unfold SlotKept at h
    rw [hw, h]
    exact ⟨hmode, hreason, hstop, congrArg (·.loaded) himage⟩
  · have hbank := stopNow_banks (s := slotStart s (s.seq.slot + 1)) hb
    obtain ⟨hmode, hcause, hA, hB⟩ := enterBanked_running
      (s := { slotStart s (s.seq.slot + 1) with seq := { (slotStart s (s.seq.slot + 1)).seq with stopped := true } }) cause hm
    have hr := enterBanked_refreshing
      (s := { slotStart s (s.seq.slot + 1) with seq := { (slotStart s (s.seq.slot + 1)).seq with stopped := true } }) cause hm
    rw [← hbank] at hmode hcause hA hB hr
    have hw := slotWork_of_stop (stopIsDue_slotStart hm (.inr (.inr (by rw [hb]; rfl))) (s.seq.slot + 1)) rfl
      (by simp [schedules, hmode])
    refine ⟨_, exec_slotBoundary_within hg hs, ?_⟩
    have h := windowWork_keeps (stopNow (slotStart s (s.seq.slot + 1)))
    obtain ⟨-, hself⟩ := windowWork_refreshing hr
    unfold SlotKept at h
    rw [hw]
    refine ⟨?_, ?_, ?_, ?_, hself⟩ <;> rw [h]
    · exact hmode
    · exact hcause
    · exact hA
    · exact hB
  · obtain ⟨q, u, r, e, h, hu, hstep, hpos, hq⟩ := slotWork_jobStarted (s.train.completedStep.toNat + 1) hh hsd hb
    have hjob := (announceRate_only 0 (pushStart { gridStarted s with dev := { s.dev with mode := .running } })).1
    refine ⟨_, exec_startTimeReached_armed hk hi ha hm, ?_⟩
    simp only [seqGrid, gridStarted, Prod.mk.injEq] at hq
    obtain ⟨hgrid, hframe, hslot, hstart, -⟩ := hq
    unfold SlotKept at h
    unfold RateOnly at hjob
    rw [h, jobStarted, hjob]
    exact ⟨rfl, hgrid, hframe, hslot, hstart, rfl, hstep, hpos, hu, rfl, rfl⟩
  · exact ⟨_, exec_startTimeReached_loaded hk hi ha hm, rfl, rfl, hm, rfl, rfl, rfl⟩
  · obtain ⟨h, -⟩ := announceRate_only 0 (gridStarted s)
    refine ⟨_, exec_startTimeReached_without_job hk hg hm, ?_⟩
    unfold RateOnly at h
    rw [h]
    exact ⟨rfl, rfl, rfl, rfl, rfl, rfl, rfl, rfl⟩

end Sys2Proof.Machine
end

section
/-! The norm slot and the statistics slot of a step (05, R97, R98; 08, R169, R170, R175; 09, R184; 10, R203 to R209; 13, R271). -/

namespace Sys2Proof.Machine

/-! The norm slot -/

/-- Differing sets write the mismatch, the hold and their occurrence, and nothing else. -/
theorem noteSets_eq (s : State) (r : NormReport) : ∃ f, noteSets s r = { s with
      upd := { s.upd with setMismatch := s.upd.setMismatch || setsDiffer s r }
      train := { s.train with setHold := s.train.setHold || setsDiffer s r }, faults := f } ∧
    f.detected.map (·.occ) = s.faults.detected.map (·.occ) ++ if setsDiffer s r then [occNone 0x0604] else [] := by
  unfold noteSets
  cases setsDiffer s r with
  | false => exact ⟨s.faults, by simp, by simp⟩
  | true => exact ⟨_, by simp only [Bool.or_true]; rfl, List.map_append⟩

/-- A differing step seed writes the generator's mismatch and its occurrence, and nothing else. -/
theorem noteSeed_eq (s : State) (r : NormReport) : ∃ g f, noteSeed s r = { s with rng := g, faults := f } ∧
    (s.rng.stepSeed = r.masterSeed → r.othersSeedDiffer = false → g = s.rng) ∧
    f.detected.map (·.occ) = s.faults.detected.map (·.occ) ++
      if s.rng.stepSeed = r.masterSeed then [] else [occNone 0x0209] := by
  unfold noteSeed
  by_cases hseed : s.rng.stepSeed = r.masterSeed
  · cases hothers : r.othersSeedDiffer with
    | false => exact ⟨s.rng, s.faults, by simp [hseed], by simp, by simp [hseed]⟩
    | true => exact ⟨_, s.faults, by simp [hseed]; rfl, by simp, by simp [hseed]⟩
  · exact ⟨_, _, by simp [hseed]; rfl, fun h => absurd h hseed, by simp [hseed]⟩

/-- Q skips the update (R170): Q or its root is no finite number, or the sets differ. -/
def normSkips (q : BitVec 48) (r : NormReport) (s : State) : Bool :=
  isBroken q || sqrtW48 q == 0x7FC00000 || sqrtW48 q == 0x7F800000 || setsDiffer s r

/-- What the arrival of Q writes to the training state, before the sets are compared. -/
def normTaken (q : BitVec 48) (r : NormReport) (s : State) : Train :=
  { s.train with
    normSq := q, skip := normSkips q r s, updateSkipped := s.train.updateSkipped || normSkips q r s
    clip := if normSkips q r s then 0x7FC00000 else clipOf (sqrtW48 q) s.train.maxNorm }

section Clip

variable {q : BitVec 48} {r : NormReport} {s : State}

theorem normTaken_of_skip (h : normSkips q r s = true) :
    (normTaken q r s).clip = 0x7FC00000 ∧ (normTaken q r s).updateSkipped = true :=
  ⟨if_pos h, (congrArg (s.train.updateSkipped || ·) h).trans (Bool.or_true _)⟩

/-- A norm within MAX_NORM does not scale the gradient. -/
theorem normTaken_clip_of_le (h : normSkips q r s = false)
    (hle : vle (ofF32 (sqrtW48 q).toNat) (ofF32 s.train.maxNorm.toNat) = true) : (normTaken q r s).clip = 0x3F800000 :=
  (if_neg (Bool.eq_false_iff.mp h)).trans (if_pos hle)

/-- A norm above MAX_NORM is scaled down to it. -/
theorem normTaken_clip_of_not_le (h : normSkips q r s = false)
    (hle : vle (ofF32 (sqrtW48 q).toNat) (ofF32 s.train.maxNorm.toNat) = false) :
    (normTaken q r s).clip = BitVec.ofNat 32 (fdivc s.train.maxNorm.toNat (sqrtW48 q).toNat) :=
  (if_neg (Bool.eq_false_iff.mp h)).trans (if_neg (Bool.eq_false_iff.mp hle))

end Clip

/-- The arrival of Q writes the norm, the mismatch of the sets, the generator and the faults, and nothing else. -/
theorem takeNorm_eq (q : BitVec 48) (r : NormReport) (s : State) : ∃ g f, takeNorm q r s = { s with
      train := { normTaken q r s with setHold := s.train.setHold || setsDiffer s r }
      upd := { s.upd with setMismatch := s.upd.setMismatch || setsDiffer s r }, rng := g, faults := f } ∧
    (s.rng.stepSeed = r.masterSeed → r.othersSeedDiffer = false → g = s.rng) ∧
    f.detected.map (·.occ) = s.faults.detected.map (·.occ) ++
      (if setsDiffer s r then [occNone 0x0604] else []) ++
      if s.rng.stepSeed = r.masterSeed then [] else [occNone 0x0209] := by
  obtain ⟨f, hsets, hf⟩ := noteSets_eq { s with train := normTaken q r s } r
  obtain ⟨g, f', hseed, hg, hf'⟩ := noteSeed_eq (noteSets { s with train := normTaken q r s } r) r
  rw [hsets] at hseed hg hf'
  refine ⟨g, f', (congrArg (noteSeed · r) hsets).trans hseed, hg, hf'.trans ?_⟩
  rw [hf]
  rfl

theorem exec_clipFactor_norm {s : State} (hs : schedules s = true) (hk : currentKind s = 5) (q : BitVec 48) (r : NormReport) :
    exec (.clipFactor q r) s = .next (takeNorm (normOf q s) r s) :=
  if_pos (by rw [hs, hk]; rfl)

theorem exec_clipFactor_ignored {s : State} (h : schedules s = false ∨ currentKind s ≠ 5) (q : BitVec 48) (r : NormReport) :
    exec (.clipFactor q r) s = .next s :=
  if_neg (by rcases h with h | h <;> simp [h])

/-! The seed of the next step -/

theorem exec_nextSeedDelivery_ignored {s : State} (h : s.dev.mode ≠ .running ∨ s.seq.step = 0 ∨ mgmtRuns s = false) :
    exec .nextSeedDelivery s = .next s :=
  if_neg fun ⟨hm, hn, hr⟩ => by simp [hm, hn, hr] at h

/-! The totals -/

/-- Slots 64 and 1,088 change only frozen telemetry, the hold flag and the slot's time. -/
theorem slotPassed_eq (s : State) : ∃ e q n, slotPassed s = { s with tele := e, seq := q, fresh := n } ∧
    e.levels = s.tele.levels ∧ e.cleanRuns = s.tele.cleanRuns ∧ q.step = s.seq.step ∧ q.segs = s.seq.segs := by
  have hfrozen : ∃ e q n, (if s.seq.slot < 64 then freezeRecords s else s) = { s with tele := e, seq := q, fresh := n } ∧
      e.levels = s.tele.levels ∧ e.cleanRuns = s.tele.cleanRuns ∧ q.step = s.seq.step ∧ q.segs = s.seq.segs := by
    split <;> exact ⟨_, _, _, rfl, rfl, rfl, rfl, rfl⟩
  obtain ⟨e, q, n, h, hlevels, hruns, hstep, hsegs⟩ := hfrozen
  unfold slotPassed
  rw [h]
  dsimp only
  split <;> exact ⟨_, _, _, rfl, hlevels, hruns, hstep, hsegs⟩

/-- Reported totals hold the device's own flags, and on the master its own thresholds. -/
theorem reportedTotals_fields (s : State) (y : Totals) :
    (reportedTotals s y).conv = y.conv ∧ (reportedTotals s y).vec = y.vec ∧
    (reportedTotals s y).flags = y.flags ||| ownFlags s ∧ (reportedTotals s y).masterNextSeed = y.masterNextSeed ∧
    (reportedTotals s y).thresholds = if isMaster s then s.tele.frozenCfg.1 else y.thresholds := by
  unfold reportedTotals withThresholds
  split <;> exact ⟨rfl, rfl, rfl, rfl, rfl⟩

/-- The combined flags and the master's seed write the hold reason, a late batch, the generator and the faults alone. -/
theorem takeFlags_eq (s : State) (x : Totals) : ∃ g f, takeFlags s x = { s with
      seq := { s.seq with holdReason := holdReasonOf s x }
      train := { s.train with batchLate := s.train.batchLate || x.flags.getLsbD 0 }, rng := g, faults := f } ∧
    (s.rng.nextSeed = x.masterNextSeed → f = s.faults ∧ g = s.rng) ∧
    (s.rng.nextSeed ≠ x.masterNextSeed → g.mismatch = true ∧
      ∃ o, f.detected = s.faults.detected ++ [o] ∧ o.occ = occNone 0x0209) := by
  unfold takeFlags
  dsimp only
  split
  next h => exact ⟨s.rng, s.faults, rfl, fun _ => ⟨rfl, rfl⟩, fun hne => absurd h hne⟩
  next h => exact ⟨_, _, rfl, fun he => absurd he h, fun _ => ⟨rfl, _, rfl, rfl⟩⟩

/-! The decision -/

/-- The level of Table 10.5, and an unchanged one without ENABLE. -/
theorem nextLevel_level (x : Totals) (y : Layer) (breach : Bool) (v : Level) (run : BitVec 8) :
    (nextLevel x y breach v run).1.level = if x.thresholds.getLsbD 31 = false then v.level
      else if breach = true then (if v.level.toNat < y.ceil then v.level + 1 else v.level)
      else if bits x.thresholds.toNat 8 8 ≤ run.toNat + 1 ∧ y.floor < v.level.toNat then v.level - 1 else v.level := by
  unfold nextLevel fbEnable lowerAfter
  cases x.thresholds.getLsbD 31 with
  | false => rfl
  | true =>
    cases breach with
    | true => simp only [Bool.not_true, Bool.false_eq_true, if_false, if_true]; split <;> rfl
    | false => simp only [Bool.not_true, Bool.false_eq_true, if_false]; split <;> rfl

/-- A breach ends the clean run, with ENABLE or without. -/
theorem nextLevel_run_of_breach (x : Totals) (y : Layer) (v : Level) (run : BitVec 8) : (nextLevel x y true v run).2 = 0 := by
  unfold nextLevel
  cases fbEnable x with
  | false => rfl
  | true => simp only [Bool.not_true, Bool.false_eq_true, if_false, if_true]; split <;> rfl

theorem nextLevels_getElem? (s : State) (g : Image) (x : Totals) {l : Nat} {y : Layer} (h : g.layers[l]? = some y) :
    (nextLevels s g x)[l]? = some (nextLevel x y (layerBreach g x l) (sget {} s.tele.levels l) (sget 0 s.tele.cleanRuns l)) := by
  obtain ⟨hl, -⟩ := List.getElem?_eq_some_iff.mp h
  rw [nextLevels, List.getElem?_map, List.getElem?_range hl, Option.map_some, List.getD_eq_getElem?_getD, h, Option.getD_some]

/-- The level bytes of every layer for the next step. -/
def levelsDecided (s : State) (x : Totals) : Sparse Level := sofList {} 0 ((nextLevels s (imageOf s) x).map (·.1))

/-- The clean runs of every layer for the next step. -/
def runsDecided (s : State) (x : Totals) : Sparse (BitVec 8) := sofList 0 0 ((nextLevels s (imageOf s) x).map (·.2))

theorem sget_levelsDecided (s : State) (x : Totals) {l : Nat} {y : Layer} (h : (imageOf s).layers[l]? = some y) :
    sget {} (levelsDecided s x) l =
      (nextLevel x y (layerBreach (imageOf s) x l) (sget {} s.tele.levels l) (sget 0 s.tele.cleanRuns l)).1 :=
  sget_sofList_of_getElem? (by rw [List.getElem?_map, nextLevels_getElem? s _ x h, Option.map_some])

theorem sget_runsDecided_of_breach (s : State) (x : Totals) {l : Nat} {y : Layer} (h : (imageOf s).layers[l]? = some y)
    (hb : layerBreach (imageOf s) x l = true) : sget 0 (runsDecided s x) l = 0 := by
  refine sget_sofList_of_getElem? ?_
  rw [List.getElem?_map, nextLevels_getElem? s _ x h, Option.map_some, hb, nextLevel_run_of_breach]

/-- The next step's segment list. -/
def segsDecided (s : State) (x : Totals) : List Seg :=
  let lev := levelFn (levelsDecided s x)
  assemble (imageOf s) lev (recomputeSet (imageOf s) lev false) (s.seq.step + 1)

/-- A decision of the statistics slot and the next segment list are recorded, and nothing else is written. -/
theorem decideStep_eq (s : State) (x : Totals) : ∃ d m, decideStep s x = { s with
      seq := { s.seq with next := segsDecided s x, nextFrames := m }
      tele := { s.tele with totals := some x, decision := some d } } ∧
    d.step = BitVec.ofNat 64 s.seq.step ∧ d.levels = levelsDecided s x ∧ d.cleanRuns = runsDecided s x :=
  ⟨_, _, rfl, rfl, rfl, rfl⟩

/-- What the totals write in all: the flags' part, then the decision, which the flags do not change. -/
theorem decideStep_takeFlags_eq (s : State) (x : Totals) : ∃ d m g f, decideStep (takeFlags s x) x = { s with
      seq := { s.seq with holdReason := holdReasonOf s x, next := segsDecided s x, nextFrames := m }
      tele := { s.tele with totals := some x, decision := some d }
      train := { s.train with batchLate := s.train.batchLate || x.flags.getLsbD 0 }, rng := g, faults := f } ∧
    (d.step = BitVec.ofNat 64 s.seq.step ∧ d.levels = levelsDecided s x ∧ d.cleanRuns = runsDecided s x) ∧
    (s.rng.nextSeed = x.masterNextSeed → f = s.faults ∧ g = s.rng) ∧
    (s.rng.nextSeed ≠ x.masterNextSeed → g.mismatch = true ∧
      ∃ o, f.detected = s.faults.detected ++ [o] ∧ o.occ = occNone 0x0209) := by
  obtain ⟨g, f, hflags, hseed⟩ := takeFlags_eq s x
  obtain ⟨d, m, ht, hd⟩ := decideStep_eq (takeFlags s x) x
  rw [hflags] at ht hd
  exact ⟨d, m, g, f, (congrArg (decideStep · x) hflags).trans ht, hd, hseed⟩

/-! What is decided does not depend on the records that freeze. -/

theorem imageOf_slotPassed (s : State) : imageOf (slotPassed s) = imageOf s := by
  obtain ⟨e, q, n, h, -⟩ := slotPassed_eq s
  rw [h]
  rfl

theorem isMaster_slotPassed (s : State) : isMaster (slotPassed s) = s.time.master := by
  obtain ⟨e, q, n, h, -⟩ := slotPassed_eq s
  rw [h]
  rfl

theorem nextLevels_slotPassed (s : State) (g : Image) (x : Totals) : nextLevels (slotPassed s) g x = nextLevels s g x := by
  obtain ⟨e, q, n, h, hlevels, hruns, -⟩ := slotPassed_eq s
  rw [h]
  simp only [nextLevels, hlevels, hruns]

theorem levelsDecided_slotPassed (s : State) (x : Totals) : levelsDecided (slotPassed s) x = levelsDecided s x := by
  rw [levelsDecided, imageOf_slotPassed, nextLevels_slotPassed, levelsDecided]

theorem runsDecided_slotPassed (s : State) (x : Totals) : runsDecided (slotPassed s) x = runsDecided s x := by
  rw [runsDecided, imageOf_slotPassed, nextLevels_slotPassed, runsDecided]

theorem segsDecided_slotPassed (s : State) (x : Totals) : segsDecided (slotPassed s) x = segsDecided s x := by
  obtain ⟨e, q, n, h, -, -, hstep, -⟩ := slotPassed_eq s
  have hseq : (slotPassed s).seq.step = s.seq.step := by rw [h]; exact hstep
  rw [segsDecided, imageOf_slotPassed, levelsDecided_slotPassed, hseq, segsDecided]

theorem exec_fallbackDecision_ignored {s : State} (h : schedules s = false ∨ currentKind s ≠ 7 ∨ s.seq.segFrame ≠ 0 ∨
    s.tele.decision.isSome = true) (y : Option Totals) : exec (.fallbackDecision y) s = .next s :=
  if_neg (by rcases h with h | h | h | h <;> simp [h, -Option.isNone_iff_eq_none])

/-- In the first frame of STATS, without a decision, the totals decide where the device holds them. -/
theorem exec_fallbackDecision_first {s : State} (hs : schedules s = true) (hk : currentKind s = 7) (hf : s.seq.segFrame = 0)
    (hd : s.tele.decision = none) (y : Option Totals) :
    exec (.fallbackDecision y) s = .next ((totalsNow y (slotPassed s)).elim (slotPassed s)
      fun x => decideStep (takeFlags (slotPassed s) x) x) := by
  refine (if_pos (by rw [hs, hk, hf, hd]; rfl)).trans ?_
  cases totalsNow y (slotPassed s) <;> rfl

/-! The obligation -/

/-- Settles O50: the arrival of Q by what it writes, and the decision by the totals' flags and the rule of each layer. -/
theorem normAndStatisticsSlots : Obligations.NormAndStatisticsSlots := by
  unfold Obligations.NormAndStatisticsSlots
  intro s
  refine ⟨fun q r h => exec_clipFactor_ignored h q r, fun q0 r hs hk => ?_, fun hm hn hr => if_pos ⟨hm, hn, hr⟩,
    exec_nextSeedDelivery_ignored, fun y h => exec_fallbackDecision_ignored h y,
    fun hs hk hf hd => ⟨fun y => ?_, fun y hy => ?_, fun y x hx => ?_⟩⟩
  · obtain ⟨g, f, ht, hg, hdet⟩ := takeNorm_eq (normOf q0 s) r s
    refine ⟨_, exec_clipFactor_norm hs hk q0 r, ?_⟩
    rw [ht]
    refine ⟨rfl, fun h => if_neg (by simp [h]), fun h x hx => ?_, rfl, normTaken_of_skip, normTaken_clip_of_le,
      normTaken_clip_of_not_le, fun h => ?_, fun h => ?_, hdet, hg, rfl, rfl, rfl, rfl, rfl⟩
    · rw [normOf, if_pos h, hx, Option.getD_some]
    · simp only [h, Bool.or_true, and_self]
    · simp only [h, Bool.or_false, and_self]
  · obtain ⟨hconv, hvec, hflags, hseed, hth⟩ := reportedTotals_fields (slotPassed s) y
    rw [isMaster_slotPassed] at hth
    exact ⟨_, rfl, hconv, hvec, hflags, hseed, fun h => hth.trans (if_pos h), fun h => hth.trans (if_neg (by simp [h]))⟩
  · rw [exec_fallbackDecision_first hs hk hf hd, hy]
    rfl
  · obtain ⟨e, q, n, hp, hlevels, hruns, hstep, hsegs⟩ := slotPassed_eq s
    obtain ⟨d, m, g, f, ht, ⟨hdstep, hdlevels, hdruns⟩, hsame, hdiffer⟩ := decideStep_takeFlags_eq (slotPassed s) x
    refine ⟨_, d, (exec_fallbackDecision_first hs hk hf hd y).trans (by rw [hx, Option.elim_some, ht]), rfl, rfl, ?_⟩
    rw [levelsDecided_slotPassed] at hdlevels
    rw [runsDecided_slotPassed] at hdruns
    rw [segsDecided_slotPassed]
    rw [hp] at hdstep hsame hdiffer ⊢
    refine ⟨hstep ▸ hdstep, fun l _ y hy => ⟨?_, fun hb => ?_⟩, rfl, rfl, ?_, hsame, hdiffer, hlevels, hsegs, rfl, rfl, rfl⟩
    · rw [hdlevels, sget_levelsDecided s x hy, nextLevel_level]
    · rw [hdruns, sget_runsDecided_of_breach s x hy hb]
    · rw [hdlevels, segsDecided]

end Sys2Proof.Machine
end

section
/-! The commit round (09, R190, R193 to R196; 11, R225): the statistics that a committed chunk joins, the cells that its commit
sends on, and the cells that a device refuses. -/

namespace Sys2Proof.Machine

open Sys2Proof.Claims

/-! The statistics of a chunk -/

/-- Keeping the entries of some keys empties the others. -/
theorem sget_filter_key {α : Type} [DecidableEq α] {d : α} (p : Nat → Bool) (i : Nat) : ∀ {t : Sparse α} {b : Nat},
    sabove d b t = true → sget d (t.filter fun x => p x.1) i = if p i then sget d t i else d
  | [], _, _ => (ite_self d).symm
  | (k, v) :: t, b, h => by
    simp only [sabove, Bool.and_eq_true] at h
    have ih := sget_filter_key p i h.2
    rw [List.filter_cons]
    split
    next hk =>
      rw [sget, sget, ih]
      grind
    next hk =>
      have hlow (hi : i < k) : sget d t i = d := sget_below (Nat.lt_succ_of_lt hi) h.2
      rw [ih, sget]
      grind

theorem statAdd_empty (x : Stat8) : statAdd {} x = x := by
  have h (y : BitVec 64) : cntAdd 0 y = y := by
    apply BitVec.eq_of_toNat_eq
    have hz : (0 : BitVec 64).toNat = 0 := rfl
    rw [cntAdd, toNat_satAdd, hz]
    omega
  simp only [statAdd, h]

/-- The entries of one chunk, added in turn, join the record of each VSTAT_ID. -/
theorem sget_foldl_statAdd {m i : Nat} (hi : i < 1024) : ∀ {l v : Sparse Stat8} {b : Nat}, sabove {} b l = true →
    (∀ x ∈ l, x.1 / 1024 = m) → swf {} v = true →
    sget {} (l.foldl (fun t (x : Nat × Stat8) => smod {} t (x.1 % 1024) (statAdd x.2)) v) i =
      statAdd (sget {} l (1024 * m + i)) (sget {} v i)
  | [], v, _, _, _, _ => (statAdd_empty (sget {} v i)).symm
  | (k, x) :: l, v, b, hl, hm, hv => by
    simp only [sabove, Bool.and_eq_true] at hl
    obtain ⟨hk, hm⟩ := List.forall_mem_cons.mp hm
    rw [List.foldl_cons, sget_foldl_statAdd hi hl.2 hm (smod_swf hv), smod, sget_sput hv, sget]
    by_cases he : i = k % 1024
    · have hkey : 1024 * m + i = k := by omega
      rw [if_pos he, if_neg (by omega), if_pos hkey, hkey, sget_below (Nat.lt_succ_self k) hl.2, statAdd_empty, he]
    · rw [if_neg he, if_neg (show ¬ 1024 * m + i = k by omega)]
      split
      next hlt => rw [sget_below (Nat.lt_succ_of_lt hlt) hl.2]
      next => rfl

/-- The statistics that chunk k holds pending, joined to the vector records. -/
def statsJoined (k : Nat) (s : State) : Sparse Stat8 :=
  (chunkPending s.upd k).foldl (fun t (x : Nat × Stat8) => smod {} t (x.1 % 1024) (statAdd x.2)) s.tele.vec

theorem sget_statsJoined {s : State} (hp : swf {} s.upd.pending = true) (hv : swf {} s.tele.vec = true) (k : Nat) {i : Nat}
    (hi : i < 1024) :
    sget {} (statsJoined k s) i = statAdd (sget {} s.upd.pending (1024 * k + i)) (sget {} s.tele.vec i) := by
  have hk : (1024 * k + i) / 1024 = k := by omega
  have hof : ∀ x ∈ chunkPending s.upd k, x.1 / 1024 = k := fun x hx => by simpa using (List.mem_filter.mp hx).2
  have hl : sabove {} 0 (chunkPending s.upd k) = true := sabove_filter hp
  rw [statsJoined, sget_foldl_statAdd hi hl hof hv, chunkPending,
    sget_filter_key (fun j => j / 1024 == k) _ hp, hk, if_pos (beq_self_eq_true k)]

/-! The commit of a chunk -/

/-- The update once chunk k is committed. -/
def updCommitted (k : Nat) (s : State) : Update :=
  { setRing (setChunk s.upd k .committed) k 0 with
    committed := max s.upd.committed k
    pending := s.upd.pending.filter (fun x => x.1 / 1024 != k)
    copies := s.upd.copies.filter (fun c => c.chunk != k) }

theorem commitChunk_of_committed {k : Nat} {s : State} (h : sget .free s.upd.states k = .committed) : commitChunk k s = s :=
  if_pos h

theorem commitChunk_of_open {k : Nat} {s : State} (h : sget .free s.upd.states k ≠ .committed) : commitChunk k s =
    { s with
      tele := { s.tele with vec := statsJoined k s }, upd := updCommitted k s
      train := { s.train with nodes := joinNodes k s.train.nodes }
      jobRecord := { s.jobRecord with committedChunk := max s.jobRecord.committedChunk k } } :=
  if_neg h

theorem setRing_ring (u : Update) (k : Nat) (v : BitVec 2) :
    if k % 2 = 0 then (setRing u k v).ring0 = v ∧ (setRing u k v).ring1 = u.ring1
    else (setRing u k v).ring1 = v ∧ (setRing u k v).ring0 = u.ring0 := by
  unfold setRing
  split <;> exact ⟨rfl, rfl⟩

theorem setRing_states (u : Update) (k : Nat) (v : BitVec 2) : (setRing u k v).states = u.states := by
  unfold setRing
  split <;> rfl

theorem sget_updCommitted_states {s : State} (hs : swf .free s.upd.states = true) (k i : Nat) :
    sget .free (updCommitted k s).states i = if i = k then .committed else sget .free s.upd.states i := by
  rw [updCommitted, setRing_states, setChunk, sget_sput hs]

/-- A committed chunk has no statistics pending. -/
theorem sget_updCommitted_pending {s : State} (hp : swf {} s.upd.pending = true) (k : Nat) {i : Nat} (hi : i < 1024) :
    sget {} (updCommitted k s).pending (1024 * k + i) = {} := by
  have hk : (1024 * k + i) / 1024 = k := by omega
  rw [updCommitted, sget_filter_key (fun j => j / 1024 != k) _ hp, hk, if_neg (by simp)]

theorem commitChunk_eq (k : Nat) (s : State) : ∃ e u n j,
    commitChunk k s = { s with tele := e, upd := u, train := n, jobRecord := j } := by
  unfold commitChunk
  split
  · exact ⟨_, _, _, _, rfl⟩
  · exact ⟨_, _, _, _, rfl⟩

theorem sget_commitChunk_states {s : State} (hs : swf .free s.upd.states = true) (k i : Nat) :
    sget .free (commitChunk k s).upd.states i = if i = k then .committed else sget .free s.upd.states i := by
  by_cases h : sget .free s.upd.states k = .committed
  · rw [commitChunk_of_committed h]
    split
    next hi => rw [hi, h]
    next => rfl
  · rw [commitChunk_of_open h, sget_updCommitted_states hs]

/-! The links of the round -/

/-- Every cell that a COMMIT sends on is placed from one time. -/
theorem foldl_sendCommitOn (c : Cell) : ∀ (l : List Nat) (s : State), l.foldl (sendCommitOn c) s =
    l.foldl (fun t k => modLink t k (placeCells s.time.now (max (slotEnd s) (s.time.now + 257)) [c])) s
  | [], _ => rfl
  | k :: l, s => foldl_sendCommitOn c l (sendCommitOn c s k)

theorem linkOf_foldl_sendCommitOn {s : State} (hs : swf {} s.links = true) (c : Cell) {i : Nat} (hi : i < 64) :
    linkOf ((childLinks s).foldl (sendCommitOn c) s) i =
      if isUp s i = true ∧ (linkOf s i).child = true then
        placeCells s.time.now (max (slotEnd s) (s.time.now + 257)) [c] (linkOf s i)
      else linkOf s i := by
  have hm : i ∈ childLinks s ↔ isUp s i = true ∧ (linkOf s i).child = true := by simp [childLinks, hi]
  have hl : (childLinks s).Nodup := List.nodup_range.filter _
  rw [foldl_sendCommitOn, linkOf_foldl_modLink (fun _ => placeCells s.time.now (max (slotEnd s) (s.time.now + 257)) [c]) hl hs]
  simp only [hm]

/-- Link k once the cell c of the round has arrived on it. -/
def arrivedLink (s : State) (k : Nat) (c : Cell) : Link :=
  let here := (cellSlot c + slotLag s k, cellIndex c)
  { linkOf s k with
    missing := (linkOf s k).missing.filter (fun x => x != here)
    awaited := (linkOf s k).awaited.filter (fun x => x != here) }

/-- The state once the cell c of the round has arrived on link k. -/
def cellArrived (s : State) (k : Nat) (c : Cell) : State := arrived s k (cellSlot c + slotLag s k) (cellIndex c)

theorem linkOf_cellArrived {s : State} (hs : swf {} s.links = true) (k : Nat) (c : Cell) (i : Nat) :
    linkOf (cellArrived s k c) i = if i = k then arrivedLink s k c else linkOf s i :=
  linkOf_modLink hs

/-- The links to the children stay those that they are when a cell of the round arrives. -/
theorem child_cellArrived {s : State} (hs : swf {} s.links = true) (k : Nat) (c : Cell) (i : Nat) :
    isUp (cellArrived s k c) i = isUp s i ∧ (linkOf (cellArrived s k c) i).child = (linkOf s i).child := by
  rw [isUp, linkOf_cellArrived hs, isUp]
  split
  next h => subst h; exact ⟨rfl, rfl⟩
  next => exact ⟨rfl, rfl⟩

theorem foldl_sendCommitOn_eq (c : Cell) (l : List Nat) (s : State) : ∃ x,
    l.foldl (sendCommitOn c) s = { s with links := x } := by
  rw [foldl_sendCommitOn]
  exact foldl_modLink_eq (fun _ _ => placeCells s.time.now (max (slotEnd s) (s.time.now + 257)) [c]) l s

/-- The links once a COMMIT has come on link k and gone to the children. -/
theorem linkOf_committed {s : State} (hs : swf {} s.links = true) (k : Nat) (c : Cell) (m : Nat) (d : Cell) {i : Nat}
    (hi : i < 64) :
    linkOf ((childLinks (commitChunk m (cellArrived s k c))).foldl (sendCommitOn d) (commitChunk m (cellArrived s k c))) i =
      let x := if i = k then arrivedLink s k c else linkOf s i
      if isUp s i = true ∧ (linkOf s i).child = true then
        placeCells s.time.now (max (slotEnd s) (s.time.now + 257)) [d] x else x := by
  obtain ⟨e, u, n, j, hcommit⟩ := commitChunk_eq m (cellArrived s k c)
  obtain ⟨hup, hchild⟩ := child_cellArrived hs k c i
  have hw : swf {} (commitChunk m (cellArrived s k c)).links = true := by rw [hcommit]; exact sput_swf hs
  have hlink : linkOf (commitChunk m (cellArrived s k c)) i = linkOf (cellArrived s k c) i := by rw [hcommit]; rfl
  have hend : slotEnd (commitChunk m (cellArrived s k c)) = slotEnd s := by rw [hcommit]; rfl
  have hnow : (commitChunk m (cellArrived s k c)).time.now = s.time.now := by rw [hcommit]; rfl
  have hup' : isUp (commitChunk m (cellArrived s k c)) i = isUp s i := by rw [← hup, isUp, hlink, isUp]
  rw [linkOf_foldl_sendCommitOn hw d hi, hup', hlink, hchild, hend, hnow, linkOf_cellArrived hs]

/-! The cells of the round -/

theorem cellOk_of_takesCommit {s : State} {c : Cell} (h : takesCommit s c = true) : cellOk c = true := by
  simp only [takesCommit, Bool.and_eq_true] at h
  obtain ⟨⟨⟨⟨hk, -⟩, -⟩, -⟩, -⟩ := h
  exact hk

section Round

variable {s : State} {k : Fin 64} {c : Cell} (ht : linkTakes s k.val = true) (hc : cellType c = 1)
  (hr : s.fabric.relaying = false)

include ht hc hr

/-- A commit-class cell that the device does not take now is a cell error. -/
theorem exec_commit_refused (h : takesCommit s c = false) : ∀ p ∈ [Instr.commitToken, .commitCell],
    exec (p k c) s = .next (badCell s k.val) := by
  simp only [List.forall_mem_cons, List.not_mem_nil, false_implies, implies_true, and_true]
  rw [show exec (.commitToken k c) s = execCommitToken k c s from rfl, execCommitToken,
    show exec (.commitCell k c) s = execCommitCell k c s from rfl, execCommitCell]
  cases hk : cellOk c <;> simp [ht, hc, hr, h]

theorem exec_commitToken_taken (h : takesCommit s c = true) : exec (.commitToken k c) s =
    .next { cellArrived s k.val c with upd := { s.upd with
      childCount := smod 0 s.upd.childCount (commitFields c).2.1 (· + (commitFields c).2.2) } } := by
  rw [show exec (.commitToken k c) s = execCommitToken k c s from rfl, execCommitToken]
  simp only [ht, hc, hr, cellOk_of_takesCommit h, h]
  rfl

theorem exec_commitCell_taken (h : takesCommit s c = true) {n m q : Nat} (hf : commitFields c = (n, m, q)) :
    exec (.commitCell k c) s = .next ((childLinks (commitChunk m (cellArrived s k.val c))).foldl
      (sendCommitOn (commitCellOf s n m q)) (commitChunk m (cellArrived s k.val c))) := by
  rw [show exec (.commitCell k c) s = execCommitCell k c s from rfl, execCommitCell]
  simp only [ht, hc, hr, cellOk_of_takesCommit h, h, hf]
  rfl

end Round

/-! The obligation -/

/-- Settles O47: the token's COUNT is added, and a COMMIT commits its chunk once and goes to the children. -/
theorem commitRoundCells : Obligations.CommitRoundCells := by
  unfold Obligations.CommitRoundCells
  refine ⟨fun s => rfl, fun k c s ht hc hr hl => ⟨fun h p hp => ?refused, ?taken⟩⟩
  case refused => exact ⟨_, exec_commit_refused ht hc hr h p hp, fun i => linkOf_modLink hl, rfl⟩
  case taken =>
    intro h n m q hf here got
    refine ⟨fun hw => ?token, fun hs hp hv => ?commit⟩
    case token =>
      refine ⟨_, exec_commitToken_taken ht hc hr h, fun i => ?_, linkOf_cellArrived hl k.val c, rfl⟩
      rw [hf]
      refine (sget_sput hw).trans ?_
      split
      next hi => rw [hi]
      next => rfl
    case commit =>
      let u := cellArrived s k.val c
      have hs : swf .free u.upd.states = true := hs
      have hp : swf {} u.upd.pending = true := hp
      have hx := exec_commitCell_taken ht hc hr h hf
      have hlinks := fun i hi => linkOf_committed hl k.val c m (commitCellOf s n m q) (i := i) hi
      obtain ⟨x, heq⟩ := foldl_sendCommitOn_eq (commitCellOf s n m q) (childLinks (commitChunk m u)) (commitChunk m u)
      obtain ⟨e, v, y, j, hcommit⟩ := commitChunk_eq m u
      rw [heq] at hx hlinks
      refine ⟨_, hx, (sget_commitChunk_states hs m m).trans (if_pos rfl),
        fun i hi => (sget_commitChunk_states hs m i).trans (if_neg hi), fun hm => ?again, fun hm => ?first, hlinks,
        ?_, ?_, ?_, ?_⟩
      case again =>
        rw [commitChunk_of_committed (s := u) hm]
        exact ⟨rfl, rfl, rfl⟩
      case first =>
        rw [commitChunk_of_open (s := u) hm]
        exact ⟨rfl, setRing_ring _ m 0, rfl, rfl,
          fun i hi => ⟨sget_updCommitted_pending hp m hi, sget_statsJoined (s := u) hp hv m hi⟩⟩
      all_goals rw [hcommit]; rfl

end Sys2Proof.Machine
end

section
/-! The update ops (09, R182, R183, R187 to R190; 10, R201, R202): what the read of the gradient's tag leaves alone, the tiles as
bytes and as elements, and the rule of GUARD on one element. -/

namespace Sys2Proof.Machine

open Sys2Proof.Claims

/-! The read of a tag -/

/-- Between s and t a tag has been read: new occurrences, and stacks that keep their channel maps. -/
def TagRead (s t : State) : Prop :=
  t = { s with mem := { s.mem with stackTable := t.mem.stackTable }
               faults := { s.faults with detected := t.faults.detected } } ∧
    swf {} t.mem.stackTable = true ∧ ∀ n, (stackOf t n).map = (stackOf s n).map

theorem TagRead.refl {s : State} (hs : swf {} s.mem.stackTable = true) : TagRead s s := ⟨rfl, hs, fun _ => rfl⟩

theorem TagRead.trans {r s t : State} (h : TagRead r s) (k : TagRead s t) : TagRead r t := by
  obtain ⟨he, -, hm⟩ := h
  obtain ⟨ke, kw, km⟩ := k
  refine ⟨?_, kw, fun n => (km n).trans (hm n)⟩
  rw [he] at ke
  exact ke

theorem TagRead.detect {s t : State} (h : TagRead s t) (o : Occ) : TagRead s (detect t o) := by
  obtain ⟨he, hw, hm⟩ := h
  refine ⟨?_, hw, hm⟩
  rw [he]
  rfl

/-- An uncorrectable word that a tag's read meets is counted at its stack. -/
theorem noteUncorrectable_tagRead {s : State} (hs : swf {} s.mem.stackTable = true) (role : Nat) (p : Place) :
    TagRead s (noteUncorrectable role s p) := by
  refine TagRead.detect ⟨rfl, sput_swf hs, fun n => ?_⟩ _
  rw [stackOf_modStack hs]
  split
  next h => rw [h]
  next => rfl

theorem foldl_noteUncorrectable_tagRead (role : Nat) : ∀ (l : List Place) {s : State}, swf {} s.mem.stackTable = true →
    TagRead s (l.foldl (noteUncorrectable role) s)
  | [], _, hs => .refl hs
  | p :: l, _, hs =>
    have h := noteUncorrectable_tagRead hs role p
    h.trans (foldl_noteUncorrectable_tagRead role l h.2.1)

theorem noteGrad_tagRead {s : State} (hs : swf {} s.mem.stackTable = true) (c : OpCmd) : TagRead s (noteGrad s c) := by
  have h : TagRead s (noteTag s (opTensor c)) := by
    unfold noteTag
    split
    · exact .refl hs
    · exact foldl_noteUncorrectable_tagRead _ _ hs
  unfold noteGrad
  dsimp only
  split
  · exact h
  · exact h.detect _

section Read

variable {s t : State} (h : TagRead s t)

include h

/-- A tag's read moves no byte of a region. -/
theorem TagRead.regionRead (r : Region) (off len : Nat) : regionRead t r off len = regionRead s r off len := by
  obtain ⟨he, -, hm⟩ := h
  have hkey (p : Place) : placeKey t.mem p = placeKey s.mem p := by
    have := hm p.stack
    unfold stackOf at this
    unfold placeKey physOf
    rw [this]
  have hplace (b : Nat) : locate t r b = locate s r b := by rw [he]; rfl
  have hdram : t.mem.dram = s.mem.dram := by rw [he]
  have htier : t.mem.cacheTier = s.mem.cacheTier := by rw [he]
  simp only [Machine.regionRead, placeRead, hkey, hplace, hdram, htier]

theorem TagRead.tagOf (n : Nat) : tagOf t n = tagOf s n := by
  have hr : roleRegion t 2 = roleRegion s 2 := by rw [h.1]; rfl
  have ht : tensorNo t n = tensorNo s n := by rw [h.1]; rfl
  unfold Machine.tagOf
  rw [hr]
  split
  · rfl
  · rw [h.regionRead, ht]

/-- The elements of a share do not depend on the tag's read. -/
theorem TagRead.updElems (c : OpCmd) : updElems t c = updElems s c := by
  have hg : gradTag t c = gradTag s c := h.tagOf _
  have hcodes : gradCodes t c = gradCodes s c := by
    unfold gradCodes gradAgrees spadRead
    rw [hg, h.1]
  unfold Machine.updElems
  rw [hg, hcodes, h.1]
  rfl

theorem TagRead.updNodes (c : OpCmd) (k : UpdCfg) (xs : List (Bool × Nat × UpdElem)) :
    updNodes t c k xs = updNodes s c k xs := by
  have hg : gradTag t c = gradTag s c := h.tagOf _
  unfold Machine.updNodes
  rw [hg, h.1]
  rfl

end Read

/-! Tiles as bytes and as elements -/

theorem flatten_rowsAux {α : Type} {w : Nat} (hw : 0 < w) (l : List α) : (rowsAux w l.length l).flatten = l := by
  by_cases hl : l = []
  · subst hl; rfl
  · have hp := List.length_pos_of_ne_nil hl
    rw [rowsAux_of_ne_nil hw hl, List.flatten_cons, flatten_rowsAux hw (l.drop w), List.take_append_drop]
termination_by l.length
decreasing_by simp; omega

theorem length_rowsAux_of_eq_mul {α : Type} {w q : Nat} (hw : 0 < w) {l : List α} (hl : l.length = w * q) :
    (rowsAux w l.length l).length = q := by
  rw [length_rowsAux hw, hl, Nat.add_sub_assoc hw, Nat.mul_add_div hw, Nat.div_eq_of_lt (Nat.sub_lt hw Nat.one_pos), Nat.add_zero]

/-- Rows that divide a list evenly are all full. -/
theorem length_of_mem_rowsAux {α : Type} {w : Nat} (hw : 0 < w) {l : List α} (hl : w ∣ l.length) :
    ∀ r ∈ rowsAux w l.length l, r.length = w := by
  intro r hr
  obtain ⟨i, hi, rfl⟩ := List.mem_iff_getElem.mp hr
  obtain ⟨q, hq⟩ := hl
  rw [length_rowsAux_of_eq_mul hw hq] at hi
  rw [← List.getD_eq_getElem _ [], getD_rowsAux hw, List.length_take, List.length_drop, hq, ← Nat.mul_sub]
  exact Nat.min_eq_left (Nat.le_mul_of_pos_right w (Nat.sub_pos_of_lt hi))

/-- Records of k bytes each are cut out again. -/
theorem pieces_flatMap {α : Type} {g : α → Bytes} {k : Nat} (hk : 0 < k) : ∀ {l : List α},
    (∀ x ∈ l, (g x).length = k) → pieces k (l.flatMap g) = l.map g
  | [], _ => rfl
  | x :: l, h => by
    obtain ⟨hx, hl⟩ := List.forall_mem_cons.mp h
    have hne : (x :: l).flatMap g ≠ [] := by
      rw [List.flatMap_cons]
      exact List.append_ne_nil_of_left_ne_nil (List.ne_nil_of_length_pos (by omega)) _
    rw [pieces, piecesAux_eq_rowsAux, rowsAux_of_ne_nil hk hne, List.flatMap_cons, List.take_left' hx, List.drop_left' hx,
      ← piecesAux_eq_rowsAux, ← pieces, pieces_flatMap hk hl, List.map_cons]

/-- The planes of a tile of n state slots. -/
theorem codesOf_slice_tileOf (n : Nat) {xs : List UpdElem} (hx : xs.length = 1024) :
    codesOf 4 (slice (tileOf n xs) 0 (1024 * 4)) = xs.map (·.a % 256 ^ 4) ∧
    codesOf 2 (slice (tileOf n xs) 4096 (1024 * 2)) = xs.map (·.f % 256 ^ 2) ∧
    codesOf 4 (slice (tileOf n xs) 6144 (1024 * 4)) = xs.map (·.m % 256 ^ 4) ∧
    (n = 2 → codesOf 4 (slice (tileOf n xs) 10240 (1024 * 4)) = xs.map (·.v % 256 ^ 4)) := by
  have hplane {w o : Nat} (hw : 0 < w) (f : UpdElem → Nat) {x z b : Bytes} (hb : b = x ++ codeBytes w (xs.map f) ++ z)
      (ho : x.length = o) : codesOf w (slice b o (1024 * w)) = xs.map (f · % 256 ^ w) := by
    have hl : (codeBytes w (xs.map f)).length = 1024 * w := by simp [hx, Nat.mul_comm]
    rw [hb, ← ho, ← hl, slice_middle, codesOf_codeBytes hw, List.map_map]
    rfl
  refine ⟨?_, hplane two_pos (·.f) (List.append_assoc ..) (by simp [hx]), hplane four_pos (·.m) rfl (by simp [hx]),
    fun hn => ?_⟩
  · rw [tileOf, List.append_assoc, List.append_assoc]
    exact hplane four_pos (·.a) (x := []) rfl rfl
  · rw [tileOf, if_pos hn, ← List.append_nil (_ ++ codeBytes 4 (xs.map (·.v)))]
    exact hplane four_pos (·.v) rfl (by simp [hx])

theorem length_tileOf {n : Nat} (h1 : 1 ≤ n) (h2 : n ≤ 2) {xs : List UpdElem} (hx : xs.length = 1024) :
    (tileOf n xs).length = tileBytes n := by
  unfold tileOf tileBytes
  split
  next h => simp [hx, h]
  next h => simp [hx, show n = 1 by omega]

/-- An element as tiles of n state slots hold it. -/
def heldElem (n : Nat) (x : UpdElem) : UpdElem := { cutElem x with v := if n = 2 then x.v % 2 ^ 32 else 0 }

/-- Elements written as tiles are read back as the tiles hold them. -/
theorem tileElems_tilesOf {n : Nat} (h1 : 1 ≤ n) (h2 : n ≤ 2) {xs : List UpdElem} (hx : 1024 ∣ xs.length) :
    tileElems n (pieces (tileBytes n) (tilesOf n xs)) = xs.map (heldElem n) := by
  have hrows := length_of_mem_rowsAux (by omega) hx
  have hpos : 0 < tileBytes n := by unfold tileBytes; omega
  have hplane (o w : Nat) (f : UpdElem → Nat)
      (h : ∀ r ∈ rowsAux 1024 xs.length xs, codesOf w (slice (tileOf n r) o (1024 * w)) = r.map f) :
      tilePlane ((rowsAux 1024 xs.length xs).map (tileOf n)) o w = xs.map f := by
    rw [tilePlane, List.flatMap_map, List.flatMap_congr h, ← List.map_flatMap, List.flatMap_id', flatten_rowsAux (by omega)]
  rw [tilesOf, pieces_flatMap hpos fun r hr => length_tileOf h1 h2 (hrows r hr), tileElems,
    hplane 0 4 _ fun r hr => (codesOf_slice_tileOf n (hrows r hr)).1,
    hplane 4096 2 _ fun r hr => (codesOf_slice_tileOf n (hrows r hr)).2.1,
    hplane 6144 4 _ fun r hr => (codesOf_slice_tileOf n (hrows r hr)).2.2.1]
  split
  next h =>
    rw [hplane 10240 4 _ fun r hr => (codesOf_slice_tileOf n (hrows r hr)).2.2.2 h]
    simp only [List.zip_map', List.map_map]
    refine List.map_congr_left fun x _ => ?_
    simp [heldElem, cutElem, h]
  next h =>
    simp only [List.zip_map', List.map_map]
    refine List.map_congr_left fun x _ => ?_
    simp [heldElem, cutElem, h]

/-! The elements that tiles hold -/

theorem length_le_of_mem_rowsAux {α : Type} {w : Nat} : ∀ {f : Nat} {l : List α}, ∀ r ∈ rowsAux w f l, r.length ≤ w
  | 0, _, _, hr => absurd hr List.not_mem_nil
  | f + 1, l, r, hr => by
    unfold rowsAux at hr
    split at hr
    · exact absurd hr List.not_mem_nil
    · rcases List.mem_cons.mp hr with rfl | hr
      · exact List.length_take_le ..
      · exact length_le_of_mem_rowsAux r hr

theorem lt_of_mem_codesOf {w x : Nat} {bs : Bytes} (hx : x ∈ codesOf w bs) : x < 256 ^ w := by
  obtain ⟨b, hb, rfl⟩ := List.mem_map.mp hx
  rw [pieces, piecesAux_eq_rowsAux] at hb
  exact (leNat_lt b).trans_le (Nat.pow_le_pow_right (by omega) (length_le_of_mem_rowsAux b hb))

theorem lt_of_mem_tilePlane {tiles : List Bytes} {o w x : Nat} (hx : x ∈ tilePlane tiles o w) : x < 256 ^ w := by
  obtain ⟨t, -, hx⟩ := List.mem_flatMap.mp hx
  exact lt_of_mem_codesOf hx

/-- What tiles hold fits them. -/
theorem heldElem_of_mem {n : Nat} {tiles : List Bytes} {x : UpdElem} (hx : x ∈ tileElems n tiles) : heldElem n x = x := by
  obtain ⟨⟨a, f, m, v⟩, hz, rfl⟩ := List.mem_map.mp hx
  obtain ⟨ha, hz⟩ := List.of_mem_zip hz
  obtain ⟨hf, hz⟩ := List.of_mem_zip hz
  obtain ⟨hm, hv⟩ := List.of_mem_zip hz
  have ha := lt_of_mem_tilePlane ha
  have hf := lt_of_mem_tilePlane hf
  have hm := lt_of_mem_tilePlane hm
  have hv : (if n = 2 then v % 2 ^ 32 else 0) = v := by
    split at hv
    next h =>
      rw [if_pos h]
      exact Nat.mod_eq_of_lt (lt_of_mem_tilePlane hv)
    next h =>
      obtain ⟨_, -, rfl⟩ := List.mem_map.mp hv
      exact if_neg h
  rw [heldElem, cutElem, hv, Nat.mod_eq_of_lt (b := 2 ^ 32) ha, Nat.mod_eq_of_lt (b := 2 ^ 16) hf,
    Nat.mod_eq_of_lt (b := 2 ^ 32) hm]

theorem length_tilePlane {w : Nat} (hw : 0 < w) (tiles : List Bytes) (o : Nat) :
    (tilePlane tiles o w).length = 1024 * tiles.length := by
  have hl (bs : Bytes) : (codesOf w (slice bs o (1024 * w))).length = 1024 := by
    rw [codesOf, List.length_map, pieces, piecesAux_eq_rowsAux,
      length_rowsAux_of_eq_mul hw ((length_slice ..).trans (Nat.mul_comm ..))]
  rw [tilePlane, List.length_flatMap, List.map_congr_left fun t _ => hl t, List.map_const', List.sum_replicate, smul_eq_mul,
    Nat.mul_comm]

theorem length_tileElems (n : Nat) (tiles : List Bytes) : (tileElems n tiles).length = 1024 * tiles.length := by
  unfold tileElems
  split <;> simp [length_tilePlane]

theorem length_gradCodes (s : State) (c : OpCmd) : (gradCodes s c).length = pCount c / 32 * 32 := by
  have hb (p : Planes) (bs : Bytes) (valid : Nat → Bool) (r j : Nat) : (blockAt p bs valid r j).elems.length = 32 := by
    simp [blockAt]
  simp [gradCodes, gradPlanes, hb]

/-- A share has an element for each of COUNT. -/
theorem length_updElems {s : State} {c : OpCmd} (hc : 1024 ∣ pCount c) : (updElems s c).length = pCount c := by
  have hpos : 0 < tileBytes (tileSlots s c) := by unfold tileBytes; omega
  have ht : (pieces (tileBytes (tileSlots s c)) (spadRead s c.hearth.val (opSrc0 c)
      (pCount c / 1024 * tileBytes (tileSlots s c)))).length = pCount c / 1024 := by
    rw [pieces, piecesAux_eq_rowsAux, spadRead, length_rowsAux_of_eq_mul hpos (mread_length.trans (Nat.mul_comm ..))]
  simp only [updElems, List.length_zip, List.length_map, List.length_range, length_gradCodes, length_tileElems, ht]
  omega

/-! One element -/

/-- The element that an update op leaves in place of x: the new values, but those of a pad element and those that GUARD
keeps (R189). -/
def elemLeft (k : UpdCfg) (x : Bool × Nat × UpdElem) : UpdElem :=
  if x.1 then
    let y := updNew k x.2.1 x.2.2
    if updKept k x.2.1 y then x.2.2 else y
  else x.2.2

/-- g' and the new values are finite. -/
def elemFinite (r : Rule) (gp : Nat) (y : UpdElem) : Bool :=
  visFin (ofF32 gp) && visFin (ofF32 y.a) && visFin (ofB16 y.f) && visFin (ofF32 y.m) && (r != .adam || visFin (ofF32 y.v))

theorem updKept_eq_false_iff (k : UpdCfg) (gp : Nat) (y : UpdElem) :
    updKept k gp y = false ↔ k.guard = false ∨ elemFinite k.rule gp y = true := by
  have hv : (k.rule != .adam || visFin (ofF32 y.v)) = (if k.rule = .adam then [ofF32 y.v] else []).all visFin := by
    by_cases h : k.rule = .adam <;> simp [h]
  rw [updKept, elemFinite, allFin, updVals, List.all_append, hv]
  simp [or_iff_not_imp_left, and_assoc]

theorem elemLeft_eq (k : UpdCfg) (x : Bool × Nat × UpdElem) : elemLeft k x =
    if x.1 = true ∧ (k.guard = false ∨ elemFinite k.rule x.2.1 (updNew k x.2.1 x.2.2) = true) then updNew k x.2.1 x.2.2
    else x.2.2 := by
  simp only [← updKept_eq_false_iff, elemLeft]
  cases x.1
  · rfl
  · cases updKept k x.2.1 (updNew k x.2.1 x.2.2) <;> rfl

/-- Only UPD_ADAM writes slot 1. -/
theorem updNew_v {k : UpdCfg} (hk : k.rule ≠ .adam) (gp : Nat) (x : UpdElem) : (updNew k gp x).v = x.v := by
  unfold updNew updStep updDirection
  cases hr : k.rule
  case adam => exact absurd hr hk
  all_goals rfl

/-- New values are held as their planes hold them, where the tiles have the slots that the rule writes. -/
theorem heldElem_updNew {n : Nat} {k : UpdCfg} (hn : k.rule = .adam → n = 2) (gp : Nat) {x : UpdElem} (hx : heldElem n x = x) :
    heldElem n (updNew k gp x) = cutElem (updNew k gp x) := by
  by_cases h2 : n = 2
  · simp only [heldElem, cutElem, if_pos h2]
  · have hv : x.v = 0 := by rw [← hx, heldElem, if_neg h2]
    simp only [heldElem, cutElem, if_neg h2, updNew_v (fun h => h2 (hn h)), hv, Nat.zero_mod]

/-- The element that GUARD leaves, as tiles hold it. -/
theorem heldElem_elemLeft {n : Nat} {k : UpdCfg} (hn : k.rule = .adam → n = 2) {x : Bool × Nat × UpdElem}
    (hx : heldElem n x.2.2 = x.2.2) : heldElem n (elemLeft k x) =
      if x.1 = true ∧ (k.guard = false ∨ elemFinite k.rule x.2.1 (updNew k x.2.1 x.2.2) = true) then
        cutElem (updNew k x.2.1 x.2.2)
      else x.2.2 := by
  rw [elemLeft_eq]
  split
  · exact heldElem_updNew hn _ hx
  · exact hx

/-! The op -/

/-- An update op that is not skipped breaks none of the rules on update records. -/
theorem updBreaks_of_not_skipped {s : State} {c : OpCmd} {code : Nat} (hk : isUpdate code = true)
    (hs : opSkipped s code c = false) : ∀ b ∈ updBreaks (fun t => (tensorNo s t).stateSlots) c, b.1 = false := by
  obtain rfl := opCode_of_not_skipped hs
  have hrange := hk
  simp only [isUpdate, Bool.and_eq_true, decide_eq_true_eq] at hrange
  simp only [opSkipped, opRefused, Bool.or_eq_false_iff, List.any_eq_false] at hs
  obtain ⟨-, -, hb⟩ := hs
  have hcode : isOpcode (opCode c) = true := by
    simp only [isOpcode, Bool.or_eq_true, Bool.and_eq_true, decide_eq_true_eq]
    omega
  rw [opBreaks, List.forall_mem_cons, List.forall_mem_cons, if_neg (by omega), if_pos hcode, streamBreaks, List.forall_mem_cons,
    List.forall_mem_cons] at hb
  obtain ⟨-, -, -, -, hb⟩ := hb
  by_cases hptr : opParamPtr c = 0
  · simp [hptr] at hb
  · rw [if_neg hptr, List.forall_mem_cons, List.forall_mem_cons, if_neg (show ¬ opCode c = 8 by omega), if_pos hk] at hb
    obtain ⟨-, -, hb⟩ := hb
    simpa using hb

theorem dvd_pCount {s : State} {c : OpCmd} {code : Nat} (hk : isUpdate code = true) (hs : opSkipped s code c = false) :
    1024 ∣ pCount c := by
  have h := updBreaks_of_not_skipped hk hs (pCount c % 1024 != 0, 0x0008) (by simp [updBreaks])
  exact Nat.dvd_of_mod_eq_zero (by simpa using h)

theorem slotNeed_le_tileSlots {s : State} {c : OpCmd} {code : Nat} (hk : isUpdate code = true)
    (hs : opSkipped s code c = false) : slotNeed code ≤ tileSlots s c := by
  have h := updBreaks_of_not_skipped hk hs
    (decide ((tensorNo s (opTensor c)).stateSlots < slotNeed (opCode c)), 0x0008) (by simp [updBreaks])
  rw [opCode_of_not_skipped hs] at h
  simpa [tileSlots] using h

/-- The update ops, each with its opcode and its rule (Table 9.5). -/
def updateOps : List ((OpCmd → Instr) × Nat × Rule) :=
  [(Instr.updSgdm, 0x32, Rule.sgdm), (.updAdam, 0x33, .adam), (.updSign, 0x34, .sign)]

theorem exec_updateOp : ∀ p ∈ updateOps, ∀ (c : OpCmd) (s : State), exec (p.1 c) s = updOp p.2.1 p.2.2 c s := by
  simp only [updateOps, List.forall_mem_cons, List.not_mem_nil, false_implies, implies_true, and_true]
  exact ⟨fun _ _ => rfl, fun _ _ => rfl, fun _ _ => rfl⟩

/-- UPD_ADAM needs two slots, the others one (R187). -/
theorem updateOp_need : ∀ p ∈ updateOps, isUpdate p.2.1 = true ∧ 1 ≤ slotNeed p.2.1 ∧
    (p.2.2 = .adam → slotNeed p.2.1 = 2) := by
  decide

/-- The share's tiles as an update op under k leaves them. -/
def tilesLeft (s : State) (c : OpCmd) (k : UpdCfg) : Bytes := tilesOf (tileSlots s c) ((updElems s c).map (elemLeft k))

/-- What an update op writes: its tiles, the nodes of d_t, and as any op its counts and its program buffer. -/
theorem updRun_eq (r : Rule) (c : OpCmd) (s : State) : ∃ e u h,
    let k := updCfg r (updFrozen s c)
    updRun r c s = { s with
      mem := { s.mem with spad := spadWrite s.mem.spad c.hearth.val (opSrc0 c) (tilesLeft s c k) }
      train := { s.train with nodes := (updNodes s c k (updElems s c)).foldl noteNode s.train.nodes }
      tele := e, upd := u, hearths := h } := by
  unfold updRun updDone opened
  dsimp only
  split <;> exact ⟨_, _, _, rfl⟩

/-- An update op writes the tiles that its elements leave, and notes the nodes of d_t. -/
theorem exec_update {p : (OpCmd → Instr) × Nat × Rule} (hp : p ∈ updateOps) {c : OpCmd} {s : State}
    (hs : opSkipped s p.2.1 c = false) (hf : updFits s c = true) (hd : (updFrozen s c).flags.getLsbD 3 = false)
    (hw : swf {} s.mem.stackTable = true) : let k := updCfg p.2.2 (updFrozen s c)
    ∃ t, exec (p.1 c) s = .next t ∧ t.train.nodes = (updNodes s c k (updElems s c)).foldl noteNode s.train.nodes ∧
      t.mem.spad = spadWrite s.mem.spad c.hearth.val (opSrc0 c) (tilesLeft s c k) := by
  let places := [(opSrc0 c, pCount c / 1024 * tileBytes (tileSlots s c))]
  have hx : exec (p.1 c) s = .next (withEcc c (updStruck s c) places (updRun p.2.2 c (noteGrad s c))) := by
    rw [exec_updateOp p hp, updOp, hs, hf, hd]
    rfl
  obtain ⟨l, hecc, -⟩ := withEcc_eq c (updStruck s c) places (updRun p.2.2 c (noteGrad s c))
  obtain ⟨e, u, h, hrun⟩ := updRun_eq p.2.2 c (noteGrad s c)
  have hread := noteGrad_tagRead hw c
  have hset : updFrozen (noteGrad s c) c = updFrozen s c := by rw [hread.1]; rfl
  have hslots : tileSlots (noteGrad s c) c = tileSlots s c := by rw [hread.1]; rfl
  have hleft (k : UpdCfg) : tilesLeft (noteGrad s c) c k = tilesLeft s c k := by
    rw [tilesLeft, hread.updElems, hslots, tilesLeft]
  have htrain : (noteGrad s c).train = s.train := by rw [hread.1]
  have hspad : (noteGrad s c).mem.spad = s.mem.spad := by rw [hread.1]
  simp only [hleft, hread.updElems, hread.updNodes, hset, htrain, hspad] at hrun
  rw [hecc, hrun] at hx
  exact ⟨_, hx, rfl, rfl⟩

theorem length_tilesOf {n : Nat} (h1 : 1 ≤ n) (h2 : n ≤ 2) {xs : List UpdElem} (hx : 1024 ∣ xs.length) :
    (tilesOf n xs).length = xs.length / 1024 * tileBytes n := by
  have hl : xs.length = 1024 * (xs.length / 1024) := (Nat.mul_div_cancel' hx).symm
  rw [tilesOf, length_flatMap_records fun r hr => length_tileOf h1 h2 (length_of_mem_rowsAux (by omega) hx r hr),
    length_rowsAux_of_eq_mul (by omega) hl, Nat.mul_comm]

/-! The obligation -/

/-- Settles O54: the tiles written are read back element by element, each the new values or the old ones as GUARD says. -/
theorem guardKeepsAnElement : Obligations.GuardKeepsAnElement := by
  unfold Obligations.GuardKeepsAnElement
  intro p hp c s hs hf h2 hd hm hw n k
  obtain ⟨hupd, hneed, hadam⟩ := updateOp_need p hp
  have hslots : slotNeed p.2.1 ≤ n := slotNeed_le_tileSlots hupd hs
  have h1 : 1 ≤ n := hneed.trans hslots
  have hcount := dvd_pCount hupd hs
  obtain ⟨t, hx, hnodes, hspad⟩ := exec_update hp hs hf hd hw
  refine ⟨t, hx, hnodes, fun e _ q hq => ?_⟩
  have hlen : ((updElems s c).map (elemLeft k)).length = pCount c := by rw [List.length_map, length_updElems hcount]
  have hread : spadRead t c.hearth.val (opSrc0 c) (pCount c / 1024 * tileBytes n) =
      tilesOf n ((updElems s c).map (elemLeft k)) := by
    rw [spadRead, hspad]
    exact mread_spadWrite hm (by rw [tilesLeft, length_tilesOf h1 h2 (hlen ▸ hcount), hlen])
  have hheld : heldElem n q.2.2 = q.2.2 :=
    heldElem_of_mem (List.of_mem_zip (List.of_mem_zip (List.mem_of_getElem? hq)).2).2
  rw [hread, tileElems_tilesOf h1 h2 (hlen ▸ hcount), List.getElem?_map, List.getElem?_map, hq]
  exact congrArg some (heldElem_elemLeft (k := k) (fun hr => le_antisymm h2 (hadam hr ▸ hslots)) hheld)

end Sys2Proof.Machine
end

section
/-! The selectors and CLEAR (10, R214; 14, R299, R302; 00, R8): each is a scalar write whose entry checks the range of the value
alone, so it latches what it names and answers 0x0000, or is refused with 0x0202. -/

namespace Sys2Proof.Machine

open Sys2Proof.Claims

/-! The entries' own writes -/

/-- SELECT of 0x3410 latches a record that may be selected, outside BANKED, where the statistics have no power. -/
theorem writeSub_statSelect {s : State} {sel : BitVec 32} {x : Stat8} (hb : s.dev.mode ≠ .banked)
    (hc : clearOf sel.toNat 0x0FFFF000 = true) (hx : statSelected s sel.toNat = some x) (a : Agent) (bs : Bytes) :
    writeSub s a 0x3410 1 ⟨sel.toNat, 0, bs, true⟩ = ({ s with
      tele := { s.tele with select := sel, selStep := s.train.completedStep, selValue := x } }, 0) := by
  have he (w : Put) : writeSub s a 0x3410 1 w = writeStatSelect s w := if_neg (fun h => hb h.1)
  simp [he, writeStatSelect, ranged_eq, hc, hx]

/-- SELECT of FAULT_LOG latches a record that the log holds. -/
theorem writeSub_logSelect (s : State) (a : Agent) (n : BitVec 32) (bs : Bytes) :
    writeSub s a 0x5020 1 ⟨n.toNat, 0, bs, true⟩ = if n.toNat < s.faults.log.length then
      ({ s with faults := { s.faults with logSelect := n, logRecord := s.faults.log.getD n.toNat {} } }, 0)
      else (s, 0x0202) := by
  have he (w : Put) : writeSub s a 0x5020 1 w = writeLogSelect s w := if_neg (fun h => absurd h.2 (by decide))
  simp [he, writeLogSelect, ranged_eq]

/-- CLEAR takes the value 1 alone. -/
theorem writeSub_logClear (s : State) (a : Agent) (v : BitVec 8) (bs : Bytes) :
    writeSub s a 0x5020 4 ⟨v.toNat, 0, bs, true⟩ =
      if v = 1 then ({ s with faults := { s.faults with log := [] } }, 0) else (s, 0x0202) := by
  have he (w : Put) : writeSub s a 0x5020 4 w = writeLogClear s w := if_neg (fun h => absurd h.2 (by decide))
  have hv : v.toNat = 1 ↔ v = 1 := BitVec.toNat_inj (y := 1)
  simp only [he, writeLogClear, ranged_eq, Bool.true_and, beq_iff_eq, hv]

/-- SELECT of SOURCE_CONTROL latches a source of Table 14.1 with its COUNT. -/
theorem writeSub_sourceSelect (s : State) (a : Agent) (c : BitVec 16) (bs : Bytes) :
    writeSub s a 0x5030 1 ⟨c.toNat, 0, bs, true⟩ = if (sourceInfo c.toNat).isSome then
      ({ s with faults := { s.faults with sourceSelect := c, sourceCount := (sourceOf s c.toNat).count } }, 0)
      else (s, 0x0202) := by
  have he (w : Put) : writeSub s a 0x5030 1 w = writeSourceSelect s w := if_neg (fun h => absurd h.2 (by decide))
  simp [he, writeSourceSelect, ranged_eq]

/-! The commands -/

/-- A heard agent that may write gets, for a scalar of a subentry, 0x0000 where the entry's own write takes the value, and
0x0202 elsewhere, with the state as it was. -/
theorem agentWrite_scalar_ite {a : Agent} {s t : State} {i sub n : Nat} {e : Entry} {x : Sub} {p : Prop} [Decidable p]
    (ha : mayCommand s a) (he : entryOf i = some e) (hx : subOf i e sub = some x) (hacc : x.acc = .rw ∨ x.acc = .wo)
    (htyp : x.typ < 256) (hlong : isLong x.typ = false) (hn : n < 256 ^ x.size)
    (h : writeSub s a i sub ⟨n, 0, natLe x.size n, true⟩ = if p then (t, 0) else (s, 0x0202)) :
    agentWrite a i sub (scalar x n) s = .next (if p then coded t 0 else coded s 0x0202) := by
  split
  case isTrue hp => exact agentWrite_scalar ha he hx hacc htyp hlong hn (h.trans (if_pos hp))
  case isFalse hp => exact agentWrite_scalar ha he hx hacc htyp hlong hn (h.trans (if_neg hp))

/-! The obligation -/

/-- Settles O19: each command is a scalar write, answered as its entry's own write answers. -/
theorem selectorsLatchTheirRecords : Obligations.SelectorsLatchTheirRecords := by
  unfold Obligations.SelectorsLatchTheirRecords
  intro a s ha
  refine ⟨fun sel x hb hc hx => ?_, fun n => ?_, fun v => ?_, fun c => ?_⟩
  · exact agentWrite_scalar ha (i := 0x3410) (sub := 1) (x := u32 .rw) rfl rfl (.inl rfl) (by decide) rfl sel.isLt
      (writeSub_statSelect hb hc hx a _)
  · exact agentWrite_scalar_ite ha (i := 0x5020) (sub := 1) (x := u32 .rw) rfl rfl (.inl rfl) (by decide) rfl n.isLt
      (writeSub_logSelect s a n _)
  · exact agentWrite_scalar_ite ha (i := 0x5020) (sub := 4) (x := u8 .wo) rfl rfl (.inr rfl) (by decide) rfl v.isLt
      (writeSub_logClear s a v _)
  · exact agentWrite_scalar_ite ha (i := 0x5030) (sub := 1) (x := u16 .rw) rfl rfl (.inl rfl) (by decide) rfl c.isLt
      (writeSub_sourceSelect s a c _)

end Sys2Proof.Machine
end

section
/-! The operations that the link ends share (11, R226 to R230, R235): outside the links each changes the fabric, the fence map
and what the time-parent tree shows alone; of the links, each its own. -/

namespace Sys2Proof.Machine

open Sys2Proof.Claims

/-! Outside the links -/

/-- Between s and t the work of a link has changed the links, the fabric and what the time-parent tree shows, and has added
to the occurrences that wait. -/
structure LinkWork (s t : State) : Prop where
  only : t = { s with
    time := t.time, upd := t.upd, rate := t.rate, links := t.links, fabric := t.fabric
    faults := { s.faults with detected := t.faults.detected } }
  detected : s.faults.detected <+: t.faults.detected

namespace LinkWork

variable {r s t : State}

theorem refl (s : State) : LinkWork s s := ⟨rfl, List.prefix_rfl⟩

theorem trans (h : LinkWork r s) (k : LinkWork s t) : LinkWork r t := by
  refine ⟨?_, h.detected.trans k.detected⟩
  have ht := k.only
  rw [h.only] at ht
  exact ht

theorem ite {c : Prop} [Decidable c] (h : LinkWork r s) (k : LinkWork r t) : LinkWork r (if c then s else t) := by
  split
  · exact h
  · exact k

/-- What no work of a link changes. -/
theorem kept (h : LinkWork s t) : t.dev = s.dev ∧ t.mem = s.mem ∧ t.image = s.image ∧ t.fence = s.fence ∧
    t.faults.log = s.faults.log := by
  rw [h.only]
  exact ⟨rfl, rfl, rfl, rfl, rfl⟩

/-- An occurrence that waits stays among those that wait. -/
theorem detected_of_mem (h : LinkWork s t) {o : Occ} (hd : ∃ d ∈ s.faults.detected, d.occ = o) :
    ∃ d ∈ t.faults.detected, d.occ = o := by
  obtain ⟨d, hm, ho⟩ := hd
  exact ⟨d, h.detected.subset hm, ho⟩

end LinkWork

theorem modLink_work (s : State) (k : Nat) (f : Link → Link) : LinkWork s (modLink s k f) := ⟨rfl, List.prefix_rfl⟩

theorem detect_work (s : State) (o : Occ) : LinkWork s (detect s o) := ⟨rfl, List.prefix_append _ _⟩

theorem mem_detected_detect (s : State) (o : Occ) : ∃ d ∈ (detect s o).faults.detected, d.occ = o :=
  ⟨_, List.mem_concat_self, rfl⟩

theorem refreshParent_detected (s : State) : s.faults.detected <+: (refreshParent s).faults.detected := by
  unfold refreshParent
  dsimp only
  split
  · exact List.prefix_rfl
  · split
    · exact List.prefix_append _ _
    · exact List.prefix_rfl

theorem refreshRequest_faults (s : State) : (refreshRequest s).faults = s.faults := by
  unfold refreshRequest
  dsimp only
  split <;> rfl

theorem refreshTree_work (s : State) : LinkWork s (refreshTree s) where
  only := by
    have h := refreshTree_only s
    unfold OnlyTree at h
    rw [h]
  detected := by
    rw [refreshTree, refreshRequest_faults]
    exact refreshParent_detected s

/-- The time-parent tree is found anew from the links, and changes none. -/
theorem refreshTree_links (s : State) : (refreshTree s).links = s.links := by
  have h := refreshTree_only s
  unfold OnlyTree at h
  rw [h]

@[simp] theorem linkOf_refreshTree (s : State) (i : Nat) : linkOf (refreshTree s) i = linkOf s i := by
  rw [linkOf, refreshTree_links, linkOf]

@[simp] theorem linkOf_detect (s : State) (o : Occ) (i : Nat) : linkOf (detect s o) i = linkOf s i := rfl

/-- A direction that goes on a one-link-down table changes the fabric alone. -/
theorem downDirection_eq (k f : Nat) (s : State) : ∃ x, downDirection k f s = { s with fabric := x } := by
  unfold downDirection scheduleDown
  dsimp only
  repeat' split
  all_goals exact ⟨_, rfl⟩

theorem downDirection_work (k f : Nat) (s : State) : LinkWork s (downDirection k f s) := by
  obtain ⟨x, hx⟩ := downDirection_eq k f s
  rw [hx]
  exact ⟨rfl, List.prefix_rfl⟩

@[simp] theorem linkOf_downDirection (k f : Nat) (s : State) (i : Nat) : linkOf (downDirection k f s) i = linkOf s i := by
  obtain ⟨x, hx⟩ := downDirection_eq k f s
  rw [hx]
  rfl

theorem sendLinkDown_work (k f : Nat) (s : State) : LinkWork s (sendLinkDown k f s) := by
  unfold sendLinkDown
  split
  · exact modLink_work ..
  · exact .refl s

theorem noteUp_work (s : State) (k : Nat) : LinkWork s (noteUp s k) := modLink_work ..

theorem noteDelay_work (s : State) (k : Nat) (d : Int) : LinkWork s (noteDelay s k d) := ⟨rfl, List.prefix_rfl⟩

theorem leaveData_work (k : Nat) (was s : State) : LinkWork s (leaveData k was s) :=
  .ite ((modLink_work ..).trans (downDirection_work ..)) (.refl s)

theorem loseLink_work (k : Nat) (s : State) : LinkWork s (loseLink k s) :=
  ((modLink_work ..).trans (detect_work ..)).trans (refreshTree_work _)

/-- Link k in the fence map: quiet, and its event detected. -/
def linkFenced (k : Nat) (s : State) : State :=
  refreshTree (detect (modLink { s with fence := { s.fence with links := insertNat s.fence.links k } } k
    (fun l => { quietLink l with state := 4, phase := 0, retrain := false })) (occAt 0x0404 2 k))

theorem fenceLinkNow_eq (k : Nat) (s : State) : fenceLinkNow k s =
    if isUp s k then downDirection k s.seq.frame (linkFenced k s) else linkFenced k s := rfl

/-- A fence enters the fence map, detects its event, and is otherwise a link's work. -/
theorem fenceLinkNow_work (k : Nat) (s : State) :
    LinkWork (detect { s with fence := { s.fence with links := insertNat s.fence.links k } } (occAt 0x0404 2 k))
      (fenceLinkNow k s) := by
  have h : LinkWork (detect { s with fence := { s.fence with links := insertNat s.fence.links k } } (occAt 0x0404 2 k))
      (linkFenced k s) := LinkWork.trans (s := detect (modLink _ k _) _) ⟨rfl, List.prefix_rfl⟩ (refreshTree_work _)
  rw [fenceLinkNow_eq]
  exact .ite (h.trans (downDirection_work ..)) h

/-! The links -/

section Links

variable {s : State} (hs : swf {} s.links = true)

include hs

theorem modLink_swf (k : Nat) (f : Link → Link) : swf {} (modLink s k f).links = true := smod_swf hs

theorem noteDelay_swf (k : Nat) (d : Int) : swf {} (noteDelay s k d).links = true := by
  unfold noteDelay
  dsimp only
  exact modLink_swf hs ..

theorem loseLink_swf (k : Nat) : swf {} (loseLink k s).links = true := by
  unfold loseLink
  dsimp only
  rw [refreshTree_links, detect_links]
  exact modLink_swf hs ..

theorem linkOf_noteDelay (k : Nat) (d : Int) (i : Nat) : linkOf (noteDelay s k d) i = if i = k then
    { linkOf s k with delay := BitVec.ofInt 32 d, longLink := (linkOf s k).longLink || decide (160 < d) } else linkOf s i := by
  have h (s' : State) (t : TimeBase) : linkOf { s' with time := t } i = linkOf s' i := rfl
  unfold noteDelay
  dsimp only
  rw [h]
  exact linkOf_modLink hs

/-- A LINK_DOWN waits on another link. -/
theorem linkOf_sendLinkDown (k f i : Nat) : ∃ p, linkOf (sendLinkDown k f s) i = { linkOf s i with pendControl := p } ∧
    (i = k → p = (linkOf s i).pendControl) := by
  unfold sendLinkDown
  split
  next j hj =>
    have hne : j ≠ k := by
      have := List.find?_some hj
      simp only [Bool.and_eq_true, bne_iff_ne] at this
      exact this.1
    rw [queueControl, linkOf_modLink hs]
    by_cases hi : i = j
    · subst hi
      exact ⟨_, by rw [if_pos rfl], fun h => absurd h hne⟩
    · exact ⟨_, by rw [if_neg hi], fun _ => rfl⟩
  next => exact ⟨_, rfl, fun _ => rfl⟩

theorem linkOf_sendLinkDown_self (k f : Nat) : linkOf (sendLinkDown k f s) k = linkOf s k := by
  obtain ⟨p, hp, hk⟩ := linkOf_sendLinkDown hs k f k
  rw [hp, hk rfl]

/-- A lost link is quiet, and begins to train. -/
theorem linkOf_loseLink (k i : Nat) : linkOf (loseLink k s) i = if i = k then
    toTraining s { quietLink (linkOf s k) with lost := true, events := (linkOf s k).events ||| 0x20 } else linkOf s i := by
  unfold loseLink
  dsimp only
  rw [linkOf_refreshTree, linkOf_detect]
  exact linkOf_modLink hs

/-- A fenced link is quiet. -/
theorem linkOf_fenceLinkNow (k i : Nat) : linkOf (fenceLinkNow k s) i = if i = k then
    { quietLink (linkOf s k) with state := 4, phase := 0, retrain := false } else linkOf s i := by
  have h : linkOf (linkFenced k s) i = if i = k then
      { quietLink (linkOf s k) with state := 4, phase := 0, retrain := false } else linkOf s i := by
    rw [linkFenced, linkOf_refreshTree, linkOf_detect]
    exact linkOf_modLink (s := { s with fence := { s.fence with links := insertNat s.fence.links k } }) hs
  rw [fenceLinkNow_eq]
  split
  · rw [linkOf_downDirection, h]
  · exact h

/-- A link that leaves data by command is lost where it carried data in a job, and is otherwise as it was. -/
theorem linkOf_leaveData (k : Nat) (was : State) : ∃ b, ∀ i, linkOf (leaveData k was s) i =
    if i = k then { linkOf s k with lost := b } else linkOf s i := by
  unfold leaveData
  split
  · exact ⟨true, fun i => (linkOf_downDirection ..).trans (linkOf_modLink hs)⟩
  · refine ⟨(linkOf s k).lost, fun i => ?_⟩
    split
    next h => rw [h]
    next => rfl

end Links

theorem mem_insertNat (n : Nat) : ∀ l : List Nat, n ∈ insertNat l n
  | [] => List.mem_singleton_self n
  | x :: t => by
    rw [insertNat]
    split
    · exact List.mem_cons_self
    · split
      next h => rw [h]; exact List.mem_cons_self
      next => exact List.mem_cons_of_mem _ (mem_insertNat n t)

/-- A fenced link stands in the fence map. -/
theorem mem_fence_fenceLinkNow (k : Nat) (s : State) : k ∈ (fenceLinkNow k s).fence.links := by
  rw [(fenceLinkNow_work k s).only]
  exact mem_insertNat k _

end Sys2Proof.Machine
end

section
/-! LINK_CONTROL (11, R226, R230, R238): FENCE, RETRAIN and FORCE_DOWN set on a link on which none of them is set. -/

namespace Sys2Proof.Machine

open Sys2Proof.Claims

/-! The entry's own write -/

theorem entryOf_link : ∀ k : Fin 64, entryOf (0x4000 + k.val) =
    many [u32 .ro, u32 .ro, i32 .ro, u64 .ro, u64 .ro, u64 .ro, u64 .ro, u32 .ro, u32 .rw, u32 .rw] := by
  decide

theorem bankedOff_link : ∀ k : Fin 64, bankedOff (0x4000 + k.val) = false := by
  decide

theorem writeSub_linkControl (s : State) (a : Agent) (k : Fin 64) (w : Put) :
    writeSub s a (0x4000 + k.val) 10 w = writeLinkControl s k.val w := by
  have hk := k.isLt
  have he : writeSub s a (0x4000 + k.val) 10 w = writeHigh s (0x4000 + k.val) 10 w := by
    rw [writeSub, if_neg (by simp [bankedOff_link]), if_neg (by omega), if_neg (by omega), if_pos (by omega)]
  have hl : writeHigh s (0x4000 + k.val) 10 w = writeLinkControl s (0x4000 + k.val - 0x4000) w :=
    (if_pos (by omega)).trans (if_neg (by decide))
  rw [he, hl, Nat.add_sub_cancel_left]

/-- An agent that may command gets, for LINK_CONTROL, the code of the entry's own write. -/
theorem agentWrite_linkControl {a : Agent} {s t : State} {k : Fin 64} {n : Nat} {c : BitVec 16} (ha : mayCommand s a)
    (hn : n < 256 ^ 4) (h : writeLinkControl s k.val ⟨n, 0, natLe 4 n, true⟩ = (t, c)) :
    agentWrite a (0x4000 + k.val) 10 (scalar (u32 .rw) n) s = .next (coded t c) :=
  agentWrite_scalar ha (x := u32 .rw) (entryOf_link k) rfl (.inl rfl) (by decide) rfl hn
    ((writeSub_linkControl s a k _).trans h)

/-- The states in which the host may set the fields of LINK_CONTROL. -/
def LinkQuiet (s : State) : Prop := s.dev.mode = .idle ∨ s.dev.mode = .loaded ∨ s.dev.mode = .held

theorem linksPowered_of_linkQuiet {s : State} (h : LinkQuiet s) : linksPowered s = true := by
  rcases h with h | h | h <;> simp [linksPowered, isPowered, h]

section Fields

variable {s : State} {k : Nat} (hf : k ∉ s.fence.links) (hd : (linkOf s k).forceDown = false)
  (hr : (linkOf s k).retrain = false)

include hf hd hr

theorem linkControl_of_clear : linkControl s k = 0 := by
  simp [linkControl, flag, b2n, hf, hd, hr]

/-- Outside its states FENCE is refused. -/
theorem writeLinkControl_fence_running (bs : Bytes) (hm : s.dev.mode = .running) :
    writeLinkControl s k ⟨4, 0, bs, true⟩ = (s, 0x0301) := by
  simp [writeLinkControl, linkControl_of_clear hf hd hr, hm, guarded, Nat.testBit]

theorem writeLinkControl_fence (bs : Bytes) (hm : LinkQuiet s) :
    writeLinkControl s k ⟨4, 0, bs, true⟩ = (fenceLinkNow k s, 0) := by
  rcases hm with hm | hm | hm <;> simp [writeLinkControl, linkControl_of_clear hf hd hr, hm, guarded, Nat.testBit]

theorem writeLinkControl_retrain (bs : Bytes) (hm : LinkQuiet s) :
    writeLinkControl s k ⟨2, 0, bs, true⟩ = (retrainNow k s, 0) := by
  rcases hm with hm | hm | hm <;> simp [writeLinkControl, linkControl_of_clear hf hd hr, hm, guarded, Nat.testBit, hf]

theorem writeLinkControl_forceDown (bs : Bytes) (hm : LinkQuiet s) :
    writeLinkControl s k ⟨1, 0, bs, true⟩ = (forceDownNow k s, 0) := by
  rcases hm with hm | hm | hm <;> simp [writeLinkControl, linkControl_of_clear hf hd hr, hm, guarded, Nat.testBit, hf]

end Fields

/-! The commands -/

section Commands

variable {a : Agent} {s : State} {k : Fin 64} (ha : mayCommand s a) (hf : k.val ∉ s.fence.links)
  (hd : (linkOf s k.val).forceDown = false) (hr : (linkOf s k.val).retrain = false)

include ha hf hd hr

theorem exec_fenceLink_running (hm : s.dev.mode = .running) : exec (.fenceLink a k) s = .next (coded s 0x0301) := by
  show execFenceLink a k s = _
  rw [execFenceLink, linkControl_of_clear hf hd hr]
  exact agentWrite_linkControl ha (by decide) (writeLinkControl_fence_running hf hd hr _ hm)

theorem exec_fenceLink (hm : LinkQuiet s) : exec (.fenceLink a k) s = .next (coded (fenceLinkNow k.val s) 0) := by
  show execFenceLink a k s = _
  rw [execFenceLink, linkControl_of_clear hf hd hr]
  exact agentWrite_linkControl ha (by decide) (writeLinkControl_fence hf hd hr _ hm)

theorem exec_retrainLink (hm : LinkQuiet s) : exec (.retrainLink a k) s = .next (coded (retrainNow k.val s) 0) := by
  show execRetrainLink a k s = _
  rw [execRetrainLink, linkControl_of_clear hf hd hr]
  exact agentWrite_linkControl ha (by decide) (writeLinkControl_retrain hf hd hr _ hm)

theorem exec_forceDownLink (hm : LinkQuiet s) :
    exec (.forceDownLink a k true) s = .next (coded (forceDownNow k.val s) 0) := by
  show execForceDownLink a k true s = _
  rw [execForceDownLink, linkControl_of_clear hf hd hr]
  exact agentWrite_linkControl ha (by decide) (writeLinkControl_forceDown hf hd hr _ hm)

end Commands

/-! The link -/

section Effects

variable {s : State} {k : Nat} (hp : linksPowered s = true) (hc : (linkOf s k).state ≠ 0) (hf : k ∉ s.fence.links)

include hp hc hf

theorem trainable_of_connected : (!linksPowered s || (linkOf s k).state == 0 || s.fence.links.contains k) = false := by
  simpa [hp, hf] using hc

/-- RETRAIN of a link that may train: it is quiet, trains from T1, and leaves data. -/
theorem retrainNow_eq (hd : (linkOf s k).forceDown = false) : retrainNow k s = refreshTree (leaveData k s (modLink s k
    (fun l => toTraining s { quietLink l with wiringHold := false, retrain := true }))) := by
  simp only [retrainNow, trainable_of_connected hp hc hf, hd, Bool.false_eq_true, if_false]

/-- FORCE_DOWN of a link that may train: it is quiet and in DOWN, and leaves data. -/
theorem forceDownNow_eq : forceDownNow k s = refreshTree (leaveData k s (modLink (modLink s k
    (fun l => { l with forceDown := true })) k (fun l => { quietLink l with state := 1, phase := 0, retrain := false }))) := by
  simp only [forceDownNow, trainable_of_connected hp hc hf, Bool.false_eq_true, if_false]

theorem retrainNow_work (hd : (linkOf s k).forceDown = false) : LinkWork s (retrainNow k s) := by
  rw [retrainNow_eq hp hc hf hd]
  exact (modLink_work ..).trans ((leaveData_work ..).trans (refreshTree_work _))

theorem forceDownNow_work : LinkWork s (forceDownNow k s) := by
  rw [forceDownNow_eq hp hc hf]
  exact ((modLink_work ..).trans (modLink_work ..)).trans ((leaveData_work ..).trans (refreshTree_work _))

/-- The links once link k retrains by command. -/
theorem linkOf_retrainNow (hd : (linkOf s k).forceDown = false) (hs : swf {} s.links = true) :
    ∃ b, ∀ i, linkOf (retrainNow k s) i = if i = k then
      { toTraining s { quietLink (linkOf s k) with wiringHold := false, retrain := true } with lost := b } else linkOf s i := by
  obtain ⟨b, hb⟩ := linkOf_leaveData (modLink_swf hs k
    (fun l => toTraining s { quietLink l with wiringHold := false, retrain := true })) k s
  refine ⟨b, fun i => ?_⟩
  rw [retrainNow_eq hp hc hf hd, linkOf_refreshTree, hb, linkOf_modLink hs, linkOf_modLink hs, if_pos rfl]
  split <;> rfl

/-- The links once link k is held in DOWN by command. -/
theorem linkOf_forceDownNow (hs : swf {} s.links = true) : ∃ b, ∀ i, linkOf (forceDownNow k s) i = if i = k then
    { quietLink { linkOf s k with forceDown := true } with state := 1, phase := 0, retrain := false, lost := b }
    else linkOf s i := by
  have hs' := modLink_swf hs k (fun l => { l with forceDown := true })
  obtain ⟨b, hb⟩ := linkOf_leaveData (modLink_swf hs' k
    (fun l => { quietLink l with state := 1, phase := 0, retrain := false })) k s
  refine ⟨b, fun i => ?_⟩
  rw [forceDownNow_eq hp hc hf, linkOf_refreshTree, hb, linkOf_modLink hs', linkOf_modLink hs', if_pos rfl,
    linkOf_modLink hs, linkOf_modLink hs, if_pos rfl]
  split <;> rfl

end Effects

/-! The obligation -/

/-- A link's work that the host commands on link k, from s or from s with another fence map and a detected occurrence. -/
theorem LinkWork.commanded {s s' t : State} {k : Nat} (hw : LinkWork s' t) (h : s' = { s with
    fence := s'.fence, faults := { s.faults with detected := s'.faults.detected } })
    (hl : ∀ j, j ≠ k → linkOf t j = linkOf s j) : LinkCommanded s (coded t 0) k := by
  obtain ⟨hdev, hmem, himage, -, hlog⟩ := hw.kept
  rw [h] at hdev hmem himage hlog
  refine ⟨?_, hl, hmem, himage, hlog⟩
  simp only [coded, hdev]

/-- Settles O22: each command sets its field of LINK_CONTROL, and the link is fenced, trains, or is held in DOWN. -/
theorem linkControlActsOnItsLink : Obligations.LinkControlActsOnItsLink := by
  unfold Obligations.LinkControlActsOnItsLink
  intro a k s ha hf hd hr hc hs
  refine ⟨exec_fenceLink_running ha hf hd hr, fun hm => ?_⟩
  have hp := linksPowered_of_linkQuiet hm
  refine ⟨?fence, ?retrain, ?forceDown⟩
  case fence =>
    have hw := fenceLinkNow_work k.val s
    have hl := linkOf_fenceLinkNow hs k.val
    obtain ⟨l, hdet⟩ := hw.detected
    refine ⟨_, _, exec_fenceLink ha hf hd hr hm, hw.commanded rfl fun j hj => (hl j).trans (if_neg hj), ?_,
      mem_fence_fenceLinkNow k.val s, hdet.symm.trans (List.append_assoc ..), _, List.mem_cons_self, rfl⟩
    exact congrArg (·.state) ((hl k.val).trans (if_pos rfl))
  case retrain =>
    have hw := retrainNow_work hp hc hf hd
    obtain ⟨b, hl⟩ := linkOf_retrainNow hp hc hf hd hs
    have hk := (hl k.val).trans (if_pos rfl)
    obtain ⟨-, -, -, hfence, -⟩ := hw.kept
    exact ⟨_, exec_retrainLink ha hf hd hr hm, hw.commanded rfl fun j hj => (hl j).trans (if_neg hj),
      congrArg (·.retrain) hk, congrArg (·.state) hk, congrArg (·.phase) hk, hfence⟩
  case forceDown =>
    have hw := forceDownNow_work hp hc hf
    obtain ⟨b, hl⟩ := linkOf_forceDownNow hp hc hf hs
    have hk := (hl k.val).trans (if_pos rfl)
    obtain ⟨-, -, -, hfence, -⟩ := hw.kept
    exact ⟨_, exec_forceDownLink ha hf hd hr hm, hw.commanded rfl fun j hj => (hl j).trans (if_neg hj),
      congrArg (·.forceDown) hk, congrArg (·.state) hk, hfence⟩

end Sys2Proof.Machine
end

section
/-! Time codes and link periods (07, R129, R131 to R133; 11, R220, R235): what a block tells of its link, how the parent's offset
steers and locks, and what every link sends when a period begins. -/

namespace Sys2Proof.Machine

open Sys2Proof.Claims

/-! The tree found anew -/

theorem refreshRequest_time (s : State) : (refreshRequest s).time = s.time := by
  unfold refreshRequest
  dsimp only
  split <;> rfl

/-- A new parent leaves the clock and the measured offset as they are. -/
theorem refreshTree_clock (s : State) : (refreshTree s).time.now = s.time.now ∧
    (refreshTree s).time.parentOffset = s.time.parentOffset ∧ (refreshTree s).time.excursion = s.time.excursion := by
  have hp : (refreshParent s).time.now = s.time.now ∧ (refreshParent s).time.parentOffset = s.time.parentOffset ∧
      (refreshParent s).time.excursion = s.time.excursion := by
    unfold refreshParent
    dsimp only
    split
    · exact ⟨rfl, rfl, rfl⟩
    · split <;> exact ⟨rfl, rfl, rfl⟩
  rw [refreshTree, refreshRequest_time]
  exact hp

/-- A device that acquires keeps acquiring, or goes to holdover where no link qualifies as its parent. -/
theorem refreshTree_acquiring {s : State} (h : s.time.lock = 1) :
    (refreshTree s).time.lock = 1 ∨ ((refreshTree s).time.lock = 3 ∧ (refreshTree s).time.parent = none) := by
  have hp : (refreshParent s).time.lock = 1 ∨ ((refreshParent s).time.lock = 3 ∧ (refreshParent s).time.parent = none) := by
    unfold refreshParent
    dsimp only
    split
    · exact .inl h
    · split
      next hl =>
        simp only [Bool.and_eq_true, Option.isNone_iff_eq_none] at hl
        obtain ⟨⟨-, hnew⟩, -⟩ := hl
        exact .inr ⟨rfl, hnew⟩
      next => exact .inl (by rw [h]; rfl)
  rw [refreshTree, refreshRequest_time]
  exact hp

/-! The parent's offset -/

/-- What is left of the parent's offset once the time base has been steered is within 2 ns. -/
theorem steer_now (s : State) {o : Int} (h : 32 < o.natAbs) : ∃ rest : Int, -32 ≤ rest ∧ rest ≤ 16 ∧
    (steer s o).time.now = clock64 ((s.time.now : Int) + (o - rest) / 16).toNat := by
  refine ⟨((Config.steerRest s.fresh % 49 : Nat) : Int) - 32, by omega, by omega, ?_⟩
  rw [steer, if_neg (by omega)]

theorem steer_of_within (s : State) {o : Int} (h : o.natAbs ≤ 32) : steer s o = s := if_pos h

theorem steer_eq (s : State) (o : Int) : ∃ f n, steer s o = { s with fresh := f, time := { s.time with now := n } } := by
  unfold steer
  split
  · exact ⟨_, _, rfl⟩
  · exact ⟨_, _, rfl⟩

/-- The offset is noted in the time base, with an occurrence where it is an excursion; a draw may have steered it. -/
theorem noteOffset_work (s : State) (o : Int) : ∃ f, LinkWork { s with fresh := f } (noteOffset s o) := by
  obtain ⟨f, n, hs⟩ := steer_eq s o
  refine ⟨f, ?_⟩
  unfold noteOffset
  rw [hs]
  exact .ite ⟨rfl, List.prefix_append _ _⟩ ⟨rfl, List.prefix_rfl⟩

@[simp] theorem linkOf_noteOffset (s : State) (o : Int) (i : Nat) : linkOf (noteOffset s o) i = linkOf s i := by
  obtain ⟨f, n, hs⟩ := steer_eq s o
  unfold noteOffset
  rw [hs]
  dsimp only
  split <;> rfl

theorem noteOffset_clock (s : State) (o : Int) : (noteOffset s o).time.now = (steer s o).time.now ∧
    (noteOffset s o).time.parentOffset = BitVec.ofInt 32 o := by
  unfold noteOffset
  dsimp only
  split <;> exact ⟨rfl, rfl⟩

/-- In RUNNING an offset beyond 8 ns is an excursion, and the device acquires again (R133). -/
theorem noteOffset_excursion {s : State} {o : Int} (hm : s.dev.mode = .running) (h : 128 < o.natAbs) :
    (noteOffset s o).time.excursion = true ∧ (noteOffset s o).time.lock = 1 ∧
      ∃ d ∈ (noteOffset s o).faults.detected, d.occ = occNone 0x0207 := by
  have hout : (s.dev.mode == .running && decide (128 < o.natAbs)) = true := by simp [hm, h]
  unfold noteOffset
  dsimp only
  rw [hout, if_pos rfl]
  exact ⟨Bool.or_true _, rfl, mem_detected_detect _ _⟩

/-! A time code -/

/-- The link once a block has told its peer's marker, hops and flags. -/
def toldLink (c : TimeCode) (l : Link) : Link :=
  { l with
    lastMarker := c.markerTime, lastRx := c.localRx, peerBanked := c.flags.getLsbD 2, child := c.flags.getLsbD 1
    peerLocked := c.flags.getLsbD 0, peerHops := c.hops }

/-- The same, with the delay where the peer returns a timestamp. -/
def codedLink (c : TimeCode) (l : Link) : Link :=
  if c.rxTime = 0 then toldLink c l
  else { toldLink c l with delay := BitVec.ofInt 32 (codeDelay c), longLink := l.longLink || decide (160 < codeDelay c) }

/-- The state once a block of link k has told that. -/
def codeNoted (s : State) (k : Nat) (c : TimeCode) : State :=
  if c.rxTime = 0 then takeCode s k c else noteDelay (takeCode s k c) k (codeDelay c)

/-- The state once the offset is noted, where the block comes from the time parent. -/
def offsetNoted (s : State) (k : Nat) (c : TimeCode) : State :=
  if c.rxTime ≠ 0 ∧ s.time.parent = some k then noteOffset (codeNoted s k c) (codeOffset c) else codeNoted s k c

theorem codeNoted_work (s : State) (k : Nat) (c : TimeCode) : LinkWork s (codeNoted s k c) :=
  .ite (modLink_work ..) ((modLink_work ..).trans (noteDelay_work ..))

theorem codeNoted_clock (s : State) (k : Nat) (c : TimeCode) :
    (codeNoted s k c).time.now = s.time.now ∧ (codeNoted s k c).time.parent = s.time.parent := by
  unfold codeNoted
  split <;> exact ⟨rfl, rfl⟩

theorem linkOf_codeNoted {s : State} (hs : swf {} s.links = true) (k : Nat) (c : TimeCode) (i : Nat) :
    linkOf (codeNoted s k c) i = if i = k then codedLink c (linkOf s k) else linkOf s i := by
  unfold codeNoted codedLink
  split
  · exact linkOf_modLink hs
  · have ht (j : Nat) : linkOf (takeCode s k c) j = if j = k then toldLink c (linkOf s k) else linkOf s j :=
      linkOf_modLink hs
    rw [linkOf_noteDelay (s := takeCode s k c) (modLink_swf hs ..), ht, ht, if_pos rfl]
    split <;> rfl

theorem linkOf_offsetNoted (s : State) (k : Nat) (c : TimeCode) (i : Nat) :
    linkOf (offsetNoted s k c) i = linkOf (codeNoted s k c) i := by
  unfold offsetNoted
  split
  · exact linkOf_noteOffset ..
  · rfl

theorem exec_timeCode_broken {c : TimeCode} (h : codeOk c = false) (k : Fin 64) (s : State) :
    exec (.timeCode k c) s = .next s :=
  if_pos (by simp [h])

theorem exec_timeCode {s : State} {k : Fin 64} {c : TimeCode} (hk : carriesCodes s k.val = true) (hc : codeOk c = true) :
    exec (.timeCode k c) s = .next (refreshTree (offsetNoted s k.val c)) := by
  have hp : (codeNoted s k.val c).time.parent = s.time.parent := (codeNoted_clock ..).2
  refine (if_neg (by simp [hk, hc])).trans ?_
  simp only [Bool.and_eq_true, bne_iff_ne, beq_iff_eq]
  change Host.Outcome.next (refreshTree (if c.rxTime ≠ 0 ∧ (codeNoted s k.val c).time.parent = some k.val then
    noteOffset (codeNoted s k.val c) (codeOffset c) else codeNoted s k.val c)) = _
  rw [hp]
  rfl

/-- A block changes its link, what the time-parent tree shows, and the time base. -/
theorem timeCode_kept (s : State) (k : Nat) (c : TimeCode) : let t := refreshTree (offsetNoted s k c)
    t.mem = s.mem ∧ t.dev = s.dev ∧ t.image = s.image := by
  have hw : ∃ f, LinkWork { s with fresh := f } (refreshTree (offsetNoted s k c)) := by
    unfold offsetNoted
    split
    · obtain ⟨f, hf⟩ := noteOffset_work (codeNoted s k c) (codeOffset c)
      have hc : LinkWork { s with fresh := f } { codeNoted s k c with fresh := f } :=
        ⟨by rw [(codeNoted_work s k c).only], (codeNoted_work s k c).detected⟩
      exact ⟨f, (hc.trans hf).trans (refreshTree_work _)⟩
    · exact ⟨s.fresh, (codeNoted_work s k c).trans (refreshTree_work _)⟩
  obtain ⟨f, hw⟩ := hw
  obtain ⟨hdev, hmem, himage, -, -⟩ := hw.kept
  exact ⟨hmem, hdev, himage⟩

/-- A block that steers nothing leaves the clock as it is. -/
theorem timeCode_now {s : State} {k : Nat} {c : TimeCode}
    (h : c.rxTime = 0 ∨ s.time.parent ≠ some k ∨ (codeOffset c).natAbs ≤ 32) :
    (refreshTree (offsetNoted s k c)).time.now = s.time.now := by
  rw [(refreshTree_clock _).1, offsetNoted]
  split
  next hn =>
    have ho : (codeOffset c).natAbs ≤ 32 := by
      rcases h with h | h | h
      · exact absurd h hn.1
      · exact absurd hn.2 h
      · exact h
    rw [(noteOffset_clock ..).1, steer_of_within _ ho, (codeNoted_clock ..).1]
  next => exact (codeNoted_clock ..).1

section Parent

variable {s : State} {k : Nat} {c : TimeCode} (hr : c.rxTime ≠ 0) (hp : s.time.parent = some k)

include hr hp

theorem offsetNoted_of_parent : offsetNoted s k c = noteOffset (codeNoted s k c) (codeOffset c) := if_pos ⟨hr, hp⟩

/-- A block of the time parent gives its offset, and steers the time base where that is beyond 2 ns. -/
theorem timeCode_steers : let t := refreshTree (offsetNoted s k c)
    t.time.parentOffset = BitVec.ofInt 32 (codeOffset c) ∧
      (32 < (codeOffset c).natAbs → ∃ rest : Int, -32 ≤ rest ∧ rest ≤ 16 ∧
        t.time.now = clock64 ((s.time.now : Int) + (codeOffset c - rest) / 16).toNat) := by
  obtain ⟨hnow, hoff, -⟩ := refreshTree_clock (offsetNoted s k c)
  have ⟨hsteer, hnote⟩ := noteOffset_clock (codeNoted s k c) (codeOffset c)
  rw [offsetNoted_of_parent hr hp] at hnow hoff ⊢
  refine ⟨hoff.trans hnote, fun ho => ?_⟩
  obtain ⟨rest, h1, h2, hs⟩ := steer_now (codeNoted s k c) ho
  exact ⟨rest, h1, h2, by rw [hnow, hsteer, hs, (codeNoted_clock ..).1]⟩

/-- In RUNNING an offset of the time parent beyond 8 ns unlocks the device. -/
theorem timeCode_excursion (hm : s.dev.mode = .running) (ho : 128 < (codeOffset c).natAbs) :
    let t := refreshTree (offsetNoted s k c)
    t.time.excursion = true ∧ (t.time.lock = 1 ∨ (t.time.lock = 3 ∧ t.time.parent = none)) ∧
      ∃ d ∈ t.faults.detected, d.occ.source = 0x0207 := by
  obtain ⟨-, -, hexc⟩ := refreshTree_clock (offsetNoted s k c)
  obtain ⟨hdev, -⟩ := (codeNoted_work s k c).kept
  obtain ⟨hout, hlock, hdet⟩ := noteOffset_excursion (s := codeNoted s k c) (hdev ▸ hm) ho
  obtain ⟨d, hd, hocc⟩ := (refreshTree_work _).detected_of_mem hdet
  rw [offsetNoted_of_parent hr hp] at hexc ⊢
  exact ⟨hexc.trans hout, refreshTree_acquiring hlock, d, hd, congrArg (·.source) hocc⟩

end Parent

/-! A link period -/

/-- Distinct links that are changed one after another, each by a function of the state that does not look at the others, as
by what it is in the state before the first. -/
theorem foldl_modLink_local (f : State → Nat → Link → Link) {s : State}
    (hf : ∀ x k, linkOf { s with links := x } k = linkOf s k → f { s with links := x } k = f s k) :
    ∀ {l : List Nat} {x : Sparse Link}, l.Nodup → swf {} x = true → (∀ k ∈ l, linkOf { s with links := x } k = linkOf s k) →
      l.foldl (fun t k => modLink t k (f t k)) { s with links := x } =
        l.foldl (fun t k => modLink t k (f s k)) { s with links := x }
  | [], _, _, _, _ => rfl
  | k :: l, x, hl, hx, hk => by
    obtain ⟨hkl, hl⟩ := List.nodup_cons.mp hl
    rw [List.foldl_cons, List.foldl_cons, hf x k (hk k List.mem_cons_self)]
    refine foldl_modLink_local f hf (x := smod {} x k (f s k)) hl (smod_swf hx) fun j hj => ?_
    have hne : j ≠ k := fun h => hkl (h ▸ hj)
    refine (linkOf_modLink (s := { s with links := x }) hx).trans ?_
    rw [if_neg hne, hk j (List.mem_cons_of_mem _ hj)]

theorem periodStart_spec (s : State) :
    s.time.now ≤ periodStart s ∧ periodStart s ≤ s.time.now + 511 ∧ periodStart s % 256 = 0 := by
  unfold periodStart
  dsimp only
  split <;> omega

/-- What a link sends in a period does not look at the other links. -/
theorem sentIn_local (s : State) (t : Nat) (x : Sparse Link) (k : Nat) (h : linkOf { s with links := x } k = linkOf s k) :
    sentIn { s with links := x } k t = sentIn s k t := by
  have hc : carriesCodes { s with links := x } k = carriesCodes s k := by
    simp only [carriesCodes, isUp, h]
    rfl
  have hs : codeToSend { s with links := x } k t = codeToSend s k t := by
    simp only [codeToSend, h]
    rfl
  funext l
  simp only [sentIn, hc, hs]

/-- The state in which a period begins. -/
def periodBegun (s : State) : State := { s with time := { s.time with now := clock64 (periodStart s) } }

/-- The state once every sending link has sent in the period that begins. -/
def periodSent (s : State) : State :=
  (sendingLinks s).foldl (fun t k => modLink t k (sentIn t k (periodStart s))) (periodBegun s)

theorem exec_linkPeriod {s : State} (h : linksPowered s = true) : exec .linkPeriod s = .next (periodSent s) := if_pos h

theorem periodSent_eq (s : State) : ∃ x, periodSent s = { periodBegun s with links := x } :=
  foldl_modLink_eq (fun t k => sentIn t k (periodStart s)) _ _

theorem linkOf_periodSent {s : State} (hs : swf {} s.links = true) {k : Nat} (hk : k < 64) :
    linkOf (periodSent s) k = if sendsMarkers s k then sentIn s k (periodStart s) (linkOf s k) else linkOf s k := by
  have hm : k ∈ sendingLinks s ↔ sendsMarkers s k = true := by simp [sendingLinks, hk]
  have hl : (sendingLinks s).Nodup := List.nodup_range.filter _
  have hlocal := foldl_modLink_local (fun t k => sentIn t k (periodStart s)) (s := periodBegun s)
    (sentIn_local (periodBegun s) (periodStart s)) hl hs fun _ _ => rfl
  refine (congrArg (linkOf · k) hlocal).trans ?_
  refine (linkOf_foldl_modLink (s := periodBegun s) (fun k => sentIn (periodBegun s) k (periodStart s)) hl hs).trans ?_
  simp only [hm]
  rfl

/-! The obligation -/

/-- Settles O41: a block by what it tells of its link and of the parent's offset, a period by what each sending link sends. -/
theorem timeCodesAndLinkPeriods : Obligations.TimeCodesAndLinkPeriods := by
  unfold Obligations.TimeCodesAndLinkPeriods
  intro s hp hs
  refine ⟨fun k c hc => exec_timeCode_broken hc k s, fun k c hk hc => ⟨_, exec_timeCode hk hc, ?code⟩,
    fun hm hpar => if_pos (by simp [keepsTime, hp, isMaster, hm, hpar]), ?period⟩
  case code =>
    have hl (i : Nat) : linkOf (refreshTree (offsetNoted s k.val c)) i =
        if i = k.val then codedLink c (linkOf s k.val) else linkOf s i := by
      rw [linkOf_refreshTree, linkOf_offsetNoted, linkOf_codeNoted hs]
    refine ⟨?link, timeCode_now, fun j hj => (hl j).trans (if_neg hj), timeCode_kept s k.val c⟩
    case link =>
      rw [hl, if_pos rfl]
      by_cases hr : c.rxTime = 0
      · rw [codedLink, if_pos hr]
        exact ⟨rfl, rfl, rfl, rfl, rfl, rfl, fun h => absurd hr h⟩
      · rw [codedLink, if_neg hr]
        refine ⟨rfl, rfl, rfl, rfl, rfl, rfl, fun _ => ⟨rfl, fun hd => by simp [hd], fun hpar => ?_⟩⟩
        obtain ⟨hoff, hnow⟩ := timeCode_steers hr hpar
        exact ⟨hoff, hnow, timeCode_excursion hr hpar⟩
  case period =>
    obtain ⟨h1, h2, h3⟩ := periodStart_spec s
    obtain ⟨x, hx⟩ := periodSent_eq s
    refine ⟨_, periodStart s, exec_linkPeriod hp, h1, h2, h3, by rw [hx]; rfl, fun k hk => linkOf_periodSent hs hk, ?_⟩
    rw [hx]
    rfl

end Sys2Proof.Machine
end

section
/-! Training and losses of a link (11, R222, R226 to R230, R238): how each phase ends, the fence after failed attempts, the counts
of FEC words, and the loss. -/

namespace Sys2Proof.Machine

open Sys2Proof.Claims

/-! The ends of links -/

/-- Of a link: its STATE, width and data, its failed attempts and its delay. -/
def linkEnd (l : Link) : BitVec 4 × BitVec 4 × Bool × Nat × BitVec 32 := (l.state, l.width, l.data, l.failures, l.delay)

/-- Work on link k that keeps the STATE and width of every other one. -/
theorem LinkWork.othersKept {s s' t : State} {k : Nat} (hw : LinkWork s' t) (h : s' = { s with
    fence := s'.fence, faults := { s.faults with detected := s'.faults.detected } })
    (hl : ∀ j, j ≠ k → linkEnd (linkOf t j) = linkEnd (linkOf s j)) : OtherLinksKept s t k := by
  obtain ⟨hdev, hmem, himage, -, -⟩ := hw.kept
  rw [h] at hdev hmem himage
  refine ⟨fun j hj => ?_, hmem, hdev, himage⟩
  have he := hl j hj
  simp only [linkEnd, Prod.mk.injEq] at he
  obtain ⟨hstate, hwidth, -⟩ := he
  exact ⟨hstate, hwidth⟩

/-- A change of link k alone. -/
theorem othersKept_modLink {s : State} (hs : swf {} s.links = true) (k : Nat) (f : Link → Link) :
    OtherLinksKept s (modLink s k f) k :=
  (modLink_work s k f).othersKept rfl fun j hj => by rw [linkOf_modLink hs, if_neg hj]

section Ends

variable {s : State} (hs : swf {} s.links = true)

include hs

theorem linkEnd_modLink {f : Link → Link} (k i : Nat) (hf : ∀ l, linkEnd (f l) = linkEnd l) :
    linkEnd (linkOf (modLink s k f) i) = linkEnd (linkOf s i) := by
  rw [linkOf_modLink hs]
  split
  next h => rw [hf, h]
  next => rfl

theorem linkEnd_sendLinkDown (k f i : Nat) : linkEnd (linkOf (sendLinkDown k f s) i) = linkEnd (linkOf s i) := by
  obtain ⟨p, hp, -⟩ := linkOf_sendLinkDown hs k f i
  rw [hp]
  rfl

theorem linkEnd_queueControl (c : Cell) (k i : Nat) : linkEnd (linkOf (queueControl c s k) i) = linkEnd (linkOf s i) := by
  unfold queueControl
  exact linkEnd_modLink hs k i fun _ => by rfl

theorem linkEnd_noteUp (k i : Nat) : linkEnd (linkOf (noteUp s k) i) = linkEnd (linkOf s i) := by
  unfold noteUp
  refine linkEnd_modLink hs k i fun l => ?_
  split <;> rfl

end Ends

/-! A link that is trained -/

/-- The link at the end of T6, with the lanes that passed; a full one that was lost sends LINK_UP. -/
def trainedLink (lanes : BitVec 4) (lost : Bool) (l : Link) : Link :=
  { l with
    state := 3, phase := 0, failures := 0, retrain := false, lanes := lanes, width := BitVec.ofNat 4 (laneCount lanes)
    data := laneCount lanes == 4 && !l.lost, upSent := laneCount lanes == 4 && lost
    events := if laneCount lanes < 4 then l.events ||| 0x10 else l.events }

/-- What a trained link tells its peer: LINK_UP where it returns, LINK_DOWN where it is degraded (R229, R230). -/
def trainedTold (k : Nat) (lanes : BitVec 4) (lost : Bool) (s : State) : State :=
  let f := if s.seq.grid then s.seq.frame else 0
  if laneCount lanes == 4 && lost then noteUp (queueControl (mkControl 6 0 [BitVec.ofNat 8 k]) s k) k
  else if laneCount lanes < 4 then downDirection k f (sendLinkDown k f (modLink s k (fun l => { l with lost := true })))
  else s

theorem linkTrained_eq (k : Nat) (lanes : BitVec 4) (s : State) : linkTrained k lanes s =
    refreshTree (trainedTold k lanes (linkOf s k).lost (modLink s k (trainedLink lanes (linkOf s k).lost))) := rfl

theorem trainedTold_work (k : Nat) (lanes : BitVec 4) (lost : Bool) (s : State) : LinkWork s (trainedTold k lanes lost s) :=
  .ite ((modLink_work ..).trans (noteUp_work ..))
    (.ite ((modLink_work ..).trans ((sendLinkDown_work ..).trans (downDirection_work ..))) (.refl s))

theorem linkTrained_work (k : Nat) (lanes : BitVec 4) (s : State) : LinkWork s (linkTrained k lanes s) := by
  rw [linkTrained_eq]
  exact (modLink_work ..).trans ((trainedTold_work ..).trans (refreshTree_work _))

section Trained

variable {s : State} (hs : swf {} s.links = true)

include hs

theorem linkEnd_trainedTold (k : Nat) (lanes : BitVec 4) (lost : Bool) (i : Nat) :
    linkEnd (linkOf (trainedTold k lanes lost s) i) = linkEnd (linkOf s i) := by
  unfold trainedTold
  dsimp only
  split
  · exact (linkEnd_noteUp (s := queueControl _ s k) (modLink_swf hs ..) k i).trans (linkEnd_queueControl hs ..)
  · split
    · rw [linkOf_downDirection]
      exact (linkEnd_sendLinkDown (modLink_swf hs ..) ..).trans (linkEnd_modLink hs k i fun _ => by rfl)
    · rfl

/-- A link that T6 brings up has the width of its lanes, and carries data at full width unless it was lost. -/
theorem linkEnd_linkTrained (k : Nat) (lanes : BitVec 4) (i : Nat) :
    linkEnd (linkOf (linkTrained k lanes s) i) = if i = k then
      (3, BitVec.ofNat 4 (laneCount lanes), laneCount lanes == 4 && !(linkOf s k).lost, 0, (linkOf s k).delay)
      else linkEnd (linkOf s i) := by
  rw [linkTrained_eq, linkOf_refreshTree, linkEnd_trainedTold (modLink_swf hs ..), linkOf_modLink hs]
  split <;> rfl

end Trained

/-! The end of a phase -/

/-- A failed attempt leaves the link in DOWN, or fences it after RETRAIN_LIMIT attempts. -/
theorem failAttempt_eq (k : Nat) (s : State) : failAttempt k s =
    if s.fabric.retrainLimit.toNat ≤ (linkOf s k).failures + 1 then fenceLinkNow k s
    else modLink s k (fun l => { l with state := 1, phase := 0, failures := (linkOf s k).failures + 1, retrain := false }) := rfl

theorem failAttempt_othersKept {s : State} (hs : swf {} s.links = true) (k : Nat) : OtherLinksKept s (failAttempt k s) k := by
  rw [failAttempt_eq]
  split
  · exact (fenceLinkNow_work k s).othersKept rfl fun j hj => by rw [linkOf_fenceLinkNow hs, if_neg hj]
  · exact othersKept_modLink hs k _

/-- The link at the end of T4 that has met another peer than its own (R226). -/
def miswiredLink (l : Link) : Link :=
  { l with state := 1, phase := 0, wiringHold := true, retrain := false, events := l.events ||| 0x40 }

theorem failWiring_eq (k : Nat) (s : State) : failWiring k s = detect (modLink s k miswiredLink) (occAt 0x0403 2 k) := rfl

theorem failWiring_work (k : Nat) (s : State) : LinkWork s (failWiring k s) := (modLink_work ..).trans (detect_work ..)

section Passed

variable {s : State} (hs : swf {} s.links = true) (k : Nat) (r : PhaseReport)

theorem phasePassed_next (h4 : r.phase ≠ 4) (h6 : r.phase ≠ 6) :
    phasePassed k r s = modLink s k (fun l => { l with phase := r.phase + 1 }) :=
  (if_neg h4).trans (if_neg h6)

/-- The state once T4 has found a peer on link k. -/
def peerMet (k : Nat) (r : PhaseReport) (s : State) : State :=
  modLink (modLink s k (fun l => { l with phase := r.phase + 1 })) k
    (fun l => { l with peerCoord := r.peerCoord, peerLink := r.peerLink })

theorem phasePassed_met (h4 : r.phase = 4) :
    phasePassed k r s = if peerAgrees s k r then peerMet k r s else failWiring k (peerMet k r s) := if_pos h4

theorem phasePassed_trained (h6 : r.phase = 6) :
    phasePassed k r s = linkTrained k (linkOf s k).tryLanes (noteDelay s k r.delay) :=
  (if_neg (by omega)).trans (if_pos h6)

include hs

theorem linkOf_peerMet (i : Nat) : linkOf (peerMet k r s) i = if i = k then
    { linkOf s k with phase := r.phase + 1, peerCoord := r.peerCoord, peerLink := r.peerLink } else linkOf s i := by
  rw [peerMet, linkOf_modLink (modLink_swf hs ..), linkOf_modLink hs, linkOf_modLink hs, if_pos rfl]
  split <;> rfl

theorem peerMet_swf : swf {} (peerMet k r s).links = true := modLink_swf (modLink_swf hs ..) ..

/-- A phase that passes keeps every other link. -/
theorem phasePassed_othersKept : OtherLinksKept s (phasePassed k r s) k := by
  by_cases h4 : r.phase = 4
  · have hmet := peerMet_swf hs k r
    have hw : LinkWork s (peerMet k r s) := (modLink_work ..).trans (modLink_work ..)
    rw [phasePassed_met k r h4]
    split
    · exact hw.othersKept rfl fun j hj => by rw [linkOf_peerMet hs, if_neg hj]
    · refine (hw.trans (failWiring_work ..)).othersKept rfl fun j hj => ?_
      rw [failWiring_eq, linkOf_detect, linkOf_modLink hmet, if_neg hj, linkOf_peerMet hs, if_neg hj]
  · by_cases h6 : r.phase = 6
    · rw [phasePassed_trained k r h6]
      refine ((noteDelay_work ..).trans (linkTrained_work ..)).othersKept rfl fun j hj => ?_
      rw [linkEnd_linkTrained (noteDelay_swf hs ..), if_neg hj, linkOf_noteDelay hs, if_neg hj]
    · rw [phasePassed_next k r h4 h6]
      exact othersKept_modLink hs k _

end Passed

section Phase

variable {s : State} {k : Fin 64} (hp : linksPowered s = true) (h2 : (linkOf s k.val).state = 2)

include hp h2

theorem inTraining_of_state : inTraining s k.val = true := by
  simp [inTraining, hp, h2]

section Done

variable {r : PhaseReport} (hr : (linkOf s k.val).phase = r.phase)

include hr

theorem phaseDone_counts : (!inTraining s k.val || (linkOf s k.val).phase != r.phase) = false := by
  simp [inTraining_of_state hp h2, hr]

theorem exec_phaseDone_whole (h : r.lanes &&& (linkOf s k.val).tryLanes = (linkOf s k.val).tryLanes) :
    exec (.trainingPhaseDone k r) s = .next (phasePassed k.val r s) := by
  show execTrainingPhaseDone k r s = _
  simp only [execTrainingPhaseDone, phaseDone_counts hp h2 hr, h, Bool.false_eq_true, if_false, if_true]

theorem exec_phaseDone_part (h : r.lanes &&& (linkOf s k.val).tryLanes ≠ (linkOf s k.val).tryLanes) :
    exec (.trainingPhaseDone k r) s = .next (if laneCount (r.lanes &&& (linkOf s k.val).tryLanes) < 2 then failAttempt k.val s
      else modLink s k.val (fun l => { l with phase := 3, tryLanes := r.lanes &&& (linkOf s k.val).tryLanes })) := by
  show execTrainingPhaseDone k r s = _
  simp only [execTrainingPhaseDone, phaseDone_counts hp h2 hr, h, Bool.false_eq_true, if_false]
  split <;> rfl

end Done

theorem exec_phaseTimeout (h4 : (linkOf s k.val).phase ≠ 4) :
    exec (.trainingPhaseTimeout k) s = .next (failAttempt k.val s) := by
  show execTrainingPhaseTimeout k s = _
  simp only [execTrainingPhaseTimeout, inTraining_of_state hp h2, h4, Bool.not_true, Bool.false_eq_true, if_false]

end Phase

/-! A link that is up -/

/-- The link once corrected codewords and symbols have been counted (R222). -/
def fecLink (words symbols : Nat) (alarm : Bool) (l : Link) : Link :=
  { l with
    fecCorrected := satAdd l.fecCorrected words, fecSymbols := satAdd l.fecSymbols symbols
    events := if alarm then l.events ||| 1 else l.events }

/-- The state after a loss report of link k: lost, and its peer and its direction told. -/
def lossTaken (k : Nat) (r : LossReport) (s : State) : State :=
  downDirection k s.seq.frame (sendLinkDown k s.seq.frame
    (loseLink k (modLink s k (fun l => { l with fecBad := satAdd l.fecBad r.badWords }))))

section Up

variable {s : State} {k : Fin 64} (ht : linkTakes s k.val = true)

include ht

theorem exec_fecAlarm (words symbols received : Nat) : exec (.fecAlarm k words symbols received) s =
    .next (if decide (received < symbols * 2 ^ 13) = true then
      detect (modLink s k.val (fecLink words symbols true)) (occAt 0x0401 2 k.val)
      else modLink s k.val (fecLink words symbols false)) := by
  refine (if_neg (by simp [ht])).trans ?_
  cases decide (received < symbols * 2 ^ 13) <;> rfl

theorem exec_linkLost {r : LossReport} (hr : isLoss r = true) :
    exec (.linkLost k r) s = .next (lossTaken k.val r s) := by
  exact (if_neg (by simp [ht])).trans (if_pos hr)

end Up

/-- A loss is the link-lost event (R228). -/
theorem lossTaken_detected (k : Nat) (r : LossReport) (s : State) :
    ∃ d ∈ (lossTaken k r s).faults.detected, d.occ = occAt 0x0402 2 k :=
  (downDirection_work ..).detected_of_mem ((sendLinkDown_work ..).detected_of_mem
    ((refreshTree_work _).detected_of_mem (mem_detected_detect _ _)))

section Loss

variable {s : State} (hs : swf {} s.links = true) (k : Nat) (r : LossReport)

theorem lossTaken_work : LinkWork s (lossTaken k r s) :=
  (modLink_work ..).trans ((loseLink_work ..).trans ((sendLinkDown_work ..).trans (downDirection_work ..)))

include hs

theorem linkOf_lossTaken_self : linkOf (lossTaken k r s) k = toTraining s { quietLink (linkOf s k) with
    fecBad := satAdd (linkOf s k).fecBad r.badWords, lost := true, events := (linkOf s k).events ||| 0x20 } := by
  have hbad := modLink_swf hs k (fun l => { l with fecBad := satAdd l.fecBad r.badWords })
  rw [lossTaken, linkOf_downDirection, linkOf_sendLinkDown_self (loseLink_swf hbad k), linkOf_loseLink hbad, if_pos rfl,
    linkOf_modLink hs, if_pos rfl]
  rfl

theorem lossTaken_othersKept : OtherLinksKept s (lossTaken k r s) k := by
  have hbad := modLink_swf hs k (fun l => { l with fecBad := satAdd l.fecBad r.badWords })
  refine (lossTaken_work k r).othersKept rfl fun j hj => ?_
  rw [lossTaken, linkOf_downDirection, linkEnd_sendLinkDown (loseLink_swf hbad k), linkOf_loseLink hbad, if_neg hj,
    linkOf_modLink hs, if_neg hj]

end Loss

section Ended

variable {s : State} (hs : swf {} s.links = true) {k : Nat} {r : PhaseReport}

include hs

/-- T4 with another peer than the link's own holds it in DOWN (R226). -/
theorem phasePassed_miswired (h4 : r.phase = 4) (hw : peerAgrees s k r = false) : let t := phasePassed k r s
    (linkOf t k).state = 1 ∧ (linkOf t k).wiringHold = true ∧ (linkOf t k).events = (linkOf s k).events ||| 0x40 ∧
      ∃ d ∈ t.faults.detected, d.occ = occAt 0x0403 2 k := by
  have hl : linkOf (failWiring k (peerMet k r s)) k = miswiredLink (linkOf (peerMet k r s) k) := by
    rw [failWiring_eq, linkOf_detect, linkOf_modLink (peerMet_swf hs k r), if_pos rfl]
  have hmet := (linkOf_peerMet hs k r k).trans (if_pos rfl)
  simp only [phasePassed_met k r h4, hw, Bool.false_eq_true, if_false, hl, hmet]
  exact ⟨rfl, rfl, rfl, mem_detected_detect _ _⟩

/-- T6 brings the link up at the width of its lanes (R227). -/
theorem phasePassed_up (h6 : r.phase = 6) : let t := phasePassed k r s
    (linkOf t k).state = 3 ∧ (linkOf t k).width = BitVec.ofNat 4 (laneCount (linkOf s k).tryLanes) ∧
      (linkOf t k).data = (laneCount (linkOf s k).tryLanes == 4 && !(linkOf s k).lost) ∧ (linkOf t k).failures = 0 ∧
      (linkOf t k).delay = BitVec.ofInt 32 r.delay := by
  have he := linkEnd_linkTrained (noteDelay_swf hs k r.delay) k (linkOf s k).tryLanes k
  rw [if_pos rfl, linkOf_noteDelay hs, if_pos rfl, ← phasePassed_trained k r h6] at he
  simp only [linkEnd, Prod.mk.injEq] at he
  exact he

/-- An attempt that fails below RETRAIN_LIMIT leaves the link in DOWN. -/
theorem failAttempt_below (h : (linkOf s k).failures + 1 < s.fabric.retrainLimit.toNat) : let t := failAttempt k s
    (linkOf t k).state = 1 ∧ (linkOf t k).failures = (linkOf s k).failures + 1 ∧ t.fence = s.fence := by
  dsimp only
  rw [failAttempt_eq, if_neg (Nat.not_le.mpr h), linkOf_modLink hs, if_pos rfl]
  exact ⟨rfl, rfl, rfl⟩

/-- An attempt that fails at RETRAIN_LIMIT fences the link. -/
theorem failAttempt_limit (h : s.fabric.retrainLimit.toNat ≤ (linkOf s k).failures + 1) : let t := failAttempt k s
    (linkOf t k).state = 4 ∧ k ∈ t.fence.links := by
  dsimp only
  rw [failAttempt_eq, if_pos h, linkOf_fenceLinkNow hs, if_pos rfl]
  exact ⟨rfl, mem_fence_fenceLinkNow k s⟩

end Ended

/-! The obligation -/

/-- Settles O43: each phase by what it ends in, the words that are counted, and the loss of a link. -/
theorem linksTrainAndAreLost : Obligations.LinksTrainAndAreLost := by
  unfold Obligations.LinksTrainAndAreLost
  intro k s hs hp l
  refine ⟨fun r h2 hr => ?done, fun h2 h4 => ⟨_, exec_phaseTimeout hp h2 h4, failAttempt_othersKept hs k.val,
    failAttempt_below hs, failAttempt_limit hs⟩, fun h1 hm => if_pos (by rw [hm, show (linkOf s k.val).state = 1 from h1]; rfl),
    fun h3 => ?up⟩
  case done =>
    by_cases hl : r.lanes &&& l.tryLanes = l.tryLanes
    · refine ⟨_, exec_phaseDone_whole hp h2 hr hl, phasePassed_othersKept hs k.val r, fun _ => ⟨fun h4 h6 => ?_,
        fun h4 ha => ?_, phasePassed_miswired hs, phasePassed_up hs⟩, fun h => absurd hl h⟩
      · rw [phasePassed_next k.val r h4 h6, linkOf_modLink hs, if_pos rfl]
      · rw [phasePassed_met k.val r h4, if_pos ha, linkOf_peerMet hs, if_pos rfl, h4]
    · refine ⟨_, exec_phaseDone_part hp h2 hr hl, ?_, fun h => absurd h hl, fun _ hn => ?_⟩
      · split
        · exact failAttempt_othersKept hs k.val
        · exact othersKept_modLink hs k.val _
      · rw [if_neg (Nat.not_lt.mpr hn), linkOf_modLink hs, if_pos rfl]
  case up =>
    have ht : linkTakes s k.val = true := by simpa [linkTakes, isUp, hp] using h3
    refine ⟨fun words symbols received => ⟨_, exec_fecAlarm ht words symbols received, ?fec⟩, fun r hr => ?lost⟩
    case fec =>
      cases decide (received < symbols * 2 ^ 13) with
      | false => exact ⟨othersKept_modLink hs k.val _, (linkOf_modLink hs).trans (if_pos rfl), fun _ => rfl, nofun⟩
      | true => exact ⟨othersKept_modLink hs k.val _, (linkOf_modLink hs).trans (if_pos rfl), nofun, fun _ => ⟨_, rfl, rfl⟩⟩
    case lost =>
      have hl := linkOf_lossTaken_self hs k.val r
      refine ⟨_, exec_linkLost ht hr, lossTaken_othersKept hs k.val r, congrArg (·.state) hl, congrArg (·.lost) hl,
        congrArg (·.data) hl, congrArg (·.events) hl, congrArg (·.fecBad) hl, lossTaken_detected k.val r s⟩

end Sys2Proof.Machine
end

section
/-! Cells on a link (11, R223 to R225, R231, R232, R236): a broken cell is counted, a banked device relays, and a running schedule
takes the cells that its entries name. -/

namespace Sys2Proof.Machine

open Sys2Proof.Claims

/-! The fields of a cell that is made again -/

/-- A field of the low bits is that of the whole number. -/
theorem bits_mod {x n lo len : Nat} (h : lo + len ≤ n) : bits (x % 2 ^ n) lo len = bits x lo len := by
  refine Nat.eq_of_testBit_eq fun i => ?_
  simp only [bits, Nat.testBit_mod_two_pow, Nat.testBit_shiftRight]
  by_cases hi : i < len
  · simp [hi, show lo + i < n by omega]
  · simp [hi]

/-- A field below a multiple is that of the rest. -/
theorem bits_add_mul {x y n lo len : Nat} (h : lo + len ≤ n) : bits (x + y * 2 ^ n) lo len = bits x lo len := by
  rw [← bits_mod h, Nat.add_mul_mod_self_right, bits_mod h]

/-- The fields of a kept cell as a retry cell: TYPE retry. -/
def retryFields (c : Cell) : Nat := c.hdr.toNat / 2 ^ 32 % 2 ^ 92 + 5 * 2 ^ 92

theorem retryFields_lt (c : Cell) : retryFields c < 2 ^ 96 := by
  unfold retryFields
  omega

/-- A retry cell repeats each field below TYPE. -/
theorem hdrF_asRetry (c : Cell) {lo n : Nat} (hl : 32 ≤ lo) (hn : lo + n ≤ 124) : hdrF (asRetry c) lo n = hdrF c lo n := by
  refine (hdrF_mkCell (retryFields_lt c) c.payload lo n hl).trans ?_
  obtain ⟨d, rfl⟩ : ∃ d, lo = 32 + d := ⟨lo - 32, by omega⟩
  rw [Nat.add_sub_cancel_left, retryFields, bits_add_mul (by omega), bits_mod (by omega), hdrF, bits, bits, Nat.shiftRight_add,
    Nat.shiftRight_eq_div_pow _ 32]

theorem cellType_asRetry (c : Cell) : cellType (asRetry c) = 5 := by
  refine (cellType_mkCell (retryFields_lt c) c.payload).trans ?_
  unfold bits retryFields
  rw [Nat.shiftRight_eq_div_pow]
  omega

/-- The payload of a cell is the one that it is made with. -/
theorem payload_mkCell (f : Nat) (p : Bytes) : (mkCell f p).payload = p := rfl

/-! The fields of a data cell -/

/-- The fields above the CRC-32 of a data cell. -/
def dataFields (typ cls frame slot index epoch : Nat) : Nat :=
  typ * 2 ^ 92 + cls * 2 ^ 88 + frame % 2 ^ 16 * 2 ^ 72 + slot % 2 ^ 12 * 2 ^ 60 + index % 64 * 2 ^ 54 + epoch % 256 * 2 ^ 40

section Data

variable {typ cls : Nat} (ht : typ < 16) (hc : cls < 16) (frame slot index epoch : Nat) (p : Bytes)

include ht hc

theorem dataFields_lt : dataFields typ cls frame slot index epoch < 2 ^ 96 := by
  unfold dataFields
  omega

/-- A data cell carries the fields that it is made with. -/
theorem dataCell_fields : let x := dataCell typ cls frame slot index epoch p
    cellOk x = true ∧ cellType x = typ ∧ cellClass x = cls ∧ cellFrame x = frame % 2 ^ 16 ∧ cellSlot x = slot % 2 ^ 12 ∧
      cellIndex x = index % 64 ∧ cellEpoch x = epoch % 256 ∧ x.payload = slice p 0 256 := by
  have h := dataFields_lt ht hc frame slot index epoch
  have hx : dataCell typ cls frame slot index epoch p = mkCell (dataFields typ cls frame slot index epoch) (fill256 p) := rfl
  dsimp only
  rw [hx]
  refine ⟨cellOk_mkCell h _, (cellType_mkCell h _).trans ?_, (cellClass_mkCell h _).trans ?_, (cellFrame_mkCell h _).trans ?_,
    (cellSlot_mkCell h _).trans ?_, (cellIndex_mkCell h _).trans ?_, (cellEpoch_mkCell h _).trans ?_, rfl⟩
  all_goals
    unfold bits dataFields
    rw [Nat.shiftRight_eq_div_pow]
    omega

end Data

/-! Broken cells and relayed cells -/

/-- A change of link k alone. -/
theorem linkOnly_modLink {s : State} (hs : swf {} s.links = true) (k : Nat) (f : Link → Link) :
    LinkOnly s (modLink s k f) k (f (linkOf s k)) :=
  ⟨fun _ => linkOf_modLink hs, rfl⟩

section Arrive

variable {s : State} {k : Nat} {c : Cell}

theorem arrive_broken (hk : cellOk c = false) : arrive s k c = badCell s k := by
  simp only [arrive, hk, Bool.not_false, if_true]

theorem arrive_relayed (hk : cellOk c = true) (hr : s.fabric.relaying = true) : arrive s k c = relayCell s k c := by
  simp only [arrive, hk, hr, Bool.not_true, Bool.false_eq_true, if_false, if_true]

/-- In a running schedule and the present epoch a whole cell is taken by its entry; without one it is a cell error. -/
theorem arrive_scheduled (hk : cellOk c = true) (hr : s.fabric.relaying = false) (hs : schedules s = true)
    (he : BitVec.ofNat 8 (cellEpoch c) = s.fabric.epoch) :
    arrive s k c = (matchEntry s k c).elim (badCell s k) (fun e => acceptCell s k e c) := by
  simp only [arrive, hk, hr, hs, he, bne_self_eq_false, Bool.not_true, Bool.or_self, Bool.false_eq_true, if_false]
  cases matchEntry s k c <;> rfl

theorem arrive_matched {e : BitVec 128} (hk : cellOk c = true) (hr : s.fabric.relaying = false) (hs : schedules s = true)
    (he : BitVec.ofNat 8 (cellEpoch c) = s.fabric.epoch) (hm : matchEntry s k c = some e) :
    arrive s k c = acceptCell s k e c := by
  rw [arrive_scheduled hk hr hs he, hm]
  rfl

theorem arrive_unmatched (hk : cellOk c = true) (hr : s.fabric.relaying = false) (hs : schedules s = true)
    (he : BitVec.ofNat 8 (cellEpoch c) = s.fabric.epoch) (hm : matchEntry s k c = none) :
    arrive s k c = badCell s k := by
  rw [arrive_scheduled hk hr hs he, hm]
  rfl

/-- The cell leaves on the RELAY link where that is up, in its first free position. -/
theorem relayCell_of_free {o q : Nat} (ho : relayOf s k = some o) (hu : isUp s o = true)
    (hq : freePosition (linkOf s o) s.time.now (s.time.now + 257) = some q) : relayCell s k c = modLink s o (putCell q c) := by
  have hp : relayPlace s k = some (o, q) := by
    rw [relayPlace, ho, Option.filter_some_pos hu, Option.bind_some, hq]
    rfl
  rw [relayCell, hp]

/-- A cell without a place on the RELAY link is discarded, and counted (R236). -/
def relayDropped (s : State) (k : Nat) : State :=
  detect (modLink { s with fabric := { s.fabric with relayDrops := satInc s.fabric.relayDrops } } k
    (fun l => { l with events := l.events ||| 2 })) (occAt 0x0405 2 k)

theorem linkOf_relayDropped (hs : swf {} s.links = true) (k i : Nat) : linkOf (relayDropped s k) i =
    if i = k then { linkOf s k with events := (linkOf s k).events ||| 2 } else linkOf s i := by
  rw [relayDropped, linkOf_detect]
  exact linkOf_modLink (s := { s with fabric := { s.fabric with relayDrops := satInc s.fabric.relayDrops } }) hs

theorem relayCell_of_full (h : ∀ o, relayOf s k = some o →
    isUp s o = false ∨ freePosition (linkOf s o) s.time.now (s.time.now + 257) = none) : relayCell s k c = relayDropped s k := by
  have hp : relayPlace s k = none := by
    unfold relayPlace
    cases ho : relayOf s k with
    | none => rfl
    | some o => rcases h o ho with hu | hq <;> simp [*]
  rw [relayCell, hp]
  rfl

end Arrive

/-- The link once the kept cells that a retry request names wait as retry cells (R232). -/
def askedAgain (c : Cell) (l : Link) : Link :=
  { l with pendData := l.pendData ++ (requestEntries c).filterMap (fun x =>
      (l.kept.find? (fun y => cellSlot y == x.1 && cellIndex y == x.2)).map asRetry) }

section Taken

variable {s : State} {k : Fin 64} {c : Cell} (ht : linkTakes s k.val = true)

include ht

theorem exec_idleCell : exec (.idleCell k c) s = .next (if cellOk c then s else badCell s k.val) := by
  show execIdleCell k c s = _
  cases hk : cellOk c <;> simp [execIdleCell, ht, hk]

theorem exec_dataCell (h1 : cellType c = 1) : exec (.dataCell k c) s = .next (arrive s k.val c) :=
  if_pos (by simp [ht, h1])

/-- A retry is taken as the cell that it repeats; one that is missing counts. -/
theorem exec_retryCell (h5 : cellType c = 5) : exec (.retryCell k c) s =
    .next (arrive (if !s.fabric.relaying && cellOk c && isMissing s k.val c then
      modLink s k.val (fun l => { l with retried := satInc l.retried }) else s) k.val c) := by
  refine (if_neg (by simp [ht, h5])).trans ?_
  split <;> rfl

theorem exec_retryRequest (h4 : cellType c = 4) : exec (.retryRequest k c) s = .next (if !cellOk c then badCell s k.val
    else if !schedules s then s else modLink s k.val (askedAgain c)) := by
  refine (if_neg (by simp [ht, h4])).trans ?_
  repeat' split
  all_goals rfl

/-- A broken cell of a TYPE is a cell error and nothing else (R225). -/
theorem exec_cell_broken (hk : cellOk c = false) :
    ∀ p ∈ [(Instr.dataCell, 1), (.retryCell, 5), (.retryRequest, 4), (.commitToken, 1), (.commitCell, 1)],
      cellType c = p.2 → exec (p.1 k c) s = .next (badCell s k.val) := by
  simp only [List.forall_mem_cons, List.not_mem_nil, false_implies, implies_true, and_true]
  refine ⟨fun h => ?_, fun h => ?_, fun h => ?_, fun h => ?_, fun h => ?_⟩
  · rw [exec_dataCell ht h, arrive_broken hk]
  · rw [exec_retryCell ht h, hk, arrive_broken hk]
    simp
  · rw [exec_retryRequest ht h, hk]
    rfl
  · exact (if_neg (by simp [ht, h])).trans (if_pos (by simp [hk]))
  · exact (if_neg (by simp [ht, h])).trans (if_pos (by simp [hk]))

/-- A banked device hands on a whole cell of a TYPE as it came (R236). -/
theorem exec_cell_relayed (hk : cellOk c = true) (hr : s.fabric.relaying = true) :
    ∀ p ∈ [(Instr.dataCell, 1), (.retryCell, 5), (.commitToken, 1), (.commitCell, 1)],
      cellType c = p.2 → exec (p.1 k c) s = .next (relayCell s k.val c) := by
  simp only [List.forall_mem_cons, List.not_mem_nil, false_implies, implies_true, and_true]
  refine ⟨fun h => ?_, fun h => ?_, fun h => ?_, fun h => ?_⟩
  · rw [exec_dataCell ht h, arrive_relayed hk hr]
  · rw [exec_retryCell ht h, hr, Bool.not_true, Bool.false_and, Bool.false_and, if_neg Bool.false_ne_true,
      arrive_relayed hk hr]
  · exact (if_neg (by simp [ht, h])).trans ((if_neg (by simp [hk])).trans (if_pos hr))
  · exact (if_neg (by simp [ht, h])).trans ((if_neg (by simp [hk])).trans (if_pos hr))

end Taken

/-! A cell that its entry takes -/

/-- Link k once the cell that entry e names is no longer missing. -/
def gotLink (e : BitVec 128) (c : Cell) (l : Link) : Link :=
  { l with
    missing := l.missing.filter (fun x => x != (leSlot e % 4096, cellIndex c))
    awaited := l.awaited.filter (fun x => x != (leSlot e % 4096, cellIndex c)) }

/-- What a cell outside the relay class leaves: its payload in the buffer share of its entry. -/
structure CellHeld (s t : State) (k : Nat) (e : BitVec 128) (c : Cell) : Prop where
  buffer : BufferHolds s t (bufferKey (leBuffer e) + 256 * cellIndex c) c
  links : t.links = (modLink s k (gotLink e c)).links
  stat : StatCarried s t k e c
  only : t = { s with links := t.links, fabric := { s.fabric with buffers := t.fabric.buffers }, tele := t.tele }

theorem getD_slice {bs : Bytes} {n i : Nat} (hi : i < n) : (slice bs 0 n).getD i 0 = bs.getD i 0 := by
  simp only [slice, List.drop_zero, List.getD_eq_getElem?_getD]
  by_cases h : i < bs.length
  · rw [List.getElem?_append_left (by simp; omega), List.getElem?_take_of_lt hi]
  · rw [List.getElem?_append_right (by simp; omega), List.getElem?_eq_none (Nat.le_of_not_lt h), List.getElem?_replicate]
    split <;> rfl

/-- The state once a cell of entry e has arrived on link k and its payload stands in the buffer share. -/
def payloadPut (s : State) (k : Nat) (e : BitVec 128) (c : Cell) : State :=
  let t := modLink s k (gotLink e c)
  { t with fabric := { t.fabric with
    buffers := mwrite t.fabric.buffers (bufferKey (leBuffer e) + 256 * cellIndex c) (slice c.payload 0 256) } }

/-- The statistics that link k has brought, once a cell of entry e has come. -/
def statBrought (s : State) (k : Nat) (e : BitVec 128) (c : Cell) : Sparse Bytes :=
  if leClass e = 2 ∧ currentKind s = 7 ∧ s.seq.segFrame = 0 then smod [] s.tele.statIn k (· ++ slice c.payload 0 256)
  else s.tele.statIn

theorem acceptCell_data {e : BitVec 128} (h : leClass e ≠ 1) (s : State) (k : Nat) (c : Cell) :
    acceptCell s k e c = { payloadPut s k e c with tele := { s.tele with statIn := statBrought s k e c } } := by
  refine (if_neg h).trans ?_
  change (if leClass e = 2 then takeStat (payloadPut s k e c) k c else payloadPut s k e c) = _
  unfold statBrought
  by_cases h2 : leClass e = 2
  · by_cases hstat : currentKind s = 7 ∧ s.seq.segFrame = 0
    · rw [if_pos h2, if_pos ⟨h2, hstat⟩]
      exact if_pos hstat
    · rw [if_pos h2, if_neg (fun hn => hstat hn.2)]
      exact if_neg hstat
  · rw [if_neg h2, if_neg (fun hn => h2 hn.1)]
    rfl

theorem payloadPut_buffer {s : State} (hm : memWf s.fabric.buffers = true) (k : Nat) (e : BitVec 128) (c : Cell) :
    BufferHolds s (payloadPut s k e c) (bufferKey (leBuffer e) + 256 * cellIndex c) c := by
  intro a
  refine (mget_mwrite hm a).trans ?_
  rw [length_slice]
  split
  next ha => exact getD_slice (by omega)
  next => rfl

/-- A cell of the statistics class adds its payload to what its link brings; another adds none. -/
theorem acceptCell_held {s : State} (hm : memWf s.fabric.buffers = true) {e : BitVec 128} (h : leClass e ≠ 1) (k : Nat)
    (c : Cell) : CellHeld s (acceptCell s k e c) k e c := by
  rw [acceptCell_data h]
  refine ⟨payloadPut_buffer hm k e c, rfl, ?_, rfl⟩
  unfold StatCarried statBrought
  split
  next =>
    refine ⟨fun hw i => (sget_sput hw).trans ?_, rfl⟩
    split
    next hi => rw [hi]
    next => rfl
  next => rfl

/-- The relay-class cell that leaves in the slot after its entry's (R231). -/
def relayedCell (s : State) (e : BitVec 128) (c : Cell) : Cell :=
  dataCell 1 (cellClass c) (s.seq.frame - s.seq.segFrame + (leSlot e + 1) / 4096) ((leSlot e + 1) % 4096) (cellIndex c)
    (cellEpoch c) c.payload

/-- A relay-class cell waits on OUT_LINK with the entry's buffer. -/
theorem acceptCell_relay {e : BitVec 128} (h : leClass e = 1) (s : State) (k : Nat) (c : Cell) :
    acceptCell s k e c = modLink (modLink s k (gotLink e c)) (leOut e)
      (fun l => { l with pendRelay := l.pendRelay ++ [(leBuffer e, relayedCell s e c)] }) := if_pos h

theorem linkOf_acceptCell_relay {s : State} (hs : swf {} s.links = true) {e : BitVec 128} (h : leClass e = 1) {k : Nat}
    (ho : leOut e ≠ k) (c : Cell) (i : Nat) : linkOf (acceptCell s k e c) i =
      if i = k then gotLink e c (linkOf s k)
      else if i = leOut e then
        { linkOf s i with pendRelay := (linkOf s i).pendRelay ++ [(leBuffer e, relayedCell s e c)] }
      else linkOf s i := by
  rw [acceptCell_relay h, linkOf_modLink (modLink_swf hs ..), linkOf_modLink hs, linkOf_modLink hs, if_neg ho]
  by_cases hi : i = leOut e
  · rw [if_pos hi, if_neg (fun hk => ho (hi.symm.trans hk)), if_pos hi, hi]
  · simp only [if_neg hi]

/-- The count of retries does not enter the match of a cell. -/
theorem matchEntry_retried {s : State} (hs : swf {} s.links = true) (k : Nat) (c : Cell) :
    matchEntry (modLink s k (fun l => { l with retried := satInc l.retried })) k c = matchEntry s k c := by
  have hlag : slotLag (modLink s k (fun l => { l with retried := satInc l.retried })) k = slotLag s k := by
    rw [slotLag, linkOf_modLink hs, if_pos rfl, slotLag]
  have harr : arrivalSlot (modLink s k (fun l => { l with retried := satInc l.retried })) k c = arrivalSlot s k c := by
    rw [arrivalSlot, hlag]
    rfl
  unfold matchEntry
  rw [harr]
  rfl

/-! The obligation -/

/-- Settles O44: broken and relayed cells for all commands at once, and what the entry of a cell takes. -/
theorem cellsOnALink : Obligations.CellsOnALink := by
  unfold Obligations.CellsOnALink
  refine ⟨fun x => ⟨cellType_asRetry x, cellOk_mkCell (retryFields_lt x) _, hdrF_asRetry x (by decide) (by decide),
    hdrF_asRetry x (by decide) (by decide), hdrF_asRetry x (by decide) (by decide), payload_mkCell _ _⟩, ?_⟩
  intro k c s ht hs hm l bad
  have hbad : LinkOnly s (badCell s k.val) k.val bad := linkOnly_modLink hs k.val _
  refine ⟨fun hk => ?_, fun hk => ⟨_, ?_, hbad⟩, fun p hp h hk => ⟨_, exec_cell_broken ht hk p hp h, hbad⟩,
    fun p hp h hk hr => ⟨?free, ?full⟩, fun hr hk hsch he => ⟨?unmatched, ?matched⟩, ?closed, ?request⟩
  · rw [exec_idleCell ht, if_pos hk]
  · rw [exec_idleCell ht, hk]
    rfl
  case free =>
    intro o q ho hu hq
    refine ⟨_, exec_cell_relayed ht hk hr p hp h, ?_⟩
    rw [relayCell_of_free ho hu hq]
    exact linkOnly_modLink hs o _
  case full =>
    intro hfull
    refine ⟨relayDropped s k.val, _, ?_, rfl, rfl, rfl, linkOf_relayDropped hs k.val, rfl⟩
    rw [exec_cell_relayed ht hk hr p hp h, relayCell_of_full hfull]
  case unmatched =>
    intro hn h
    exact ⟨_, by rw [exec_dataCell ht h, arrive_unmatched hk hr hsch he hn], hbad⟩
  case matched =>
    intro e hmatch here b got
    refine ⟨fun hc h => ?data, fun hc h hmiss => ?retry, fun hc h ho => ?relay⟩
    case data =>
      obtain ⟨hbuf, hlinks, hstat, honly⟩ := acceptCell_held (e := e) hm hc k.val c
      refine ⟨_, by rw [exec_dataCell ht h, arrive_matched hk hr hsch he hmatch], hbuf, fun i => ?_, hstat, honly⟩
      rw [linkOf, hlinks]
      exact linkOf_modLink hs
    case retry =>
      have hs' := modLink_swf hs k.val (fun l => { l with retried := satInc l.retried })
      obtain ⟨hbuf, hlinks, hstat, honly⟩ := acceptCell_held
        (s := modLink s k.val (fun l => { l with retried := satInc l.retried })) (e := e) hm hc k.val c
      refine ⟨_, ?_, hbuf, fun i => ?_, hstat, honly⟩
      · rw [exec_retryCell ht h, hr, hk, hmiss]
        exact congrArg _ (arrive_matched hk hr hsch he ((matchEntry_retried hs k.val c).trans hmatch))
      · rw [linkOf, hlinks]
        refine (linkOf_modLink hs').trans ?_
        rw [linkOf_modLink hs, linkOf_modLink hs, if_pos rfl]
        split <;> rfl
    case relay =>
      obtain ⟨hok, htype, hclass, hframe, hslot, hindex, hepoch, hpay⟩ := dataCell_fields (typ := 1) (cls := cellClass c)
        (by decide) (Nat.mod_lt _ (by decide)) (s.seq.frame - s.seq.segFrame + (leSlot e + 1) / 4096)
        ((leSlot e + 1) % 4096) (cellIndex c) (cellEpoch c) c.payload
      refine ⟨_, relayedCell s e c, by rw [exec_dataCell ht h, arrive_matched hk hr hsch he hmatch], htype, hok,
        hslot.trans (Nat.mod_mod _ _), hclass, hframe, hindex.trans (Nat.mod_mod _ _), hepoch.trans (Nat.mod_mod _ _), hpay,
        ?_, linkOf_acceptCell_relay hs hc ho c⟩
      rw [acceptCell_relay hc]
      rfl
  case closed =>
    intro h hk hsch
    rw [exec_retryRequest ht h, hk, hsch]
    rfl
  case request =>
    intro h hk hsch
    refine ⟨_, ?_, linkOnly_modLink hs k.val (askedAgain c)⟩
    rw [exec_retryRequest ht h, hk, hsch]
    rfl

end Sys2Proof.Machine
end

section
/-! Control cells that flood (07, R134, R139, R140; 09, R196; 11, R233, R234; 13, R269): a new one is recorded and forwarded once,
and sets the rate, START_TIME or the replay; a rate request joins the device's own. -/

namespace Sys2Proof.Machine

open Sys2Proof.Claims

/-! The record of SEQ -/

/-- A SEQ that is not above the highest one, and is recorded where it is near below it, is not new. -/
theorem isNewSeq_of_seen {f : Fabric} {q h : BitVec 16} (hh : f.seqHigh = some h)
    (hup : ¬(1 ≤ (q - h).toNat ∧ (q - h).toNat ≤ 32767)) (hseen : (h - q).toNat ≤ 255 → q ∈ f.seqSeen) :
    isNewSeq f q = false := by
  have hbelow : (decide (1 ≤ (q - h).toNat) && decide ((q - h).toNat ≤ 32767)) = false := by simpa using hup
  unfold isNewSeq
  rw [hh]
  dsimp only
  rw [hbelow, Bool.false_or]
  simpa using hseen

/-- A recorded SEQ is new no more. -/
theorem isNewSeq_recordSeq (f : Fabric) (q : BitVec 16) : isNewSeq (recordSeq f q) q = false := by
  have hself : ¬(1 ≤ (q - q).toNat ∧ (q - q).toNat ≤ 32767) := by simp
  have hseen (h : BitVec 16) (hd : (h - q).toNat ≤ 255) :
      q ∈ (q :: f.seqSeen).filter (fun x => decide ((h - x).toNat ≤ 255)) :=
    List.mem_filter.mpr ⟨List.mem_cons_self, decide_eq_true hd⟩
  unfold recordSeq
  cases f.seqHigh with
  | none => exact isNewSeq_of_seen rfl hself (hseen q)
  | some h =>
    dsimp only
    split
    next => exact isNewSeq_of_seen rfl hself (hseen q)
    next hup => exact isNewSeq_of_seen rfl (by simpa using hup) (hseen h)

/-! A cell that floods -/

/-- The state once a control cell has been recorded and waits on every other link that is up. -/
def floodedOn (s : State) (k : Nat) (c : Cell) : State :=
  floodBut (some k) c { s with fabric := recordSeq s.fabric (ctlSeq c) }

theorem floodedOn_eq (s : State) (k : Nat) (c : Cell) :
    ∃ x, floodedOn s k c = { s with fabric := recordSeq s.fabric (ctlSeq c), links := x } :=
  floodBut_eq (some k) c _

section Flooded

variable {s : State} {k : Nat} {c : Cell}

theorem floodedOn_forwarded (hs : swf {} s.links = true) : Forwarded s (floodedOn s k c) k c := by
  intro i hi
  refine (linkOf_floodBut (s := { s with fabric := recordSeq s.fabric (ctlSeq c) }) hs (some k) c hi).trans ?_
  simp only [Option.some.injEq, ne_eq]
  rfl

/-- A whole cell of its CODE acts once it has been forwarded, on a device that is not the master and where it is new. -/
theorem flooded_whole {code : Nat} (ht : linkTakes s k = true) (h3 : cellType c = 3) (hc : ctlCode c = code)
    (hk : cellOk c = true) (f : State → State) : flooded s k code c f =
      if (s.time.master || !isNewSeq s.fabric (ctlSeq c)) = true then s else f (floodedOn s k c) := by
  simp only [flooded, ht, h3, hc, hk, bne_self_eq_false, Bool.not_true, Bool.or_self, Bool.false_eq_true, if_false]
  rfl

theorem flooded_repeat {code : Nat} (ht : linkTakes s k = true) (h3 : cellType c = 3) (hc : ctlCode c = code)
    (hk : cellOk c = true) (h : s.time.master = true ∨ isNewSeq s.fabric (ctlSeq c) = false) (f : State → State) :
    flooded s k code c f = s := by
  rw [flooded_whole ht h3 hc hk, if_pos]
  rcases h with h | h <;> simp [h]

theorem flooded_new {code : Nat} (h : NewControl s k code c) (f : State → State) :
    flooded s k code c f = f (floodedOn s k c) := by
  obtain ⟨ht, h3, hc, hk, hm, hn⟩ := h
  rw [flooded_whole ht h3 hc hk, hm, hn]
  rfl

end Flooded

/-- Cells that set the rate, START_TIME or a replay have no effect on the master, nor where they are not new. -/
theorem exec_control_repeat {s : State} {k : Fin 64} {c : Cell} (ht : linkTakes s k.val = true) (h3 : cellType c = 3)
    (hk : cellOk c = true) (h : s.time.master = true ∨ isNewSeq s.fabric (ctlSeq c) = false) :
    ∀ p ∈ [(Instr.rateAnnounce, 2), (.startTimeCell, 3), (.replayStart, 4)], ctlCode c = p.2 → exec (p.1 k c) s = .next s := by
  simp only [List.forall_mem_cons, List.not_mem_nil, false_implies, implies_true, and_true]
  refine ⟨fun hc => ?_, fun hc => ?_, fun hc => ?_⟩
  all_goals exact congrArg Host.Outcome.next (flooded_repeat ht h3 hc hk h _)

/-! The rate and START_TIME -/

section Set

variable {s : State} {k : Fin 64} {c : Cell}

/-- An N for a frame that has begun is compared, and one for a later frame is kept (R139). -/
theorem exec_rateAnnounce (h : NewControl s k.val 2 c) : exec (.rateAnnounce k c) s =
    .next (if s.seq.grid && decide (beAt c.payload 4 8 ≤ s.seq.frame) then
      (if beAt c.payload 0 1 = s.rate.n then floodedOn s k.val c else detect (floodedOn s k.val c) (occNone 0x0208))
      else { floodedOn s k.val c with rate := { s.rate with announced := some (beAt c.payload 0 1, beAt c.payload 4 8) } }) := by
  obtain ⟨x, hx⟩ := floodedOn_eq s k.val c
  refine congrArg Host.Outcome.next ((flooded_new h _).trans ?_)
  rw [hx]

/-- The state once START_TIME is known: a pending ARM ends, in ARMED where its conditions hold (13, R269). -/
def startNoted (s : State) (t : BitVec 64) : State :=
  let u := { s with time := { s.time with startTime := t, startKnown := true } }
  if u.dev.armPending then
    { u with dev := { u.dev with
        armPending := false
        mode := if u.dev.mode == .loaded && armReady u && startAhead u then .armed else u.dev.mode } }
  else u

theorem exec_startTimeCell (h : NewControl s k.val 3 c) : exec (.startTimeCell k c) s =
    .next (startNoted (floodedOn s k.val c) (BitVec.ofNat 64 (beAt c.payload 0 8))) :=
  congrArg Host.Outcome.next (flooded_new h _)

/-- What START_TIME leaves but the links and the record. -/
theorem startNoted_flooded (s : State) (k : Nat) (c : Cell) (v : BitVec 64) : let t := startNoted (floodedOn s k c) v
    t.links = (floodedOn s k c).links ∧ t.time = { s.time with startTime := v, startKnown := true } ∧
      (s.dev.armPending = false → t.dev = s.dev) ∧
      (s.dev.armPending = true → t.dev = { s.dev with
        armPending := false
        mode := if s.dev.mode = .loaded ∧ armReady s = true ∧ startAhead t = true then .armed else s.dev.mode }) ∧
      t.mem = s.mem ∧ t.image = s.image ∧ t.seq = s.seq := by
  obtain ⟨x, hx⟩ := floodedOn_eq s k c
  dsimp only
  rw [hx, startNoted]
  cases ha : s.dev.armPending with
  | false => exact ⟨rfl, rfl, fun _ => rfl, nofun, rfl, rfl, rfl⟩
  | true =>
    refine ⟨rfl, rfl, nofun, fun _ => ?_, rfl, rfl, rfl⟩
    refine congrArg (fun m => { s.dev with armPending := false, mode := m }) ?_
    simp only [beq_iff_eq, Bool.and_eq_true, and_assoc]
    rfl

end Set

/-! The replay -/

/-- Between s and t the chunks have been settled: memory, the update, its statistics and the occurrences alone have changed. -/
def SettledOnly (s t : State) : Prop := t = { s with
  mem := t.mem, upd := t.upd, train := t.train, tele := t.tele, jobRecord := t.jobRecord, faults := t.faults }

theorem SettledOnly.trans {r s t : State} (h : SettledOnly r s) (k : SettledOnly s t) : SettledOnly r t := by
  unfold SettledOnly at *
  rw [h] at k
  exact k

theorem SettledOnly.foldl {α : Type} {g : State → α → State} (h : ∀ s x, SettledOnly s (g s x)) (l : List α) (s : State) :
    SettledOnly s (l.foldl g s) :=
  l.foldlRecOn g (motive := SettledOnly s) rfl (fun t ht x _ => ht.trans (h t x))

theorem restoreCopy_settled (s : State) (c : UndoCopy) : SettledOnly s (restoreCopy s c) := by
  unfold restoreCopy
  split
  · dsimp only
    split <;> rfl
  · rfl

theorem restoreChunk_settled (k : Nat) (s : State) : SettledOnly s (restoreChunk k s) :=
  (SettledOnly.foldl restoreCopy_settled _ s).trans rfl

theorem commitChunk_settled (k : Nat) (s : State) : SettledOnly s (commitChunk k s) := by
  obtain ⟨e, u, n, j, h⟩ := commitChunk_eq k s
  rw [h]
  rfl

theorem settleChunk_settled (f : Int) (s : State) (k : Nat) : SettledOnly s (settleChunk f s k) := by
  unfold settleChunk
  split
  · exact commitChunk_settled k s
  · split
    · exact restoreChunk_settled k s
    · exact restoreChunk_settled k s
    · rfl
    · rfl

theorem settleChunks_settled (s : State) (f : Int) : SettledOnly s (settleChunks s f) :=
  SettledOnly.foldl (settleChunk_settled f) _ s

/-- The state in which a device that takes part holds the announced replay. -/
def replayHeld (r : Replay) (s : State) : State :=
  { s with seq := { s.seq with replay := some r, halt := none, stopped := true, announceDue := false, haltFresh := false } }

theorem applyReplay_settled (r : Replay) (s : State) : SettledOnly (replayHeld r s) (applyReplay r s) := by
  have h := settleChunks_settled (replayHeld r s) r.frontier
  unfold applyReplay
  dsimp only
  split
  · exact h.trans rfl
  · exact h.trans rfl

/-- The sequencer of s once a replay has been announced. -/
def announcedSeq (r : Replay) (s : State) : Sequencer :=
  if takesPart s then (replayHeld r s).seq else { s.seq with halt := none, announceDue := false, haltFresh := false }

/-- The job of s once a replay has been announced, whether the device takes part or not. -/
def replayNoted (r : Replay) (s : State) : State :=
  if takesPart s then applyReplay r s
  else { s with seq := { s.seq with halt := none, announceDue := false, haltFresh := false } }

theorem replayNoted_settled (r : Replay) (s : State) : SettledOnly { s with seq := announcedSeq r s } (replayNoted r s) := by
  unfold announcedSeq replayNoted
  split
  · exact applyReplay_settled r s
  · rfl

/-- Without HALTs held for the new epoch the announcement sets the epoch beside the job. -/
theorem takeReplay_of_none_held (r : Replay) {s : State} (hh : s.fabric.haltHeld = []) : takeReplay r s =
    { replayNoted r s with fabric := { s.fabric with epoch := r.epoch, haltSent := none, haltHeld := [] } } := by
  have hf : (replayNoted r s).fabric = s.fabric := by rw [replayNoted_settled r s]
  have ht : takeReplay r s = (replayNoted r s).fabric.haltHeld.foldl handleHalt { replayNoted r s with
    fabric := { (replayNoted r s).fabric with epoch := r.epoch, haltSent := none, haltHeld := [] } } := rfl
  rw [ht, hf, hh, List.foldl_nil]

theorem replayNoted_of_not_part {s : State} (h : takesPart s = false) (r : Replay) : replayNoted r s =
    { s with seq := { s.seq with halt := none, announceDue := false, haltFresh := false } } := by
  rw [replayNoted, h, if_neg Bool.false_ne_true]

theorem takesPart_floodedOn (s : State) (k : Nat) (c : Cell) : takesPart (floodedOn s k c) = takesPart s := by
  obtain ⟨x, hx⟩ := floodedOn_eq s k c
  rw [hx]
  rfl

/-- The replay that a REPLAY_START cell announces (Table 11.5). -/
def cellReplay (c : Cell) : Replay :=
  ⟨beAt c.payload 0 8, beAt c.payload 8 4 % 2 ^ 20, (BitVec.ofNat 32 (beAt c.payload 12 4)).toInt,
    BitVec.ofNat 8 (beAt c.payload 16 1)⟩

theorem exec_replayStart {s : State} {k : Fin 64} {c : Cell} (h : NewControl s k.val 4 c) : exec (.replayStart k c) s =
    .next (takeReplay (cellReplay c) (floodedOn s k.val c)) :=
  congrArg Host.Outcome.next (flooded_new h _)

/-- What an announced replay leaves but the links, the epoch and what the chunks hold. -/
theorem takeReplay_flooded {s : State} (hh : s.fabric.haltHeld = []) (k : Nat) (c : Cell) (r : Replay) :
    let t := takeReplay r (floodedOn s k c)
    t.links = (floodedOn s k c).links ∧ t.fabric.epoch = r.epoch ∧ t.fabric.haltSent = none ∧
      t.seq = announcedSeq r s ∧ (takesPart s = false → t.upd = s.upd ∧ t.mem = s.mem) ∧
      t.dev = s.dev ∧ t.image = s.image ∧ t.time = s.time := by
  have hpart := takesPart_floodedOn s k c
  obtain ⟨x, hx⟩ := floodedOn_eq s k c
  have hheld : (floodedOn s k c).fabric.haltHeld = [] := by
    rw [hx]
    exact hh
  have hseq : announcedSeq r (floodedOn s k c) = announcedSeq r s := by
    rw [announcedSeq, hpart, announcedSeq, hx]
    rfl
  have hs := replayNoted_settled r (floodedOn s k c)
  dsimp only
  rw [takeReplay_of_none_held r hheld]
  refine ⟨by rw [hs], rfl, rfl, by rw [hs]; exact hseq, fun hn => ?_, ?_, ?_, ?_⟩
  · dsimp only
    rw [replayNoted_of_not_part (hpart.trans hn), hx]
    exact ⟨rfl, rfl⟩
  all_goals
    dsimp only
    rw [hs, hx]

/-! A rate request -/

/-- REQ_LOCAL follows the combination, and a change is due to the time parent. -/
theorem refreshRequest_spec (s : State) : let t := refreshRequest s
    t = { s with rate := t.rate } ∧ t.rate.children = s.rate.children ∧ t.rate.reqLocal = combinedRequest t ∧
      t.rate.n = s.rate.n ∧ t.rate.requests = s.rate.requests ∧
      (t.rate.reqLocal = s.rate.reqLocal → t.rate.requestDue = s.rate.requestDue) ∧
      (t.rate.reqLocal ≠ s.rate.reqLocal → t.rate.requestDue = !s.time.master) := by
  unfold refreshRequest
  dsimp only
  split
  next h => exact ⟨rfl, rfl, h.symm, rfl, rfl, fun _ => rfl, fun hn => absurd rfl hn⟩
  next h => exact ⟨rfl, rfl, rfl, rfl, rfl, fun hn => absurd hn h, fun _ => rfl⟩

/-- The state that has a child's request from link k. -/
def childAsked (s : State) (k : Nat) (c : Cell) : State :=
  { s with rate := { s.rate with
    children := sput none s.rate.children k (some (BitVec.ofNat 4 (beAt c.payload 0 1))) } }

theorem exec_rateRequest {s : State} {k : Fin 64} {c : Cell} (ht : linkTakes s k.val = true) (h3 : cellType c = 3)
    (hc : ctlCode c = 1) (hk : cellOk c = true) :
    exec (.rateRequest k c) s = .next (refreshRequest (childAsked s k.val c)) :=
  (if_neg (by simp [ht, h3, hc])).trans (if_neg (by simp [hk]))

/-! The obligation -/

/-- Settles O46: each cell by what it sets once it has been forwarded, and the request by the combination that it enters. -/
theorem controlCellsAreFloodedOnce : Obligations.ControlCellsAreFloodedOnce := by
  unfold Obligations.ControlCellsAreFloodedOnce
  refine ⟨isNewSeq_recordSeq, fun k c s hs => ⟨fun p hp ht h3 hc hk h => exec_control_repeat ht h3 hk h p hp hc, fun h => ?rate,
    fun h => ?start, fun h hh => ?replay, fun ht h3 hc hk hw => ?request⟩⟩
  case rate =>
    have hfwd := floodedOn_forwarded (k := k.val) (c := c) hs
    obtain ⟨x, hx⟩ := floodedOn_eq s k.val c
    have he := exec_rateAnnounce h
    intro n f
    refine ⟨fun hlater => ?later, fun hg hf => ?begun⟩
    case later => 
      have hno : (s.seq.grid && decide (f ≤ s.seq.frame)) = false := by
        rcases hlater with hg | hf
        · rw [hg, Bool.false_and]
        · rw [decide_eq_false (Nat.not_le.mpr hf), Bool.and_false]
      rw [hno, if_neg Bool.false_ne_true] at he
      refine ⟨_, he, hfwd, ?_⟩
      rw [hx]
    case begun =>
      rw [hg, decide_eq_true hf, Bool.and_self, if_pos rfl] at he
      refine ⟨_, he, ?_⟩
      split
      next hn =>
        rw [hx]
        exact ⟨hx ▸ hfwd, rfl, rfl, rfl, fun _ => rfl, fun hne => absurd hn hne⟩
      next hn =>
        rw [hx]
        exact ⟨hx ▸ hfwd, rfl, rfl, rfl, fun h => absurd h hn, fun _ => ⟨_, rfl, rfl⟩⟩
  case start =>
    have ⟨hlinks, hrest⟩ := startNoted_flooded s k.val c (BitVec.ofNat 64 (beAt c.payload 0 8))
    refine ⟨_, exec_startTimeCell h, fun i hi => ?_, hrest⟩
    rw [linkOf, hlinks]
    exact floodedOn_forwarded hs i hi
  case replay =>
    obtain ⟨hlinks, hepoch, hsent, hseq, hout, hkept⟩ := takeReplay_flooded hh k.val c (cellReplay c)
    refine ⟨_, exec_replayStart h, fun i hi => ?_, hepoch, hsent, ?_, ?_, fun hn => ?_, fun hp => ?_, hkept⟩
    · rw [linkOf, hlinks]
      exact floodedOn_forwarded hs i hi
    · rw [hseq]
      unfold announcedSeq
      split <;> rfl
    · rw [hseq]
      unfold announcedSeq
      split <;> rfl
    · rw [hseq, announcedSeq, hn]
      exact ⟨rfl, rfl, hout hn⟩
    · rw [hseq, announcedSeq, hp]
      exact ⟨rfl, _, rfl, rfl, rfl, rfl⟩
  case request =>
    obtain ⟨honly, hchildren, hlocal, hn, hreq, hsame, hnew⟩ := refreshRequest_spec (childAsked s k.val c)
    refine ⟨_, exec_rateRequest ht h3 hc hk, honly, fun j => ?_, hlocal, hn, hreq, hsame, hnew⟩
    rw [hchildren]
    exact sget_sput hw

end Sys2Proof.Machine
end

section
/-! The end of zeroisation (12, R260, R262): which bytes of DRAM keep their contents. -/

namespace Sys2Proof.Machine

open Sys2Proof.Claims

theorem exec_zeroisationDone_idle {s : State} (h : s.mem.zeroising = false) (micros : BitVec 32) :
    exec (.zeroisationDone micros) s = .next s := by
  show execZeroisationDone micros s = _
  rw [execZeroisationDone, h]
  rfl

theorem exec_zeroisationDone_jobReset {s : State} (h : s.mem.zeroising = true) (hp : s.dev.poweredUp = false)
    (micros : BitVec 32) : exec (.zeroisationDone micros) s = .next (zeroised micros s) := by
  show execZeroisationDone micros s = _
  rw [execZeroisationDone, h, hp]
  rfl

/-- A byte outside the INTACT retained regions reads 0 after zeroisation; the others keep their contents. -/
theorem mget_zeroised {s : State} (h : memWf s.mem.dram = true) (micros : BitVec 32) (x : Nat) :
    mget (zeroised micros s).mem.dram x = if survives s.mem x then mget s.mem.dram x else 0 :=
  sget_filter_key (survives s.mem) x h

/-- Settles O13: outside zeroisation nothing happens, and its end keeps of DRAM the bytes that survive. -/
theorem zeroisationEndsInIdle : Obligations.ZeroisationEndsInIdle := by
  unfold Obligations.ZeroisationEndsInIdle
  intro micros s
  refine ⟨fun hz => exec_zeroisationDone_idle hz micros, fun hz hp hm => ?_⟩
  exact ⟨_, exec_zeroisationDone_jobReset hz hp micros, rfl, rfl, rfl, rfl, rfl, rfl, rfl, rfl, mget_zeroised hm micros,
    rfl, rfl, rfl, rfl⟩

end Sys2Proof.Machine
end

section
/-! ROTATE_REQUEST and VERIFY (12, R252, R261, R263, R264; 00, R8): each is a scalar write, answered by the conditions of its
entry in the order of R8. -/

namespace Sys2Proof.Machine

open Sys2Proof.Claims

/-! The entries' own writes -/

theorem entryOf_stack : ∀ n : Fin 16, entryOf (0x4810 + n.val) =
    many [u32 .ro, dom .ro 33, u64 .ro, u64 .ro, i32 .ro, u32 .ro, u8 .wo] := by
  decide

theorem entryOf_retained : ∀ r : Fin 16, entryOf (0x4840 + r.val) = many [u8 .ro, dom .ro 16, dom .ro 32, u8 .wo, u8 .rw] := by
  decide

theorem bankedOff_retained : ∀ r : Fin 16, bankedOff (0x4840 + r.val) = false := by
  decide

/-- Writes from 0x4040 to 0x57FF are those of writeHigh, where the entry has power. -/
theorem writeSub_high {s : State} {i : Nat} (h : ¬(s.dev.mode = .banked ∧ bankedOff i = true)) (hlo : 0x4000 ≤ i)
    (hhi : i < 0x5800) (a : Agent) (sub : Nat) (w : Put) : writeSub s a i sub w = writeHigh s i sub w := by
  rw [writeSub, if_neg h, if_neg (by omega), if_neg (by omega), if_pos hhi]

theorem within_iff {lo n i : Nat} : within lo n i = true ↔ lo ≤ i ∧ i < lo + n := by
  rw [within, Bool.and_eq_true, decide_eq_true_iff, decide_eq_true_iff]

theorem writeSub_rotateRequest {s : State} (h : s.dev.mode ≠ .banked) (a : Agent) (n : Fin 16) (w : Put) :
    writeSub s a (0x4810 + n.val) 7 w = writeRotate s n.val w := by
  have hn := n.isLt
  have he : writeHigh s (0x4810 + n.val) 7 w = writeRotate s (0x4810 + n.val - 0x4810) w :=
    (if_neg (by omega)).trans (if_pos (within_iff.mpr (by omega)))
  rw [writeSub_high (fun hb => h hb.1) (by omega) (by omega), he, Nat.add_sub_cancel_left]

theorem writeSub_verify (s : State) (a : Agent) (r : Fin 16) (w : Put) :
    writeSub s a (0x4840 + r.val) 4 w = writeVerify s r.val w := by
  have hr := r.isLt
  have he : writeHigh s (0x4840 + r.val) 4 w = writeVerify s (0x4840 + r.val - 0x4840) w :=
    (if_neg (by omega)).trans ((if_neg (fun h => absurd (within_iff.mp h) (by omega))).trans
      ((if_pos (within_iff.mpr (by omega))).trans (if_pos rfl)))
  rw [writeSub_high (by simp [bankedOff_retained]) (by omega) (by omega), he, Nat.add_sub_cancel_left]

/-! ROTATE_REQUEST -/

/-- A U8 is refused with 0x0202 before 0x0302, and queues its channel where neither applies (R263). -/
theorem writeRotate_byte (s : State) (n : Nat) (ch : BitVec 8) (bs : Bytes) :
    writeRotate s n ⟨ch.toNat, 0, bs, true⟩ =
      if activeOf s.fence n ≤ ch.toNat ∨ (stackOf s n).spareOk = false then (s, 0x0202)
      else if (stackOf s n).rotPhase ≠ 0 ∨ rotQueued (stackOf s n) = true then (s, 0x0302)
      else (modStack s n (fun k => { k with repairs := k.repairs ++ [ch.toNat] }), 0) := by
  simp [writeRotate, guarded]

theorem exec_rotateRequest {a : Agent} {s : State} (ha : mayCommand s a) (hm : s.dev.mode ≠ .banked) (n : Fin 16)
    (ch : BitVec 8) : exec (.rotateRequest a n ch) s = .next (
      if activeOf s.fence n.val ≤ ch.toNat ∨ (stackOf s n.val).spareOk = false then coded s 0x0202
      else if (stackOf s n.val).rotPhase ≠ 0 ∨ rotQueued (stackOf s n.val) = true then coded s 0x0302
      else coded (modStack s n.val (fun k => { k with repairs := k.repairs ++ [ch.toNat] })) 0) := by
  have hx {t : State} {c : BitVec 16} (h : writeRotate s n.val ⟨ch.toNat, 0, natLe 1 ch.toNat, true⟩ = (t, c)) :
      exec (.rotateRequest a n ch) s = .next (coded t c) :=
    agentWrite_scalar ha (x := u8 .wo) (entryOf_stack n) rfl (.inr rfl) (by decide) rfl ch.isLt
      ((writeSub_rotateRequest hm a n _).trans h)
  rw [writeRotate_byte] at hx
  split
  case isTrue h => exact hx (if_pos h)
  case isFalse h =>
    rw [if_neg h] at hx
    split
    case isTrue hq => exact hx (if_pos hq)
    case isFalse hq => exact hx (if_neg hq)

/-! VERIFY -/

theorem writeVerify_refused {s : State} {r : Nat} (h : s.dev.mode ≠ .loaded ∨ (retainedOf s r).state ≠ 1) (w : Put) :
    writeVerify s r w = (s, 0x0301) :=
  if_pos (by simpa using h)

theorem writeVerify_staging {s : State} {r : Nat} (hm : s.dev.mode = .loaded) (h : (retainedOf s r).state = 1) (bs : Bytes) :
    writeVerify s r ⟨1, 0, bs, true⟩ = (closeTarget r (modRetained s r (fun k => { k with state := 2 })), 0) := by
  simp [writeVerify, guarded, hm, h]

/-- Closing a record's STAGE channels is work of the host port alone. -/
theorem closeTarget_only (r : Nat) (s : State) : HostOnly s (closeTarget r s) := HostOnly.foldl (closeChannel_only 4 0x0301) _ s

theorem exec_verifyRetained {a : Agent} {s t : State} {r : Fin 16} {c : BitVec 16} (ha : mayCommand s a)
    (h : writeVerify s r.val ⟨1, 0, natLe 1 1, true⟩ = (t, c)) : exec (.verifyRetained a r 1) s = .next (coded t c) :=
  agentWrite_scalar ha (x := u8 .wo) (entryOf_retained r) rfl (.inr rfl) (by decide) rfl (by decide)
    ((writeSub_verify s a r _).trans h)

/-! The obligation -/

/-- Settles O23: both commands answer as their entry's own write; a record that enters HASHING closes its STAGE channels. -/
theorem repairAndVerifyRequests : Obligations.RepairAndVerifyRequests := by
  unfold Obligations.RepairAndVerifyRequests
  intro a s ha
  refine ⟨fun n ch hm => exec_rotateRequest ha hm n ch, fun r => ⟨fun h => exec_verifyRetained ha (writeVerify_refused h _),
    fun hm h hs => ⟨_, exec_verifyRetained ha (writeVerify_staging hm h _), ?_⟩⟩⟩
  rw [closeTarget_only r.val]
  refine ⟨rfl, hm, fun i => ?_, rfl, rfl, rfl, rfl⟩
  refine (retainedOf_modRetained hs).trans ?_
  split
  next hi => rw [hi]
  next => rfl

end Sys2Proof.Machine
end

section
/-! Rotations (12, R252 to R254, R263; log 104): what starts, switches and ends one. The table of the stacks writes the default
spare as 255, so a channel of that number that retrains would be the default spare instead. -/

namespace Sys2Proof.Machine

open Sys2Proof.Claims

section Expiry

variable {s : State} {n : Fin 16}

/-- A nonzero interval queues a routine rotation of a stack with a spare (R252). -/
theorem exec_rotateIntervalExpiry_queued (hr : stackRuns s n.val = true) (hi : s.mem.rotateInterval ≠ 0)
    (hq : (spareOf n.val (stackOf s n.val)).isSome = true) :
    exec (.rotateIntervalExpiry n) s = .next (modStack s n.val (fun k => { k with routine := true })) :=
  if_pos (by simpa [hr, hq] using hi)

theorem exec_rotateIntervalExpiry_of_zero (hi : s.mem.rotateInterval = 0) :
    exec (.rotateIntervalExpiry n) s = .next s :=
  if_neg (by simp [hi])

end Expiry

/-- A stack is changed by what it becomes. -/
theorem modStack_congr {s : State} {n : Nat} {f g : Stack → Stack} (h : f (stackOf s n) = g (stackOf s n)) :
    modStack s n f = modStack s n g := by
  unfold modStack smod
  rw [show sget {} s.mem.stackTable n = stackOf s n from rfl, h]

theorem modStack_swf {s : State} (h : swf {} s.mem.stackTable = true) (n : Nat) (f : Stack → Stack) :
    swf {} (modStack s n f).mem.stackTable = true :=
  smod_swf h

theorem startRotation_of_spare {n q : Nat} {k : Stack} (hq : spareOf n k = some q) (l : Nat) :
    startRotation n l k = { k with rotPhase := 1, rotLogical := l, rotFrom := physOf k l, rotTo := q } := by
  simp only [startRotation, hq]

section Start

variable {s : State} {n : Fin 16} {q : Nat} (hr : stackRuns s n.val = true) (hok : (stackOf s n.val).spareOk = true)
  (hp : (stackOf s n.val).rotPhase = 0) (hq : spareOf n.val (stackOf s n.val) = some q)

include hr hok hp hq

/-- With a trained spare and no rotation in progress the stack takes its next rotation (R252). -/
theorem exec_rotationStart_taken :
    exec (.rotationStart n) s = .next (modStack s n.val (takeRotation n.val (activeOf s.fence n.val))) :=
  if_pos (by simp [hr, hok, hp, hq])

/-- The oldest repair goes first. -/
theorem exec_rotationStart_repair {l : Nat} {rest : List Nat} (h : (stackOf s n.val).repairs = l :: rest) :
    exec (.rotationStart n) s = .next (modStack s n.val (fun k => { k with
      repairs := rest, rotPhase := 1, rotLogical := l, rotFrom := physOf k l, rotTo := q })) := by
  rw [exec_rotationStart_taken hr hok hp hq]
  refine congrArg _ (modStack_congr ?_)
  simp only [takeRotation, h]
  exact startRotation_of_spare (k := { stackOf s n.val with repairs := rest }) hq l

/-- Without repairs a queued routine rotation takes the next channel in turn. -/
theorem exec_rotationStart_routine (h : (stackOf s n.val).repairs = []) (ht : (stackOf s n.val).routine = true) :
    exec (.rotationStart n) s = .next (modStack s n.val (fun k => { k with
      routine := false, nextRoutine := (k.nextRoutine + 1) % activeOf s.fence n.val, rotPhase := 1
      rotLogical := k.nextRoutine % activeOf s.fence n.val
      rotFrom := physOf k (k.nextRoutine % activeOf s.fence n.val), rotTo := q })) := by
  rw [exec_rotationStart_taken hr hok hp hq]
  refine congrArg _ (modStack_congr ?_)
  simp only [takeRotation, h, ht, if_true]
  exact startRotation_of_spare (k := { stackOf s n.val with
    repairs := [], routine := false, nextRoutine := ((stackOf s n.val).nextRoutine + 1) % activeOf s.fence n.val }) hq _

end Start

/-! The switch -/

/-- Reading an entry of a table moved from key c to key b. -/
theorem sget_shift {α : Type} [DecidableEq α] {d : α} {c b i : Nat} (hi : c ≤ i) :
    ∀ {t : Sparse α} {lo : Nat}, c ≤ lo → sabove d lo t = true →
      sget d (t.map (fun x => (x.1 - c + b, x.2))) (i - c + b) = sget d t i
  | [], _, _, _ => rfl
  | (k, v) :: t, lo, hc, h => by
    simp only [sabove, Bool.and_eq_true, decide_eq_true_eq] at h
    obtain ⟨⟨hlo, -⟩, ht⟩ := h
    have hlt : i - c + b < k - c + b ↔ i < k := by omega
    have heq : i - c + b = k - c + b ↔ i = k := by omega
    simp only [List.map_cons, sget, hlt, heq, sget_shift hi (Nat.le_succ_of_le (Nat.le_trans hc hlo)) ht]

/-- The key lies in a span. -/
def inSpan (src len key : Nat) : Bool := decide (src ≤ key) && decide (key < src + len)

theorem inSpan_iff {src len key : Nat} : inSpan src len key = true ↔ src ≤ key ∧ key < src + len := by
  rw [inSpan, Bool.and_eq_true, decide_eq_true_iff, decide_eq_true_iff]

/-- The cells of one span under the keys of another. -/
def spanPart (src dst len : Nat) (m : List Host.Cell) : List Host.Cell :=
  (m.filter (fun c => inSpan src len c.1)).map (fun c => (c.1 - src + dst, c.2))

theorem moveSpan_eq (src dst len : Nat) (m : List Host.Cell) :
    moveSpan src dst len m = mbelow m dst ++ spanPart src dst len m ++ mfrom m (dst + len) := rfl

section Span

variable {src dst len : Nat} {m : List Host.Cell}

theorem spanPart_lt : ∀ c ∈ spanPart src dst len m, c.1 < dst + len := fun c hc => by
  obtain ⟨x, hx, rfl⟩ := List.mem_map.mp hc
  have hin := inSpan_iff.mp (List.mem_filter.mp hx).2
  dsimp only
  omega

variable (h : memWf m = true)

include h

theorem span_above (src len : Nat) : sabove (0 : Byte) src (m.filter (fun c => inSpan src len c.1)) = true :=
  sabove_of_ge (sabove_filter (b := 0) h) fun _ hx => (inSpan_iff.mp (List.mem_filter.mp hx).2).1

theorem spanPart_above : sabove (0 : Byte) dst (spanPart src dst len m) = true := by
  have hs := sabove_shift (b := dst) (Nat.le_refl src) (span_above h src len)
  rwa [Nat.sub_self, Nat.zero_add] at hs

theorem sget_spanPart {x : Nat} (hlo : dst ≤ x) (hhi : x < dst + len) :
    sget 0 (spanPart src dst len m) x = mget m (x - dst + src) := by
  have hkey : x = x - dst + src - src + dst := by omega
  rw [spanPart, hkey, sget_shift (by omega) (Nat.le_refl src) (span_above h src len), sget_filter_key (inSpan src len) _ h,
    if_pos (inSpan_iff.mpr (by omega)), ← hkey]
  rfl

/-- The target of a moved span reads what the source held, and every other byte is as before. -/
theorem mget_moveSpan (src dst len x : Nat) :
    mget (moveSpan src dst len m) x = if dst ≤ x ∧ x < dst + len then mget m (x - dst + src) else mget m x := by
  have hbelow : sabove (0 : Byte) 0 (mbelow m dst) = true := sabove_takeWhile h
  have habove : sabove (0 : Byte) (dst + len) (mfrom m (dst + len)) = true := sabove_mfrom h
  have hboth : sabove (0 : Byte) 0 (mbelow m dst ++ spanPart src dst len m) = true :=
    sabove_append (Nat.zero_le dst) hbelow mbelow_lt (spanPart_above h)
  rw [mget, moveSpan_eq]
  split
  next hx =>
    rw [sget_append_left hx.2 hboth habove, sget_append_right hx.1 mbelow_lt, sget_spanPart h hx.1 hx.2]
  next hx =>
    rcases Nat.lt_or_ge x dst with hlo | hhi
    · rw [sget_append_left (by omega) hboth habove, sget_append_left hlo hbelow (spanPart_above h)]
      exact sget_takeWhile hlo h
    · have hlast : ∀ y ∈ mbelow m dst ++ spanPart src dst len m, y.1 < dst + len := fun y hy =>
        (List.mem_append.mp hy).elim (fun hb => Nat.lt_of_lt_of_le (mbelow_lt y hb) (Nat.le_add_right ..)) (spanPart_lt y)
      rw [sget_append_right (by omega) hlast]
      exact sget_mfrom (by omega)

end Span

/-- A logical channel without an entry in the map lies on its own physical channel. -/
theorem physOf_eq_sget_none (k : Stack) (l : Nat) : physOf k l = (sget none k.map l).getD l := by
  have h (t : Sparse (Option Nat)) : (sget (some l) t l).getD l = (sget none t l).getD l := by
    induction t with
    | nil => rfl
    | cons x t ih =>
      simp only [sget]
      split
      · rfl
      · split
        · rfl
        · exact ih
  exact h k.map

/-- A logical channel mapped to a physical channel lies there. -/
theorem physOf_mapped {k : Stack} (h : swf none k.map = true) (l p : Nat) :
    physOf { k with map := sput none k.map l (if p = l then none else some p) } l = p := by
  rw [physOf_eq_sget_none, sget_sput h, if_pos rfl]
  split
  next hp => exact hp.symm
  next => rfl

/-- A stack whose rotation has switched: its logical channel lies on the spare, and the channel it left retrains. -/
def switchedStack (k : Stack) : Stack :=
  { k with
    rotPhase := 2, spare := none, spareOk := false, trainFailures := 0
    map := sput none k.map k.rotLogical (if k.rotTo = k.rotLogical then none else some k.rotTo) }

/-- The device once the rotation of stack n has switched without poison in the channel it leaves. -/
def rotationSwitched (n : Nat) (s : State) : State :=
  let src := dramKey n (stackOf s n).rotFrom 0
  let dst := dramKey n (stackOf s n).rotTo 0
  modStack { s with mem := { s.mem with
    dram := moveSpan src dst channelSpan s.mem.dram, poison := movePoison src dst s.mem.poison } } n switchedStack

/-- ROTATION_SWITCH of a channel without poison (12, R252). -/
theorem exec_rotationSwitch {s : State} {n : Fin 16} (hr : stackRuns s n.val = true) (hp : (stackOf s n.val).rotPhase = 1)
    (hq : poisonedBursts s n.val (stackOf s n.val).rotFrom = []) :
    exec (.rotationSwitch n) s = .next (rotationSwitched n.val s) := by
  have he : exec (.rotationSwitch n) s = execRotationSwitch n s := rfl
  rw [he, execRotationSwitch, hr, hp, hq]
  refine (if_neg (by decide)).trans (congrArg _ (modStack_congr ?_))
  rfl

/-- The spare's bytes after the switch are those of the channel it replaces, and no other byte of DRAM changes. -/
theorem mget_rotationSwitched {n : Nat} {s : State} (h : memWf s.mem.dram = true) (x : Nat) :
    mget (rotationSwitched n s).mem.dram x =
      if dramKey n (stackOf s n).rotTo 0 ≤ x ∧ x < dramKey n (stackOf s n).rotTo 0 + channelSpan then
        mget s.mem.dram (x - dramKey n (stackOf s n).rotTo 0 + dramKey n (stackOf s n).rotFrom 0)
      else mget s.mem.dram x :=
  mget_moveSpan h _ _ _ x

/-- What the switch leaves unchanged, and where the logical channel lies after it. -/
theorem rotationSwitched_stacks {n : Nat} {s : State} (hs : swf {} s.mem.stackTable = true)
    (hm : swf none (stackOf s n).map = true) :
    physOf (stackOf (rotationSwitched n s) n) (stackOf s n).rotLogical = (stackOf s n).rotTo ∧
      ∀ i, i ≠ n → stackOf (rotationSwitched n s) i = stackOf s i := by
  have hk (i : Nat) : stackOf (rotationSwitched n s) i = if i = n then switchedStack (stackOf s n) else stackOf s i :=
    stackOf_modStack hs
  refine ⟨?_, fun i hi => (hk i).trans (if_neg hi)⟩
  rw [hk, if_pos rfl]
  exact physOf_mapped hm _ _

/-! The end -/

/-- The device once stack n has reported its lane repairs. -/
def laneRepaired (s : State) (n : Nat) (r : ChannelReport) : State :=
  modStack s n (fun k => { k with laneRepairs := r.laneRepairs })

theorem stackOf_laneRepaired {s : State} (hs : swf {} s.mem.stackTable = true) (n : Nat) (r : ChannelReport) (i : Nat) :
    stackOf (laneRepaired s n r) i = if i = n then { stackOf s n with laneRepairs := r.laneRepairs } else stackOf s i :=
  stackOf_modStack hs

theorem laneRepaired_kept (s : State) (n : Nat) (r : ChannelReport) : (laneRepaired s n r).mem.dram = s.mem.dram ∧
    (laneRepaired s n r).fence = s.fence ∧ (laneRepaired s n r).faults = s.faults :=
  ⟨rfl, rfl, rfl⟩

/-- A stack whose rotation ends with channel p as its spare. -/
def spareStack (n p : Nat) (k : Stack) : Stack :=
  { k with
    spare := if p = (if n < 8 then 32 else 8) then some 255 else some p, spareOk := true, trainFailures := 0
    rotPhase := 0, rotLogical := 0, rotations := satInc k.rotations }

theorem stackOf_becomeSpare_ended {s : State} (hs : swf {} s.mem.stackTable = true) (n p i : Nat) :
    stackOf (endRotation n (becomeSpare n p s)) i = if i = n then spareStack n p (stackOf s n) else stackOf s i := by
  have hb : swf {} (becomeSpare n p s).mem.stackTable = true := modStack_swf hs n _
  rw [endRotation, stackOf_modStack hb, becomeSpare, stackOf_modStack hs, stackOf_modStack hs, if_pos rfl]
  split <;> rfl

theorem becomeSpare_ended_kept (n p : Nat) (s : State) : (endRotation n (becomeSpare n p s)).mem.dram = s.mem.dram ∧
    (endRotation n (becomeSpare n p s)).fence = s.fence ∧ (endRotation n (becomeSpare n p s)).faults = s.faults :=
  ⟨rfl, rfl, rfl⟩

/-- The spare of that stack is p, but the default spare where p has the number that marks it. -/
theorem spareOf_spareStack (n p : Nat) (k : Stack) :
    spareOf n (spareStack n p k) = some (if p = 255 then (if n < 8 then 32 else 8) else p) := by
  unfold spareOf spareStack
  grind

/-- A stack whose rotation ends with channel p retired. -/
def retiredStack (p : Nat) (k : Stack) : Stack :=
  { k with
    retired := insertNat k.retired p, spare := none, spareOk := false, trainFailures := 0
    rotPhase := 0, rotLogical := 0, rotations := satInc k.rotations }

theorem stackOf_retire_ended {s : State} (hs : swf {} s.mem.stackTable = true) (n p i : Nat) :
    stackOf (endRotation n (retire n p s)) i = if i = n then retiredStack p (stackOf s n) else stackOf s i := by
  have hb : swf {} (retire n p s).mem.stackTable = true := modStack_swf hs n _
  have hk (j : Nat) : stackOf (retire n p s) j = if j = n then { stackOf s n with
      retired := insertNat (stackOf s n).retired p, spare := none, spareOk := false, trainFailures := 0 } else stackOf s j :=
    sget_sput hs
  rw [endRotation, stackOf_modStack hb, hk, hk, if_pos rfl]
  split <;> rfl

/-- Outside its stack, the end of a rotation whose channel is retired marks MEM_STATUS and detects 0x0304. -/
theorem retire_ended_noted (n p : Nat) (s : State) : (endRotation n (retire n p s)).mem.dram = s.mem.dram ∧
    (endRotation n (retire n p s)).fence = s.fence ∧ (endRotation n (retire n p s)).mem.channelRetired = true ∧
    ∃ d, (endRotation n (retire n p s)).faults.detected = s.faults.detected ++ [d] ∧ d.occ.source = 0x0304 :=
  ⟨rfl, rfl, rfl, _, rfl, rfl⟩

section End

variable {s : State} {n : Fin 16} {r : ChannelReport} (hr : stackRuns s n.val = true) (hs : swf {} s.mem.stackTable = true)
  (hp : (stackOf s n.val).rotPhase = 2)

include hr hs hp

/-- After a switch the report is on the channel rotated out. -/
theorem exec_channelRetrainDone_switched :
    let p := (stackOf s n.val).rotFrom
    let f := retrainFailed n.val p (laneRepaired s n.val r)
    exec (.channelRetrainDone n r) s =
      if r.passed then .next (endRotation n.val (becomeSpare n.val p (laneRepaired s n.val r)))
      else .next (if f.2 then endRotation n.val f.1 else f.1) := by
  have he : exec (.channelRetrainDone n r) s = execChannelRetrainDone n r s := rfl
  have hk := (stackOf_laneRepaired hs n.val r n.val).trans (if_pos rfl)
  rw [laneRepaired] at hk ⊢
  simp [he, execChannelRetrainDone, hk, hr, hp]

/-- The channel rotated out is the stack's spare once it passes. -/
theorem exec_channelRetrainDone_passed (h : r.passed = true) : exec (.channelRetrainDone n r) s =
    .next (endRotation n.val (becomeSpare n.val (stackOf s n.val).rotFrom (laneRepaired s n.val r))) :=
  (exec_channelRetrainDone_switched hr hs hp).trans (if_pos h)

/-- After its first failure it retrains once more, after its second it is retired. -/
theorem exec_channelRetrainDone_failed (h : r.passed = false) : exec (.channelRetrainDone n r) s = .next (
    if 1 ≤ (stackOf s n.val).trainFailures then
      endRotation n.val (retire n.val (stackOf s n.val).rotFrom (laneRepaired s n.val r))
    else modStack (laneRepaired s n.val r) n.val (fun k => { k with trainFailures := k.trainFailures + 1 })) := by
  have hk := (stackOf_laneRepaired hs n.val r n.val).trans (if_pos rfl)
  rw [exec_channelRetrainDone_switched hr hs hp, if_neg (by simp [h]), retrainFailed, hk]
  by_cases hf : 1 ≤ (stackOf s n.val).trainFailures
  · simp only [hf, if_true]
  · simp only [hf, if_false, Bool.false_eq_true]

end End

/-- The stack once its channel that was rotated out has retrained. -/
def retrainedStack (n : Nat) (r : ChannelReport) (k : Stack) : Stack :=
  let m := { k with laneRepairs := r.laneRepairs }
  if r.passed then spareStack n k.rotFrom m
  else if k.trainFailures = 0 then { m with trainFailures := 1 }
  else retiredStack k.rotFrom m

/-- What CHANNEL_RETRAIN_DONE changes after a switch: its stack, and for a channel that is retired the mark in MEM_STATUS and
an occurrence of 0x0304 (12, R252, R254). -/
theorem exec_channelRetrainDone_retraining {s : State} {n : Fin 16} (hr : stackRuns s n.val = true)
    (hs : swf {} s.mem.stackTable = true) (hp : (stackOf s n.val).rotPhase = 2) (r : ChannelReport) :
    ∃ t, exec (.channelRetrainDone n r) s = .next t ∧
      (∀ i, stackOf t i = if i = n.val then retrainedStack n.val r (stackOf s n.val) else stackOf s i) ∧
      t.mem.dram = s.mem.dram ∧ t.fence = s.fence ∧ (r.passed = true → t.faults = s.faults) ∧
      (r.passed = false → 1 ≤ (stackOf s n.val).trainFailures → t.mem.channelRetired = true ∧
        ∃ d, t.faults.detected = s.faults.detected ++ [d] ∧ d.occ.source = 0x0304) := by
  have hl : swf {} (laneRepaired s n.val r).mem.stackTable = true := modStack_swf hs n.val _
  have hlane := stackOf_laneRepaired hs n.val r
  obtain ⟨hdram, hfence, hfaults⟩ := laneRepaired_kept s n.val r
  cases h : r.passed with
  | true =>
    obtain ⟨hdram', hfence', hfaults'⟩ := becomeSpare_ended_kept n.val (stackOf s n.val).rotFrom (laneRepaired s n.val r)
    refine ⟨_, exec_channelRetrainDone_passed hr hs hp h, fun i => ?_, hdram'.trans hdram, hfence'.trans hfence,
      fun _ => hfaults'.trans hfaults, nofun⟩
    rw [stackOf_becomeSpare_ended hl, hlane, hlane, if_pos rfl, retrainedStack, h]
    split <;> rfl
  | false =>
    by_cases hf : (stackOf s n.val).trainFailures = 0
    · have hn := Nat.one_le_iff_ne_zero.not.mpr (not_not_intro hf)
      refine ⟨_, (exec_channelRetrainDone_failed hr hs hp h).trans (congrArg _ (if_neg hn)), fun i => ?_, hdram, hfence, nofun,
        fun _ h1 => absurd h1 hn⟩
      rw [stackOf_modStack hl, hlane, hlane, if_pos rfl, retrainedStack, h, hf]
      split <;> rfl
    · obtain ⟨hdram', hfence', hnoted⟩ := retire_ended_noted n.val (stackOf s n.val).rotFrom (laneRepaired s n.val r)
      rw [hfaults] at hnoted
      refine ⟨_, (exec_channelRetrainDone_failed hr hs hp h).trans (congrArg _ (if_pos (Nat.one_le_iff_ne_zero.mpr hf))),
        fun i => ?_, hdram'.trans hdram, hfence'.trans hfence, nofun, fun _ _ => hnoted⟩
      rw [stackOf_retire_ended hl, hlane, hlane, if_pos rfl, retrainedStack, h, if_neg hf]
      split <;> rfl

/-! The obligation -/

/-- Refutes O42: the clause on a channel that passes fails for a channel of number 255, since a stack of the table whose spare
is written as 255 has its default spare. A near stack in phase 2 that leaves channel 255 gets channel 32 as its spare. -/
theorem not_rotationsMoveAChannelToTheSpare : ¬ Obligations.RotationsMoveAChannelToTheSpare := by
  unfold Obligations.RotationsMoveAChannelToTheSpare
  intro h
  let k : Stack := { trained := true, rotPhase := 2, rotFrom := 255, spareOk := false }
  let s : State := { State.reset with
    dev := { State.reset.dev with mode := .idle }, mem := { State.reset.mem with stackTable := [(0, k)] } }
  let r : ChannelReport := ⟨true, 0, 32⟩
  have hr : stackRuns s 0 = true := by decide
  have hs : swf {} s.mem.stackTable = true := by decide
  obtain ⟨-, -, -, -, hend⟩ := h 0 s hr hs
  obtain ⟨t, ht, -, -, -, -, hpassed, -⟩ := hend r rfl
  obtain ⟨hspare, -⟩ := hpassed rfl
  have he := exec_channelRetrainDone_passed (n := 0) (r := r) hr hs rfl rfl
  obtain rfl := Host.Outcome.next.inj (ht.symm.trans he)
  have hl : swf {} (laneRepaired s 0 r).mem.stackTable = true := modStack_swf hs 0 _
  have h32 := (stackOf_becomeSpare_ended hl 0 255 0).trans (if_pos rfl)
  exact absurd (hspare.symm.trans ((congrArg (spareOf 0) h32).trans (spareOf_spareStack 0 255 _))) (by decide)

/-- All that the refuted statement says of rotations holds where a channel that passes is not of number 255; the physical
channels of a stack are at most 33 (12, R240). -/
theorem rotations_of_channel_ne_mark (n : Fin 16) (s : State) (hr : stackRuns s n.val = true)
    (hs : swf {} s.mem.stackTable = true) :
    let k := stackOf s n.val
    (s.mem.rotateInterval ≠ 0 → (spareOf n.val k).isSome = true →
      exec (.rotateIntervalExpiry n) s = .next (modStack s n.val (fun k => { k with routine := true }))) ∧
    (s.mem.rotateInterval = 0 → exec (.rotateIntervalExpiry n) s = .next s) ∧
    (∀ q, k.spareOk = true → k.rotPhase = 0 → spareOf n.val k = some q →
      (∀ l rest, k.repairs = l :: rest → exec (.rotationStart n) s = .next (modStack s n.val (fun k => { k with
        repairs := rest, rotPhase := 1, rotLogical := l, rotFrom := physOf k l, rotTo := q }))) ∧
      (k.repairs = [] → k.routine = true →
        let l := k.nextRoutine % activeOf s.fence n.val
        exec (.rotationStart n) s = .next (modStack s n.val (fun k => { k with
          routine := false, nextRoutine := (k.nextRoutine + 1) % activeOf s.fence n.val
          rotPhase := 1, rotLogical := l, rotFrom := physOf k l, rotTo := q })))) ∧
    (k.rotPhase = 1 → poisonedBursts s n.val k.rotFrom = [] → memWf s.mem.dram = true → swf none k.map = true →
      ∃ t, exec (.rotationSwitch n) s = .next t ∧ physOf (stackOf t n.val) k.rotLogical = k.rotTo ∧
        (stackOf t n.val).rotPhase = 2 ∧ (stackOf t n.val).spareOk = false ∧ (stackOf t n.val).spare = none ∧
        (∀ o < channelSpan, mget t.mem.dram (dramKey n.val k.rotTo 0 + o) = mget s.mem.dram (dramKey n.val k.rotFrom 0 + o)) ∧
        (∀ a, (a < dramKey n.val k.rotTo 0 ∨ dramKey n.val k.rotTo 0 + channelSpan ≤ a) →
          mget t.mem.dram a = mget s.mem.dram a) ∧
        (∀ i, i ≠ n.val → stackOf t i = stackOf s i) ∧ t.links = s.links ∧ t.fence = s.fence ∧ t.dev = s.dev) ∧
    ∀ r : ChannelReport, k.rotPhase = 2 → ∃ t, exec (.channelRetrainDone n r) s = .next t ∧
      (stackOf t n.val).laneRepairs = r.laneRepairs ∧ (∀ i, i ≠ n.val → stackOf t i = stackOf s i) ∧
      t.mem.dram = s.mem.dram ∧ t.fence = s.fence ∧
      (r.passed = true → (k.rotFrom ≠ 255 → spareOf n.val (stackOf t n.val) = some k.rotFrom) ∧
        (stackOf t n.val).spareOk = true ∧
        (stackOf t n.val).rotPhase = 0 ∧ (stackOf t n.val).rotations = satInc k.rotations ∧ t.faults = s.faults) ∧
      (r.passed = false → 1 ≤ k.trainFailures → k.rotFrom ∈ (stackOf t n.val).retired ∧
        (stackOf t n.val).spareOk = false ∧ (stackOf t n.val).rotPhase = 0 ∧ t.mem.channelRetired = true ∧
        ∃ d, t.faults.detected = s.faults.detected ++ [d] ∧ d.occ.source = 0x0304) ∧
      (r.passed = false → k.trainFailures = 0 → (stackOf t n.val).rotPhase = 2 ∧ (stackOf t n.val).trainFailures = 1) := by
  intro k
  refine ⟨exec_rotateIntervalExpiry_queued hr, exec_rotateIntervalExpiry_of_zero, fun q hok hp hq =>
    ⟨fun l rest h => exec_rotationStart_repair hr hok hp hq h, exec_rotationStart_routine hr hok hp hq⟩, ?switch, ?retrain⟩
  case switch =>
    intro hp hq hm hmap
    obtain ⟨hphys, hothers⟩ := rotationSwitched_stacks hs hmap
    have hbytes := mget_rotationSwitched (n := n.val) hm
    have hk : stackOf (rotationSwitched n.val s) n.val = switchedStack k := (sget_sput hs).trans (if_pos rfl)
    refine ⟨_, exec_rotationSwitch hr hp hq, hphys, congrArg _ hk, congrArg _ hk, congrArg _ hk, fun o ho => ?_, fun a ha => ?_,
      hothers, rfl, rfl, rfl⟩
    · rw [hbytes, if_pos ⟨Nat.le_add_right .., Nat.add_lt_add_left ho _⟩, Nat.add_sub_cancel_left, Nat.add_comm o]
    · exact (hbytes a).trans (if_neg (fun hin => ha.elim (Nat.not_lt.mpr hin.1) (Nat.not_le.mpr hin.2)))
  case retrain =>
    intro r hp
    obtain ⟨t, he, hstacks, hdram, hfence, hpassed, hretired⟩ := exec_channelRetrainDone_retraining hr hs hp r
    refine ⟨t, he, ?_, fun i hi => (hstacks i).trans (if_neg hi), hdram, hfence, fun h => ?_, fun h hf => ?_, fun h hf => ?_⟩
    all_goals rw [hstacks, if_pos rfl, retrainedStack]
    · split
      · rfl
      · split <;> rfl
    · rw [if_pos h]
      refine ⟨fun hne => ?_, rfl, rfl, rfl, hpassed h⟩
      rw [spareOf_spareStack, if_neg hne]
    · rw [if_neg (by simp [h]), if_neg (Nat.one_le_iff_ne_zero.mp hf)]
      exact ⟨mem_insertNat _ _, rfl, rfl, hretired h hf⟩
    · rw [if_neg (by simp [h]), if_pos hf]
      exact ⟨hp, rfl⟩

end Sys2Proof.Machine
end

section
/-! The queue of waiting commands (13, R273; log 1): no command changes it, because every operation of the block keeps it. -/

namespace Sys2Proof.Machine

/-- Every command keeps what is asked for: of each command's meaning, Laws/Kept* say that it does. -/
theorem exec_kept {ask : Ask} {c : Instr} {s : State} (hs : Kept ask s) : KeptOut ask (exec c s) := by
  cases c <;> simp [exec, hs]

/-- Settles O2: every command keeps the queue that the state before it holds. -/
theorem execKeepsTheQueue : Obligations.ExecKeepsTheQueue := fun _ s t h =>
  (exec_kept (ask := ⟨s.pending, False, False⟩) ⟨rfl, False.elim, ⟨False.elim, False.elim, False.elim, False.elim⟩,
    False.elim, False.elim⟩ t h).1

end Sys2Proof.Machine
end

section
/-! The life of the device (13, R268; 14, R305 to R309): STATE, ACTIVITY and a zeroisation in progress. All but a few operations of
the block leave the three as they are: one equation for each, in the form that lets simp compose them. -/

namespace Sys2Proof.Machine
open Sys2Proof.Claims

/-- STATE, whether a zeroisation runs, and ACTIVITY. -/
def life (s : State) : Mode × Bool × BitVec 4 := (s.dev.mode, s.mem.zeroising, s.dev.activity)

/-! The forms that the equations meet -/

@[simp] theorem life_mk {a b c d e f g h i j k l m n o p q r t u w x y z a1 a2 a3 a4} :
    life (State.mk a b c d e f g h i j k l m n o p q r t u w x y z a1 a2 a3 a4) = (b.mode, q.zeroising, b.activity) := by
  constructor

@[simp] theorem life_parts {s : State} : (s.dev.mode, s.mem.zeroising, s.dev.activity) = life s := by
  constructor

@[simp] theorem life_ite {c : Prop} [Decidable c] {s t : State} :
    life (if c then s else t) = if c then life s else life t := apply_ite life c s t

@[simp] theorem life_fst_ite {α : Type} {c : Prop} [Decidable c] {s t : State × α} :
    life (if c then s else t).1 = if c then life s.1 else life t.1 := apply_ite (fun x => life x.1) c s t

@[simp] theorem zeroising_ite {c : Prop} [Decidable c] {m n : Memory} :
    (if c then m else n).zeroising = if c then m.zeroising else n.zeroising := apply_ite Memory.zeroising c m n

@[simp] theorem life_elim {α : Type} {o : Option α} {s : State} {f : α → State} (hf : ∀ x, life (f x) = life s) :
    life (o.elim s f) = life s := by
  cases o with
  | none => rfl
  | some x => exact hf x

@[simp] theorem zeroising_elim {α : Type} {o : Option α} {m : Memory} {f : α → Memory}
    (hf : ∀ x, (f x).zeroising = m.zeroising) : (o.elim m f).zeroising = m.zeroising := by
  cases o with
  | none => rfl
  | some x => exact hf x

@[simp] theorem life_foldl {α : Type} {g : State → α → State} (hg : ∀ t x, life (g t x) = life t) {l : List α} {s : State} :
    life (l.foldl g s) = life s :=
  l.foldlRecOn g (motive := fun t => life t = life s) rfl (fun t ht x _ => (hg t x).trans ht)

@[simp] theorem life_foldl_fst {α β : Type} {g : State × β → α → State × β} (hg : ∀ t x, life (g t x).1 = life t.1)
    {l : List α} {s : State × β} : life (l.foldl g s).1 = life s.1 :=
  l.foldlRecOn g (motive := fun t => life t.1 = life s.1) rfl (fun t ht x _ => (hg t x).trans ht)

@[simp] theorem zeroising_foldl {α : Type} {g : Memory → α → Memory} (hg : ∀ m x, (g m x).zeroising = m.zeroising)
    {l : List α} {m : Memory} : (l.foldl g m).zeroising = m.zeroising :=
  l.foldlRecOn g (motive := fun n => n.zeroising = m.zeroising) rfl (fun n hn x _ => (hg n x).trans hn)

/-! Machine/Ops.lean -/

@[simp] theorem modHearth_life {s h f} : life (modHearth s h f) = life s := by simp [modHearth]
@[simp] theorem modLink_life {s k f} : life (modLink s k f) = life s := by simp [modLink]
@[simp] theorem modStack_life {s n f} : life (modStack s n f) = life s := by simp [modStack]
@[simp] theorem modStack_zeroising {s n f} : (modStack s n f).mem.zeroising = s.mem.zeroising := by simp [modStack]
@[simp] theorem modMail_life {s m f} : life (modMail s m f) = life s := by simp [modMail]
@[simp] theorem modSource_life {s code f} : life (modSource s code f) = life s := by simp [modSource]
@[simp] theorem modRetained_life {s r f} : life (modRetained s r f) = life s := by simp [modRetained]
@[simp] theorem send_life {s t} : life (send s t) = life s := by simp [send]
@[simp] theorem detect_life {s o forced} : life (detect s o forced) = life s := by simp [detect]

/-! Machine/Dram.lean -/

@[simp] theorem placeWrite_zeroising {m p o bs} : (placeWrite m p o bs).zeroising = m.zeroising := by simp [placeWrite, dramPut]
@[simp] theorem spanWrite_zeroising {s r} : ∀ {l m bs}, (spanWrite s r m l bs).zeroising = m.zeroising
  | [], _, _ => rfl
  | _ :: _, _, _ => by rw [spanWrite, spanWrite_zeroising, placeWrite_zeroising]
@[simp] theorem regionWrite_zeroising {s r off bs} : (regionWrite s r off bs).zeroising = s.mem.zeroising := by simp [regionWrite]
@[simp] theorem noteRead_life {s r off len} : life (noteRead s r off len) = life s := by simp [noteRead, noteUncorrectable]
@[simp] theorem noteLatent_life {role s p} : life (noteLatent role s p) = life s := by simp [noteLatent]
@[simp] theorem stageRecord_life {s r} : life (stageRecord s r) = life s := by
  unfold stageRecord
  repeat' split
  all_goals simp
@[simp] theorem noteHostRead_life {s r off len} : life (noteHostRead s r off len) = life s := by simp [noteHostRead]

/-! Machine/Operands.lean -/

@[simp] theorem noteAt_life {source h} : ∀ {n s}, life (noteAt source h n s) = life s
  | 0, _ => rfl
  | _ + 1, _ => by rw [noteAt, noteAt_life, detect_life]
@[simp] theorem withEcc_life {c struck writes t} : life (withEcc c struck writes t) = life t := by simp [withEcc]
@[simp] theorem noteTag_life {s t} : life (noteTag s t) = life s := by
  unfold noteTag
  repeat' split
  all_goals simp
@[simp] theorem tagWrite_zeroising {s t t32} : (tagWrite s t t32).zeroising = s.mem.zeroising := by
  unfold tagWrite
  split <;> simp

/-! Machine/Matrix.lean -/

@[simp] theorem matmulRun_life {s c} : life (matmulRun s c) = life s := by simp [matmulRun, matmulTags]

/-! Machine/Convert.lean -/

@[simp] theorem convertRun_life {s c} : life (convertRun s c) = life s := by simp [convertRun]
@[simp] theorem discardRun_life {s c} : life (discardRun s c) = life s := by simp [discardRun]

/-! Machine/Vector.lean -/

@[simp] theorem vecDone_life {s c spad st} : life (vecDone s c spad st) = life s := by simp [vecDone]
@[simp] theorem vecRun_life {s c n f} : life (vecRun s c n f) = life s := by simp [vecRun]

/-! Machine/Sampling.lean -/

@[simp] theorem rowDone_life {s c spad st} : life (rowDone s c spad st) = life s := by simp [rowDone]
@[simp] theorem softmaxRun_life {s c} : life (softmaxRun s c) = life s := by simp [softmaxRun]
@[simp] theorem sampleRun_life {s c} : life (sampleRun s c) = life s := by simp [sampleRun]

/-! Machine/Trees.lean -/

@[simp] theorem noteNodes_life {s l} : life (noteNodes s l) = life s := by simp [noteNodes]

/-! Machine/Bellows.lean -/

@[simp] theorem bellowsDone_life {s c spad st bad} : life (bellowsDone s c spad st bad) = life s := by simp [bellowsDone]

/-! Machine/UpdateOps.lean -/

@[simp] theorem opened_life {s} : life (opened s) = life s := by simp [opened]
@[simp] theorem updDone_life {s c spad st} : life (updDone s c spad st) = life s := by simp [updDone]
@[simp] theorem updRun_life {r c s} : life (updRun r c s) = life s := by simp [updRun]
@[simp] theorem decodeRun_life {c s} : life (decodeRun c s) = life s := by simp [decodeRun]
@[simp] theorem noteGrad_life {s c} : life (noteGrad s c) = life s := by simp [noteGrad]

/-! Machine/Transfer.lean -/

@[simp] theorem dropLine_zeroising {m key} : (dropLine m key).zeroising = m.zeroising := by simp [dropLine]
@[simp] theorem allocKeep_zeroising {s m key} : (allocKeep s m key).zeroising = m.zeroising := by simp [allocKeep]
@[simp] theorem readLine_life {r hint acc off} : life (readLine r hint acc off).1 = life acc.1 := by
  unfold readLine
  dsimp only
  repeat' split
  all_goals simp
@[simp] theorem dataRead_life {s r hint off len} : life (dataRead s r hint off len).1 = life s := by simp [dataRead]
@[simp] theorem noteLine_zeroising {s r hint m x} : (noteLine s r hint m x).zeroising = m.zeroising := by
  unfold noteLine
  dsimp only
  repeat' split
  all_goals simp
@[simp] theorem writeLast_life {r s x} : life (writeLast r s x) = life s := by
  unfold writeLast
  dsimp only
  repeat' split
  all_goals simp
@[simp] theorem dataWrite_life {s r hint off bs} : life (dataWrite s r hint off bs) = life s := by simp [dataWrite]
@[simp] theorem flFresh_life {e s} : life (flFresh e s) = life s := by simp [flFresh]
@[simp] theorem spadPut_life {s h a bs} : life (spadPut s h a bs) = life s := by simp [spadPut]
@[simp] theorem flueIn_life {h e s r} : life (flueIn h e s r) = life s := by simp [flueIn]
@[simp] theorem flueOut_life {h e s r} : life (flueOut h e s r) = life s := by simp [flueOut]
@[simp] theorem flueCopy_life {e s r ring} : life (flueCopy e s r ring) = life s := by
  simp [flueCopy]
@[simp] theorem flueRegion_life {h e s r} : life (flueRegion h e s r) = life s := by
  unfold flueRegion
  split
  · simp
  · simp
  · cases roleRegion s 4 <;> simp
  · rfl
@[simp] theorem flueLocal_life {h e s} : life (flueLocal h e s) = life s := by
  unfold flueLocal
  repeat' split
  all_goals simp
@[simp] theorem atomicOn_life {h e s r} : life (atomicOn h e s r) = life s := by simp [atomicOn]

/-! Machine/Geometry.lean -/

@[simp] theorem remapOne_life {s h} : life (remapOne s h) = life s := by
  unfold remapOne
  repeat' split
  all_goals simp
@[simp] theorem remapFenced_life {s} : life (remapFenced s) = life s := by simp [remapFenced]
@[simp] theorem fenceHearth_life {s h} : life (fenceHearth s h) = life s := by simp [fenceHearth]

/-! Machine/Fabric.lean -/

@[simp] theorem refreshDepth_life {s} : life (refreshDepth s) = life s := by simp [refreshDepth]
@[simp] theorem refreshParent_life {s} : life (refreshParent s) = life s := by simp [refreshParent]
@[simp] theorem queueControl_life {c s k} : life (queueControl c s k) = life s := by simp [queueControl]
@[simp] theorem floodBut_life {skip c s} : life (floodBut skip c s) = life s := by simp [floodBut]
@[simp] theorem originate_life {code payload s} : life (originate code payload s) = life s := by simp [originate]

/-! Machine/Channels.lean -/

@[simp] theorem sendBulk_life {s c typ flags body} : life (sendBulk s c typ flags body) = life s := by simp [sendBulk, sendMsg]
@[simp] theorem modChannel_life {s id f} : life (modChannel s id f) = life s := by simp [modChannel]
@[simp] theorem drainUnits_life {s n} : life (drainUnits s n) = life s := by simp [drainUnits]
@[simp] theorem dropChannel_life {s id} : life (dropChannel s id) = life s := by simp [dropChannel]
@[simp] theorem closeChannel_life {reason code s c} : life (closeChannel reason code s c) = life s := by simp [closeChannel]
@[simp] theorem closeKinds_life {kinds reason s} : life (closeKinds kinds reason s) = life s := by simp [closeKinds]
@[simp] theorem discard_life {s n} : life (discard s n) = life s := by simp [discard]
@[simp] theorem sendAck_life {s c w} : life (sendAck s c w) = life s := by simp [sendAck]
@[simp] theorem sendUnits_life {c flags} : ∀ {n u k s}, life (sendUnits c flags n u k s) = life s
  | 0, _, _, _ => rfl
  | _ + 1, _, _, _ => by
    unfold sendUnits
    split
    · rfl
    · rw [sendUnits_life, sendBulk_life]
@[simp] theorem pump_life {s id} : life (pump s id) = life s := by
  unfold pump
  repeat' split
  all_goals simp
@[simp] theorem feed_life {s id bs ends} : life (feed s id bs ends) = life s := by simp [feed]
@[simp] theorem chimneyStart_life {s c r} : life (chimneyStart s c r) = life s := by simp [chimneyStart]
@[simp] theorem chimneyPut_life {s r} : life (chimneyPut s r) = life s := by
  unfold chimneyPut
  repeat' split
  all_goals simp
@[simp] theorem chimneyDone_life {s c} : life (chimneyDone s c) = life s := by
  unfold chimneyDone
  repeat' split
  all_goals simp

/-! Machine/Sequencer.lean -/

@[simp] theorem applyDecision_life {s} : life (applyDecision s) = life s := by
  unfold applyDecision
  repeat' split
  all_goals simp
@[simp] theorem chimneyStep_life {s n time replays frames ids} : life (chimneyStep s n time replays frames ids) = life s := by
  unfold chimneyStep
  repeat' split
  all_goals simp
@[simp] theorem enterSeg_life {s pos} : life (enterSeg s pos) = life s := by simp [enterSeg]
@[simp] theorem clearStats_life {s} : life (clearStats s) = life s := by simp [clearStats]
@[simp] theorem clearDigests_life {s} : life (clearDigests s) = life s := by simp [clearDigests]
@[simp] theorem clearStepCounts_life {s} : life (clearStepCounts s) = life s := by simp [clearStepCounts]
@[simp] theorem returnLinks_life {s} : life (returnLinks s) = life s := by simp [returnLinks]
@[simp] theorem closeStages_life {s n} : life (closeStages s n) = life s := by simp [closeStages]
@[simp] theorem beginStep_life {s n} : life (beginStep s n) = life s := by simp [beginStep, recordStep]
@[simp] theorem restoreCopy_life {s c} : life (restoreCopy s c) = life s := by
  unfold restoreCopy
  split
  · dsimp only; split <;> simp
  · rfl
@[simp] theorem commitChunk_life {k s} : life (commitChunk k s) = life s := by simp [commitChunk]
@[simp] theorem settleChunk_life {f s k} : life (settleChunk f s k) = life s := by
  unfold settleChunk restoreChunk dropCopy
  repeat' split
  all_goals simp
@[simp] theorem settleChunks_life {s f} : life (settleChunks s f) = life s := by simp [settleChunks]

/-! Machine/Statistics.lean -/

@[simp] theorem freezeRecords_life {s} : life (freezeRecords s) = life s := by simp [freezeRecords]

/-! Machine/Mail.lean -/

@[simp] theorem lockRead_life {s m a} : life (lockRead s m a).1 = life s := by simp [lockRead]
@[simp] theorem lockWrite_life {s m a v} : life (lockWrite s m a v).1 = life s := by simp [lockWrite]
@[simp] theorem goWrite_life {s m a len code} : life (goWrite s m a len code).1 = life s := by simp [goWrite]
@[simp] theorem withdrawWrite_life {s m a} : life (withdrawWrite s m a).1 = life s := by simp [withdrawWrite]
@[simp] theorem takenWrite_life {s m a} : life (takenWrite s m a).1 = life s := by simp [takenWrite]
@[simp] theorem doneWrite_life {s m a len} : life (doneWrite s m a len).1 = life s := by simp [doneWrite]
@[simp] theorem rejectedWrite_life {s m a} : life (rejectedWrite s m a).1 = life s := by simp [rejectedWrite]
@[simp] theorem wordWrite_life {s m a i v} : life (wordWrite s m a i v).1 = life s := by simp [wordWrite]
@[simp] theorem clearAbsent_life {s} : life (clearAbsent s) = life s := by simp [clearAbsent]
@[simp] theorem releaseSender_life {a s} : life (releaseSender a s) = life s := by simp [releaseSender]
@[simp] theorem diesOff_life {s} : life (diesOff s) = life s := by simp [diesOff]

/-! Machine/Assay.lean -/

@[simp] theorem closeRecord_life {s flags fabricEnd endTime endEnergy work} :
    life (closeRecord s flags fabricEnd endTime endEnergy work) = life s := by
  unfold closeRecord
  split <;> rfl
@[simp] theorem closeAt_life {s m flags fabricEnd} : life (closeAt s m flags fabricEnd) = life s := by simp [closeAt]
@[simp] theorem openRecord_life {s m x} : life (openRecord s m x) = life s := by simp [openRecord]

/-! Machine/Collector.lean -/

@[simp] theorem countOccurrence_life {s i o} : life (countOccurrence s i o) = life s := by
  unfold countOccurrence countHearth
  repeat' split
  all_goals simp
@[simp] theorem classify_life {s d} : life (classify s d).1 = life s := by
  unfold classify logOccurrence sendEvent qualify noteLost
  dsimp only
  repeat' split
  all_goals simp
@[simp] theorem drain_life {s} : life (drain s) = life s := by simp [drain]

/-! Machine/Lifecycle.lean -/

@[simp] theorem pushEnd_life {reason s} : life (pushEnd reason s) = life s := by simp [pushEnd]
@[simp] theorem pushStart_life {s} : life (pushStart s) = life s := by simp [pushStart]
@[simp] theorem endContext_life {result s} : life (endContext result s) = life s := by simp [endContext]
@[simp] theorem cutHashes_life {s} : life (cutHashes s) = life s := by simp [cutHashes]
@[simp] theorem unmapAll_life {s} : life (unmapAll s) = life s := by simp [unmapAll]
@[simp] theorem replaceLost_zeroising {active n m} : (replaceLost active n m).zeroising = m.zeroising := by
  unfold replaceLost
  dsimp only
  repeat' split
  all_goals simp
@[simp] theorem replaceAll_zeroising {f m} : (replaceAll f m).zeroising = m.zeroising := by simp [replaceAll]
@[simp] theorem selfRefreshAll_life {s} : life (selfRefreshAll s) = life s := by simp [selfRefreshAll]
@[simp] theorem startLinks_life {s} : life (startLinks s) = life s := by simp [startLinks]
@[simp] theorem trainStacks_life {s} : life (trainStacks s) = life s := by simp [trainStacks]
@[simp] theorem lockAtIdle_life {s} : life (lockAtIdle s) = life s := by simp [lockAtIdle]
@[simp] theorem verifyFirmware_life {s} : life (verifyFirmware s) = life s := by simp [verifyFirmware]
@[simp] theorem raiseCounters_life {s} : life (raiseCounters s) = life s := by simp [raiseCounters]
@[simp] theorem returnJob_life {s} : life (returnJob s) = life s := by simp [returnJob]
@[simp] theorem riseErr_life {s} : life (riseErr s) = life s := by simp [riseErr]

/-! Machine/Halt.lean -/

@[simp] theorem noteHalt_life {s h} : life (noteHalt s h) = life s := by simp [noteHalt]
@[simp] theorem startDiag_life {s} : life (startDiag s) = life s := by simp [startDiag]
@[simp] theorem raiseHalt_life {h s} : life (raiseHalt h s) = life s := by simp [raiseHalt, queueHalt]
@[simp] theorem haltFor_life {c s} : life (haltFor c s) = life s := by simp [haltFor]
@[simp] theorem imageStop_life {s} : life (imageStop s) = life s := by simp [imageStop]
@[simp] theorem reactHearth_life {h s} : life (reactHearth h s) = life s := by simp [reactHearth]
@[simp] theorem downDirection_life {k f s} : life (downDirection k f s) = life s := by simp [downDirection, scheduleDown]
@[simp] theorem reactLink_life {k s} : life (reactLink k s) = life s := by simp [reactLink]
@[simp] theorem reactStack_life {c applied s} : life (reactStack c applied s) = life s := by simp [reactStack, fenceStack]
@[simp] theorem tripEffects_life {s} : life (tripEffects s) = life s := by simp [tripEffects]
@[simp] theorem noteCorrected_life {n l s} : life (noteCorrected n l s) = life s := by simp [noteCorrected]
@[simp] theorem loseChannel_life {n l s} : life (loseChannel n l s) = life s := by simp [loseChannel]
@[simp] theorem poisonOne_life {n l s} : life (poisonOne n l s) = life s := by simp [poisonOne]
@[simp] theorem stackNotes_life {code n l s} : life (stackNotes code n l s) = life s := by
  unfold stackNotes
  split <;> simp
@[simp] theorem unitNotes_life {o s} : life (unitNotes o s) = life s := by
  unfold unitNotes strikeWord
  repeat' split
  all_goals simp
@[simp] theorem handleHalt_life {s c} : life (handleHalt s c) = life s := by simp [handleHalt, forwardHalt]
@[simp] theorem takeReplay_life {r s} : life (takeReplay r s) = life s := by simp [takeReplay, applyReplay]
@[simp] theorem announceReplay_life {frame entry s} : life (announceReplay frame entry s) = life s := by simp [announceReplay]
@[simp] theorem announceNow_life {s} : life (announceNow s) = life s := by
  unfold announceNow
  repeat' split
  all_goals simp
@[simp] theorem clearFor_life {kind s} : life (clearFor kind s) = life s := by simp [clearFor, clearAfterCast]
@[simp] theorem replayList_life {s} : life (replayList s) = life s := by simp [replayList]
@[simp] theorem dropLast_life {s} : life (dropLast s) = life s := by simp [dropLast]
@[simp] theorem dropDecision_life {kind s} : life (dropDecision kind s) = life s := by simp [dropDecision]
@[simp] theorem freshSeeds_life {s} : life (freshSeeds s) = life s := by simp [freshSeeds]
@[simp] theorem badCell_life {s k} : life (badCell s k) = life s := by simp [badCell]

/-! Machine/Cells.lean -/

@[simp] theorem slotCells_life {s} : life (slotCells s) = life s := by simp [slotCells, transmitEntry, countStat, expectEntry]
@[simp] theorem missCells_life {n s k} : life (missCells n s k) = life s := by simp [missCells]
@[simp] theorem deadlines_life {s} : life (deadlines s) = life s := by simp [deadlines]
@[simp] theorem makeUp_life {s} : life (makeUp s) = life s := by simp [makeUp, sendRequests, sendRetries, dropCopies]
@[simp] theorem arrived_life {s k slot index} : life (arrived s k slot index) = life s := by simp [arrived]
@[simp] theorem relayCell_life {s k c} : life (relayCell s k c) = life s := by
  unfold relayCell
  repeat' split
  all_goals simp
@[simp] theorem arrive_life {s k c} : life (arrive s k c) = life s := by
  unfold arrive acceptCell handOver takeStat
  repeat' split
  all_goals simp
@[simp] theorem sendCommitOn_life {c s l} : life (sendCommitOn c s l) = life s := by simp [sendCommitOn]
@[simp] theorem sendToken_life {s k} : life (sendToken s k) = life s := by
  unfold sendToken
  repeat' split
  all_goals simp
@[simp] theorem commitSlot_life {s} : life (commitSlot s) = life s := by
  unfold commitSlot compareCount sendCommit
  repeat' split
  all_goals simp

/-! Machine/Schedule.lean -/

@[simp] theorem refreshRequest_life {s} : life (refreshRequest s) = life s := by simp [refreshRequest]
@[simp] theorem announceRate_life {f s} : life (announceRate f s) = life s := by simp [announceRate]
@[simp] theorem applyRate_life {f s} : life (applyRate f s) = life s := by
  unfold applyRate
  repeat' split
  all_goals simp
@[simp] theorem stageUnit_life {c r s u} : life (stageUnit c r s u) = life s := by simp [stageUnit]
@[simp] theorem flushStage_life {s c} : life (flushStage s c) = life s := by
  unfold flushStage
  repeat' split
  all_goals simp
@[simp] theorem statsSlot_life {s} : life (statsSlot s) = life s := by simp [statsSlot]
@[simp] theorem servePeeks_life {s} : life (servePeeks s) = life s := by simp [servePeeks]
@[simp] theorem maintenance_life {s} : life (maintenance s) = life s := by simp [maintenance, flushStages, patrolScrub]
@[simp] theorem chimneyWindow_life {s} : life (chimneyWindow s) = life s := by simp [chimneyWindow]
@[simp] theorem beginTraining_life {s} : life (beginTraining s) = life s := by simp [beginTraining]
@[simp] theorem endSeg_life {s} : life (endSeg s) = life s := by simp [endSeg, endStats, normEnd, endChunk]
@[simp] theorem applyDown_life {f s} : life (applyDown f s) = life s := by simp [applyDown]
@[simp] theorem lockstep_life {ok s} : life (lockstep ok s) = life s := by simp [lockstep]
@[simp] theorem positionCell_life {p s k} : life (positionCell p s k) = life s := by
  unfold positionCell
  repeat' split
  all_goals simp

/-! Machine/Fallback.lean -/

@[simp] theorem takeNorm_life {q r s} : life (takeNorm q r s) = life s := by simp [takeNorm, noteSets, noteSeed]
@[simp] theorem decideStep_life {s t} : life (decideStep s t) = life s := by simp [decideStep]
@[simp] theorem takeFlags_life {s t} : life (takeFlags s t) = life s := by simp [takeFlags]
@[simp] theorem slotPassed_life {s} : life (slotPassed s) = life s := by simp [slotPassed]

/-! Machine/Links.lean -/

@[simp] theorem sourceFound_life {s} : life (sourceFound s) = life s := by simp [sourceFound]
@[simp] theorem sourceLost_life {s} : life (sourceLost s) = life s := by simp [sourceLost]
@[simp] theorem acceptPps_life {early s} : life (acceptPps early s) = life s := by simp [acceptPps]
@[simp] theorem noteDelay_life {s k d} : life (noteDelay s k d) = life s := by simp [noteDelay]
@[simp] theorem noteOffset_life {s o} : life (noteOffset s o) = life s := by simp [noteOffset, steer]
@[simp] theorem takeCode_life {s k t} : life (takeCode s k t) = life s := by simp [takeCode]
@[simp] theorem sendLinkDown_life {k f s} : life (sendLinkDown k f s) = life s := by
  unfold sendLinkDown
  repeat' split
  all_goals simp
@[simp] theorem refreshTree_life {s} : life (refreshTree s) = life s := by simp [refreshTree]
@[simp] theorem loseLink_life {k s} : life (loseLink k s) = life s := by simp [loseLink]
@[simp] theorem peerLoses_life {n s} : life (peerLoses n s) = life s := by simp [peerLoses]
@[simp] theorem noteUp_life {s k} : life (noteUp s k) = life s := by simp [noteUp]
@[simp] theorem fenceLinkNow_life {k s} : life (fenceLinkNow k s) = life s := by simp [fenceLinkNow]
@[simp] theorem failAttempt_life {k s} : life (failAttempt k s) = life s := by simp [failAttempt]
@[simp] theorem failWiring_life {k s} : life (failWiring k s) = life s := by simp [failWiring]
@[simp] theorem phasePassed_life {k r s} : life (phasePassed k r s) = life s := by simp [phasePassed, linkTrained]

/-! Machine/Stacks.lean -/

@[simp] theorem evaluate_life {u l s} : life (evaluate u l s) = life s := by simp [evaluate]
@[simp] theorem readStack_life {n t s} : life (readStack n t s) = life s := by simp [readStack]
@[simp] theorem gateDie_life {d l s} : life (gateDie d l s) = life s := by simp [gateDie]
@[simp] theorem readFar_life {s x} : life (readFar s x) = life s := by simp [readFar, watchFar]
@[simp] theorem copyLatent_life {n l s b} : life (copyLatent n l s b) = life s := by
  unfold copyLatent
  dsimp only
  repeat' split
  all_goals simp
@[simp] theorem becomeSpare_life {n p s} : life (becomeSpare n p s) = life s := by simp [becomeSpare]
@[simp] theorem endRotation_life {n s} : life (endRotation n s) = life s := by simp [endRotation]
@[simp] theorem retrainFailed_life {n p s} : life (retrainFailed n p s).1 = life s := by simp [retrainFailed, retire]
@[simp] theorem secondFailure_life {n l working s} : life (secondFailure n l working s) = life s := by simp [secondFailure]
@[simp] theorem endHash_life {r x s} : life (endHash r x s) = life s := by simp [endHash]

/-! Machine/Power.lean -/

@[simp] theorem setGood_life {g v s} : life (setGood g v s) = life s := by
  unfold setGood
  repeat' split
  all_goals simp
@[simp] theorem testEnded_life {h passed kat s} : life (testEnded h passed kat s) = life s := by simp [testEnded]

/-! Machine/Entries.lean -/

theorem life_lock {l : Bool} {s : State} {r : State × BitVec 32} {t : Nat} {b c : Bytes} (h : life r.1 = life s) :
    life (if l then (r.1, (0 : BitVec 16), t, c) else (s, 0, t, b)).1 = life s := by
  cases l with
  | true => exact h
  | false => rfl
@[simp] theorem readFound_life {s a i sub e x} : life (readFound s a i sub e x).1 = life s := life_lock lockRead_life
@[simp] theorem readWhole_life {s a i sub} : life (readWhole s a i sub).1 = life s := by
  unfold readWhole
  split
  · exact readFound_life
  · rfl
@[simp] theorem readPiece_life {s a i sub offset count} : life (readPiece s a i sub offset count).1 = life s := by
  unfold readPiece
  repeat' split
  all_goals simp

/-! Machine/Context.lean -/

@[simp] theorem writePlane_life {s r t n p bs} : life (writePlane s r t n p bs) = life s := by simp [writePlane]
@[simp] theorem prepareSuspended_life {s} : life (prepareSuspended s) = life s := by simp [prepareSuspended]
@[simp] theorem noteTensors_life {s} : life (noteTensors s) = life s := by simp [noteTensors]
@[simp] theorem noteSent_life {s} : life (noteSent s) = life s := by
  unfold noteSent
  repeat' split
  all_goals simp
@[simp] theorem restoreTensor_life {step b body s x} : life (restoreTensor step b body s x) = life s := by
  unfold restoreTensor
  dsimp only
  repeat' split
  all_goals simp
@[simp] theorem restoreValues_life {step body s} : life (restoreValues step body s) = life s := by simp [restoreValues]

/-! Machine/Commands.lean -/

@[simp] theorem setCode_life {r} : life (setCode r) = life r.1 := by simp [setCode]
@[simp] theorem guarded_life {conflict range busy s t} (ht : life t = life s) : life (guarded conflict range busy s t).1 = life s := by
  simp [guarded, ht]
@[simp] theorem resumeNow_life {s} : life (resumeNow s) = life s := by simp [resumeNow]
@[simp] theorem hearthResetNow_life {h s} : life (hearthResetNow h s) = life s := by simp [hearthResetNow]
@[simp] theorem addRecord_life {g s x} : life (addRecord g s x) = life s := by
  unfold addRecord
  repeat' split
  all_goals simp
@[simp] theorem pairRecords_life {g s} : life (pairRecords g s) = life s := by simp [pairRecords, dropRecord]
@[simp] theorem mapHearths_life {g s} : life (mapHearths g s) = life s := by simp [mapHearths]
@[simp] theorem writeInit_life {b s d} : life (writeInit b s d) = life s := by
  unfold writeInit
  split <;> simp
@[simp] theorem unsetTags_life {g s} : life (unsetTags g s) = life s := by simp [unsetTags]
@[simp] theorem writePrograms_life {g s} : life (writePrograms g s) = life s := by simp [writePrograms]

/-! Machine/Security.lean -/

@[simp] theorem writeJobKey_life {s offset key fit} : life (writeJobKey s offset key fit).1 = life s := by simp [writeJobKey]
@[simp] theorem writeNonce_life {s offset bs fit} : life (writeNonce s offset bs fit).1 = life s := by simp [writeNonce]
@[simp] theorem installObject_life {b s} : life (installObject b s) = life s := by
  unfold installObject
  repeat' split
  all_goals simp

/-! Machine/Writes.lean -/

@[simp] theorem ranged_life {ok s t} (ht : life t = life s) : life (ranged ok s t).1 = life s := by simp [ranged, ht]
@[simp] theorem inStates_life {l ok s t} (ht : life t = life s) : life (inStates l ok s t).1 = life s := by simp [inStates, ht]
@[simp] theorem writePort_life {s sub w} : life (writePort s sub w).1 = life s := by
  unfold writePort portConfigured
  repeat' split
  all_goals simp
@[simp] theorem writeProtocol_life {s sub w} : life (writeProtocol s sub w).1 = life s := by
  unfold writeProtocol
  repeat' split
  all_goals simp
@[simp] theorem writeHoldAfter_life {s w} : life (writeHoldAfter s w).1 = life s := by simp [writeHoldAfter]
@[simp] theorem writeTime_life {s sub w} : life (writeTime s sub w).1 = life s := by
  unfold writeTime writeStartTime writeTimeConfig newTimeRole writeTimeStatus writeTai
  repeat' split
  all_goals simp
@[simp] theorem writeRate_life {s w} : life (writeRate s w).1 = life s := by simp [writeRate]
@[simp] theorem writeTrain_life {s sub w} : life (writeTrain s sub w).1 = life s := by
  unfold writeTrain
  repeat' split
  all_goals simp
@[simp] theorem writeUpdate_life {s w} : life (writeUpdate s w).1 = life s := by simp [writeUpdate]
@[simp] theorem writeThresholds_life {s sub w} : life (writeThresholds s sub w).1 = life s := by
  unfold writeThresholds
  repeat' split
  all_goals simp
@[simp] theorem writeLinkEvents_life {s k w} : life (writeLinkEvents s k w).1 = life s := by simp [writeLinkEvents]
@[simp] theorem leaveData_life {k was s} : life (leaveData k was s) = life s := by simp [leaveData]
@[simp] theorem writeLinkControl_life {s k w} : life (writeLinkControl s k w).1 = life s := by
  simp [writeLinkControl, retrainNow, forceDownNow, releaseDown]
@[simp] theorem writeFabricId_life {s w} : life (writeFabricId s w).1 = life s := by simp [writeFabricId, relink]
@[simp] theorem writeRetrainLimit_life {s w} : life (writeRetrainLimit s w).1 = life s := by simp [writeRetrainLimit]
@[simp] theorem writeMemory_life {s sub w} : life (writeMemory s sub w).1 = life s := by
  unfold writeMemory
  repeat' split
  all_goals simp
@[simp] theorem writeRotate_life {s n w} : life (writeRotate s n w).1 = life s := by simp [writeRotate]
@[simp] theorem writeVerify_life {s r w} : life (writeVerify s r w).1 = life s := by simp [writeVerify, closeTarget]
@[simp] theorem writeHashFail_life {s r w} : life (writeHashFail s r w).1 = life s := by simp [writeHashFail]
@[simp] theorem writeFaults_life {s sub w} : life (writeFaults s sub w).1 = life s := by simp [writeFaults]
@[simp] theorem writeErr_life {s w} : life (writeErr s w).1 = life s := by simp [writeErr]
@[simp] theorem writeLogSelect_life {s w} : life (writeLogSelect s w).1 = life s := by simp [writeLogSelect]
@[simp] theorem writeLogClear_life {s w} : life (writeLogClear s w).1 = life s := by simp [writeLogClear]
@[simp] theorem writeSourceControl_life {s w} : life (writeSourceControl s w).1 = life s := by
  unfold writeSourceControl
  dsimp only
  repeat' split
  all_goals simp
@[simp] theorem writeSource_life {s sub w} : life (writeSource s sub w).1 = life s := by
  unfold writeSource writeSourceSelect
  repeat' split
  all_goals simp
@[simp] theorem writeMail_life {s a m sub w} : life (writeMail s a m sub w).1 = life s := by simp [writeMail, controlWrite]
@[simp] theorem writeMid_life {s i sub w} : life (writeMid s i sub w).1 = life s := by
  unfold writeMid writeRng writeSet writeFallback writeStatSelect writeChimney
  repeat' split
  all_goals simp
@[simp] theorem writeHigh_life {s i sub w} : life (writeHigh s i sub w).1 = life s := by
  unfold writeHigh
  repeat' split
  all_goals simp

/-! Machine/Requests.lean -/

@[simp] theorem authFail_life {s} : life (authFail s) = life s := by simp [authFail]
@[simp] theorem modSession_life {s n f} : life (modSession s n f) = life s := by simp [modSession]
@[simp] theorem readRequest_life {a b s} : life (readRequest a b s).1 = life s := by simp [readRequest]
@[simp] theorem blockRead_life {a b s} : life (blockRead a b s).1 = life s := by simp [blockRead, readItem]
@[simp] theorem drawNonce_life {s} : life (drawNonce s).1 = life s := by simp [drawNonce]
@[simp] theorem openRequest_life {m s} : life (openRequest m s).1 = life s := by
  unfold openRequest openSession
  repeat' split
  all_goals simp

/-! Machine/Bulk.lean -/

@[simp] theorem openChannel_life {session m s} : life (openChannel session m s).1 = life s := by simp [openChannel]
@[simp] theorem afterUnits_life {s id} : life (afterUnits s id) = life s := by
  unfold afterUnits finishFirmware
  repeat' split
  all_goals simp
@[simp] theorem dataOn_life {m c s} : life (dataOn m c s) = life s := by simp [dataOn, unitsAt, takeUnits, storeData, pauseBulk]
@[simp] theorem resend_life {c w received s} : life (resend c w received s) = life s := by simp [resend]

/-! Machine/Ports.lean -/

@[simp] theorem releaseTx_life {s} : life (releaseTx s) = life s := by simp [releaseTx]
@[simp] theorem pausePriority_life {quanta s p} : life (pausePriority quanta s p) = life s := by simp [pausePriority]
@[simp] theorem ptpTake_life {p s} : life (ptpTake p s) = life s := by
  unfold ptpTake ptpAnnounce ptpSynced ptpSteer
  repeat' split
  all_goals simp

/-! Machine/Monitor.lean -/

@[simp] theorem plain_life {r} : life (plain r).1 = life r.1 := by simp [plain]
@[simp] theorem monRead_life {i sub offset count s} : life (monRead i sub offset count s).1 = life s := by
  unfold monRead
  repeat' split
  all_goals simp
@[simp] theorem putWords_life {m} : ∀ {i ws s}, life (putWords m i ws s).1 = life s
  | _, [], _ => rfl
  | _, _ :: _, _ => by
    unfold putWords
    dsimp only
    split
    · rw [putWords_life, wordWrite_life]
    · rw [wordWrite_life]
@[simp] theorem mbSend_life {m code ws s} : life (mbSend m code ws s).1 = life s := by simp [mbSend]
@[simp] theorem monPeek_life {tier region offset len s} : life (monPeek tier region offset len s).1 = life s := by
  simp [monPeek]

/-! What a step may lead to -/

/-- What a step may lead to from a STATE: Confined holds, BANKED is left for FAULTED, BOOT or OFF alone, and FAULTED for BOOT or
OFF alone (13, R268). -/
def Follows (m : Mode) (l : Mode × Bool × BitVec 4) : Prop :=
  ((l.1 = .banked → l.2.1 = false) ∧ (l.1 = .faulted → l.2.1 = false ∧ l.2.2 = 0)) ∧
    (m = .banked → l.1 ∈ [Mode.banked, .faulted, .boot, .off]) ∧ (m = .faulted → l.1 ∈ [Mode.faulted, .boot, .off])

/-- The states to which neither BANKED nor FAULTED leads. -/
def AtWork (m : Mode) : Prop := m ∉ [Mode.banked, .faulted, .boot, .off]

section Rules
variable {m n k : Mode} {z w : Bool} {x y : BitVec 4} {s t : State}

@[simp] theorem follows_boot : Follows m (.boot, z, x) := by simp [Follows]
@[simp] theorem follows_off : Follows m (.off, z, x) := by simp [Follows]
@[simp] theorem follows_faulted : Follows m (.faulted, false, 0) := by simp [Follows]

theorem follows_of_confined (h : Confined s) : Follows s.dev.mode (life s) :=
  ⟨h, fun e => by simp [life, e], fun e => by simp [life, e]⟩

/-- Neither BANKED nor FAULTED leads to a state at work. -/
theorem Follows.left (h : Follows m (life s)) (hs : AtWork s.dev.mode) : m ≠ .banked ∧ m ≠ .faulted :=
  ⟨fun e => hs (h.2.1 e), fun e => hs (List.mem_cons_of_mem _ (h.2.2 e))⟩

theorem follows_of_left (hm : m ≠ .banked ∧ m ≠ .faulted) (hn : n ≠ .banked ∧ n ≠ .faulted) : Follows m (n, z, x) :=
  ⟨⟨fun e => absurd e hn.1, fun e => absurd e hn.2⟩, fun e => absurd e hm.1, fun e => absurd e hm.2⟩

theorem Follows.to (h : Follows m (life s)) (hs : AtWork s.dev.mode) (hn : n ≠ .banked ∧ n ≠ .faulted) : Follows m (n, z, x) :=
  follows_of_left (h.left hs) hn

theorem Follows.stays (h : Follows m (life s)) (hs : AtWork s.dev.mode) : Follows m (s.dev.mode, z, x) :=
  h.to hs ⟨fun e => by simp [AtWork, e] at hs, fun e => by simp [AtWork, e] at hs⟩

theorem Follows.banks (h : Follows m (life s)) (hs : AtWork s.dev.mode) : Follows m (.banked, false, x) :=
  ⟨⟨fun _ => rfl, nofun⟩, fun _ => List.mem_cons_self, fun e => absurd e (h.left hs).2⟩

/-- Any activity but in FAULTED. -/
theorem Follows.active (h : Follows m (life s)) (hs : s.dev.mode ≠ .faulted) : Follows m (s.dev.mode, s.mem.zeroising, x) :=
  ⟨⟨h.1.1, fun e => absurd e hs⟩, h.2⟩

/-- No activity in any state. -/
theorem Follows.ended (h : Follows m (life s)) : Follows m (s.dev.mode, s.mem.zeroising, 0) :=
  ⟨⟨h.1.1, fun e => ⟨(h.1.2 e).1, rfl⟩⟩, h.2⟩

theorem Follows.of_life (h : Follows m (life s)) (ht : life t = life s) : Follows m (life t) := ht ▸ h

@[simp] theorem follows_ite {c : Prop} [Decidable c] {a b : Mode × Bool × BitVec 4} :
    Follows m (if c then a else b) = if c then Follows m a else Follows m b := apply_ite (Follows m) c a b

theorem follows_foldl {α : Type} {g : State → α → State} (hg : ∀ t x, Follows m (life t) → Follows m (life (g t x)))
    (l : List α) (h : Follows m (life s)) : Follows m (life (l.foldl g s)) :=
  l.foldlRecOn g (motive := fun t => Follows m (life t)) h (fun t ht x _ => hg t x ht)

end Rules

/-! Resets, BANKED, FAULTED and HELD -/

section Changes
variable {m : Mode} {s : State}

@[simp] theorem coldReset_life {c} : life (coldReset s c) = (.boot, false, 0) := by constructor
@[simp] theorem warmReset_life : life (warmReset s) = (.boot, false, 0) := by simp [warmReset]
@[simp] theorem enterHeld_life {r} : life (enterHeld s r) = (.held, s.mem.zeroising, s.dev.activity) := by simp [enterHeld]

theorem jobReset_life : life (jobReset s) = (s.dev.mode, true, 4) := by
  have h : life (unmapAll (cutHashes (endContext 7 (closeKinds [1, 2, 3] 5 (pushEnd 0 (drain s)))))) = life s := by simp
  exact congrArg (fun l => (l.1, true, (4 : BitVec 4))) h

theorem enterBanked_life {c} : life (enterBanked c s) =
    if s.dev.mode = .banked ∨ s.dev.mode = .faulted then life s else (.banked, false, 0) := by
  unfold enterBanked
  split
  · rfl
  · rw [diesOff_life]
    rfl

theorem enterFaulted_life {c} : life (enterFaulted c s) = if s.dev.mode = .faulted then life s else (.faulted, false, 0) := by
  unfold enterFaulted
  split
  · rfl
  · dsimp only
    rw [diesOff_life]
    rfl

theorem enterBanked_follows {c} (h : Follows m (life s)) (hs : AtWork s.dev.mode) : Follows m (life (enterBanked c s)) := by
  rw [enterBanked_life]
  split
  · exact h
  · exact h.banks hs

theorem enterFaulted_follows {c} (h : Follows m (life s)) : Follows m (life (enterFaulted c s)) := by
  rw [enterFaulted_life]
  split
  · exact h
  · exact follows_faulted

/-! Occurrences (14, R290 to R293) -/

theorem reactBank_follows {c} (h : Follows m (life s)) : Follows m (life (reactBank c s)) := by
  unfold reactBank
  split
  case h_2 | h_3 | h_4 | h_5 => rename_i hm; exact enterBanked_follows h (by simp [AtWork, hm])
  all_goals exact h

theorem reactFault_follows {c} (h : Follows m (life s)) : Follows m (life (reactFault c s)) := by
  unfold reactFault
  split
  · exact h
  · exact h
  · exact enterFaulted_follows h

theorem react_follows {applied c} (h : Follows m (life s)) : Follows m (life (react applied c s)) := by
  unfold react
  have hl : life (if c.info.code = 0x0503 then tripEffects s else s) = life s := by simp
  generalize (if c.info.code = 0x0503 then tripEffects s else s) = t at hl ⊢
  have ht := h.of_life hl
  have hh := ht.of_life (haltFor_life (c := c))
  dsimp only
  split
  · exact ht
  · split
    · exact hh.of_life (life_elim fun _ => reactHearth_life)
    · split
      · exact hh.of_life reactLink_life
      · exact hh
    · exact hh.of_life reactStack_life
    · exact reactBank_follows hh
    · exact reactFault_follows hh
    · exact hh

theorem collect_follows {d applied} (h : Follows m (life s)) : Follows m (life (collect s d applied)) := by
  have hc := h.of_life (classify_life (d := d))
  unfold collect
  split <;> rename_i e <;> rw [e] at hc
  · exact react_follows hc
  · exact hc

/-! The frame grid (07, R157; 13, R270, R271; 14, R305) -/

theorem stopNow_follows (h : Follows m (life s)) (hs : AtWork s.dev.mode) : Follows m (life (stopNow s)) := by
  have hheld : ∀ z x, Follows m (.held, z, x) := fun _ _ => h.to hs (by decide)
  unfold stopNow
  dsimp only
  split
  · exact enterBanked_follows h hs
  · split
    · exact hheld _ _
    · split
      · exact hheld _ _
      · exact h
  · exact h

theorem slotWork_follows (h : Follows m (life s)) : Follows m (life (slotWork s)) := by
  have hs : Follows m (life (if stopIsDue s then stopNow s else s)) := by
    split
    · next hd =>
      simp only [stopIsDue, Bool.and_eq_true, beq_iff_eq] at hd
      exact stopNow_follows h (by simp [AtWork, hd.1])
    · exact h
  refine hs.of_life ?_
  simp [slotWork]

/-- A replay that arrives takes the device to RUNNING; a halt that has arrived since stops it. -/
theorem beginReplay_life {r} : life (beginReplay s r) = (.running, s.mem.zeroising, s.dev.activity) := by simp [beginReplay]

theorem replayArrives_follows {r} (h : Follows m (life s)) (hs : AtWork s.dev.mode) : Follows m (life (replayArrives s r)) := by
  have hl : life (if s.dev.mode = .held ∧ s.dev.heldReason ≠ 3 then
      beginStep { s with
        dev := { s.dev with mode := .running, heldReason := 0 }
        seq := { s.seq with replay := none, stopped := false } } (s.train.completedStep.toNat + 1)
      else beginReplay s r) = (.running, s.mem.zeroising, s.dev.activity) := by
    split
    · rw [beginStep_life]
      rfl
    · exact beginReplay_life
  unfold replayArrives
  generalize (if s.dev.mode = .held ∧ s.dev.heldReason ≠ 3 then _ else _) = t at hl ⊢
  have ht : Follows m (life t) := hl ▸ h.to hs (by decide)
  have hm : t.dev.mode = .running := congrArg Prod.fst hl
  dsimp only
  split
  · exact stopNow_follows ht (by simp [AtWork, hm])
  · exact ht

theorem advance_follows (h : Follows m (life s)) (hs : AtWork s.dev.mode) : Follows m (life (advance s)) := by
  have he : (endSeg s).dev.mode = s.dev.mode := congrArg Prod.fst endSeg_life
  have ht := h.of_life endSeg_life
  unfold advance endStep
  dsimp only
  split
  · exact h
  · split
    · exact ht.of_life enterSeg_life
    · split
      · exact ht.of_life beginStep_life
      · rw [enterHeld_life]
        exact ht.to (he ▸ hs) (by decide)

theorem frameSequence_follows (h : Follows m (life s)) : Follows m (life (frameSequence s)) := by
  unfold frameSequence
  split
  · split
    · next hp =>
      simp only [takesPart, Bool.and_eq_true, Bool.or_eq_true, beq_iff_eq] at hp
      exact replayArrives_follows h (by rcases hp.1 with e | e <;> simp [AtWork, e])
    · exact h
  · split
    · next hp =>
      simp only [schedules, Bool.and_eq_true, beq_iff_eq] at hp
      exact advance_follows h (by simp [AtWork, hp.1.1])
    · exact h

theorem nextFrame_follows (h : Follows m (life s)) : Follows m (life (nextFrame s)) := by
  unfold nextFrame
  refine slotWork_follows (frameSequence_follows ?_)
  simpa using h

theorem runSlot_follows {k} (h : Follows m (life s)) : Follows m (life (runSlot s k)) := slotWork_follows (h.of_life (by simp))

theorem restOfFrame_follows (h : Follows m (life s)) : Follows m (life (restOfFrame s)) :=
  follows_foldl (fun _ _ => runSlot_follows) _ h

/-! Context images, sessions and bulk channels (13, R283 to R287; 16, R338, R343) -/

theorem endOperation_follows {r} (h : Follows m (life s)) : Follows m (life (endOperation r s)) := by
  have he : (endContext r s).mem.zeroising = s.mem.zeroising := congrArg (·.2.1) endContext_life
  unfold endOperation
  split
  · rw [life_mk, he]
    exact h.ended
  · exact h

theorem afterChannel_follows {c} (h : Follows m (life s)) : Follows m (life (afterChannel c s)) := by
  unfold afterChannel
  split
  · exact endOperation_follows h
  · split <;> exact h

theorem endChannel_follows {r c} (h : Follows m (life s)) : Follows m (life (endChannel r s c)) :=
  afterChannel_follows (h.of_life closeChannel_life)

theorem closeSession_follows {n} (h : Follows m (life s)) : Follows m (life (closeSession n s)) := by
  have hc : Follows m (life ((s.host.channels.filter (fun c => c.session == n)).foldl (endChannel 3) s)) :=
    follows_foldl (fun _ _ ht => endChannel_follows ht) _ h
  unfold closeSession
  simpa using hc

theorem acknowledged_follows {id} (h : Follows m (life s)) : Follows m (life (acknowledged s id)) := by
  unfold acknowledged
  split
  · split
    · split
      · rw [closeChannel_life]
        split
        · exact endOperation_follows (r := 1) h
        · exact h
      · split
        · exact h.of_life chimneyDone_life
        · exact h
    · exact h
  · exact h

theorem ackOn_follows {x c} (h : Follows m (life s)) : Follows m (life (ackOn x c s)) := by
  rw [ackOn]
  split
  · exact h
  · cases absWindow c.lowest (beAt x.body 4 4) with
    | none => exact h
    | some w => exact acknowledged_follows (h.of_life (by simp))

theorem restoreEnds_follows {r seg len c} (h : Follows m (life s)) : Follows m (life (restoreEnds r seg len c s)) :=
  (endOperation_follows (r := r) h).of_life closeChannel_life

theorem restoreRun_follows {c b} (h : Follows m (life s)) : Follows m (life (restoreRun s c b)) := by
  unfold restoreRun
  split
  · exact restoreEnds_follows h
  · exact restoreEnds_follows (h.of_life (by simp))

/-! Commands (13, R267) -/

theorem commandRun_follows {code arg denied conflict} {f : State → State} (h : Follows m (life s))
    (hf : commandLegal s code = some true → Follows m (life (f s))) :
    Follows m (life (commandRun code arg denied conflict f s).1) := by
  unfold commandRun
  split
  · exact h
  · split
    · exact h
    · next ok hok =>
      split
      · exact h
      · next hn =>
        split
        · exact h
        · split
          · exact h
          · cases ok with
            | true => exact hf hok
            | false => simp at hn

theorem exportStart_follows {c} (h : Follows m (life s)) (hs : AtWork s.dev.mode) : Follows m (life (exportStart s c)) := by
  have hl : life (if s.dev.jobSuspended then prepareSuspended s else s) = life s := by simp
  unfold exportStart
  generalize (if s.dev.jobSuspended then prepareSuspended s else s) = t at hl ⊢
  have hm : t.dev.mode = s.dev.mode := congrArg Prod.fst hl
  have ht := h.of_life hl
  dsimp only
  split
  · exact ht.of_life closeChannel_life
  · rw [feed_life, noteTensors_life]
    exact ht.stays (hm ▸ hs)

theorem restoreStart_life : life (restoreStart s) = (s.dev.mode, s.mem.zeroising, 2) := by
  unfold restoreStart
  cases channelKind s 3 false with
  | none => rfl
  | some c =>
    have hl : life (modChannel (drainUnits s c.waiting.length) c.id (fun x => { x with waiting := [] })) = life s := by simp
    exact congrArg (fun l => (l.1, l.2.1, (2 : BitVec 4))) hl

theorem powerDownNow_life : life (powerDownNow s) = (.standby, false, 0) := by
  unfold powerDownNow
  rw [diesOff_life]
  rfl

theorem armNow_follows (h : Follows m (life s)) (hs : AtWork s.dev.mode) : Follows m (life (armNow s)) := by
  unfold armNow
  split
  · rw [life_mk]
    exact h.to (n := .armed) hs (by decide)
  · exact h

/-- A command that only states at work take leads from one of them; LOAD, which BANKED takes too, begins an activity. -/
theorem deviceCommand_follows {code arg} (h : Follows m (life s)) : Follows m (life (deviceCommand code arg s).1) := by
  unfold deviceCommand
  dsimp only
  split
  case h_3 =>
    refine commandRun_follows h fun hl => h.active ?_
    rintro e
    simp [commandLegal, e] at hl
  case h_5 =>
    refine commandRun_follows h fun hl => ?_
    cases channelKind s 3 true with
    | none => exact h
    | some c =>
      refine exportStart_follows h ?_
      cases hm : s.dev.mode <;> simp_all [commandLegal, AtWork]
  case h_8 => exact commandRun_follows h fun _ => h.of_life resumeNow_life
  case h_10 => exact commandRun_follows h fun _ => h.of_life hearthResetNow_life
  case h_13 => exact commandRun_follows h fun _ => by rw [warmReset_life]; exact follows_boot
  case h_14 => exact commandRun_follows h fun _ => follows_boot
  case h_7 | h_11 | h_15 => exact commandRun_follows h fun _ => h
  all_goals
    refine commandRun_follows h fun hl => ?_
    have hs : AtWork s.dev.mode := by cases hm : s.dev.mode <;> simp_all [commandLegal, AtWork]
  · exact h.stays hs
  · rw [powerDownNow_life]; exact h.to hs (by decide)
  · rw [restoreStart_life]; exact h.stays hs
  · exact armNow_follows h hs
  · rw [jobReset_life]; exact h.stays hs
  · exact enterBanked_follows h hs

/-! Dictionary writes (17, R346; 13, R267) -/

theorem writeLow_follows {i sub w} (h : Follows m (life s)) : Follows m (life (writeLow s i sub w).1) := by
  unfold writeLow
  split
  case h_4 =>
    split
    · exact deviceCommand_follows h
    · exact h
  all_goals exact h.of_life (by simp)

theorem writeSub_follows {a i sub w} (h : Follows m (life s)) : Follows m (life (writeSub s a i sub w).1) := by
  have hl : Follows m (life (writeLow s i sub w).1) := writeLow_follows h
  simp [writeSub, h, hl]

theorem dictWrite_follows {a i sub v} (h : Follows m (life s)) : Follows m (life (dictWrite s a i sub v).1) := by
  unfold dictWrite
  split
  · split
    · exact writeSub_follows h
    · split <;> exact h
  · exact h

theorem writeItems_follows {a} : ∀ {l s}, Follows m (life s) → Follows m (life (writeItems a l s).1)
  | [], _, h => h
  | x :: l, s, h => by
    have hw := dictWrite_follows (a := a) (i := beAt x 0 2) (sub := beAt x 2 1) (v := itemValue x) h
    unfold writeItems
    dsimp only
    split
    · exact hw
    · exact writeItems_follows hw

/-! Outcomes -/

/-- Every next state follows. -/
def FollowsOut (m : Mode) (o : Host.Outcome State Fault Refusal) : Prop := ∀ t, o = .next t → Follows m (life t)

@[simp] theorem followsOut_next {t} : FollowsOut m (.next t) = Follows m (life t) :=
  propext ⟨fun h => h t rfl, fun h _ e => by cases e; exact h⟩
@[simp] theorem followsOut_fault {r} : FollowsOut m (.fault r) = True := eq_true fun _ e => nomatch e
@[simp] theorem followsOut_ite {c : Prop} [Decidable c] {a b} :
    FollowsOut m (if c then a else b) = if c then FollowsOut m a else FollowsOut m b := apply_ite (FollowsOut m) c a b

theorem access_follows {a} {f : State → State × BitVec 16} (h : Follows m (life s)) (hf : Follows m (life (f s).1)) :
    FollowsOut m (access a f s) := by
  simp [access, h, hf]

theorem agentWrite_follows {a i sub v} (h : Follows m (life s)) : FollowsOut m (agentWrite a i sub v s) :=
  access_follows h (dictWrite_follows h)

theorem sendCommand_follows {a code arg} (h : Follows m (life s)) : FollowsOut m (sendCommand a code arg s) := by
  refine access_follows h ?_
  split
  · exact deviceCommand_follows h
  · exact h

/-! Messages and lines -/

theorem takeMsg_follows {typ x} {f : Option Session → State → State} (h : Follows m (life s))
    (hf : ∀ y, Follows m (life (f y s))) : Follows m (life (takeMsg typ x f s)) := by
  have hd : Follows m (life (discard s)) := h.of_life discard_life
  have ha : Follows m (life (authFail s)) := h.of_life authFail_life
  unfold takeMsg
  repeat' split
  · exact h
  · exact hd
  · exact h
  · exact hf none
  · exact hf _
  · exact ha
  · exact ha

theorem answer_life {x typ} {r : State × Reply} : life (answer s x typ r) = life r.1 := by simp [answer]

theorem inSession_follows {typ x y} {f : State → State × Reply} (h : Follows m (life s)) (hf : Follows m (life (f s).1)) :
    Follows m (life (inSession typ x y f s)) := by
  unfold inSession
  dsimp only
  split
  · exact hf.of_life (modSession_life.trans answer_life)
  · split
    · split
      · exact h.of_life send_life
      · exact h.of_life discard_life
    · exact h.of_life discard_life

theorem request_follows {typ x} {f : Option Session → State → State × Bytes} (h : Follows m (life s))
    (hf : ∀ y, Follows m (life (f y s).1)) : FollowsOut m (request typ x f s) := by
  have hg : ∀ y, Follows m (life (if !s.sec.bootVerified && typ != 1 && typ != 0x20 then
      (s, ownReply x y (replyBody 0x0401)) else ((f y s).1, ownReply x y (f y s).2)).1) := fun y => by
    split
    · exact h
    · exact hf y
  rw [request, followsOut_next]
  refine takeMsg_follows h fun y => ?_
  cases y with
  | none =>
    rw [Option.elim_none, answer_life]
    exact hg none
  | some y =>
    rw [Option.elim_some]
    exact inSession_follows h (hg (some y))

theorem bulkMsg_follows {typ x dir} {f : Channel → State → State} (h : Follows m (life s))
    (hf : ∀ c, Follows m (life (f c s))) : Follows m (life (bulkMsg typ x dir f s)) := by
  refine takeMsg_follows h fun _ => ?_
  repeat' split
  · exact hf _
  · exact h
  · exact h

theorem monDo_follows {f : State → State × BitVec 16 × Bytes} (h : Follows m (life s)) (hf : Follows m (life (f s).1)) :
    FollowsOut m (monDo f s) := by
  simp [monDo, h, hf]

theorem flooded_follows {k code c} {f : State → State} (h : Follows m (life s))
    (hf : ∀ t, life t = life s → Follows m (life (f t))) : Follows m (life (flooded s k code c f)) := by
  unfold flooded
  repeat' split
  · exact h
  · exact h.of_life badCell_life
  · exact h
  · exact hf _ (by simp)

end Changes

/-! Power and boot (13, R268, R276; 19, R381 to R389) -/

section Commands
variable {m : Mode} {s : State}

theorem powerLost_life : life (powerLost s) = (.off, false, 0) := by constructor

theorem holdReset_follows {x} (h : Follows m (life s)) : Follows m (life (holdReset x s)) := by
  have hl : life (if assayRuns s && s.assay.record.isSome then closeAt s x 4 0 else s) = life s := by simp
  unfold holdReset
  generalize (if assayRuns s && s.assay.record.isSome then closeAt s x 4 0 else s) = t at hl ⊢
  dsimp only
  split
  · exact h.of_life hl
  · exact follows_boot

theorem afterBoot_follows {b} (h : Follows m (life s)) (hs : AtWork s.dev.mode) : Follows m (life (afterBoot b s)) := by
  unfold afterBoot
  split
  · exact enterFaulted_follows h
  · split
    · exact enterBanked_follows h hs
    · exact h

theorem coldBooted_life : life (coldBooted s) = (.standby, s.mem.zeroising, s.dev.activity) := by simp [coldBooted]
theorem warmBooted_life {b} : life (warmBooted b s) = (.idle, (bootTests b s).mem.zeroising, (bootTests b s).dev.activity) := by
  simp [warmBooted]

/-- Boot ends in STANDBY or IDLE, and the cause that persists takes the device on to BANKED or FAULTED. -/
theorem bootEnds_follows {b} (hm : m ≠ .banked ∧ m ≠ .faulted) : Follows m (life (bootEnds b s)) := by
  have key : ∀ (t : State) (f : Bool), t.dev.mode = .standby ∨ t.dev.mode = .idle →
      Follows m (life (afterBoot f (riseErr t))) := fun t f ht => by
    refine afterBoot_follows ?_ (by rcases ht with e | e <;> simp [AtWork, riseErr, e])
    rw [riseErr_life]
    exact follows_of_left hm (by rcases ht with e | e <;> simp [e])
  refine key _ s.dev.bootFatal ?_
  split
  · split
    · exact .inl (congrArg Prod.fst coldBooted_life)
    · exact .inl rfl
  · split
    · exact .inr (congrArg Prod.fst returnJob_life)
    · exact .inr (congrArg Prod.fst warmBooted_life)

theorem logicPowered_life : life (logicPowered s) = (s.dev.mode, true, 4) := by
  have h : life (trainStacks (startLinks { s with dev := { s.dev with poweredUp := true, activity := 4 } })) =
    (s.dev.mode, s.mem.zeroising, 4) := by simp
  exact congrArg (fun l => (l.1, true, l.2.2)) h

theorem zeroised_life {n} : life (zeroised n s) = (.idle, false, 0) := by constructor

theorem noteVerdict_life {v} : life (noteVerdict v s) = (s.dev.mode, s.mem.zeroising, 0) := by simp [noteVerdict]

theorem enterLoaded_life {b} : life (enterLoaded b s) = (.loaded, s.mem.zeroising, 0) := by simp [enterLoaded, noteVerdict]

/-! Every command -/

/-- START_TIME takes a device that waits for it from LOADED to ARMED alone. -/
theorem startTimeCell_follows {k c} (h : Follows m (life s)) : FollowsOut m (execStartTimeCell k c s) := by
  rw [execStartTimeCell, followsOut_next]
  refine flooded_follows h fun t ht => ?_
  have h := h.of_life ht
  dsimp only
  split
  · rw [life_mk]
    split
    · next hl =>
      simp only [Bool.and_eq_true, beq_iff_eq] at hl
      exact h.to (n := .armed) (by simp [AtWork, hl.1.1]) (by decide)
    · exact h
  · exact h

theorem startTimeReached_follows (h : Follows m (life s)) : FollowsOut m (execStartTimeReached s) := by
  unfold execStartTimeReached
  dsimp only
  split
  · exact followsOut_next.mpr (h.of_life announceRate_life)
  · split
    · exact followsOut_next.mpr h
    · split
      · next ha =>
        rw [followsOut_next]
        refine slotWork_follows ?_
        rw [beginStep_life, announceRate_life, pushStart_life, life_mk]
        exact h.to (n := .running) (by simp [AtWork, ha]) (by decide)
      · simp [h]

theorem faultOccurrence_follows {o} (h : Follows m (life s)) : FollowsOut m (execFaultOccurrence o s) := by
  have hc : ∀ {t d a}, life t = life s → Follows m (life (collect t d a)) := fun ht => collect_follows (h.of_life ht)
  unfold execFaultOccurrence
  split
  · simp [h, hc]
  · split
    · exact followsOut_next.mpr (hc rfl)
    · exact followsOut_next.mpr h

theorem forcedOccurrence_follows (h : Follows m (life s)) : FollowsOut m (execForcedOccurrence s) := by
  have hc : ∀ {t d a}, life t = life s → Follows m (life (collect t d a)) := fun ht => collect_follows (h.of_life ht)
  unfold execForcedOccurrence
  split
  · exact followsOut_next.mpr h
  · split
    · dsimp only
      split
      · exact followsOut_next.mpr (hc (by simp))
      · simp [h]
    · exact followsOut_next.mpr h

theorem monReset_follows {r} (h : Follows m (life s)) : FollowsOut m (execMonReset r s) := by
  have hd : ∀ {t c}, life t = life s → Follows m (life (deviceCommand c 0 t).1) := fun ht => deviceCommand_follows (h.of_life ht)
  simp [execMonReset, h, hd]

theorem retxTimeout_follows {c w} (h : Follows m (life s)) : FollowsOut m (execRetxTimeout c w s) := by
  unfold execRetxTimeout
  split
  · simp [h, endChannel_follows]
  · exact followsOut_next.mpr h

theorem restoreDone_follows (h : Follows m (life s)) : FollowsOut m (execRestoreDone s) := by
  unfold execRestoreDone
  split
  · simp [h, restoreRun_follows]
  · exact followsOut_next.mpr h

/-- A LOAD ends in LOADED from a state other than BANKED, and FAULTED runs none. -/
theorem loadDone_follows (h : Confined s) : FollowsOut s.dev.mode (execLoadDone s) := by
  have hf := follows_of_confined h
  unfold execLoadDone
  split
  · exact followsOut_next.mpr hf
  · next ha =>
    split
    · rw [followsOut_next, noteVerdict_life]
      exact hf.ended
    · split
      · rw [followsOut_next, noteVerdict_life]
        exact hf.ended
      · next hb =>
        rw [followsOut_next, enterLoaded_life]
        exact follows_of_left ⟨hb, fun e => ha (by simp [(h.2 e).2])⟩ (by decide)

/-! The data path -/

theorem vecOp_follows {code n f c} (h : Follows m (life s)) : FollowsOut m (vecOp code n f c s) := by simp [vecOp, h]
theorem rowReduce_follows {code n skips f c} (h : Follows m (life s)) : FollowsOut m (rowReduce code n skips f c s) := by
  simp [rowReduce, h]
theorem sumReduce_follows {code f c} (h : Follows m (life s)) : FollowsOut m (sumReduce code f c s) := by simp [sumReduce, h]
theorem updOp_follows {code r c} (h : Follows m (life s)) : FollowsOut m (updOp code r c s) := by simp [updOp, h]

theorem bsumsq_follows {c} (h : Follows m (life s)) : FollowsOut m (execBsumsq c s) := by
  have hs : FollowsOut m (sumReduce 0x45 squareLeaf c s) := sumReduce_follows h
  unfold execBsumsq
  split
  · next t e =>
    rw [followsOut_next]
    split
    · exact hs t e
    · exact (hs t e).of_life noteNodes_life
  · exact hs

theorem vsel_follows {c} (h : Follows m (life s)) : FollowsOut m (execVsel c s) := by simp [execVsel, vecOp_follows h]
theorem vinitn_follows {c} (h : Follows m (life s)) : FollowsOut m (execVinitn c s) := by simp [execVinitn, vecOp_follows h]

/-! Messages, lines and frames -/

theorem wrappedJobKey_follows {a offset key} (h : Follows m (life s)) : FollowsOut m (execWrappedJobKey a offset key s) :=
  access_follows h (by simp [h])

theorem attestNonce_follows {a nonce} (h : Follows m (life s)) : FollowsOut m (execAttestNonce a nonce s) :=
  access_follows h (by simp [h])

theorem readEntry_follows {x} (h : Follows m (life s)) : FollowsOut m (execReadEntry x s) :=
  request_follows h fun _ => h.of_life readRequest_life

theorem readBlock_follows {x} (h : Follows m (life s)) : FollowsOut m (execReadBlock x s) :=
  request_follows h fun _ => h.of_life blockRead_life

theorem writeRequest_follows {a b} (h : Follows m (life s)) : Follows m (life (writeRequest a b s).1) := by
  unfold writeRequest
  split
  · exact h
  · exact dictWrite_follows h

theorem blockWrite_follows {a b} (h : Follows m (life s)) : Follows m (life (blockWrite a b s).1) := by
  unfold blockWrite
  split
  · exact h
  · split
    · exact h
    · exact writeItems_follows h

theorem writeEntry_follows {x} (h : Follows m (life s)) : FollowsOut m (execWriteEntry x s) :=
  request_follows h fun _ => writeRequest_follows h

theorem writeBlock_follows {x} (h : Follows m (life s)) : FollowsOut m (execWriteBlock x s) :=
  request_follows h fun _ => blockWrite_follows h

theorem sessionNonce_follows {x} (h : Follows m (life s)) : FollowsOut m (execSessionNonce x s) :=
  request_follows h fun _ => by
    split
    · exact h
    · exact h.of_life drawNonce_life

theorem sessionOpen_follows {x} (h : Follows m (life s)) : FollowsOut m (execSessionOpen x s) := by
  rw [execSessionOpen, followsOut_next]
  refine takeMsg_follows h fun y => ?_
  cases y with
  | none => exact h.of_life (answer_life.trans openRequest_life)
  | some y => exact inSession_follows h h

theorem sessionClose_follows {x} (h : Follows m (life s)) : FollowsOut m (execSessionClose x s) :=
  request_follows h fun _ => by
    repeat' split
    · exact h
    · exact h
    · exact closeSession_follows h

theorem sessionTimeout_follows {n} (h : Follows m (life s)) : FollowsOut m (execSessionTimeout n s) := by
  simp [execSessionTimeout, h, closeSession_follows]

theorem bulkOpen_follows {x} (h : Follows m (life s)) : FollowsOut m (execBulkOpen x s) :=
  request_follows h fun _ => h.of_life openChannel_life

theorem bulkData_follows {x} (h : Follows m (life s)) : FollowsOut m (execBulkData x s) :=
  followsOut_next.mpr (bulkMsg_follows h fun _ => h.of_life dataOn_life)

theorem bulkAck_follows {x} (h : Follows m (life s)) : FollowsOut m (execBulkAck x s) :=
  followsOut_next.mpr (bulkMsg_follows h fun _ => ackOn_follows h)

theorem bulkClose_follows {x} (h : Follows m (life s)) : FollowsOut m (execBulkClose x s) :=
  followsOut_next.mpr (bulkMsg_follows h fun _ => by
    split
    · exact afterChannel_follows (h.of_life dropChannel_life)
    · exact h)

theorem takeFrame_follows {x} {f : State → State} (h : Follows m (life s)) (hf : Follows m (life (f s))) :
    FollowsOut m (takeFrame x f s) := by
  simp [takeFrame, h, hf]

theorem monMbStatus_follows {n st len} (h : Follows m (life s)) : FollowsOut m (execMonMbStatus n st len s) :=
  monDo_follows h (by cases st <;> simp [h])

theorem monLog_follows {n} (h : Follows m (life s)) : FollowsOut m (execMonLog n s) :=
  monDo_follows h (by split <;> exact h)

theorem monWr_follows {i sub v} (h : Follows m (life s)) : FollowsOut m (execMonWr i sub v s) :=
  monDo_follows h (by rw [plain_life]; exact dictWrite_follows h)

theorem rateAnnounce_follows {k c} (h : Follows m (life s)) : FollowsOut m (execRateAnnounce k c s) :=
  followsOut_next.mpr (flooded_follows h fun t ht => h.of_life (by simp [ht]))

theorem replayStart_follows {k c} (h : Follows m (life s)) : FollowsOut m (execReplayStart k c s) :=
  followsOut_next.mpr (flooded_follows h fun t ht => h.of_life (by simp [ht]))

/-! Power, boot and zeroisation -/

theorem powerOn_follows (h : Follows m (life s)) : FollowsOut m (execPowerOn s) := by
  simp [execPowerOn, h]

theorem supplyRemoval_follows (h : Follows m (life s)) : FollowsOut m (execSupplyRemoval s) := by
  simp [execSupplyRemoval, h, powerLost_life]

theorem rstNLow_follows {w x} (h : Follows m (life s)) : FollowsOut m (execRstNLow w x s) := by
  have hf : Follows m (life (if 900 ≤ w ∧ w < 1000 then { s with fresh := s.fresh + 1 } else s)) := by simp [h]
  unfold execRstNLow
  dsimp only
  split
  · exact followsOut_next.mpr (holdReset_follows hf)
  · exact followsOut_next.mpr hf

theorem rstNRise_follows (h : Follows m (life s)) : FollowsOut m (execRstNRise s) := by
  simp [execRstNRise, h]

theorem bootEnd_follows {b} (h : Confined s) : FollowsOut s.dev.mode (execBootEnd b s) := by
  unfold execBootEnd
  split
  · next hb => exact followsOut_next.mpr (bootEnds_follows (by simp [hb.1]))
  · exact followsOut_next.mpr (follows_of_confined h)

/-- POWER_UP runs in STANDBY. -/
theorem railGoodRise_follows {g} (h : Follows m (life s)) : FollowsOut m (execRailGoodRise g s) := by
  have hg : Follows m (life (setGood g true s)) := h.of_life setGood_life
  unfold execRailGoodRise
  dsimp only
  split
  · exact followsOut_next.mpr hg
  · next hp =>
    have hs : (setGood g true s).dev.mode = .standby := by
      simp only [poweringUp, Bool.not_eq_true', Bool.not_eq_false, Bool.and_eq_true, beq_iff_eq] at hp
      exact (congrArg Prod.fst setGood_life).trans hp.1
    split
    · simp [h]
    · split
      · rw [followsOut_next, logicPowered_life]
        exact hg.stays (by simp [AtWork, hs])
      · exact followsOut_next.mpr hg

/-- Where a zeroisation runs, the device is neither in BANKED nor in FAULTED. -/
theorem zeroisationDone_follows {n} (h : Confined s) : FollowsOut s.dev.mode (execZeroisationDone n s) := by
  unfold execZeroisationDone
  split
  · exact followsOut_next.mpr (follows_of_confined h)
  · next hz =>
    have hm : s.dev.mode ≠ .banked ∧ s.dev.mode ≠ .faulted := ⟨fun e => hz (by simp [h.1 e]), fun e => hz (by simp [(h.2 e).1])⟩
    have hi : Follows s.dev.mode (.idle, false, 0) := follows_of_left hm (by decide)
    split <;> rw [followsOut_next]
    · rwa [lockAtIdle_life, zeroised_life]
    · rwa [zeroised_life]

theorem thermalTrip_follows {u} (h : Follows m (life s)) : FollowsOut m (execThermalTrip u s) := by
  simp [execThermalTrip, h, collect_follows]

theorem mgmtRestartDone_follows (h : Follows m (life s)) : FollowsOut m (execMgmtRestartDone s) := by
  simp [execMgmtRestartDone, h, collect_follows]

/-! The events of a section each -/

theorem jobStart_follows {x} (h : Follows m (life s)) : FollowsOut m (execJobStart x s) := by
  unfold execJobStart
  repeat' split
  all_goals simp [h]

theorem jobEnd_follows {x} (h : Follows m (life s)) : FollowsOut m (execJobEnd x s) := by
  unfold execJobEnd
  repeat' split
  all_goals simp [h]

theorem recordReady_follows (h : Follows m (life s)) : FollowsOut m (execRecordReady s) := by
  unfold execRecordReady
  repeat' split
  all_goals simp [h]

theorem vassayReturn_follows {x} (h : Follows m (life s)) : FollowsOut m (execVassayReturn x s) := by
  unfold execVassayReturn
  split
  · exact followsOut_next.mpr h
  · dsimp only
    split <;> simp [h]

theorem assayRestartDone_follows (h : Follows m (life s)) : FollowsOut m (execAssayRestartDone s) := by
  unfold execAssayRestartDone
  repeat' split
  all_goals simp [h]

theorem slotMiss_follows {u} (h : Follows m (life s)) : FollowsOut m (execSlotMiss u s) := by
  cases u <;> simp [execSlotMiss, h]

theorem fallbackDecision_follows {x} (h : Follows m (life s)) : FollowsOut m (execFallbackDecision x s) := by
  have hd : ∀ {n t}, Follows m (life (decideStep (takeFlags (slotPassed s) n) t)) := h.of_life (by simp)
  unfold execFallbackDecision
  split
  · dsimp only
    split
    · exact followsOut_next.mpr hd
    · simp [h]
  · exact followsOut_next.mpr h

theorem channelRetrainDone_follows {n r} (h : Follows m (life s)) : FollowsOut m (execChannelRetrainDone n r s) := by
  unfold execChannelRetrainDone
  dsimp only
  repeat' split
  all_goals simp [h]

theorem hashDone_follows {r} (h : Follows m (life s)) : FollowsOut m (execHashDone r s) := by
  unfold execHashDone
  dsimp only
  repeat' split
  all_goals simp [h]

theorem ackDelayExpiry_follows {c w} (h : Follows m (life s)) : FollowsOut m (execAckDelayExpiry c w s) := by
  unfold execAckDelayExpiry
  repeat' split
  all_goals simp [h]

theorem slotBoundary_follows {ok} (h : Follows m (life s)) : FollowsOut m (execSlotBoundary ok s) := by
  have hl : Follows m (life (lockstep ok s)) := h.of_life lockstep_life
  simp [execSlotBoundary, h, runSlot_follows hl, nextFrame_follows hl]

theorem frameBoundary_follows (h : Follows m (life s)) : FollowsOut m (execFrameBoundary s) := by
  simp [execFrameBoundary, h, nextFrame_follows (restOfFrame_follows h)]

/-! Every command -/

/-- Each command by its constructor: commands, writes and messages by what they share, the events that change STATE by their own
lemma, and the rest, which leave the life of the device as it is, by their equations. -/
theorem exec_follows {c : Instr} (hc : Confined s) : FollowsOut s.dev.mode (exec c s) := by
  have h := follows_of_confined hc
  cases c
  case powerUp | powerDown | load | restoreContext | exportContext | arm | hold | resume | jobReset | hearthReset |
      unfenceHearth | bank | warmReset | coldReset =>
    exact sendCommand_follows h
  case dictionaryWrite | taiSet | startTimeWrite | fabricIdWrite | fenceLink | retrainLink | forceDownLink | statReadSelect |
      faultLogSelect | clearLog | sourceSelect | forceFault | errHeldRelease | rotateRequest | verifyRetained =>
    exact agentWrite_follows h
  case vcopy | vcvt | vadd | vsub | vmul | vfma | vmin | vmax | vrelu | vabs | vneg | vscale2 | vrcp | vrsqrt | vexp |
      vexp2 | vtanh | vsigmoid | vsilu | vdiv | vsqrt | vlog | vlog2 | verf | vgelu | vdrop | vinitu =>
    exact vecOp_follows h
  case vsel => exact vsel_follows h
  case vinitn => exact vinitn_follows h
  case bmax | bmin | bamax | bargmax | btopk => exact rowReduce_follows h
  case updSgdm | updAdam | updSign => exact updOp_follows h
  case bsum => exact sumReduce_follows h
  case bsumsq => exact bsumsq_follows h
  case wrappedJobKey => exact wrappedJobKey_follows h
  case attestNonce => exact attestNonce_follows h
  case readEntry => exact readEntry_follows h
  case readBlock => exact readBlock_follows h
  case writeEntry => exact writeEntry_follows h
  case writeBlock => exact writeBlock_follows h
  case sessionNonce => exact sessionNonce_follows h
  case sessionOpen => exact sessionOpen_follows h
  case sessionClose => exact sessionClose_follows h
  case sessionTimeout => exact sessionTimeout_follows h
  case bulkOpen => exact bulkOpen_follows h
  case bulkData => exact bulkData_follows h
  case bulkAck => exact bulkAck_follows h
  case bulkClose => exact bulkClose_follows h
  case ackDelayExpiry => exact ackDelayExpiry_follows h
  case retxTimeout => exact retxTimeout_follows h
  case arpRequest | neighborSolicitation | icmpEchoRequest => exact takeFrame_follows h (by simp [h])
  case monWr => exact monWr_follows h
  case monReset => exact monReset_follows h
  case rateAnnounce => exact rateAnnounce_follows h
  case replayStart => exact replayStart_follows h
  case startTimeCell => exact startTimeCell_follows h
  case startTimeReached => exact startTimeReached_follows h
  case loadDone => exact loadDone_follows hc
  case restoreDone => exact restoreDone_follows h
  case zeroisationDone => exact zeroisationDone_follows hc
  case railGoodRise => exact railGoodRise_follows h
  case bootEnd => exact bootEnd_follows hc
  case powerOn => exact powerOn_follows h
  case supplyRemoval => exact supplyRemoval_follows h
  case rstNLow => exact rstNLow_follows h
  case rstNRise => exact rstNRise_follows h
  case thermalTrip => exact thermalTrip_follows h
  case mgmtRestartDone => exact mgmtRestartDone_follows h
  case faultOccurrence => exact faultOccurrence_follows h
  case forcedOccurrence => exact forcedOccurrence_follows h
  case slotBoundary => exact slotBoundary_follows h
  case frameBoundary => exact frameBoundary_follows h
  case slotMiss => exact slotMiss_follows h
  case jobStart => exact jobStart_follows h
  case jobEnd => exact jobEnd_follows h
  case recordReady => exact recordReady_follows h
  case vassayReturn => exact vassayReturn_follows h
  case assayRestartDone => exact assayRestartDone_follows h
  case fallbackDecision => exact fallbackDecision_follows h
  case channelRetrainDone => exact channelRetrainDone_follows h
  case hashDone => exact hashDone_follows h
  case monMbStatus => exact monMbStatus_follows h
  case monLog => exact monLog_follows h
  all_goals simp [exec, h, execNonceExpiry, execPfcFrame, execPfcRepeat, execPfcResume, execPtpMessage, execMailLock,
    execMailRelease, execMailGo, execMailboxWithdraw, execMailTaken, execMailDone, execMailRejected, execMailEcho,
    execSelftestDone, execQuoteDone, execRailGoodFall, execRailGoodTimeout, execPwrcapAssert, execPwrcapRelease,
    execTimePpsEdge, execPpsTimeout, execAssayUpdateRequest, execAssayFirmwareInstall, execAssayCheckpoint,
    execWorkCountDelivery, execMgmtWatchdogExpiry, execHeartbeatTimeout, execErrPulseEnd, execDamperEvaluation, execMatmul,
    execConvert, execVcmp, execVrand, execVcsum, execSoftmax, execSample, execBprefix, execBnode, execBmerge,
    execFlueTransfer, execFlueAtomic, execSpineCombination, execDataCell, execRetryCell, execRetryRequest, execIdleCell,
    execHaltCell, execRateRequest, execLinkDown, execLinkUp, execCommitToken, execCommitCell, execTimeCode, execLockAcquired,
    execLinkLost, execFecAlarm, execTrainingPhaseDone, execTrainingPhaseTimeout, execTrainingRetryTimer,
    execRotateIntervalExpiry, execRotationStart, execRotationSwitch, execRefreshNormal, execNextSeedDelivery, execClipFactor,
    execLinkPeriod, execHaltPosition, execPortLinkChange, execPtpSourceLoss, execVassayLoss, execChunkRestoreDone,
    execPfcPauseExpiry, execMonRd, execMonMbLock, execMonMbSend,
    execMonMbShow, execMonMbFree, execMonPeek, execMonBaud, monDo]

end Commands

/-! The step -/

theorem step_follows {s t : State} (hc : Confined s) (h : step s = .next t) : Follows s.dev.mode (life t) := by
  unfold step at h
  split at h
  · obtain rfl := Host.Outcome.next.inj h
    exact follows_of_confined (s := idle s) hc
  · next c rest _ => exact exec_follows (s := { s with pending := rest }) hc t h

/-- Settles O58: every command leads from the life of a confined device to one that follows it, and RESET and the loss of the
supplies alone leave BANKED and FAULTED. -/
theorem bankedAndFaultedAreLeftByReset : Obligations.BankedAndFaultedAreLeftByReset := by
  unfold Obligations.BankedAndFaultedAreLeftByReset
  refine ⟨⟨nofun, nofun⟩, fun s t hc h => ?_⟩
  obtain ⟨ht, hb, hf⟩ := step_follows hc h
  exact ⟨ht, hb, hf⟩

end Sys2Proof.Machine
end

section
/-! The commands of entry 0x2001 (13, R267 to R272, R276, R277): what a command answers in an illegal state, and where it is legal
what it does. -/

namespace Sys2Proof.Machine
open Sys2Proof.Claims

section Answers
variable {code arg : Nat} {s : State}

/-- The code of an answer stands as the code of the last access. -/
theorem sendCommand_eq {a : Agent} (ha : mayCommand s a) :
    sendCommand a code arg s = .next (setCode (deviceCommand code arg s)) := by
  rw [sendCommand, access, if_pos ha.1, if_pos ha.2]

theorem commandRun_of_illegal {conflict : Bool} {f : State → State} (h : commandLegal s code = some false) :
    commandRun code arg false conflict f s = (refuseState code s, 0x0301) := by
  simp [commandRun, h]

theorem commandRun_of_denied {conflict : Bool} {f : State → State} : commandRun code arg true conflict f s = (s, 0x0201) := by
  simp [commandRun]

theorem commandRun_of_conflict {f : State → State} (h : commandLegal s code = some true) :
    commandRun code arg false true f s = (refuseState code s, 0x0301) := by
  simp [commandRun, h]

theorem commandRun_of_legal {f : State → State} (h : commandLegal s code = some true) (harg : argOk s code arg = true)
    (hact : s.dev.activity = 0 ∨ ignoresActivity code = true) : commandRun code arg false false f s = (f s, 0) := by
  have hbusy : ¬(s.dev.activity != 0 && !ignoresActivity code) = true := by
    rcases hact with h | h <;> simp [h]
  simp only [commandRun, h, harg, if_neg hbusy]
  rfl

/-- Table 13.5: the states in which a command is legal. -/
theorem commandLegal_eq {p} (hp : p ∈ deviceCommands) :
    commandLegal s p.2 = some (decide (s.dev.mode ∈ legalIn p.2 s.dev.jobSuspended)) := by
  simp only [deviceCommands, List.mem_cons, List.not_mem_nil, or_false] at hp
  generalize hj : s.dev.jobSuspended = j
  generalize hm : s.dev.mode = m
  rcases hp with h | h | h | h | h | h | h | h | h | h | h | h | h | h <;> subst h <;>
    simp only [commandLegal, legalIn, hj, hm] <;> cases m <;> cases j <;> rfl

theorem exec_deviceCommand {p} (hp : p ∈ deviceCommands) {a : Agent} {arg : BitVec 16} :
    exec (p.1 a arg) s = sendCommand a p.2 arg.toNat s := by
  simp only [deviceCommands, List.mem_cons, List.not_mem_nil, or_false] at hp
  rcases hp with h | h | h | h | h | h | h | h | h | h | h | h | h | h <;> subst h <;> rfl

/-- RESUME alone asks for more than the agent before the state: the master (R272). -/
theorem deviceCommand_of_illegal (h : commandLegal s code = some false) (hr : code = 0x0022 → s.time.master = true) :
    deviceCommand code arg s = (refuseState code s, 0x0301) := by
  unfold deviceCommand
  dsimp only
  split
  case h_8 =>
    rw [isMaster, hr rfl]
    exact commandRun_of_illegal h
  all_goals exact commandRun_of_illegal h

/-- A command that is legal, whose ARG fits, and that nothing else refuses does its effect and answers 0x0000 (R8, R267). -/
theorem sendCommand_of_legal {a : Agent} {f : State → State} (ha : mayCommand s a)
    (hd : deviceCommand code arg s = commandRun code arg false false f s) (hl : commandLegal s code = some true)
    (harg : argOk s code arg = true) (hact : s.dev.activity = 0 ∨ ignoresActivity code = true) :
    sendCommand a code arg s = .next (coded (f s) 0) := by
  rw [sendCommand_eq ha, hd, commandRun_of_legal hl harg hact]
  rfl

end Answers

/-- Settles O6: a command in a state that Table 13.5 does not give is counted, noted and detected as a state conflict. -/
theorem illegalCommandIsRefused : Obligations.IllegalCommandIsRefused := by
  unfold Obligations.IllegalCommandIsRefused
  intro p hp a arg s ha hm hr
  rw [exec_deviceCommand hp, sendCommand_eq ha, deviceCommand_of_illegal (by rw [commandLegal_eq hp, decide_eq_false hm]) hr]
  exact ⟨_, rfl, rfl, rfl⟩

/-! The commands that begin work (R267, R269, R271, R277; 07, R144; 19, R383) -/

section Begun
variable {a : Agent} {s : State}

theorem exec_powerUp (ha : mayCommand s a) (h0 : s.dev.activity = 0) (hm : s.dev.mode = .standby) :
    exec (.powerUp a 0) s = .next (coded (powerUpNow s) 0) :=
  sendCommand_of_legal (code := 0x0001) ha rfl (by simp [commandLegal, hm]) rfl (.inl h0)

theorem exec_load (ha : mayCommand s a) (h0 : s.dev.activity = 0) (hm : s.dev.mode = .idle) (hj : s.dev.jobSuspended = false) :
    exec (.load a 0) s = .next (coded (loadStart s) 0) :=
  sendCommand_of_legal (code := 0x0010) ha (by rw [deviceCommand, hm]; rfl) (by simp [commandLegal, hm, hj]) rfl (.inl h0)

theorem exec_hold (ha : mayCommand s a) (h0 : s.dev.activity = 0) (hm : s.dev.mode = .running) :
    exec (.hold a 0) s = .next (coded { s with dev := { s.dev with holdRequested := true } } 0) :=
  sendCommand_of_legal (code := 0x0021) (arg := 0)
    (f := fun s => { s with dev := { s.dev with holdRequested := true } }) ha rfl (by simp [commandLegal, hm]) rfl (.inl h0)

theorem exec_arm (ha : mayCommand s a) (h0 : s.dev.activity = 0) (hm : s.dev.mode = .loaded) (hc : armConflict s = false) :
    exec (.arm a 0) s = .next (coded (armNow s) 0) :=
  sendCommand_of_legal (code := 0x0020) ha (by simp [deviceCommand, hc]) (by simp [commandLegal, hm]) rfl (.inl h0)

theorem exec_unfenceHearth {arg : BitVec 16} (ha : mayCommand s a) (h0 : s.dev.activity = 0) (hm : s.dev.mode = .idle)
    (hn : arg.toNat < 1152) (hf : s.fence.hearths.contains arg.toNat = true) (ht : (hearthOf s arg.toNat).selftest = 1) :
    exec (.unfenceHearth a arg) s = .next (coded (unfenceNow arg.toNat s) 0) :=
  sendCommand_of_legal (code := 0x0032) ha rfl (by simp [commandLegal, hm]) (by simp [argOk, isFenced, hn, List.contains_iff_mem.mp hf, ht]) (.inl h0)

end Begun

/-- Settles O7: each command in its legal state does its effect alone. -/
theorem commandsBeginTheirWork : Obligations.CommandsBeginTheirWork := by
  unfold Obligations.CommandsBeginTheirWork
  intro a s ha h0
  refine ⟨exec_powerUp ha h0, exec_load ha h0, exec_hold ha h0, fun hm hc hk => ?_, fun hm hc hk => ?_,
    fun _ => exec_unfenceHearth ha h0⟩
  · rw [exec_arm ha h0 hm hc, armNow, if_pos hk]
  · rw [exec_arm ha h0 hm hc, armNow, hk, if_neg Bool.false_ne_true]

end Sys2Proof.Machine
end

section
/-! Warm and cold resets (13, R273 to R275; 12, R254; log 133): what the classes keep, and the stacks in self-refresh. -/

namespace Sys2Proof.Machine
open Sys2Proof.Claims

/-! What a job ends with -/

/-- The record of a loaded job is held. -/
theorem recordJob_eq (s : State) : ∃ j, recordJob s = { s with jobRecord := j } ∧ (s.image.loaded.isSome = true → j.valid = true) := by
  unfold recordJob
  split
  · exact ⟨_, rfl, fun _ => rfl⟩
  · next h => exact ⟨s.jobRecord, rfl, fun hl => absurd hl h⟩

theorem endContext_eq (r : BitVec 8) (s : State) : ∃ c, endContext r s = { s with ctx := c } := by
  unfold endContext
  split
  · exact ⟨_, rfl⟩
  · exact ⟨s.ctx, rfl⟩

/-- A state before a reset and the state that it reads: what the reset classes keep is the same. -/
def ResetReads (s t : State) : Prop :=
  t.image = s.image ∧ t.fence = s.fence ∧ t.fabric = s.fabric ∧ t.mem = s.mem ∧ t.assay = s.assay

theorem OnlyCollected.resetReads {s t : State} (h : OnlyCollected s t) : ResetReads s t := by
  unfold OnlyCollected at h
  rw [h]
  exact ⟨rfl, rfl, rfl, rfl, rfl⟩

/-- What a warm reset reads. -/
theorem endedJob_resetReads (s : State) : ResetReads s (endContext 7 (pushEnd 1 (recordJob (drain s)))) := by
  obtain ⟨j, hj, -⟩ := recordJob_eq (drain s)
  obtain ⟨m, hm⟩ := pushEnd_eq 1 { drain s with jobRecord := j }
  obtain ⟨c, hc⟩ := endContext_eq 7 { drain s with jobRecord := j, markers := m }
  rw [hj, hm, hc]
  exact drain_only.resetReads

/-- What a cold reset reads. -/
theorem pushEnd_resetReads (n : Nat) (s : State) : ResetReads s (drain (pushEnd n s)) := by
  obtain ⟨m, hm⟩ := pushEnd_eq n s
  rw [hm]
  exact drain_only.resetReads (s := { s with markers := m })

/-! Lost channels replaced (R254) -/

theorem replaceLost_eq (active n : Nat) (m : Memory) : ∃ t d p,
    replaceLost active n m = { m with stackTable := t, dram := d, poison := p } := by
  unfold replaceLost
  dsimp only
  split
  · exact ⟨_, _, _, rfl⟩
  · exact ⟨m.stackTable, m.dram, m.poison, rfl⟩

theorem replaceAll_eq (f : FenceMap) (m : Memory) : ∃ t d p, replaceAll f m = { m with stackTable := t, dram := d, poison := p } := by
  refine (List.range 16).foldlRecOn _ (motive := fun (x : Memory) => ∃ t d p, x = { m with stackTable := t, dram := d, poison := p })
    ⟨m.stackTable, m.dram, m.poison, rfl⟩ (fun x hx n _ => ?_)
  obtain ⟨t, d, p, rfl⟩ := hx
  obtain ⟨t', d', p', h⟩ := replaceLost_eq (activeOf f n) n { m with stackTable := t, dram := d, poison := p }
  exact ⟨t', d', p', h⟩

/-- A stack without a retired channel has lost none. -/
theorem replaceLost_of_none_retired {active n : Nat} {m : Memory} (h : (sget {} m.stackTable n).retired = []) :
    replaceLost active n m = m := by
  unfold replaceLost
  dsimp only
  split
  · next l _ hl _ =>
    rw [h] at hl
    exact absurd (List.find?_some hl) Bool.false_ne_true
  · rfl

theorem replaceAll_of_none_retired {f : FenceMap} {m : Memory} (h : ∀ n < 16, (sget {} m.stackTable n).retired = []) :
    replaceAll f m = m :=
  (List.range 16).foldlRecOn _ (motive := fun x => x = m) rfl fun x hx n hn => by
    rw [hx]
    exact replaceLost_of_none_retired (h n (List.mem_range.mp hn))

theorem replaceLost_refreshing {active n : Nat} {m : Memory} (h : Refreshing m) : Refreshing (replaceLost active n m) := by
  unfold replaceLost
  dsimp only
  split
  · refine ⟨sput_swf h.1, fun i hi => ?_⟩
    dsimp only
    rw [sget_sput h.1]
    split
    · next e => exact h.2 n (e ▸ hi)
    · exact h.2 i hi
  · exact h

theorem replaceAll_refreshing {f : FenceMap} {m : Memory} (h : Refreshing m) : Refreshing (replaceAll f m) :=
  (List.range 16).foldlRecOn _ (motive := Refreshing) h fun _ hx _ _ => replaceLost_refreshing hx

/-- The memory that a warm reset leaves (R274, R253). -/
def warmMem (f : FenceMap) (m : Memory) : Memory := replaceAll f {
  dram := m.dram, poison := m.poison, retained := smap {} cutHash m.retained
  stackTable := allStacks (fun _ k => warmStack k) m.stackTable }

theorem warmMem_cleared (f : FenceMap) (m : Memory) :
    (warmMem f m).spad = [] ∧ (warmMem f m).cacheTier = [] ∧ (warmMem f m).lines = [] := by
  obtain ⟨t, d, p, h⟩ := replaceAll_eq f _
  unfold warmMem
  rw [h]
  exact ⟨rfl, rfl, rfl⟩

theorem warmMem_refreshing (f : FenceMap) (m : Memory) : Refreshing (warmMem f m) := by
  refine replaceAll_refreshing ⟨allStacks_swf (fun _ k => warmStack k) m.stackTable, fun n hn => ?_⟩
  dsimp only
  rw [sget_allStacks _ _ hn]
  rfl

theorem warmMem_dram {f : FenceMap} {m : Memory} (h : ∀ n < 16, (sget {} m.stackTable n).retired = []) :
    (warmMem f m).dram = m.dram := by
  unfold warmMem
  rw [replaceAll_of_none_retired fun n hn => ?_]
  dsimp only
  rw [sget_allStacks _ _ hn]
  exact h n hn

/-! The resets -/

theorem warmReset_eq (s : State) : ∃ u, ResetReads s u ∧ (warmReset s).image.store = u.image.store ∧
    (warmReset s).dev.jobSuspended = u.image.loaded.isSome ∧ (warmReset s).mem = warmMem u.fence u.mem ∧
    (warmReset s).fence = u.fence ∧ (warmReset s).fabric.id = u.fabric.id ∧ (warmReset s).assay = u.assay :=
  ⟨_, endedJob_resetReads s, rfl, rfl, rfl, rfl, rfl, rfl⟩

theorem fromStandby_eq {m : Mode} (ho : m ≠ .off) (hb : m ≠ .boot) : fromStandby m = true := by
  simp [fromStandby, ho, hb]

section Given
variable {a : Agent} {s : State}

theorem exec_warmReset (ha : mayCommand s a) (ho : s.dev.mode ≠ .off) (hb : s.dev.mode ≠ .boot) :
    exec (.warmReset a 0) s = .next (coded (warmReset s) 0) :=
  sendCommand_of_legal (code := 0x00F0) (arg := 0) ha rfl (congrArg some (fromStandby_eq ho hb)) rfl (.inr rfl)

theorem exec_coldReset (ha : mayCommand s a) (ho : s.dev.mode ≠ .off) (hb : s.dev.mode ≠ .boot) :
    exec (.coldReset a 0) s = .next (coded (coldReset (pushEnd 2 s) 2) 0) :=
  sendCommand_of_legal (code := 0x00F1) (arg := 0) (f := fun s => coldReset (pushEnd 2 s) 2) ha rfl
    (congrArg some (fromStandby_eq ho hb)) rfl (.inr rfl)

end Given

/-- Settles O8: what the classes keep is read before the reset, and what they do not keep starts from its defaults. -/
theorem resetsEnterBoot : Obligations.ResetsEnterBoot := by
  unfold Obligations.ResetsEnterBoot
  intro a s ha ho hb
  constructor
  · obtain ⟨u, ⟨himage, hfence, hfabric, hmem, hassay⟩, hstore, hsuspended, hm, hf, hid, has⟩ := warmReset_eq s
    rw [hmem, hfence] at hm
    obtain ⟨hspad, htier, hlines⟩ := warmMem_cleared s.fence s.mem
    refine ⟨_, exec_warmReset ha ho hb, rfl, rfl, hsuspended.trans (by rw [himage]), hstore.trans (by rw [himage]), rfl, rfl,
      (congrArg Memory.spad hm).trans hspad, (congrArg Memory.cacheTier hm).trans htier, (congrArg Memory.lines hm).trans hlines,
      hf.trans hfence, hid.trans (by rw [hfabric]), has.trans hassay, rfl,
      fun hr => (congrArg Memory.dram hm).trans (warmMem_dram hr), fun n hn => ?_⟩
    show (sget {} (warmReset s).mem.stackTable n).selfRefresh = true
    rw [hm]
    exact (warmMem_refreshing s.fence s.mem).2 n hn
  · obtain ⟨-, hfence, hfabric, -, hassay⟩ := pushEnd_resetReads 2 s
    exact ⟨_, exec_coldReset ha ho hb, rfl, rfl, rfl, rfl, rfl, rfl, rfl, rfl, rfl, rfl, hfence,
      (congrArg Fabric.id hfabric :), hassay, rfl⟩

end Sys2Proof.Machine
end

section
/-! The end of a job (13, R267, R268, R273, R274; 14, R305; 19, R383): JOB_RESET, POWER_DOWN and BANK. -/

namespace Sys2Proof.Machine
open Sys2Proof.Claims

/-! Tables mapped -/

/-- A function that keeps the default maps the value of every key. -/
theorem sget_smap {α : Type} [DecidableEq α] {d : α} {f : α → α} (hf : f d = d) : ∀ {t : Sparse α} {b : Nat} (i : Nat),
    sabove d b t = true → sget d (smap d f t) i = f (sget d t i)
  | [], _, _, _ => hf.symm
  | (k, v) :: t, b, i, h => by
    simp only [sabove, Bool.and_eq_true, decide_eq_true_eq] at h
    have ih := sget_smap hf i h.2
    have hlow : i ≤ k → sget d t i = d := fun hi => sget_below (Nat.lt_succ_of_le hi) h.2
    unfold smap
    split
    · next hv =>
      rw [ih, sget]
      split
      · next hi => rw [hlow hi.le]
      · split
        · next hi => rw [hlow hi.le, hf, hv]
        · rfl
    · rw [sget, sget]
      split
      · exact hf.symm
      · split
        · rfl
        · exact ih

/-! JOB_RESET -/

theorem closeKinds_only (kinds : List Nat) (reason : Nat) (s : State) : HostOnly s (closeKinds kinds reason s) :=
  HostOnly.foldl (closeChannel_only reason 0) _ s

/-- What a job reset ends before its entries return to their defaults: the job's marker, its channels, hashes and hearths. -/
def unloading (s : State) : State := unmapAll (cutHashes (endContext 7 (closeKinds [1, 2, 3] 5 (pushEnd 0 (drain s)))))

theorem unloading_eq (s : State) : ∃ k d p h c, unloading s = unmapAll (cutHashes { drain s with
    markers := k, dev := { (drain s).dev with lastCode := d }, port := p, host := h, ctx := c }) := by
  obtain ⟨k, hk⟩ := pushEnd_eq 0 (drain s)
  have hc := closeKinds_only [1, 2, 3] 5 { drain s with markers := k }
  unfold HostOnly at hc
  obtain ⟨c, he⟩ := endContext_eq 7 (closeKinds [1, 2, 3] 5 { drain s with markers := k })
  unfold unloading
  rw [hk, he, hc]
  exact ⟨k, _, _, _, c, rfl⟩

/-- The parts that a job reset keeps are as they were. -/
def JobLeaves (s t : State) : Prop :=
  t.dev.mode = s.dev.mode ∧ t.time = s.time ∧ t.rate = s.rate ∧ t.fence = s.fence ∧ t.mem.dram = s.mem.dram ∧
    t.mem.stackTable = s.mem.stackTable ∧ t.sec = s.sec ∧ t.assay = s.assay ∧ t.links = s.links

theorem OnlyCollected.jobLeaves {s t : State} (h : OnlyCollected s t) : JobLeaves s t := by
  unfold OnlyCollected at h
  rw [h]
  exact ⟨rfl, rfl, rfl, rfl, rfl, rfl, rfl, rfl, rfl⟩

theorem unloading_leaves (s : State) : JobLeaves s (unloading s) := by
  obtain ⟨k, d, p, h, c, hu⟩ := unloading_eq s
  rw [hu]
  exact drain_only.jobLeaves

/-- What the job reset changes of a link. -/
def jobLink (l : Link) : Link := { l with upFrame := l.upFrame.map (fun _ => 0) }

theorem linkOf_jobReset {s : State} (h : swf {} s.links = true) (k : Nat) : linkOf (jobReset s) k = jobLink (linkOf s k) := by
  obtain ⟨-, -, -, -, -, -, -, -, hlinks⟩ := unloading_leaves s
  show sget {} (smap {} jobLink (unloading s).links) k = jobLink (linkOf s k)
  rw [hlinks]
  exact sget_smap rfl k h

theorem exec_jobReset {a : Agent} {s : State} (ha : mayCommand s a) (hm : s.dev.mode ∈ [Mode.idle, .loaded, .armed, .held]) :
    exec (.jobReset a 0) s = .next (coded (jobReset s) 0) := by
  refine sendCommand_of_legal (code := 0x0030) (arg := 0) ha rfl ?_ rfl (.inr rfl)
  simpa [commandLegal, or_assoc] using hm

theorem jobReset_eq (s : State) : ∃ u, JobLeaves s u ∧ (jobReset s).dev.mode = u.dev.mode ∧
    (jobReset s).sec.policy = u.sec.policy ∧ (jobReset s).time = u.time ∧ (jobReset s).rate.changes = u.rate.changes ∧
    (jobReset s).fence = u.fence ∧ (jobReset s).mem.dram = u.mem.dram ∧ (jobReset s).mem.stackTable = u.mem.stackTable ∧
    (jobReset s).assay = u.assay :=
  ⟨_, unloading_leaves s, rfl, rfl, rfl, rfl, rfl, rfl, rfl, rfl⟩

@[simp] theorem linkOf_coded {s : State} {c : BitVec 16} {k : Nat} : linkOf (coded s c) k = linkOf s k := rfl

/-- Settles O9: the job's entries return to their defaults, and the rest is what the unloading leaves. -/
theorem jobResetUnloadsTheJob : Obligations.JobResetUnloadsTheJob := by
  unfold Obligations.JobResetUnloadsTheJob
  intro a s ha hm
  obtain ⟨u, ⟨huMode, huTime, huRate, huFence, huDram, huStacks, huSec, huAssay, -⟩, hmode, hpolicy, htime, hrate, hfence, hdram,
    hstacks, hassay⟩ := jobReset_eq s
  refine ⟨coded (jobReset s) 0, exec_jobReset ha hm, hmode.trans huMode, rfl, rfl, rfl, rfl, rfl, rfl, rfl, rfl, rfl, rfl, rfl,
    rfl, rfl, rfl, rfl, rfl, rfl, hpolicy.trans (congrArg Security.policy huSec), htime.trans huTime,
    hrate.trans (congrArg Rate.changes huRate), hfence.trans huFence, hdram.trans huDram, hstacks.trans huStacks,
    hassay.trans huAssay, fun hl k => ?_⟩
  rw [linkOf_coded, linkOf_jobReset hl]
  exact ⟨rfl, rfl, rfl⟩

end Sys2Proof.Machine
end

section
/-! POWER_DOWN and BANK (13, R267, R268; 14, R305; 19, R383): what keeps its power, and what a job that leaves ends. -/

namespace Sys2Proof.Machine
open Sys2Proof.Claims

/-! Channels closed (16, R343) -/

theorem closeChannel_sessions (reason : Nat) (code : BitVec 16) (s : State) (c : Channel) :
    (closeChannel reason code s c).host.sessions = s.host.sessions := by
  simp [closeChannel, dropChannel, drainUnits, sendBulk, sendMsg]

theorem closeKinds_sessions (kinds : List Nat) (reason : Nat) (s : State) :
    (closeKinds kinds reason s).host.sessions = s.host.sessions :=
  (s.host.channels.filter (fun c => kinds.contains c.kind)).foldlRecOn _ (motive := fun t => t.host.sessions = s.host.sessions)
    rfl fun t ht c _ => (closeChannel_sessions reason 0 t c).trans ht

/-- Closing channels leaves those of the other numbers. -/
theorem mem_foldl_closeChannel {reason : Nat} {code : BitVec 16} {x : Channel} : ∀ {l : List Channel} {s : State},
    x ∈ (l.foldl (closeChannel reason code) s).host.channels → x ∈ s.host.channels ∧ ∀ c ∈ l, x.id ≠ c.id
  | [], _, h => ⟨h, nofun⟩
  | c :: l, s, h => by
    obtain ⟨p, q, he, hq⟩ := closeChannel_eq reason code s c
    obtain ⟨hx, hl⟩ := mem_foldl_closeChannel (s := closeChannel reason code s c) h
    rw [he, hq, List.mem_filter, bne_iff_ne] at hx
    exact ⟨hx.1, List.forall_mem_cons.mpr ⟨hx.2, hl⟩⟩

/-- No channel of the kinds closed stays open. -/
theorem kind_of_mem_closeKinds {kinds : List Nat} {reason : Nat} {s : State} {x : Channel}
    (h : x ∈ (closeKinds kinds reason s).host.channels) : x.kind ∉ kinds := by
  obtain ⟨hx, hl⟩ := mem_foldl_closeChannel h
  exact fun hk => hl x (List.mem_filter.mpr ⟨hx, List.contains_iff_mem.mpr hk⟩) rfl

/-! POWER_DOWN -/

theorem exec_powerDown {a : Agent} {s : State} (ha : mayCommand s a) (h0 : s.dev.activity = 0) (hm : s.dev.mode = .idle)
    (hj : s.dev.jobSuspended = false) : exec (.powerDown a 0) s = .next (coded (powerDownNow s) 0) :=
  sendCommand_of_legal (code := 0x0002) ha rfl (by simp [commandLegal, hm, hj]) rfl (.inl h0)

/-- What POWER_DOWN leaves of what is read here. -/
theorem powerDownNow_eq (s : State) : let t := powerDownNow s
    t.dev.mode = .standby ∧ t.pins.railEnA = false ∧ t.pins.railEnB = false ∧ t.image = {} ∧ t.mem.spad = [] ∧ t.mem.dram = [] ∧
      t.mem.cacheTier = [] ∧ t.time.lock = 0 ∧ t.host = (closeKinds [1, 3] 5 s).host ∧ t.fence = s.fence ∧
      t.fabric.id = s.fabric.id ∧ t.rate.cap = s.rate.cap ∧ t.rate.changes = s.rate.changes ∧ t.sec = s.sec ∧ t.assay = s.assay := by
  have hc := closeKinds_only [1, 3] 5 s
  unfold HostOnly at hc
  unfold powerDownNow
  obtain ⟨y, hy⟩ := diesOff_eq _
  rw [hy]
  dsimp only
  rw [hc]
  exact ⟨rfl, rfl, rfl, rfl, rfl, rfl, rfl, rfl, rfl, rfl, rfl, rfl, rfl, rfl, rfl⟩

/-! BANK -/

/-- What ends with a job that is left: its marker and record written, its context operation and channel ended, every stack in
self-refresh and every hash cut short. -/
theorem leaving_eq (s : State) : ∃ k j d p h c,
    cutHashes (endContext 7 (closeContext (selfRefreshAll (recordJob (pushEnd 3 s))))) = cutHashes (selfRefreshAll { s with
      markers := k, jobRecord := j, dev := { s.dev with lastCode := d }, port := p, host := h, ctx := c }) ∧
    (s.image.loaded.isSome = true → j.valid = true) := by
  obtain ⟨k, hk⟩ := pushEnd_eq 3 s
  obtain ⟨j, hj, hv⟩ := recordJob_eq { s with markers := k }
  have hc := closeContext_only (selfRefreshAll { s with markers := k, jobRecord := j })
  unfold HostOnly at hc
  obtain ⟨c, he⟩ := endContext_eq 7 (closeContext (selfRefreshAll { s with markers := k, jobRecord := j }))
  rw [hk, hj, he, hc]
  exact ⟨k, j, _, _, _, c, rfl, hv⟩

theorem exec_bank {a : Agent} {s : State} (ha : mayCommand s a) (h0 : s.dev.activity = 0)
    (hm : s.dev.mode ∈ [Mode.idle, .loaded, .armed, .held]) : exec (.bank a 0) s = .next (coded (enterBanked 1 s) 0) :=
  sendCommand_of_legal (code := 0x0040) (arg := 0) ha rfl (by simpa [commandLegal, or_assoc] using hm) rfl (.inl h0)

/-- The stacks of a device in BANKED: in self-refresh, without a rotation. -/
def bankedStacks (t : Sparse Stack) : Sparse Stack :=
  allStacks (fun _ k => dropRotation k) (allStacks (fun _ k => { k with selfRefresh := true }) t)

theorem sget_bankedStacks (t : Sparse Stack) {n : Nat} (hn : n < 16) :
    sget {} (bankedStacks t) n = dropRotation { sget {} t n with selfRefresh := true } := by
  rw [bankedStacks, sget_allStacks _ _ hn, sget_allStacks _ _ hn]

theorem cutHash_state (k : Retained) : (cutHash k).state ≠ 2 := by
  unfold cutHash
  split
  · simp
  · assumption

/-- What a device that enters BANKED from a state other than RUNNING writes of what is read here. -/
theorem enterBanked_at_rest {s : State} (cause : BitVec 4) (hm : s.dev.mode ∈ [Mode.idle, .loaded, .armed, .held]) :
    let t := enterBanked cause s
    t.dev.mode = .banked ∧ t.faults.bankCause = cause ∧ t.pins.railEnA = false ∧ t.pins.railEnB = true ∧
      t.fabric.relaying = true ∧ t.mem.stackTable = bankedStacks s.mem.stackTable ∧
      (s.image.loaded.isSome = true → t.jobRecord.valid = true) ∧ t.mem.retained = smap {} cutHash s.mem.retained ∧
      t.mem.dram = s.mem.dram ∧ t.image.loaded = s.image.loaded ∧ t.fence = s.fence ∧ t.assay = s.assay := by
  have hb : ¬(s.dev.mode = .banked ∨ s.dev.mode = .faulted) := by
    rintro (h | h) <;> simp [h] at hm
  have hr : (!(s.dev.mode == .running)) = true := by
    cases h : s.dev.mode <;> simp [h] at hm <;> rfl
  obtain ⟨k, j, d, p, h, c, he, hv⟩ := leaving_eq s
  unfold enterBanked leaveJob
  rw [if_neg hb, he]
  dsimp only
  obtain ⟨y, hy⟩ := diesOff_eq _
  rw [hy, hr]
  exact ⟨rfl, rfl, rfl, rfl, rfl, rfl, hv, rfl, rfl, rfl, rfl, rfl⟩

@[simp] theorem stackOf_coded {s : State} {c : BitVec 16} {n : Nat} : stackOf (coded s c) n = stackOf s n := rfl
@[simp] theorem retainedOf_coded {s : State} {c : BitVec 16} {r : Nat} : retainedOf (coded s c) r = retainedOf s r := rfl

/-- Settles O10: POWER_DOWN keeps what the management die and Assay hold, and BANK what the stacks and the job record hold. -/
theorem powerDownAndBank : Obligations.PowerDownAndBank := by
  unfold Obligations.PowerDownAndBank
  constructor
  · intro a s ha hm hj h0
    obtain ⟨hmode, hra, hrb, himage, hspad, hdram, htier, hlock, hhost, hrest⟩ := powerDownNow_eq s
    refine ⟨coded (powerDownNow s) 0, exec_powerDown ha h0 hm hj, ?_⟩
    generalize powerDownNow s = t at *
    refine ⟨hmode, rfl, hra, hrb, himage, hspad, hdram, htier, hlock, fun c hc => ?_, ?_, hrest⟩
    · have hk : c.kind ∉ [1, 3] := kind_of_mem_closeKinds (hhost ▸ hc : c ∈ (closeKinds [1, 3] 5 s).host.channels)
      simpa using hk
    · exact (congrArg HostLink.sessions hhost).trans (closeKinds_sessions _ _ s)
  · intro a s ha hm h0
    obtain ⟨hmode, hcause, hra, hrb, hrelay, hstacks, hrecord, hretained, hdram, hloaded, hfence, hassay⟩ := enterBanked_at_rest 1 hm
    refine ⟨coded (enterBanked 1 s) 0, exec_bank ha h0 hm, hmode, rfl, hcause, hra, hrb, hrelay, fun n hn => ?_, hrecord,
      fun hw r => ?_, hdram, hloaded, hfence, hassay⟩
    · rw [stackOf_coded, stackOf, hstacks, sget_bankedStacks _ hn]
      exact ⟨rfl, rfl⟩
    · rw [retainedOf_coded, retainedOf, hretained, sget_smap rfl r hw]
      exact cutHash_state _

end Sys2Proof.Machine
end

section
/-! Hearth resets and self-tests (13, R277; 14, R288, R293; 17, R360). -/

namespace Sys2Proof.Machine
open Sys2Proof.Claims

/-! HEARTH_RESET -/

/-- Fencing a hearth changes the fence map, and where the spares of its die fall short what stops the image. -/
theorem reactHearth_eq (h : Nat) (s : State) : ∃ f x q,
    reactHearth h s = { s with fence := f, faults := x, seq := q } ∧ h ∈ f.hearths := by
  unfold reactHearth
  split
  · next hf => exact ⟨s.fence, s.faults, s.seq, rfl, List.contains_iff_mem.mp hf⟩
  · dsimp only
    split
    · unfold imageStop
      split
      · exact ⟨_, _, _, rfl, mem_insertNat h _⟩
      · exact ⟨_, s.faults, s.seq, rfl, mem_insertNat h _⟩
    · exact ⟨_, s.faults, s.seq, rfl, mem_insertNat h _⟩

/-- A hearth whose self-test has begun. -/
def testedAnew (k : Hearth) : Hearth :=
  { k with selftest := 3, program := [], progOp := 0, progPar := 0, amax := 0, crc := 0xFFFFFFFF }

theorem hearthResetNow_eq (h : Nat) (s : State) : ∃ f x q,
    hearthResetNow h s = modHearth { s with
      fence := f, faults := x, seq := q, dev := { s.dev with selftests := insertNat s.dev.selftests h }
      mem := { s.mem with
        spad := mzero s.mem.spad (2097152 * h) 2097152, spadPoison := restored s.mem.spadPoison h 0 2097152 } } h testedAnew ∧
      h ∈ f.hearths := by
  obtain ⟨f, x, q, he, hf⟩ := reactHearth_eq h s
  unfold hearthResetNow
  rw [he]
  exact ⟨f, x, q, rfl, hf⟩

theorem hearthOf_hearthResetNow {h : Nat} {s : State} (hw : swf {} s.hearths = true) (i : Nat) :
    hearthOf (hearthResetNow h s) i = if i = h then testedAnew (hearthOf s h) else hearthOf s i := by
  obtain ⟨f, x, q, he, -⟩ := hearthResetNow_eq h s
  rw [he]
  exact hearthOf_modHearth hw

theorem exec_hearthReset {a : Agent} {arg : BitVec 16} {s : State} (ha : mayCommand s a) (h0 : s.dev.activity = 0)
    (hm : s.dev.mode ∈ [Mode.idle, .loaded, .held]) (hn : arg.toNat < 1152) :
    exec (.hearthReset a arg) s = .next (coded (hearthResetNow arg.toNat s) 0) :=
  sendCommand_of_legal (code := 0x0031) ha rfl (by simpa [commandLegal, or_assoc] using hm) (by simp [argOk, hn]) (.inl h0)

@[simp] theorem hearthOf_coded {s : State} {c : BitVec 16} {h : Nat} : hearthOf (coded s c) h = hearthOf s h := rfl

/-! SELFTEST_DONE -/

/-- A hearth whose self-test has ended with a result. -/
def testedHearth (s : State) (passed kat : Bool) (k : Hearth) : Hearth :=
  { k with
    selftest := if passed then 1 else 2, katFailed := !kat, katBoot := if s.dev.poweredUp then !kat else k.katBoot
    selftestTime := BitVec.ofNat 64 s.time.now }

/-- The occurrences of a self-test: of the test itself, then of the known-answer test (Table 14.1). -/
def testSources (h : Nat) (passed kat : Bool) : List (BitVec 16 × BitVec 4 × BitVec 16) :=
  (if passed then [] else [(0x0107, 1, BitVec.ofNat 16 h)]) ++ (if kat then [] else [(0x0108, 1, BitVec.ofNat 16 h)])

/-- Source and location of a detected occurrence. -/
def detectedAt (d : Detected) : BitVec 16 × BitVec 4 × BitVec 16 := (d.occ.source, d.occ.kind, d.occ.number)

theorem testEnded_eq (h : Nat) (passed kat : Bool) (s : State) : testEnded h passed kat s = modHearth { s with
    dev := { s.dev with selftests := s.dev.selftests.filter (· != h) }
    faults := { s.faults with detected := (testEnded h passed kat s).faults.detected } } h (testedHearth s passed kat) := by
  cases passed <;> cases kat <;> rfl

theorem hearthOf_testEnded {h : Nat} {passed kat : Bool} {s : State} (hw : swf {} s.hearths = true) (i : Nat) :
    hearthOf (testEnded h passed kat s) i = if i = h then testedHearth s passed kat (hearthOf s h) else hearthOf s i := by
  rw [testEnded_eq]
  exact hearthOf_modHearth hw

theorem testEnded_detected (h : Nat) (passed kat : Bool) (s : State) : (testEnded h passed kat s).faults.detected.map detectedAt =
    s.faults.detected.map detectedAt ++ testSources h passed kat := by
  cases passed with
  | true =>
    cases kat with
    | true => exact (List.append_nil _).symm
    | false => exact List.map_append
  | false =>
    cases kat with
    | true => exact List.map_append
    | false =>
      refine (List.map_append (l₁ := s.faults.detected ++ [_])).trans ?_
      rw [List.map_append, List.append_assoc]
      rfl

theorem exec_selftestDone {h : Fin 1152} {passed kat : Bool} {s : State} (ht : (hearthOf s h.val).selftest = 3) :
    exec (.selftestDone h passed kat) s = .next (testEnded h.val passed kat s) := if_pos ht

/-- Settles O11: the hearth alone is fenced, zeroed and tested, and a result is recorded at its hearth alone. -/
theorem hearthResetFencesAndTests : Obligations.HearthResetFencesAndTests := by
  unfold Obligations.HearthResetFencesAndTests
  constructor
  · intro a arg s ha hm h0 hn hspad hw
    refine ⟨_, exec_hearthReset ha h0 hm hn, ?_⟩
    simp only [hearthOf_coded, hearthOf_hearthResetNow hw, if_true]
    obtain ⟨f, x, q, he, hf⟩ := hearthResetNow_eq arg.toNat s
    rw [he]
    exact ⟨rfl, hf, mem_insertNat _ _, rfl, rfl, rfl, fun i hi => if_neg hi, mget_mzero hspad, rfl, rfl, rfl, rfl⟩
  · intro h passed kat s hw
    refine ⟨fun ht => if_neg ht, fun ht => ⟨_, exec_selftestDone ht, ?_⟩⟩
    refine ⟨(hearthOf_testEnded hw h.val).trans (if_pos rfl), fun i hi => (hearthOf_testEnded hw i).trans (if_neg hi), ?_,
      (testEnded_detected h.val passed kat s).trans (List.append_assoc _ _ _).symm, ?_⟩
    all_goals rw [testEnded_eq]
    · simp
    · exact ⟨rfl, rfl, rfl⟩

end Sys2Proof.Machine
end

section
/-! RESUME, RESTORE and EXPORT (13, R272, R281, R283, R285; 11, R234; 16, R343): how each begins, and what refuses it. -/

namespace Sys2Proof.Machine
open Sys2Proof.Claims

section Refused
variable {a : Agent} {code arg : Nat} {conflict : Bool} {f : State → State} {s : State}

/-- A command that is legal and meets what it asks besides the state to be false is refused as in an illegal state (R267). -/
theorem sendCommand_of_conflict (ha : mayCommand s a) (hd : deviceCommand code arg s = commandRun code arg false true f s)
    (hl : commandLegal s code = some true) : sendCommand a code arg s = .next (coded (refuseState code s) 0x0301) := by
  rw [sendCommand_eq ha, hd, commandRun_of_conflict hl]
  rfl

theorem sendCommand_of_denied (ha : mayCommand s a) (hd : deviceCommand code arg s = commandRun code arg true conflict f s) :
    sendCommand a code arg s = .next (coded s 0x0201) := by
  rw [sendCommand_eq ha, hd, commandRun_of_denied]
  rfl

end Refused

section Begun
variable {a : Agent} {s : State}

/-! RESUME -/

/-- The replay that a RESUME announces. -/
def resumeReplay (s : State) : Replay :=
  ⟨boundaryFrom s (s.time.now + 10000000) 16 s.seq.frame s.seq.frameStart s.rate.n,
    if s.dev.heldReason = 3 then announcedEntry s s.seq.heldRestart else 0, s.upd.frontier, s.fabric.epoch + 1⟩

theorem applyReplay_takes (r : Replay) (s : State) :
    (applyReplay r s).seq.replay = some r ∧ (applyReplay r s).dev = s.dev := by
  have h := applyReplay_settled r s
  unfold SettledOnly at h
  rw [h]
  exact ⟨rfl, rfl⟩

/-- A device in HELD that is not image-stopped takes the replay, and its epoch counts it. -/
theorem takeReplay_of_held (r : Replay) {s : State} (hm : s.dev.mode = .held) (himage : s.faults.imageStopped = false)
    (hheld : s.fabric.haltHeld = []) : (takeReplay r s).seq.replay = some r ∧
      (takeReplay r s).fabric = { s.fabric with epoch := r.epoch, haltSent := none, haltHeld := [] } ∧
      (takeReplay r s).dev = s.dev := by
  rw [takeReplay_of_none_held r hheld, replayNoted, if_pos (by simp [takesPart, hm, himage])]
  exact ⟨(applyReplay_takes r s).1, rfl, (applyReplay_takes r s).2⟩

theorem resumeNow_eq {s : State} (hm : s.dev.mode = .held) (himage : s.faults.imageStopped = false)
    (hheld : s.fabric.haltHeld = []) : (resumeNow s).seq.replay = some (resumeReplay s) ∧
      (resumeNow s).fabric.epoch = s.fabric.epoch + 1 ∧ (resumeNow s).fabric.seqOut = s.fabric.seqOut + 1 ∧
      (resumeNow s).dev = s.dev := by
  obtain ⟨x, hx⟩ := originate_eq 4
    (replayPayload (resumeReplay s).frame (resumeReplay s).entry s.upd.frontier (s.fabric.epoch + 1)) s
  obtain ⟨hreplay, hfabric, hdev⟩ := takeReplay_of_held (resumeReplay s)
    (s := { s with fabric := { s.fabric with seqOut := s.fabric.seqOut + 1 }, links := x }) hm himage hheld
  have ht : resumeNow s = takeReplay (resumeReplay s)
      { s with fabric := { s.fabric with seqOut := s.fabric.seqOut + 1 }, links := x } := congrArg (takeReplay _) hx
  rw [ht]
  exact ⟨hreplay, congrArg Fabric.epoch hfabric, congrArg Fabric.seqOut hfabric, hdev⟩

theorem exec_resume (ha : mayCommand s a) (hm : s.dev.mode = .held) (hmaster : s.time.master = true) (h0 : s.dev.activity = 0)
    (himage : s.faults.imageStopped = false) : exec (.resume a 0) s = .next (coded (resumeNow s) 0) :=
  sendCommand_of_legal (code := 0x0022) ha (by rw [deviceCommand, isMaster, hmaster, himage]; rfl) (by simp [commandLegal, hm]) rfl
    (.inl h0)

theorem exec_resume_of_not_master (ha : mayCommand s a) (hmaster : s.time.master = false) :
    exec (.resume a 0) s = .next (coded s 0x0201) :=
  sendCommand_of_denied (code := 0x0022) (conflict := s.faults.imageStopped) (f := resumeNow) ha
    (by rw [deviceCommand, isMaster, hmaster]; rfl)

/-! RESTORE -/

theorem exec_restoreContext (ha : mayCommand s a) (h0 : s.dev.activity = 0) (hm : s.dev.mode = .loaded)
    (hc : (channelKind s 3 false).isSome = true) : exec (.restoreContext a 0) s = .next (coded (restoreStart s) 0) :=
  sendCommand_of_legal (code := 0x0011) ha (by rw [deviceCommand, ← Option.not_isSome, hc]; rfl) (by simp [commandLegal, hm]) rfl
    (.inl h0)

theorem exec_restoreContext_of_no_channel (ha : mayCommand s a) (hm : s.dev.mode = .loaded) (hc : channelKind s 3 false = none) :
    exec (.restoreContext a 0) s = .next (coded (refuseState 0x0011 s) 0x0301) :=
  sendCommand_of_conflict (f := restoreStart) ha (by rw [deviceCommand, hc]; rfl) (by simp [commandLegal, hm])

/-- A restore that begins writes its operation, and takes what waits on its channel. -/
theorem restoreStart_eq (s : State) : ∃ p h, restoreStart s = { s with
    port := p, host := h, dev := { s.dev with activity := 2 }
    ctx := { s.ctx with op := 2, result := 0, inProgress := true, bytesDone := 0, bytesTotal := 0, restoreTried := true } } := by
  unfold restoreStart
  cases channelKind s 3 false with
  | none => exact ⟨s.port, s.host, rfl⟩
  | some c => exact ⟨_, _, rfl⟩

/-! EXPORT -/

theorem exec_exportContext {c : Channel} (ha : mayCommand s a) (h0 : s.dev.activity = 0) (hm : s.dev.mode = .held)
    (hc : channelKind s 3 true = some c) : exec (.exportContext a 0) s = .next (coded (exportStart s c) 0) := by
  have h := sendCommand_of_legal (code := 0x0012) (arg := 0) (f := fun s => (channelKind s 3 true).elim s (exportStart s)) ha
    (by rw [deviceCommand, hc]; rfl) (by simp [commandLegal, hm]) rfl (.inl h0)
  simp only [hc, Option.elim_some] at h
  exact h

theorem exec_exportContext_of_no_channel (ha : mayCommand s a) (hm : s.dev.mode = .held) (hc : channelKind s 3 true = none) :
    exec (.exportContext a 0) s = .next (coded (refuseState 0x0012 s) 0x0301) :=
  sendCommand_of_conflict (f := fun s => (channelKind s 3 true).elim s (exportStart s)) ha (by rw [deviceCommand, hc]; rfl)
    (by simp [commandLegal, hm])

end Begun

/-- The second state differs from the first in what reading DRAM meets: the counts of the stacks, UE_LATENT, the records of the
RETAINED regions, and occurrences (12, R248). -/
def MetOnly (s t : State) : Prop := t = { s with
  mem := { s.mem with stackTable := t.mem.stackTable, ueLatent := t.mem.ueLatent, retained := t.mem.retained }
  faults := { s.faults with detected := t.faults.detected } }

theorem MetOnly.trans {r s t : State} (h : MetOnly r s) (k : MetOnly s t) : MetOnly r t := by
  unfold MetOnly at *
  rw [h] at k
  exact k

theorem MetOnly.foldl {α : Type} {g : State → α → State} (h : ∀ s x, MetOnly s (g s x)) (l : List α) (s : State) :
    MetOnly s (l.foldl g s) :=
  l.foldlRecOn g (motive := MetOnly s) rfl (fun t ht x _ => ht.trans (h t x))

theorem stageRecord_met (s : State) (r : Region) : MetOnly s (stageRecord s r) := by
  unfold stageRecord
  repeat' split
  all_goals rfl

theorem noteHostRead_met (s : State) (r : Region) (off len : Nat) : MetOnly s (noteHostRead s r off len) := by
  unfold noteHostRead
  dsimp only
  split
  · rfl
  · exact (MetOnly.foldl (g := noteLatent r.role) (fun _ _ => rfl) _ s).trans (stageRecord_met _ r)

theorem noteTensors_met (s : State) : MetOnly s (noteTensors s) :=
  MetOnly.foldl (fun s t => by
    dsimp only
    cases regionNo s (tensorNo s t).region with
    | none => rfl
    | some r => exact noteHostRead_met s r _ _) _ s

theorem feed_only (s : State) (id : BitVec 16) (bs : Bytes) (ends : Bool) : HostOnly s (feed s id bs ends) :=
  HostOnly.trans (s := modChannel s id (fun c => { c with stream := c.stream ++ bs, streamEnd := c.streamEnd || ends })) rfl
    (pump_only _ id)

/-- What an export that begins writes of what is read here: with a job key it is in progress, without one it has ended. -/
theorem exportStart_eq {s : State} (hj : s.dev.jobSuspended = false) (c : Channel) : let t := exportStart s c
    t.ctx.op = 1 ∧ t.ctx.inProgress = s.sec.jobKey.isSome ∧ t.ctx.result = (if s.sec.jobKey.isSome then 0 else 6) ∧
      t.dev.activity = (if s.sec.jobKey.isSome then 3 else s.dev.activity) ∧ t.image = s.image ∧ t.sets = s.sets ∧
      t.train = s.train ∧ t.mem.dram = s.mem.dram := by
  unfold exportStart
  rw [hj, if_neg Bool.false_ne_true]
  dsimp only
  cases hk : s.sec.jobKey with
  | none =>
    have hc := closeChannel_only 5 0
      { s with ctx := { s.ctx with op := 1, result := 6, inProgress := false, bytesDone := 0, bytesTotal := 0 } } c
    unfold HostOnly at hc
    dsimp only
    rw [hc]
    exact ⟨rfl, rfl, rfl, rfl, rfl, rfl, rfl, rfl⟩
  | some key =>
    dsimp only
    generalize contextImage s key (suspendedFlags s) = im
    have hn := noteTensors_met { s with
      fresh := s.fresh + 2, dev := { s.dev with activity := 3 }
      ctx := { s.ctx with op := 1, result := 0, inProgress := true, bytesDone := 0, bytesTotal := BitVec.ofNat 64 im.length } }
    generalize noteTensors _ = u at hn ⊢
    have hf := feed_only u c.id im true
    unfold HostOnly at hf
    unfold MetOnly at hn
    rw [hf, hn]
    exact ⟨rfl, rfl, rfl, rfl, rfl, rfl, rfl, rfl⟩

/-- Settles O12: RESUME announces the replay that the master takes, and the context operations begin on their channels. -/
theorem resumeRestoreAndExportBegin : Obligations.ResumeRestoreAndExportBegin := by
  unfold Obligations.ResumeRestoreAndExportBegin
  constructor
  · intro a s ha
    refine ⟨fun hm hmaster h0 himage hheld => ?_, exec_resume_of_not_master ha⟩
    obtain ⟨hreplay, hepoch, hseq, hdev⟩ := resumeNow_eq hm himage hheld
    refine ⟨coded (resumeNow s) 0, resumeReplay s, exec_resume ha hm hmaster h0 himage, ?_⟩
    generalize resumeNow s = t at *
    exact ⟨hreplay, rfl, rfl, rfl, hepoch, hseq, (congrArg Device.mode hdev).trans hm, rfl⟩
  · intro a s ha h0 hj
    refine ⟨fun hm hc => ⟨_, exec_restoreContext ha h0 hm hc, ?_⟩, fun hm hc => ?_,
      fun hm hc => ⟨_, exec_restoreContext_of_no_channel ha hm hc, rfl, rfl⟩,
      fun hm hc => ⟨_, exec_exportContext_of_no_channel ha hm hc, rfl, rfl⟩⟩
    · obtain ⟨p, h, he⟩ := restoreStart_eq s
      rw [he]
      exact ⟨rfl, rfl, rfl, rfl, rfl, rfl, rfl, rfl, rfl, rfl, rfl⟩
    · obtain ⟨c, hc⟩ := Option.isSome_iff_exists.mp hc
      obtain ⟨hop, hprogress, hresult, hactivity, himage, hsets, htrain, hdram⟩ := exportStart_eq hj c
      refine ⟨_, exec_exportContext ha h0 hm hc, ?_⟩
      generalize exportStart s c = t at *
      exact ⟨hop, hprogress, hresult, h0 ▸ hactivity, rfl, himage, hsets, htrain, hdram⟩

end Sys2Proof.Machine
end

section
/-! The state after reset (13, R266; 14, R300): every table is empty, so that each entry of it reads as its default. -/

namespace Sys2Proof.Machine

/-- Settles O5: the state after reset is written out, and an entry of an empty table is the default. -/
theorem resetIsStandbyWithDefaults : Obligations.ResetIsStandbyWithDefaults := by
  unfold Obligations.ResetIsStandbyWithDefaults
  have htable {α : Type} (d : α) (i : Nat) : sget d [] i = d := rfl
  exact ⟨rfl, rfl, rfl, rfl, rfl, rfl, rfl, rfl, rfl, rfl, rfl, rfl, rfl, rfl, rfl, rfl, rfl, rfl, rfl, rfl, rfl,
    htable _, htable _, htable _, htable _, htable _⟩

end Sys2Proof.Machine
end

section
/-! The invariant of every step (14, R295; 12, R247): Laws/Kept* carry its first two parts, and the queue of the next state is
that of the last one without its front. -/

namespace Sys2Proof.Machine

/-- A state that meets the invariant keeps both parts that Laws/Kept* speak of. -/
theorem Inv.kept {s : State} (h : Inv s) : Kept ⟨s.pending, True, True⟩ s := by
  obtain ⟨herr, ⟨hmem, hstore, hbuffers⟩, -⟩ := h
  simp only [Memory.wf, Bool.and_eq_true] at hmem
  obtain ⟨⟨⟨hspad, hdram⟩, htier⟩, hlast⟩ := hmem
  exact ⟨rfl, fun _ => herr, ⟨fun _ => hspad, fun _ => hdram, fun _ => htier, fun _ => hlast⟩, fun _ => hstore, fun _ => hbuffers⟩

/-- A state that keeps both parts, with a well-formed queue, meets the invariant. -/
theorem inv_of_kept {q : List Instr} {t : State} (h : Kept ⟨q, True, True⟩ t) (hq : ∀ c ∈ q, c.wf = true) : Inv t := by
  obtain ⟨hqueue, herr, ⟨hspad, hdram, htier, hlast⟩, hstore, hbuffers⟩ := h
  have hmem : t.mem.wf = true := by
    simp only [Memory.wf, Bool.and_eq_true]
    exact ⟨⟨⟨hspad trivial, hdram trivial⟩, htier trivial⟩, hlast trivial⟩
  have hpending : t.pending = q := hqueue
  exact ⟨herr trivial, ⟨hmem, hstore trivial, hbuffers trivial⟩, fun c hc => hq c (hpending ▸ hc)⟩

/-- Every command keeps the invariant. -/
theorem exec_keeps_inv {c : Instr} {s t : State} (hs : Inv s) (ht : exec c s = .next t) : Inv t :=
  inv_of_kept (exec_kept hs.kept t ht) hs.2.2

/-- Settles O3: a command keeps the invariant, taking it off the queue does, and the idle tick moves the time base alone. -/
theorem stepKeepsInvariant : Obligations.StepKeepsInvariant := by
  intro s t hs ht
  cases hp : s.pending with
  | nil =>
    rw [step_of_nil hp] at ht
    cases ht
    exact hs
  | cons c rest =>
    obtain ⟨herr, hmem, hqueue⟩ := hs
    have hfront : Inv { s with pending := rest } := ⟨herr, hmem, fun d hd => hqueue d (hp ▸ List.mem_cons_of_mem c hd)⟩
    have hstep := step_of_cons c rest s
    rw [← hp] at hstep
    exact exec_keeps_inv hfront (hstep.symm.trans ht)

/-- Settles O4: after reset ERR_HELD is 0, no memory lists a byte, and no command waits. -/
theorem resetSatisfiesInvariant : Obligations.ResetSatisfiesInvariant :=
  ⟨Bool.noConfusion, ⟨reset_mem_wf, nil_wf, nil_wf⟩, List.forall_mem_nil _⟩

end Sys2Proof.Machine
end

section
/-! Mailboxes (15, R312 to R320): what each register write of a permitted agent leaves, and that another agent's changes nothing. -/

namespace Sys2Proof.Machine
open Sys2Proof.Claims

/-! One mailbox changed -/

theorem mailboxOnly_modMail {s : State} {m : Nat} {f : Mailbox → Mailbox} {x : Mailbox} (hw : swf {} s.mail = true)
    (hx : f (mailOf s m) = x) : MailboxOnly s (modMail s m f) m x :=
  ⟨fun _ => (mailOf_modMail hw).trans (by rw [hx]), rfl⟩

/-- A mailbox that is as it was. -/
theorem ite_mailOf (s : State) (m i : Nat) : (if i = m then mailOf s m else mailOf s i) = mailOf s i := by
  split
  case isTrue h => rw [h]
  case isFalse => rfl

theorem modMail_swf {s : State} {m : Nat} {f : Mailbox → Mailbox} (hw : swf {} s.mail = true) :
    swf {} (modMail s m f).mail = true := smod_swf hw

theorem mailOf_modMail_same {s : State} {m : Nat} {f : Mailbox → Mailbox} (hw : swf {} s.mail = true) :
    mailOf (modMail s m f) m = f (mailOf s m) := (mailOf_modMail hw).trans (if_pos rfl)

/-- A receiver's end of a message leaves it for the owner, where the owner is a host's agent and has not been reset. -/
theorem ended_of_kept {m : Nat} {x : Mailbox} (ho : x.orphan = false) (h1 : x.owner ≠ 1) (h14 : x.owner ≠ 14) : ended m x = x := by
  have hsender : (x.owner == 1 || x.owner == 14) = false := by simp [h1, h14]
  rw [ended, ho, hsender, Bool.and_false]
  rfl

/-- In mailboxes 0 to 15 it does for every owner. -/
theorem ended_of_low {m : Nat} {x : Mailbox} (ho : x.orphan = false) (hm : m < 16) : ended m x = x := by
  have hlow : decide (17 ≤ m) = false := decide_eq_false (by omega)
  rw [ended, ho, hlow, Bool.false_and]
  rfl

/-! The writes of each agent -/

section Writes

variable {s : State} {m a : Nat}

theorem lockRead_of_free (hp : mailPermits m a = true) (h0 : (mailOf s m).owner = 0) :
    lockRead s m a = (modMail s m (fun x => { x with owner := a }), 0) := by
  simp only [lockRead, hp, h0, Bool.not_true, Bool.false_eq_true, if_false, if_true]

theorem lockRead_of_not_free (h : mailPermits m a = false ∨ (mailOf s m).owner ≠ 0) : (lockRead s m a).1 = s := by
  rcases h with hp | ho
  · simp only [lockRead, hp, Bool.not_false, if_true]
  · simp only [lockRead, ho, if_false, apply_ite Prod.fst, ite_self]

theorem lockWrite_of_owner (ha : a ≠ 0) (ho : (mailOf s m).owner = a) (hb : mailBusy (mailOf s m) = false) :
    lockWrite s m a 0 = (modMail s m (fun _ => {}), 0) := by
  simp [lockWrite, ha, ho, hb]

theorem lockWrite_of_other (v : Nat) (ho : a ≠ (mailOf s m).owner) : lockWrite s m a v = (s, 0x0201) :=
  if_pos (.inr ho)

/-- The message that GO sends, or the one that it ends at once where the receiver is absent (R319). -/
def sentMail (s : State) (m a : Nat) (len : BitVec 5) (code : BitVec 8) (x : Mailbox) : Mailbox :=
  if agentPresent s (mailReceiver m) then { x with status := 1, sender := BitVec.ofNat 6 a, length := len, code := code }
  else { x with status := 5, sender := BitVec.ofNat 6 a, length := len, code := code, data := [] }

theorem goWrite_of_owner {len : BitVec 5} (code : BitVec 8) (ha : a ≠ 0) (ho : (mailOf s m).owner = a)
    (hb : mailBusy (mailOf s m) = false) (h8 : 8 ≤ len.toNat) (h16 : len.toNat ≤ 16) :
    goWrite s m a len code = (modMail s m (sentMail s m a len code), 0) := by
  have hown : ¬(a = 0 ∨ a ≠ (mailOf s m).owner) := by simp [ha, ho]
  have hlen : ¬(len.toNat < 8 ∨ 16 < len.toNat) := by omega
  simp only [goWrite, hown, hb, hlen, Bool.false_eq_true, if_false]
  rfl

theorem goWrite_of_other (len : BitVec 5) (code : BitVec 8) (ho : a ≠ (mailOf s m).owner) :
    goWrite s m a len code = (s, 0x0201) := if_pos (.inr ho)

theorem withdrawWrite_of_owner (ha : a ≠ 0) (ho : (mailOf s m).owner = a) (h1 : (mailOf s m).status = 1) :
    withdrawWrite s m a = (modMail s m (fun x => { x with status := 0 }), 0) := by
  simp [withdrawWrite, ha, ho, h1]

theorem withdrawWrite_of_not_pending (h1 : (mailOf s m).status ≠ 1) : (withdrawWrite s m a).1 = s := by
  simp only [withdrawWrite, h1, if_false, apply_ite Prod.fst, ite_self]

theorem withdrawWrite_of_other (ho : a ≠ (mailOf s m).owner) : withdrawWrite s m a = (s, 0x0201) := if_pos (.inr ho)

theorem takenWrite_of_pending (hr : a = mailReceiver m) (h1 : (mailOf s m).status = 1) :
    takenWrite s m a = (modMail s m (fun x => { x with status := 2 }), 0) := by
  simp [takenWrite, hr, h1]

theorem takenWrite_of_not_pending (h1 : (mailOf s m).status ≠ 1) : (takenWrite s m a).1 = s := by
  simp only [takenWrite, h1, if_false, apply_ite Prod.fst, ite_self]

theorem takenWrite_of_other (hr : a ≠ mailReceiver m) : takenWrite s m a = (s, 0x0201) := if_pos hr

theorem doneWrite_of_taken {len : BitVec 5} (hr : a = mailReceiver m) (h2 : (mailOf s m).status = 2)
    (hlen : len.toNat = 0 ∨ 8 ≤ len.toNat ∧ len.toNat ≤ 16) :
    doneWrite s m a len = (modMail s m (fun x => ended m { x with status := 3, length := len }), 0) := by
  have h : ¬(len.toNat ≠ 0 ∧ (len.toNat < 8 ∨ 16 < len.toNat)) := by omega
  simp only [doneWrite, hr, h2, h, ne_eq, not_true_eq_false, if_false]

theorem doneWrite_of_other (len : BitVec 5) (hr : a ≠ mailReceiver m) : doneWrite s m a len = (s, 0x0201) := if_pos hr

theorem rejectedWrite_of_taken (hr : a = mailReceiver m) (h2 : (mailOf s m).status = 2) :
    rejectedWrite s m a = (modMail s m (fun x => ended m { x with status := 4 }), 0) := by
  simp [rejectedWrite, hr, mailBusy, h2]

theorem rejectedWrite_of_other (hr : a ≠ mailReceiver m) : rejectedWrite s m a = (s, 0x0201) := if_pos hr

end Writes

/-! The commands: each is its write -/

theorem exec_mailLock (m : Fin 32) (a : Fin 64) (s : State) : exec (.mailLock m a) s = .next (lockRead s m.val a.val).1 := rfl
theorem exec_mailRelease (m : Fin 32) (a : Fin 64) (s : State) :
    exec (.mailRelease m a) s = .next (lockWrite s m.val a.val 0).1 := rfl
theorem exec_mailGo (m : Fin 32) (a : Fin 64) (len : BitVec 5) (code : BitVec 8) (s : State) :
    exec (.mailGo m a len code) s = .next (goWrite s m.val a.val len code).1 := rfl
theorem exec_mailboxWithdraw (m : Fin 32) (a : Fin 64) (s : State) :
    exec (.mailboxWithdraw m a) s = .next (withdrawWrite s m.val a.val).1 := rfl
theorem exec_mailTaken (m : Fin 32) (a : Fin 64) (s : State) :
    exec (.mailTaken m a) s = .next (takenWrite s m.val a.val).1 := rfl
theorem exec_mailDone (m : Fin 32) (a : Fin 64) (len : BitVec 5) (s : State) :
    exec (.mailDone m a len) s = .next (doneWrite s m.val a.val len).1 := rfl
theorem exec_mailRejected (m : Fin 32) (a : Fin 64) (s : State) :
    exec (.mailRejected m a) s = .next (rejectedWrite s m.val a.val).1 := rfl

/-- Settles O34: the write of the owner or of the receiver changes the one mailbox, and another agent's is refused. -/
theorem mailboxLifeOfAMessage : Obligations.MailboxLifeOfAMessage := by
  unfold Obligations.MailboxLifeOfAMessage
  intro m a s hw x r
  simp only [exec_mailLock, exec_mailRelease, exec_mailGo, exec_mailboxWithdraw, exec_mailTaken, exec_mailDone, exec_mailRejected]
  refine ⟨fun hp h0 => ?_, fun h => ?_, fun ha ho hb => ⟨?_, fun len code h8 h16 => ?_⟩, fun ha ho h1 => ?_, fun hr h1 => ?_,
    fun hr h2 horphan hm hs => ⟨fun len hlen => ?_, ?_⟩, fun hr => ⟨?_, fun len => ?_, ?_⟩, fun ho => ⟨?_, ?_, fun len code => ?_⟩⟩
  · exact ⟨_, by rw [lockRead_of_free hp h0], mailboxOnly_modMail hw rfl⟩
  · rw [lockRead_of_not_free h]
  · exact ⟨_, by rw [lockWrite_of_owner ha ho hb], mailboxOnly_modMail hw rfl⟩
  · exact ⟨_, by rw [goWrite_of_owner code ha ho hb h8 h16], mailboxOnly_modMail hw rfl⟩
  · exact ⟨_, by rw [withdrawWrite_of_owner ha ho h1], mailboxOnly_modMail hw rfl⟩
  · exact ⟨_, by rw [takenWrite_of_pending hr h1], mailboxOnly_modMail hw rfl⟩
  · exact ⟨_, by rw [doneWrite_of_taken hr h2 hlen],
      mailboxOnly_modMail hw (ended_of_kept (x := { x with status := 3, length := len }) horphan hm hs)⟩
  · exact ⟨_, by rw [rejectedWrite_of_taken hr h2],
      mailboxOnly_modMail hw (ended_of_kept (x := { x with status := 4 }) horphan hm hs)⟩
  · rw [takenWrite_of_other hr]
  · rw [doneWrite_of_other len hr]
  · rw [rejectedWrite_of_other hr]
  · rw [lockWrite_of_other 0 ho]
  · rw [withdrawWrite_of_other ho]
  · rw [goWrite_of_other len code ho]

/-- Settles O60: the write that comes first takes the message out of PENDING, and the other one finds it there no more. -/
theorem withdrawalAgainstTaken : Obligations.WithdrawalAgainstTaken := by
  unfold Obligations.WithdrawalAgainstTaken
  intro m a b s hw ha ho h1 hr
  simp only [exec_mailboxWithdraw, exec_mailTaken]
  constructor
  · have ht := mailOf_modMail_same (m := m.val) (f := fun x => { x with status := 0 }) hw
    refine ⟨_, by rw [withdrawWrite_of_owner ha ho h1], mailboxOnly_modMail hw rfl, ?_, by rw [ht], by rw [ht, ← ho]⟩
    rw [takenWrite_of_not_pending (by rw [ht]; exact (by decide : (0 : BitVec 3) ≠ 1))]
  · have ht := mailOf_modMail_same (m := m.val) (f := fun x => { x with status := 2 }) hw
    refine ⟨_, by rw [takenWrite_of_pending hr h1], mailboxOnly_modMail hw rfl, ?_, by rw [ht], by rw [ht, ← ho]⟩
    rw [withdrawWrite_of_not_pending (by rw [ht]; exact (by decide : (2 : BitVec 3) ≠ 1))]

/-! The monitor's lines (15, R324) -/

/-- A heard monitor command answers its line from the state that it leaves. -/
theorem monDo_of_heard {s : State} (h : isHeard s .monitor = true) (f : State → State × BitVec 16 × Bytes) :
    monDo f s = .next (said (f s).1 (f s).2.1 (f s).2.2) := if_pos h

/-- A line of the UART never waits. -/
theorem said_eq (s : State) (c : BitVec 16) (v : Bytes) : said s c v = { coded s c with
    port := { s.port with tx := s.port.tx ++ [monLine c v] } } := by
  unfold said monLine
  split <;> rfl

/-- A line that is answered after one mailbox changed. -/
theorem saidAndMail_of_mailboxOnly {s t : State} {m : Nat} {x : Mailbox} (h : MailboxOnly s t m x) (c : BitVec 16) (v : Bytes) :
    SaidAndMail s (said t c v) c v m x := by
  obtain ⟨hm, ht⟩ := h
  rw [said_eq]
  refine ⟨hm, ?_⟩
  rw [said_eq, ht]
  rfl

/-- Between s and t mailbox m got DATA words from word i on (15, R312). -/
def WordsPut (s t : State) (m i : Nat) (ws : List (BitVec 32)) : Prop :=
  ∃ data, MailboxOnly s t m { mailOf s m with data := data } ∧ swf {} t.mail = true ∧
    ∀ j, sget 0 data j = if i ≤ j ∧ j < i + ws.length then ws.getD (j - i) 0 else sget 0 (mailOf s m).data j

theorem wordWrite_of_owner {s : State} {m i : Nat} (v : BitVec 32) (ho : (mailOf s m).owner = 16)
    (hb : mailBusy (mailOf s m) = false) (hr : mailReceiver m ≠ 16) :
    wordWrite s m 16 i v = (modMail s m (fun x => { x with data := sput 0 x.data i v }), 0) := by
  simp [wordWrite, ho, hb, hr.symm]

/-- The owner's words go to DATA one after another. -/
theorem putWords_of_owner {m : Nat} (hr : mailReceiver m ≠ 16) : ∀ (ws : List (BitVec 32)) (i : Nat) (s : State),
    swf {} s.mail = true → swf 0 (mailOf s m).data = true → (mailOf s m).owner = 16 → mailBusy (mailOf s m) = false →
    ∃ t, putWords m i ws s = (t, 0) ∧ WordsPut s t m i ws
  | [], i, s, hw, _, _, _ => ⟨s, rfl, (mailOf s m).data, ⟨fun j => (ite_mailOf s m j).symm, rfl⟩, hw,
      fun j => (if_neg (by rw [List.length_nil]; omega)).symm⟩
  | w :: ws, i, s, hw, hd, ho, hb => by
    have h1 := mailOf_modMail_same (m := m) (f := fun x => { x with data := sput 0 x.data i w }) hw
    obtain ⟨t, ht, data, ⟨hmail, hrest⟩, htw, hdata⟩ := putWords_of_owner hr ws (i + 1)
      (modMail s m (fun x => { x with data := sput 0 x.data i w })) (modMail_swf hw) (by rw [h1]; exact sput_swf hd)
      (by rw [h1]; exact ho) (by rw [h1]; exact hb)
    rw [h1] at hmail hdata
    refine ⟨t, ?_, data, ⟨fun j => ?_, hrest⟩, htw, fun j => ?_⟩
    · rw [putWords, wordWrite_of_owner w ho hb hr]
      exact ht
    · rw [hmail, mailOf_modMail hw]
      split <;> rfl
    · rw [hdata, sget_sput hd, List.length_cons]
      by_cases hj : j = i
      · subst hj
        rw [if_neg (by omega), if_pos rfl, if_pos (by omega), Nat.sub_self, List.getD_cons_zero]
      · by_cases hin : i + 1 ≤ j ∧ j < i + 1 + ws.length
        · rw [if_pos hin, if_pos (by omega), show j - i = (j - (i + 1)) + 1 by omega, List.getD_cons_succ]
        · rw [if_neg hin, if_neg hj, if_neg (by omega)]

/-- Words padded with zero words read as the words, and 0 beyond them. -/
theorem getD_padded (ws : List (BitVec 32)) (n i : Nat) : (ws ++ List.replicate n 0).getD i 0 = ws.getD i 0 := by
  by_cases h : i < ws.length
  · rw [List.getD_append _ _ _ _ h]
  · rw [List.getD_append_right _ _ _ _ (by omega), List.getD_eq_default ws 0 (by omega)]
    simp

/-- MB SEND by the owner writes the words, zeros up to 8, and sends them (log 131). -/
theorem mbSend_of_owner {m : Nat} {s : State} {ws : List (BitVec 32)} (code : BitVec 8) (hr : mailReceiver m ≠ 16)
    (hw : swf {} s.mail = true) (hd : swf 0 (mailOf s m).data = true) (ho : (mailOf s m).owner = 16)
    (hb : mailBusy (mailOf s m) = false) (hp : agentPresent s (mailReceiver m) = true) (hlen : ws.length ≤ 16) :
    ∃ t data, mbSend m code ws s = (t, 0) ∧ MailboxOnly s t m { mailOf s m with
        status := 1, sender := 16, length := BitVec.ofNat 5 (max 8 ws.length), code := code, data := data } ∧
      ∀ i, sget 0 data i = if i < max 8 ws.length then ws.getD i 0 else sget 0 (mailOf s m).data i := by
  obtain ⟨t, ht, data, ⟨hmail, hrest⟩, htw, hdata⟩ :=
    putWords_of_owner hr (ws ++ List.replicate (8 - ws.length) 0) 0 s hw hd ho hb
  have hself : mailOf t m = { mailOf s m with data := data } := (hmail m).trans (if_pos rfl)
  have hpresent : agentPresent t (mailReceiver m) = true := by
    rw [hrest]
    exact hp
  have hto : (BitVec.ofNat 5 (max 8 ws.length)).toNat = max 8 ws.length := by
    rw [BitVec.toNat_ofNat]
    exact Nat.mod_eq_of_lt (by omega)
  have hgo := goWrite_of_owner (s := t) (m := m) (a := 16) (len := BitVec.ofNat 5 (max 8 ws.length)) code (by decide)
    (by rw [hself]; exact ho) (by rw [hself]; exact hb) (by omega) (by omega)
  refine ⟨modMail t m (sentMail t m 16 (BitVec.ofNat 5 (max 8 ws.length)) code), data, ?_,
    ⟨fun i => (mailOf_modMail htw).trans ?_, ?_⟩, fun i => ?_⟩
  · rw [mbSend, if_neg (by omega), ht, if_pos rfl, hgo]
  · rw [sentMail, if_pos hpresent, hself, hmail]
    split <;> rfl
  · unfold modMail
    rw [hrest]
  · rw [hdata, getD_padded, List.length_append, List.length_replicate]
    refine if_congr ?_ rfl rfl
    omega

section Commands

variable {s : State} (h : isHeard s .monitor = true) (m : Fin 32)

include h

theorem exec_monMbLock : exec (.monMbLock m) s =
    .next (said (lockRead s m.val 16).1 0 (natBe 4 (lockRead s m.val 16).2.toNat)) := if_pos h
theorem exec_monMbSend (code : BitVec 8) (ws : List (BitVec 32)) : exec (.monMbSend m code ws) s =
    .next (said (mbSend m.val code ws s).1 (mbSend m.val code ws s).2 []) := if_pos h
theorem exec_monMbShow : exec (.monMbShow m) s = .next (said s 0 (natBe 4 (mailControl (mailOf s m.val)).toNat ++
    (List.range 16).flatMap (fun i => natBe 4 (mailWord (mailOf s m.val) m.val 16 i).toNat))) := if_pos h
theorem exec_monMbStatus_taken (len : BitVec 5) : exec (.monMbStatus m .taken len) s =
    .next (said (takenWrite s m.val 16).1 (takenWrite s m.val 16).2 []) := if_pos h
theorem exec_monMbStatus_completed (len : BitVec 5) : exec (.monMbStatus m .completed len) s =
    .next (said (doneWrite s m.val 16 len).1 (doneWrite s m.val 16 len).2 []) := if_pos h
theorem exec_monMbStatus_rejected (len : BitVec 5) : exec (.monMbStatus m .rejected len) s =
    .next (said (rejectedWrite s m.val 16).1 (rejectedWrite s m.val 16).2 []) := if_pos h
theorem exec_monMbFree : exec (.monMbFree m) s =
    .next (said (lockWrite s m.val 16 0).1 (lockWrite s m.val 16 0).2 []) := if_pos h

end Commands

/-- Settles O38: each command is its register write by agent 16, with the line that answers it. -/
theorem monitorMailboxCommands : Obligations.MonitorMailboxCommands := by
  unfold Obligations.MonitorMailboxCommands
  intro m s hs hw hd x
  refine ⟨fun hp h0 => ?_, fun ho hb hr hp code ws hlen => ?_, exec_monMbShow hs m, fun hr h1 len => ?_,
    fun hr h2 horphan hm1 hm14 len => ⟨fun hlen => ?_, ?_⟩, fun ho hb => ?_⟩
  · refine ⟨_, exec_monMbLock hs m, ?_⟩
    rw [lockRead_of_free hp h0]
    exact saidAndMail_of_mailboxOnly (mailboxOnly_modMail hw rfl) 0 _
  · obtain ⟨t, data, ht, hmail, hdata⟩ := mbSend_of_owner code hr hw hd ho hb hp hlen
    refine ⟨_, data, exec_monMbSend hs m code ws, ?_, hdata⟩
    rw [ht]
    exact saidAndMail_of_mailboxOnly hmail 0 []
  · refine ⟨_, exec_monMbStatus_taken hs m len, ?_⟩
    rw [takenWrite_of_pending hr.symm h1]
    exact saidAndMail_of_mailboxOnly (mailboxOnly_modMail hw rfl) 0 []
  · refine ⟨_, exec_monMbStatus_completed hs m len, ?_⟩
    rw [doneWrite_of_taken hr.symm h2 (.inl hlen)]
    exact saidAndMail_of_mailboxOnly
      (mailboxOnly_modMail hw (ended_of_kept (x := { x with status := 3, length := len }) horphan hm1 hm14)) 0 []
  · refine ⟨_, exec_monMbStatus_rejected hs m len, ?_⟩
    rw [rejectedWrite_of_taken hr.symm h2]
    exact saidAndMail_of_mailboxOnly (mailboxOnly_modMail hw (ended_of_kept (x := { x with status := 4 }) horphan hm1 hm14)) 0 []
  · refine ⟨_, exec_monMbFree hs m, ?_⟩
    rw [lockWrite_of_owner (by decide) ho hb]
    exact saidAndMail_of_mailboxOnly (mailboxOnly_modMail hw rfl) 0 []

end Sys2Proof.Machine
end

section
/-! Assay (15, R322; 18, R375 to R379): what a closed record holds, what each of Assay's commands changes, and the mailboxes of a
sender that is reset and of a receiver that is absent (15, R319, R320). -/

namespace Sys2Proof.Machine
open Sys2Proof.Claims

/-! Mailboxes in turn -/

section Turn

variable {s0 : State} {g : State → Nat → State} {F : Nat → Mailbox → Mailbox}
  (hg : ∀ s m, MailOnly s0 s → swf {} s.mail = true → swf {} (g s m).mail = true ∧ MailOnly s0 (g s m) ∧
    ∀ i, mailOf (g s m) i = if i = m then F m (mailOf s m) else mailOf s i)

include hg

/-- An operation that takes mailboxes one after another does to each what it does to it alone. -/
theorem mailOf_foldl : ∀ (l : List Nat) (s : State), l.Nodup → MailOnly s0 s → swf {} s.mail = true →
    swf {} (l.foldl g s).mail = true ∧
      ∀ i, mailOf (l.foldl g s) i = if i ∈ l then F i (mailOf s i) else mailOf s i
  | [], s, _, _, hw => ⟨hw, fun i => (if_neg List.not_mem_nil).symm⟩
  | m :: l, s, hl, hs, hw => by
    obtain ⟨hm, hl⟩ := List.nodup_cons.mp hl
    obtain ⟨hw1, hs1, h1⟩ := hg s m hs hw
    obtain ⟨hw2, h2⟩ := mailOf_foldl l (g s m) hl hs1 hw1
    refine ⟨hw2, fun i => (h2 i).trans ?_⟩
    rw [h1]
    by_cases hi : i = m
    · subst hi
      simp [hm]
    · simp [hi]

end Turn

/-- What the reset of sender a leaves of a mailbox (15, R320). -/
def releasedMail (a : Nat) (x : Mailbox) : Mailbox :=
  if x.owner = a then (if x.status = 2 then { x with orphan := true } else {}) else x

theorem mailOf_releaseSender {a : Nat} {s : State} (hw : swf {} s.mail = true) :
    swf {} (releaseSender a s).mail = true ∧ ∀ i < 32, mailOf (releaseSender a s) i = releasedMail a (mailOf s i) := by
  obtain ⟨hw1, h⟩ := mailOf_foldl (s0 := s) (F := fun _ => releasedMail a)
    (g := fun s m => if (mailOf s m).owner = a then (if (mailOf s m).status = 2 then
      modMail s m (fun x => { x with orphan := true }) else modMail s m (fun _ => {})) else s)
    (fun t m ht hw => by
      unfold releasedMail
      split
      · split
        · exact ⟨modMail_swf hw, ht.trans modMail_mailOnly, fun i => mailOf_modMail hw⟩
        · exact ⟨modMail_swf hw, ht.trans modMail_mailOnly, fun i => mailOf_modMail hw⟩
      · exact ⟨hw, ht, fun i => (ite_mailOf t m i).symm⟩) (List.range 32) s List.nodup_range (.refl s) hw
  exact ⟨hw1, fun i hi => (h i).trans (if_pos (List.mem_range.mpr hi))⟩

theorem agentPresent_of_mailOnly {s t : State} (h : MailOnly s t) (a : Nat) : agentPresent t a = agentPresent s a := by
  rw [h]
  rfl

/-- A busy mailbox of an absent receiver is cleared, any other stays (15, R319). -/
theorem mailOf_clearAbsent {s : State} (hw : swf {} s.mail = true) {i : Nat} (hi : i < 32) :
    mailOf (clearAbsent s) i = if !agentPresent s (mailReceiver i) && mailBusy (mailOf s i) then abortMail (mailOf s i)
      else mailOf s i := by
  obtain ⟨-, h⟩ := mailOf_foldl (s0 := s)
    (F := fun i x => if !agentPresent s (mailReceiver i) && mailBusy x then abortMail x else x)
    (g := fun s m => if !agentPresent s (mailReceiver m) && mailBusy (mailOf s m) then modMail s m abortMail else s)
    (fun t m ht hw => by
      rw [agentPresent_of_mailOnly ht]
      split
      · exact ⟨modMail_swf hw, ht.trans modMail_mailOnly, fun i => mailOf_modMail hw⟩
      · exact ⟨hw, ht, fun i => (ite_mailOf t m i).symm⟩) (List.range 32) s List.nodup_range (.refl s) hw
  exact (h i).trans (if_pos (List.mem_range.mpr hi))

theorem mailBusy_abortMail (x : Mailbox) : mailBusy (abortMail x) = false := rfl

/-! The bytes of a record (18, Table 18.9) -/

/-- A number stored at the front of a byte string. -/
theorem leAt_natLe (n v : Nat) (b : Bytes) : leAt (natLe n v ++ b) 0 n = v % 256 ^ n := by
  rw [leAt, List.drop_zero, List.take_left' (length_natLe n v), leNat_natLe]

/-- Words of 8 bytes take 8 bytes each. -/
theorem length_flatMap_words (n : Nat) (f : Nat → Nat) : ((List.range n).flatMap (fun k => natLe 8 (f k))).length = 8 * n := by
  rw [List.length_flatMap]
  simp [Nat.mul_comm]

/-- The fields of a record that 18, Table 18.9 places in its bytes 0 to 167, whatever follows. -/
structure RecordReads (b : Bytes) (a : Assay) (r : OpenRecord) (flags fabricEnd endTime work : Nat) : Prop where
  magic : leAt b 0 4 = 0x52435341
  flags : leAt b 6 2 = flags % 2 ^ 16
  index : leAt b 8 8 = a.nextIndex.toNat
  job : leAt b 16 8 = r.jobId.toNat
  fabricStart : leAt b 56 8 = r.fabricStart.toNat
  fabricEnd : leAt b 64 8 = fabricEnd % 2 ^ 64
  assayStart : leAt b 72 8 = r.assayStart.toNat
  endTime : leAt b 80 8 = endTime % 2 ^ 64
  work : leAt b 152 16 = work % 2 ^ 128

theorem recordBody_reads (a : Assay) (r : OpenRecord) (flags fabricEnd endTime : Nat) (energy : List (BitVec 64)) (work : Nat)
    (sig : Bytes) :
    RecordReads (recordBody a r flags fabricEnd endTime energy work ++ sig) a r flags fabricEnd endTime work := by
  have hword (x : BitVec 64) : x.toNat % 18446744073709551616 = x.toNat := Nat.mod_eq_of_lt x.isLt
  unfold recordBody
  constructor <;>
    simp (disch := simp) only [List.append_assoc, leAt_append_right, length_natLe, length_slice, length_flatMap_words,
      Nat.reduceSub, Nat.reduceMul, leAt_natLe, Nat.reducePow, Nat.reduceMod, hword]

/-! Closing a record (18, R376) -/

/-- FLAGS as they stand in a record: KEY_LOST added (18, Table 18.8). -/
def storedFlags (a : Assay) (flags : Nat) : Nat := flags + if a.keyLost then 32 else 0

theorem storedFlags_lt {a : Assay} {flags : Nat} (h : flags < 2 ^ 15) : storedFlags a flags < 2 ^ 16 := by
  unfold storedFlags
  split <;> omega

/-- Assay with the record r closed under its flags and signature: written to the ring, its notice due. -/
def closedAssay (a : Assay) (r : OpenRecord) (flags fabricEnd endTime : Nat) (energy : List (BitVec 64)) (work : Nat)
    (sig : Bytes) : Assay :=
  { a with
    record := none
    ring := sput (List.replicate 640 0) a.ring (a.nextIndex.toNat % 16384)
      (recordBody a r (storedFlags a flags) fabricEnd endTime energy work ++ sig)
    nextIndex := a.nextIndex + 1
    notices := a.notices ++ [(r.jobId, a.nextIndex)] }

theorem closeRecord_eq {s : State} {r : OpenRecord} (hr : s.assay.record = some r) (flags fabricEnd endTime : Nat)
    (energy : List (BitVec 64)) (work : Nat) : ∃ sig, closeRecord s flags fabricEnd endTime energy work = { s with
      fresh := s.fresh + 1
      assay := closedAssay s.assay r (flags + if r.lowPower then 16 else 0) fabricEnd endTime energy work sig } := by
  simp only [closeRecord, hr]
  exact ⟨_, rfl⟩

/-- A record of s is closed in t by Assay a, which differs from that of s in its readings and its firmware alone; q is the
record with LOW_POWER as last read. -/
theorem recordClosed_of_closedAssay {s t : State} {a : Assay} {r q : OpenRecord} {flags fabricEnd endTime work : Nat}
    {energy : List (BitVec 64)} {sig : Bytes} (hr : s.assay.record = some r) (hring : swf (List.replicate 640 0) s.assay.ring = true)
    (hq : q.jobId = r.jobId ∧ q.fabricStart = r.fabricStart ∧ q.assayStart = r.assayStart)
    (ha : a.ring = s.assay.ring ∧ a.nextIndex = s.assay.nextIndex ∧ a.notices = s.assay.notices ∧ a.keyLost = s.assay.keyLost)
    (ht : t.assay.record = none ∧ t.assay.ring = (closedAssay a q flags fabricEnd endTime energy work sig).ring ∧
      t.assay.nextIndex = a.nextIndex + 1 ∧ t.assay.notices = a.notices ++ [(q.jobId, a.nextIndex)])
    (hflags : flags < 2 ^ 15) (hend : fabricEnd < 2 ^ 64) (htime : endTime < 2 ^ 64) :
    RecordClosed s t flags fabricEnd endTime work := by
  obtain ⟨hqjob, hqfabric, hqassay⟩ := hq
  obtain ⟨haring, hanext, hanotices, hakey⟩ := ha
  obtain ⟨htrecord, htring, htnext, htnotices⟩ := ht
  have hstored : storedFlags a flags = flags + if s.assay.keyLost then 32 else 0 := by rw [storedFlags, hakey]
  obtain ⟨hmagic, hfl, hindex, hjob, hfrom, hto, hstart, hstop, hwork⟩ :=
    recordBody_reads a q (storedFlags a flags) fabricEnd endTime energy work sig
  replace hfl := hfl.trans ((Nat.mod_eq_of_lt (storedFlags_lt hflags)).trans hstored)
  rw [Nat.mod_eq_of_lt hend] at hto
  rw [Nat.mod_eq_of_lt htime] at hstop
  rw [hanext] at hindex
  rw [hqjob] at hjob
  rw [hqfabric] at hfrom
  rw [hqassay] at hstart
  simp only [closedAssay, haring, hanext] at htring
  generalize recordBody a q (storedFlags a flags) fabricEnd endTime energy work ++ sig = body at *
  have hslot (i : Nat) : ringSlotOf t.assay i =
      if i = s.assay.nextIndex.toNat % 16384 then body else ringSlotOf s.assay i := by
    rw [ringSlotOf, htring, sget_sput hring]
    rfl
  unfold RecordClosed
  simp only [hslot, if_true]
  refine ⟨htrecord, htnext.trans (by rw [hanext]), fun p hp => ?_, fun i hi => if_neg hi⟩
  obtain rfl : r = p := Option.some.inj (hr.symm.trans hp)
  refine ⟨?_, hmagic, hfl, hindex, hjob, hfrom, hto, hstart, hstop, hwork⟩
  rw [htnotices, hanotices, hanext, hqjob]

/-- Assay with the readings of an instant, LOW_POWER in its open record included. -/
def metered (a : Assay) (w : Metering) : Assay :=
  noteMeter { a with record := a.record.map (fun (r : OpenRecord) => { r with lowPower := w.lowPower }) } w

theorem closeAt_eq {s : State} {r : OpenRecord} (hr : s.assay.record = some r) (w : Metering) (flags fabricEnd : Nat) :
    closeAt s w flags fabricEnd =
      closeRecord { s with assay := metered s.assay w } flags fabricEnd w.assayTime.toNat w.energy r.work := by
  rw [closeAt, hr, Option.elim_some, metered, hr]

/-- A record that closes at an instant whose readings Assay notes. -/
theorem closeAt_closed {s : State} {r : OpenRecord} (hr : s.assay.record = some r)
    (hring : swf (List.replicate 640 0) s.assay.ring = true) (w : Metering) {flags fabricEnd : Nat} (hflags : flags < 2 ^ 14)
    (hend : fabricEnd < 2 ^ 64) : ∃ a, closeAt s w flags fabricEnd = { s with fresh := s.fresh + 1, assay := a } ∧
      RecordClosed s { s with fresh := s.fresh + 1, assay := a } (flags + if w.lowPower then 16 else 0) fabricEnd
        w.assayTime.toNat r.work := by
  have hread : (metered s.assay w).record = some { r with lowPower := w.lowPower } := by
    simp only [metered, noteMeter, hr, Option.map_some]
  obtain ⟨sig, h⟩ := closeRecord_eq (s := { s with assay := metered s.assay w }) hread flags
    fabricEnd w.assayTime.toNat w.energy r.work
  refine ⟨_, (closeAt_eq hr w flags fabricEnd).trans h,
    recordClosed_of_closedAssay hr hring ⟨rfl, rfl, rfl⟩ ⟨rfl, rfl, rfl, rfl⟩
        ⟨rfl, rfl, rfl, rfl⟩ ?_ hend w.assayTime.isLt⟩
  split <;> omega

/-! The commands of Assay -/

theorem endFlags_lt (x : BitVec 32) : endFlags x < 2 ^ 14 := by
  unfold endFlags
  repeat' split
  all_goals omega

/-- Every array clock that the hearths counted has been delivered. -/
theorem countedClocks_of_delivered (s : State) :
    countedClocks { s with hearths := smap {} (fun (k : Hearth) => { k with workClocks := 0 }) s.hearths } = 0 := by
  unfold countedClocks
  generalize s.hearths = l
  induction l with
  | nil => rfl
  | cons x l ih =>
    obtain ⟨i, k⟩ := x
    rw [smap]
    split
    · exact ih
    · rw [List.map_cons, List.sum_cons, ih]

theorem pins_of_assayRuns {s : State} (h : assayRuns s = true) : s.pins.vassay = true := (Bool.and_eq_true_iff.mp h).2

/-- ECHO in mailboxes 0 to 15: the words return with CODE 0x01, any other message is rejected. -/
theorem exec_mailEcho {m : Fin 32} {s : State} (hm : m.val < 16) (hb : mailBusy (mailOf s m.val) = true)
    (hp : agentPresent s (mailReceiver m.val) = true) : exec (.mailEcho m) s = .next (modMail s m.val (fun x =>
      ended m.val { x with status := if (mailOf s m.val).code = 1 then 3 else 4 })) := by
  have he : exec (.mailEcho m) s = execMailEcho m s := rfl
  rw [he]
  by_cases hc : (mailOf s m.val).code = 1
  · simp only [execMailEcho, hb, hp, hm, hc, Bool.not_true, Bool.or_self, Bool.false_eq_true, if_false, if_true, and_self]
  · simp only [execMailEcho, hb, hp, hm, hc, Bool.not_true, Bool.or_self, Bool.false_eq_true, if_false, if_true, and_false,
      or_false]

theorem exec_jobStart {s : State} {x : Marker} {rest : List Marker} (w : Metering) (hrun : assayRuns s = true)
    (hmk : s.markers = x :: rest) (hx : x.isStart = true) :
    exec (.jobStart w) s = .next (openRecord { s with markers := rest } w x) := by
  have he : exec (.jobStart w) s = execJobStart w s := rfl
  rw [he]
  simp only [execJobStart, hmk, hx, hrun, Bool.not_true, Bool.false_eq_true, if_false, if_true]

theorem exec_jobEnd {s : State} {x : Marker} {rest : List Marker} {r : OpenRecord} (w : Metering) (hrun : assayRuns s = true)
    (hmk : s.markers = x :: rest) (hx : x.isStart = false) (hr : s.assay.record = some r) :
    exec (.jobEnd w) s = .next (if r.jobId = x.jobId then
      closeAt { s with markers := rest } w (endFlags x.reason) x.time.toNat else { s with markers := rest }) := by
  have he : exec (.jobEnd w) s = execJobEnd w s := rfl
  rw [he]
  by_cases hid : r.jobId = x.jobId <;> simp [execJobEnd, hmk, hx, hr, hrun, hid]

theorem exec_recordReady {s : State} {job i : BitVec 64} {rest : List (BitVec 64 × BitVec 64)} (hrun : assayRuns s = true)
    (hn : s.assay.notices = (job, i) :: rest) (h0 : (mailOf s 17).owner = 0) (hm : mgmtRuns s = true) :
    exec .recordReady s = .next (modMail { s with assay := { s.assay with notices := rest } } 17 (fun _ =>
      { owner := 14, status := 1, sender := 14, length := 8, code := 0x20
        data := wordsOf (natLe 8 job.toNat ++ natLe 8 i.toNat) })) := by
  have he : exec .recordReady s = execRecordReady s := rfl
  have hp : agentPresent s 1 = true := hm
  rw [he]
  simp [execRecordReady, hn, h0, hrun, hp]

theorem exec_workCountDelivery {s : State} (hv : s.pins.vassay = true) : exec .workCountDelivery s = .next { s with
    hearths := smap {} (fun (k : Hearth) => { k with workClocks := 0 }) s.hearths
    assay := { s.assay with
      workTotal := (s.assay.workTotal + 8192 * countedClocks s) % 2 ^ 128
      record := s.assay.record.map (fun (r : OpenRecord) => { r with
        work := (r.work + 8192 * countedClocks s) % 2 ^ 128 }) } } := if_pos hv

/-- Settles O35: each command of Assay by its case, and a closed record by the bytes of its slot. -/
theorem echoAndJobRecords : Obligations.EchoAndJobRecords := by
  unfold Obligations.EchoAndJobRecords
  intro m w s hw
  refine ⟨fun hm hb hp ho => ⟨_, exec_mailEcho hm hb hp, mailboxOnly_modMail hw (ended_of_low
    (x := { mailOf s m.val with status := if (mailOf s m.val).code = 1 then 3 else 4 }) ho hm)⟩, fun hrun => ?_⟩
  have hv := pins_of_assayRuns hrun
  refine ⟨fun x rest hmk hx hr => ?_, fun x rest r hmk hx hr => ⟨fun hid => ?_, fun hid hring => ?_⟩,
    fun job i rest hn h0 hm => ⟨_, exec_recordReady hrun hn h0 hm, rfl, fun j => ?_⟩,
    ⟨_, exec_workCountDelivery hv, rfl, rfl, countedClocks_of_delivered s, fun hh h => sget_smap rfl h hh⟩, if_pos hv⟩
  · rw [exec_jobStart w hrun hmk hx]
    simp only [openRecord, hr, Option.isSome_none, Bool.false_eq_true, if_false]
    rfl
  · rw [exec_jobEnd w hrun hmk hx hr, if_neg hid]
  · obtain ⟨a, heq, hclosed⟩ := closeAt_closed (s := { s with markers := rest }) hr hring w (endFlags_lt x.reason) x.time.isLt
    exact ⟨_, by rw [exec_jobEnd w hrun hmk hx hr, if_pos hid, heq], rfl, hclosed⟩
  · exact (mailOf_modMail (s := { s with assay := { s.assay with notices := rest } }) hw).trans rfl

/-! The supply and the firmware (18, R376, R377) -/

/-- The loss of the supply resets Assay as a sender and leaves it absent as a receiver. -/
theorem exec_vassayLoss {s : State} (w : Metering) (hv : s.pins.vassay = true) : exec (.vassayLoss w) s =
    .next (clearAbsent (releaseSender 14 { s with
      pins := { s.pins with vassay := false }, assay := { noteMeter s.assay w with running := false } })) := if_pos hv

/-- Its mailbox holds no message then, and of what it sent a message that was taken. -/
theorem mail_of_assayLost {s : State} (hw : swf {} s.mail = true) (hv : s.pins.vassay = false) :
    let t := clearAbsent (releaseSender 14 s)
    mailBusy (mailOf t 16) = false ∧ ∀ i < 32, (mailOf t i).owner = 14 → (mailOf t i).status = 2 ∨ (mailOf t i).status = 5 := by
  intro t
  obtain ⟨hw1, hrel⟩ := mailOf_releaseSender (a := 14) hw
  constructor
  · have habsent : agentPresent (releaseSender 14 s) (mailReceiver 16) = false := by
      have h14 : agentPresent s (mailReceiver 16) = (s.assay.running && s.pins.vassay) := rfl
      rw [agentPresent_of_mailOnly releaseSender_mailOnly, h14, hv, Bool.and_false]
    rw [mailOf_clearAbsent hw1 (by decide), habsent, Bool.not_false, Bool.true_and]
    split
    case isTrue => exact mailBusy_abortMail _
    case isFalse hb => exact eq_false_of_ne_true hb
  · intro i hi
    rw [mailOf_clearAbsent hw1 hi]
    split
    · exact fun _ => .inr rfl
    · rw [hrel i hi]
      unfold releasedMail
      repeat' split
      case isTrue.isTrue h2 => exact fun _ => .inl h2
      case isTrue.isFalse => exact fun h => absurd h (by decide)
      case isFalse h => exact fun h14 => absurd h14 h

/-- Assay with its supply back: it runs, with the firmware whose installation the loss cut off. -/
def returnedAssay (a : Assay) : Assay :=
  { a with running := true, installing := none, fwVersion := a.installing.elim a.fwVersion (·.1)
           fwMeasurement := a.installing.elim a.fwMeasurement (·.2) }

/-- Without a record open at the loss nothing closes. -/
theorem exec_vassayReturn_of_none {s : State} (w : Metering) (hv : s.pins.vassay = false) (hr : s.assay.record = none) :
    exec (.vassayReturn w) s = .next { s with
      pins := { s.pins with vassay := true }, assay := noteMeter (returnedAssay s.assay) w } := by
  have he : exec (.vassayReturn w) s = execVassayReturn w s := rfl
  simp only [he, execVassayReturn, hv, hr, Bool.false_eq_true, if_false]
  rw [returnedAssay, hr]

/-- A record open at the loss closes with POWER_LOSS and the values last stored. -/
theorem exec_vassayReturn_of_open {s : State} {r : OpenRecord} (w : Metering) (hv : s.pins.vassay = false)
    (hr : s.assay.record = some r) : ∃ sig, exec (.vassayReturn w) s = .next { s with
      fresh := s.fresh + 1, pins := { s.pins with vassay := true }
      assay := noteMeter (closedAssay (returnedAssay s.assay) r (8 + if r.lowPower then 16 else 0) 0 r.storedTime.toNat
        r.storedEnergy r.storedWork sig) w } := by
  have he : exec (.vassayReturn w) s = execVassayReturn w s := rfl
  obtain ⟨sig, hclose⟩ := closeRecord_eq (s := { s with pins := { s.pins with vassay := true }, assay := returnedAssay s.assay })
    hr 8 0 r.storedTime.toNat r.storedEnergy r.storedWork
  refine ⟨sig, ?_⟩
  rw [he, execVassayReturn, if_neg (by rw [hv]; exact Bool.false_ne_true)]
  simp only [hr]
  rw [returnedAssay, hr] at hclose
  rw [hclose, returnedAssay, hr]

theorem exec_assayFirmwareInstall_of_open {s : State} (hn : s.pins.assayUpdateN = false) (hrun : assayRuns s = true)
    (hr : s.assay.record.isSome = true) :
    exec .assayFirmwareInstall s = .next { s with assay := { s.assay with updatePending := true } } := by
  have he : exec .assayFirmwareInstall s = execAssayFirmwareInstall s := rfl
  simp [he, execAssayFirmwareInstall, hn, hrun, hr]

theorem exec_assayFirmwareInstall_of_closed {s : State} (hn : s.pins.assayUpdateN = false) (hrun : assayRuns s = true)
    (hr : s.assay.record = none) (ho : assayObjectOk s = true) :
    exec .assayFirmwareInstall s = .next (clearAbsent { s with assay := { s.assay with
      counter := max s.assay.counter (objVersion s.sec.assayStaging), updateCount := satInc s.assay.updateCount
      updatePending := false, running := false
      installing := some (objFw s.sec.assayStaging, objHash s.sec.assayStaging) } }) := by
  have he : exec .assayFirmwareInstall s = execAssayFirmwareInstall s := rfl
  simp [he, execAssayFirmwareInstall, hn, hrun, hr, ho]

theorem exec_assayRestartDone {s : State} {v : BitVec 32} {h : Bytes} (hi : s.assay.installing = some (v, h))
    (hv : s.pins.vassay = true) : exec .assayRestartDone s =
      .next { s with assay := { s.assay with running := true, installing := none, fwVersion := v, fwMeasurement := h } } := by
  have he : exec .assayRestartDone s = execAssayRestartDone s := rfl
  rw [he, execAssayRestartDone]
  simp only [hi, hv, if_true]

/-- Settles O36: each command of Assay's supply and firmware by its case. -/
theorem assayPowerAndFirmware : Obligations.AssayPowerAndFirmware := by
  unfold Obligations.AssayPowerAndFirmware
  intro w s hw hring
  refine ⟨fun hv => ?_, fun hv => ⟨if_neg (by simp [hv]), ?_⟩, rfl, fun hn hrun =>
    ⟨exec_assayFirmwareInstall_of_open hn hrun, fun hr ho => ⟨_, exec_assayFirmwareInstall_of_closed hn hrun hr ho, ?_⟩⟩,
    fun v h => exec_assayRestartDone⟩
  · refine ⟨_, exec_vassayLoss w hv, ?_, mail_of_assayLost hw rfl⟩
    exact releaseSender_mailOnly.trans clearAbsent_mailOnly
  · rcases Option.eq_none_or_eq_some s.assay.record with hr | ⟨r, hr⟩
    · exact ⟨_, exec_vassayReturn_of_none w hv hr, rfl, rfl, hr, rfl, fun _ => ⟨rfl, rfl⟩,
        fun r h => absurd (hr.symm.trans h) (Option.some_ne_none r).symm, rfl, rfl, rfl, rfl⟩
    · obtain ⟨sig, hexec⟩ := exec_vassayReturn_of_open w hv hr
      refine ⟨_, hexec, rfl, rfl, rfl, rfl, fun h => absurd (hr.symm.trans h) (Option.some_ne_none r), fun q hq => ?_,
        rfl, rfl, rfl, rfl⟩
      obtain rfl := Option.some.inj (hr.symm.trans hq)
      exact recordClosed_of_closedAssay (a := returnedAssay s.assay) hr hring ⟨rfl, rfl, rfl⟩ ⟨rfl, rfl, rfl, rfl⟩
        ⟨rfl, rfl, rfl, rfl⟩
        (by split <;> omega) (by decide) r.storedTime.isLt
  · rw [clearAbsent_mailOnly]

end Sys2Proof.Machine
end

section
/-! FORCE, ERR_HELD, keys and quotes (14, R295, R302, R303; 17, R357, R358; 18, R371, R372; 00, R8): each command is a write of
its entry, answered by the conditions of that entry in their order. -/

namespace Sys2Proof.Machine
open Sys2Proof.Claims

/-! The entries' own writes -/

theorem guarded_of_free (s t : State) : guarded false false false s t = (t, 0) := rfl

theorem code_of_sourceInfo {c : Nat} {i : SourceInfo} (h : sourceInfo c = some i) : i.code = c :=
  beq_iff_eq.mp (List.find?_some h :)

/-- FORCE = 1 in a CONTROL word of SOURCE_CONTROL. -/
theorem testBit_force (n : Nat) : (n ||| 0x80).testBit 7 = true := by
  rw [Nat.testBit_or, show Nat.testBit 0x80 7 = true by decide, Bool.or_true]

/-- FORCE asks for FAULT_INJECT in the policy before anything else of the word (14, R303). -/
theorem writeSub_force_of_denied {s : State} {i : SourceInfo} (a : Agent) (n : Nat) (bs : Bytes)
    (hi : sourceInfo s.faults.sourceSelect.toNat = some i) (hp : s.sec.policy.getLsbD 3 = false) :
    writeSub s a 0x5030 2 ⟨n ||| 0x80, 0, bs, true⟩ = (s, 0x0201) := by
  have he (w : Put) : writeSub s a 0x5030 2 w = writeSourceControl s w := if_neg (fun h => absurd h.2 (by decide))
  simp only [he, writeSourceControl, hi, testBit_force, mayForce, hp, Bool.not_false, Bool.and_self, if_true]

/-- A whole CONTROL word with FORCE = 1 of a source that may be forced sets its fields and arms the occurrence. -/
theorem writeSub_force {s : State} {i : SourceInfo} (a : Agent) {n : Nat} (bs : Bytes)
    (hi : sourceInfo s.faults.sourceSelect.toNat = some i) (hp : s.sec.policy.getLsbD 3 = true)
    (hclear : clearOf (n ||| 0x80) 0xFFF00004 = true) (hcls : bits (n ||| 0x80) 0 2 = i.cls)
    (hreact : i.reaction ≤ bits (n ||| 0x80) 3 3) (hunit : (forceOcc i (bits (n ||| 0x80) 8 12)).isSome = true)
    (hfree : (sourceOf s i.code).force = none) :
    writeSub s a 0x5030 2 ⟨n ||| 0x80, 0, bs, true⟩ = (modSource s i.code (controlled s i (n ||| 0x80)), 0) := by
  have he (w : Put) : writeSub s a 0x5030 2 w = writeSourceControl s w := if_neg (fun h => absurd h.2 (by decide))
  have hcode := code_of_sourceInfo hi
  rw [← hcode] at hi
  rw [he, writeSourceControl]
  simp only [hi, testBit_force, mayForce, hp, hclear, hcls, ← hcode, hfree, Nat.not_lt.mpr hreact,
    Option.isNone_eq_false_iff.mpr hunit]
  simp only [Bool.not_true, Bool.and_false, Bool.false_eq_true, if_false, bne_self_eq_false, Bool.or_self, decide_false,
    Option.isSome_none, guarded_of_free]

/-- ERR_CONTROL with ERR_HELD = 1 and C_ENABLE as it is. -/
theorem errHeld_word (c : Bool) : flag c 2 + 1 < 8 ∧ (flag c 2 + 1).testBit 0 = true ∧ (flag c 2 + 1).testBit 2 = c := by
  cases c <;> decide

theorem writeSub_errHeld {s : State} (a : Agent) (bs : Bytes) (hm : s.dev.mode ≠ .faulted) :
    writeSub s a 0x5010 0 ⟨flag s.faults.cEnable 2 + 1, 0, bs, true⟩ = ({ s with
      faults := { s.faults with errHeld := false }
      pins := { s.pins with errN := if s.faults.errHeld then !s.faults.pulsing else s.pins.errN } }, 0) := by
  have he (w : Put) : writeSub s a 0x5010 0 w = writeErr s w := if_neg (fun h => absurd h.2 (by decide))
  obtain ⟨hlt, h0, h2⟩ := errHeld_word s.faults.cEnable
  rw [he, writeErr]
  simp only [h0, h2, beq_eq_false_iff_ne.mpr hm, decide_eq_false (Nat.not_le.mpr hlt), w1c, Bool.not_true, Bool.false_and,
    Bool.and_false, Bool.or_self, Bool.true_and, guarded_of_free]

/-- In FAULTED ERR_N stays low (14, R295). -/
theorem writeSub_errHeld_of_faulted {s : State} (a : Agent) (bs : Bytes) (hm : s.dev.mode = .faulted) :
    writeSub s a 0x5010 0 ⟨flag s.faults.cEnable 2 + 1, 0, bs, true⟩ = (s, 0x0301) := by
  have he (w : Put) : writeSub s a 0x5010 0 w = writeErr s w := if_neg (fun h => absurd h.2 (by decide))
  obtain ⟨-, h0, -⟩ := errHeld_word s.faults.cEnable
  rw [he, writeErr]
  simp only [h0, hm, guarded, beq_self_eq_true, Bool.and_self, if_true]

theorem force_word_lt (ctl : BitVec 32) : ctl.toNat ||| 0x80 < 256 ^ (u32 .rw).size :=
  Nat.or_lt_two_pow (n := 32) ctl.isLt (by decide)

/-- Settles O20: FORCE and ERR_HELD are scalar writes, answered as their entries' own writes answer. -/
theorem forceAndReleaseOfErrN : Obligations.ForceAndReleaseOfErrN := by
  unfold Obligations.ForceAndReleaseOfErrN
  intro a s ha
  refine ⟨fun ctl i hi => ⟨fun hp => ?_, fun hp hclear hcls hreact hunit hfree => ?_⟩, fun hm => ?_, fun hm => ?_⟩
  · exact agentWrite_scalar ha (i := 0x5030) (sub := 2) (x := u32 .rw) rfl rfl (.inl rfl) (by decide) rfl (force_word_lt ctl)
      (writeSub_force_of_denied a _ _ hi hp)
  · refine (agentWrite_scalar ha (i := 0x5030) (sub := 2) (x := u32 .rw) rfl rfl (.inl rfl) (by decide) rfl (force_word_lt ctl)
      (writeSub_force a _ hi hp hclear hcls hreact hunit hfree)).trans ?_
    unfold controlled
    simp only [testBit_force, if_true]
  · exact agentWrite_scalar ha (i := 0x5010) (sub := 0) (x := u32 .rw) rfl rfl (.inl rfl) (by decide) rfl
      (Nat.lt_trans (errHeld_word _).1 (by decide)) (writeSub_errHeld a _ hm)
  · exact agentWrite_scalar ha (i := 0x5010) (sub := 0) (x := u32 .rw) rfl rfl (.inl rfl) (by decide) rfl
      (Nat.lt_trans (errHeld_word _).1 (by decide)) (writeSub_errHeld_of_faulted a _ hm)

/-! Keys and quotes -/

/-- An agent that may command gets the code of the access that it makes. -/
theorem access_of_mayCommand {a : Agent} {s : State} (ha : mayCommand s a) (f : State → State × BitVec 16) :
    access a (fun s => if mayWrite a then f s else (s, 0x0401)) s = .next (setCode (f s)) := by
  rw [access, if_pos ha.1, if_pos ha.2]

theorem exec_wrappedJobKey {a : Agent} {s : State} (ha : mayCommand s a) (key : Bytes) :
    exec (.wrappedJobKey a 0 key) s = .next (setCode (writeJobKey s 0 key true)) :=
  access_of_mayCommand ha (fun s => writeJobKey s 0 key true)

theorem exec_attestNonce {a : Agent} {s : State} (ha : mayCommand s a) (nonce : Bytes) :
    exec (.attestNonce a nonce) s = .next (setCode (writeNonce s 0 nonce true)) :=
  access_of_mayCommand ha (fun s => writeNonce s 0 nonce true)

/-- A whole wrapped key in a state that takes one installs what it unwraps to, and nothing where it does not. -/
theorem writeJobKey_whole {s : State} {key : Bytes} (hm : s.dev.mode = .idle ∨ s.dev.mode = .loaded ∨ s.dev.mode = .held)
    (hlen : key.length = 384) : writeJobKey s 0 key true = if (unwrap s key).isSome then
      ({ s with sec := { s.sec with jobKey := unwrap s key, keyId := sha256 key } }, 0) else (s, 0x0202) := by
  have hstate : (s.dev.mode != .idle && s.dev.mode != .loaded && s.dev.mode != .held) = false := by
    rcases hm with h | h | h <;> rw [h] <;> rfl
  rw [writeJobKey]
  simp only [hstate, hlen, bne_self_eq_false, Bool.not_true, Bool.false_or]
  cases unwrap s key <;> rfl

/-- A slice of its own length is the byte string. -/
theorem slice_whole {b : Bytes} {n : Nat} (h : b.length = n) : slice b 0 n = b := by
  subst h
  simp [slice]

theorem writeNonce_of_busy {s : State} {nonce : Bytes} (hlen : nonce.length = 32) (hq : s.sec.quoteStatus = 1) :
    writeNonce s 0 nonce true = (s, 0x0302) := by
  simp [writeNonce, guarded, hlen, hq]

theorem writeNonce_of_free {s : State} {nonce : Bytes} (hlen : nonce.length = 32) (hq : s.sec.quoteStatus ≠ 1)
    (hp : s.sec.pufOk = true) : writeNonce s 0 nonce true =
      ({ s with sec := { s.sec with quote := [], quoteStatus := 1, quoteBody := quoteBytes s nonce } }, 0) := by
  have hnonce : slice (List.replicate 0 0 ++ nonce) 0 32 = nonce := slice_whole hlen
  simp only [writeNonce, hnonce, hlen, hp, beq_eq_false_iff_ne.mpr hq, if_true, Bool.not_true, Nat.zero_add, Nat.lt_irrefl,
    decide_false, Bool.or_self, guarded_of_free]

/-- Settles O24: each command is its entry's write; QUOTE_DONE by whether a quote is in progress. -/
theorem keysAndQuotes : Obligations.KeysAndQuotes := by
  unfold Obligations.KeysAndQuotes
  intro a s ha
  refine ⟨fun hm key hlen => ⟨fun k hk => ?_, fun hk => ?_⟩, fun nonce hlen => ⟨fun hq => ?_, fun hq hp => ?_⟩,
    fun hq => ⟨_, if_pos hq, rfl⟩, fun hq => if_neg hq⟩
  · rw [exec_wrappedJobKey ha, writeJobKey_whole hm hlen, hk]
    rfl
  · rw [exec_wrappedJobKey ha, writeJobKey_whole hm hlen, hk]
    rfl
  · rw [exec_attestNonce ha, writeNonce_of_busy hlen hq]
    rfl
  · rw [exec_attestNonce ha, writeNonce_of_free hlen hq hp]
    rfl

end Sys2Proof.Machine
end

section
/-! The monitor (15, R323 to R326): a command of agent 16 answers one line with what its read, its write or its reset leaves. -/

namespace Sys2Proof.Machine
open Sys2Proof.Claims

section Heard

variable {s : State} (h : isHeard s .monitor = true)

/-- A readable subentry but LOCK reads its value, and the state stays. -/
theorem readWhole_of_readable {a : Agent} {i sub : Nat} {e : Entry} {x : Sub} (hc : readCheck a i sub = (0, some (e, x)))
    (hl : isLock i sub = false) : readWhole s a i sub = (s, 0, x.typ, valueOf s a i sub e) := by
  simp only [readWhole, hc, readFound, hl, Bool.false_eq_true, if_false]

/-- So does a READ of a scalar, which takes no OFFSET and no COUNT. -/
theorem readPiece_of_scalar {a : Agent} {i sub : Nat} {e : Entry} {x : Sub} (hc : readCheck a i sub = (0, some (e, x)))
    (hx : isLong x.typ = false) (hl : isLock i sub = false) :
    readPiece s a i sub 0 0 = (s, 0, x.typ, valueOf s a i sub e) := by
  rw [← readWhole_of_readable hc hl]
  simp [readPiece, hc, hx]

theorem monRead_of_scalar {i sub : Nat} {e : Entry} {x : Sub} (hc : readCheck .monitor i sub = (0, some (e, x)))
    (hx : isLong x.typ = false) (hl : isLock i sub = false) :
    monRead i sub 0 0 s = (s, 0, (valueOf s .monitor i sub e).reverse) := by
  have hcount : rdCount x 0 0 = 0 := by simp [rdCount, hx]
  simp only [monRead, hc, hcount, readPiece_of_scalar hc hx hl, onWire, hx]
  rfl

theorem monRead_of_noEntry {i : Nat} (he : entryOf i = none) (sub o n : Nat) : monRead i sub o n s = (s, 0x0101, []) := by
  have hc : readCheck .monitor i sub = (0x0101, none) := by simp only [readCheck, he]
  simp only [monRead, hc]

include h

theorem exec_monRd (i : BitVec 16) (sub : BitVec 8) (o n : Nat) : exec (.monRd i sub o n) s =
    .next (said (monRead i.toNat sub.toNat o n s).1 (monRead i.toNat sub.toNat o n s).2.1 (monRead i.toNat sub.toNat o n s).2.2) :=
  monDo_of_heard h _

theorem exec_monWr_holdAfter {n : Nat} (hn : n < 2 ^ 64) (hm : s.dev.mode ∈ [Mode.loaded, .armed, .running, .held]) :
    exec (.monWr 0x2000 6 n) s = .next (said { s with dev := { s.dev with holdAfter := BitVec.ofNat 64 n } } 0 []) := by
  have hv : wrValue 0x2000 6 n = ⟨5, 0, natLe 8 n⟩ := by
    have hx : (entryOf 0x2000).bind (fun e => subOf 0x2000 e 6) = some (u64 .rw) := rfl
    simp only [wrValue, hx]
    rw [if_pos (show n < 256 ^ (u64 .rw).size from hn)]
    rfl
  have hd : dictWrite s .monitor 0x2000 6 (wrValue 0x2000 6 n) =
      ({ s with dev := { s.dev with holdAfter := BitVec.ofNat 64 n } }, 0) := by
    have hput : putOf (u64 .rw) ⟨5, 0, natLe 8 n⟩ = _ := putOf_scalar (x := u64 .rw) 5 rfl hn
    rw [hv, dictWrite_of_writable (x := u64 .rw) rfl rfl rfl (.inl rfl) rfl, hput, writeSub_holdAfter _ hm rfl]
  have he : exec (.monWr 0x2000 6 n) s = monDo (fun s => plain (dictWrite s .monitor 0x2000 6 (wrValue 0x2000 6 n))) s := rfl
  rw [he, monDo_of_heard h, hd]
  rfl

theorem exec_monLog (n : Nat) :
    exec (.monLog n) s = .next ((s.faults.log[n]?).elim (said s 0x0202 []) (fun r => said s 0 (logBytes r))) := by
  have he : exec (.monLog n) s = execMonLog n s := rfl
  rw [he, execMonLog, monDo_of_heard h]
  cases s.faults.log[n]? <;> rfl

/-- PEEK outside RUNNING, or in a DRAM maintenance window, is answered at once. -/
theorem exec_monPeek (tier : BitVec 2) (n : BitVec 16) (o len : Nat) (hw : peekWaits s = false) :
    exec (.monPeek tier n o len) s = .next (said (monPeek tier.toNat n.toNat o len s).1
      (monPeek tier.toNat n.toNat o len s).2.1 (monPeek tier.toNat n.toNat o len s).2.2) := by
  have he : exec (.monPeek tier n o len) s = execMonPeek tier n o len s := rfl
  rw [he, execMonPeek, hw, Bool.and_false, if_neg Bool.false_ne_true, monDo_of_heard h]

theorem exec_monPeek_waits (tier : BitVec 2) (n : BitVec 16) (o len : Nat) (hw : peekWaits s = true) :
    exec (.monPeek tier n o len) s = .next { s with
      port := { s.port with peeks := s.port.peeks ++ [(tier.toNat, n.toNat, o, len)] } } :=
  if_pos (by rw [h, hw]; rfl)

theorem exec_monBaud (rate : Nat) : exec (.monBaud rate) s = .next (
    if rate ∈ baudRates then said { s with port := { s.port with baud := rate } } 0 [] else said s 0x0202 []) := by
  have he : exec (.monBaud rate) s = execMonBaud rate s := rfl
  rw [he, execMonBaud, monDo_of_heard h]
  by_cases hr : rate ∈ baudRates
  · simp only [List.contains_iff_mem.mpr hr, hr, if_true]
  · simp only [hr, mt List.contains_iff_mem.mp hr, Bool.false_eq_true, if_false]

/-- A heard monitor finds the device powered and out of boot. -/
theorem fromStandby_of_heard : fromStandby s.dev.mode = true := by
  simp only [isHeard, mgmtRuns, Bool.and_eq_true] at h
  exact Bool.and_eq_true_iff.mpr h.1.1

/-- RESET answers OK and then does what its command does. -/
theorem exec_monReset {cls : ResetClass} {f : State → State} (hlegal : commandLegal s (resetCode cls) = some true)
    (hd : ∀ t, deviceCommand (resetCode cls) 0 t = commandRun (resetCode cls) 0 false false f t) :
    exec (.monReset cls) s = .next (f (send s (.uart "OK" []))) := by
  have he : exec (.monReset cls) s = execMonReset cls s := rfl
  have hlegal' : commandLegal (send s (.uart "OK" [])) (resetCode cls) = some true := hlegal
  have hrun (t : State) (ht : commandLegal t (resetCode cls) = some true) :
      deviceCommand (resetCode cls) 0 t = (f t, 0) := by
    rw [hd]
    cases cls <;> exact commandRun_of_legal ht rfl (.inr rfl)
  rw [he, execMonReset, if_pos h, hrun s hlegal]
  exact congrArg (fun r => Host.Outcome.next r.1) (hrun _ hlegal')

end Heard

/-- Settles O37: each command by its read, write or reset, with the line that answers it. -/
theorem monitorReadsWritesAndResets : Obligations.MonitorReadsWritesAndResets := by
  unfold Obligations.MonitorReadsWritesAndResets
  intro s h
  refine ⟨fun i sub => ⟨fun he o n => ?_, fun e x hc hx hl => ?_⟩, fun n hn hm => exec_monWr_holdAfter h hn hm, exec_monLog h,
    fun tier n o len r hr => ⟨fun hm hp hw hok hpoison => ?_, fun hm hp hw => ?_, fun hm => ?_⟩, exec_monBaud h, ?_⟩
  · rw [exec_monRd h, monRead_of_noEntry he]
  · rw [exec_monRd h, monRead_of_scalar hc hx hl]
  · rw [exec_monPeek h tier n o len (by simp [peekWaits, hw])]
    simp [monPeek, peekRead, hm, hp, hr, hok, hpoison]
  · exact exec_monPeek_waits h tier n o len (by simp [peekWaits, hm, hp, hw])
  · rw [exec_monPeek h tier n o len (by simp [peekWaits, hm])]
    simp [monPeek, hm]
  · have hs := congrArg some (fromStandby_of_heard h)
    exact ⟨exec_monReset h (cls := .warm) hs (fun _ => rfl),
      exec_monReset h (cls := .cold) (f := fun s => coldReset (pushEnd 2 s) 2) hs (fun _ => rfl),
      fun hm => exec_monReset h (cls := .job) (by simp [commandLegal, resetCode, hm]) (fun _ => rfl)⟩

end Sys2Proof.Machine
end

section
/-! Occurrences, trips and the watchdog (14, R288 to R301, R308): what the classification of an occurrence writes, what the
entry into FAULTED writes, and what the watchdog ends. -/

namespace Sys2Proof.Machine
open Sys2Proof.Claims

/-! Classification -/

/-- The record that the log takes of an occurrence, the newest first (14, R299). -/
theorem logOccurrence_record (s : State) (i : SourceInfo) (o : Occ) (d : Detected) (n : Nat) (m : Bool) : ∃ r x,
    (logOccurrence s i o d n m).faults = { s.faults with log := (r :: s.faults.log).take 1024, lastFault := x } ∧
      r.time = BitVec.ofNat 64 d.time ∧ r.step = d.step ∧ r.source = BitVec.ofNat 16 i.code ∧ r.epoch = d.epoch ∧
      r.location = locWord o :=
  ⟨_, _, sendEvent_faults _ _, rfl, rfl, rfl, rfl, rfl⟩

/-- The state in which an occurrence of source i has been counted, and logged unless it only counts. -/
def shown (s : State) (i : SourceInfo) (d : Detected) : State :=
  let s1 := countOccurrence s i d.occ
  noteLost (if i.code == 0x0102 || i.code == 0x0301 || (i.cls == 1 && (sourceOf s i.code).mask) then s1
    else logOccurrence s1 i d.occ d (takenReaction s1 i d.occ) (sourceOf s i.code).mask) i.code

/-- An occurrence that is reported as it was detected is counted, logged and shown on ERR_N. -/
theorem classify_plain {s : State} {d : Detected} {i : SourceInfo} (hi : sourceInfo d.occ.source.toNat = some i)
    (hr : reported s d = d.occ) (h6 : d.occ.source ≠ 0x0206) : ∃ b,
    classify s d = (qualify { shown s i d with dev := { (shown s i d).dev with bootFatal := b } } i (sourceOf s i.code).mask,
      some ⟨i, d.occ, takenReaction (countOccurrence s i d.occ) i d.occ, d.kind, d.planEntry.toNat, d.forced⟩) := by
  unfold classify
  simp only [hr, if_neg h6, hi]
  exact ⟨_, rfl⟩

/-- ERR_N falls and is held where an unmasked occurrence qualifies and ERR_HELD is 0 (14, R295). -/
theorem qualify_errN (s : State) (i : SourceInfo) (m : Bool) :
    let falls := !(m || (i.cls == 1 && !s.faults.cEnable)) && !s.faults.errHeld
    (qualify s i m).pins = { s.pins with errN := s.pins.errN && !falls } ∧
      (qualify s i m).faults.errHeld = (s.faults.errHeld || falls) ∧ (qualify s i m).hearths = s.hearths := by
  unfold qualify
  cases m || (i.cls == 1 && !s.faults.cEnable) with
  | true => simp
  | false => cases he : s.faults.errHeld <;> simp [he]

section ClassC

variable {s : State} {i : SourceInfo} (hc : i.cls = 1)

include hc

/-- The hearth that a corrected word names counts it; an occurrence of class C counts nothing else of a hearth. -/
theorem hearthOf_countOccurrence (o : Occ) (hw : swf {} s.hearths = true) (h : Nat) :
    hearthOf (countOccurrence s i o) h = if hearthAt o = some h ∧ i.code = 0x0102 then
      { hearthOf s h with spCorrected := satInc (hearthOf s h).spCorrected } else hearthOf s h := by
  unfold countOccurrence
  cases ho : hearthAt o with
  | none => simp [modSource, hearthOf]
  | some k =>
    refine (sget_sput (t := s.hearths) hw).trans ?_
    have h2 : ¬i.cls = 2 := by omega
    simp only [h2, false_and, if_false, Option.some.injEq]
    by_cases hk : h = k
    · subst hk
      by_cases h1 : i.code = 0x0102
      · simp only [h1, if_true, and_self]; rfl
      · simp only [h1, if_true, if_false, and_false]; rfl
    · rw [if_neg hk, if_neg (fun e => hk e.1.symm)]; rfl

end ClassC

theorem countOccurrence_pins (s : State) (i : SourceInfo) (o : Occ) : (countOccurrence s i o).pins = s.pins := by
  unfold countOccurrence
  cases hearthAt o <;> rfl

/-- The message of an occurrence touches no pin and no hearth. -/
theorem sendEvent_rest (s : State) (r : Bytes) : (sendEvent s r).pins = s.pins ∧ (sendEvent s r).hearths = s.hearths := by
  unfold sendEvent
  split <;> exact ⟨rfl, rfl⟩

theorem noteLost_rest (s : State) (c : Nat) : (noteLost s c).pins = s.pins ∧ (noteLost s c).hearths = s.hearths := by
  unfold noteLost
  split <;> exact ⟨rfl, rfl⟩

/-- What counting and logging an occurrence leaves: the pins, the hearths as counted, and the faults but the log. -/
theorem shown_rest (s : State) (i : SourceInfo) (d : Detected) : (shown s i d).pins = s.pins ∧
    (shown s i d).hearths = (countOccurrence s i d.occ).hearths ∧ ∃ l x,
      (shown s i d).faults = { (countOccurrence s i d.occ).faults with log := l, lastFault := x } := by
  unfold shown
  dsimp only
  obtain ⟨hp, hh⟩ := noteLost_rest (if (i.code == 0x0102 || i.code == 0x0301 || (i.cls == 1 && (sourceOf s i.code).mask)) = true
    then countOccurrence s i d.occ else logOccurrence (countOccurrence s i d.occ) i d.occ d
      (takenReaction (countOccurrence s i d.occ) i d.occ) (sourceOf s i.code).mask) i.code
  rw [hp, hh, noteLost_faults]
  split
  · exact ⟨countOccurrence_pins s i _, rfl, _, _, rfl⟩
  · refine ⟨((sendEvent_rest _ _).1.trans (countOccurrence_pins s i d.occ)), (sendEvent_rest _ _).2, ?_⟩
    obtain ⟨r, x, hf, -⟩ := logOccurrence_record (countOccurrence s i d.occ) i d.occ d
      (takenReaction (countOccurrence s i d.occ) i d.occ) (sourceOf s i.code).mask
    exact ⟨_, x, hf⟩

/-- An occurrence of class C has its record in the log, unless its source is masked or only counts. -/
theorem shown_log {s : State} {i : SourceInfo} (hc : i.cls = 1) (d : Detected) :
    (((sourceOf s i.code).mask = true ∨ i.code = 0x0102 ∨ i.code = 0x0301) → (shown s i d).faults.log = s.faults.log) ∧
    ((sourceOf s i.code).mask = false → i.code ≠ 0x0102 → i.code ≠ 0x0301 → ∃ r,
      (shown s i d).faults.log = (r :: s.faults.log).take 1024 ∧ r.time = BitVec.ofNat 64 d.time ∧ r.step = d.step ∧
        r.source = BitVec.ofNat 16 i.code ∧ r.epoch = d.epoch ∧ r.location = locWord d.occ) := by
  have hl : (countOccurrence s i d.occ).faults.log = s.faults.log := by rw [countOccurrence_faults_classC hc]
  unfold shown
  dsimp only
  rw [noteLost_faults, ← hl]
  constructor
  · intro h
    rw [if_pos (by rcases h with h | h | h <;> simp [h, hc])]
  · intro hm h2 h1
    rw [if_neg (by simp [hm, h2, h1])]
    obtain ⟨r, x, hf, hr⟩ := logOccurrence_record (countOccurrence s i d.occ) i d.occ d
      (takenReaction (countOccurrence s i d.occ) i d.occ) (sourceOf s i.code).mask
    exact ⟨r, by rw [hf], hr⟩

section ClassC

variable {s : State} {d : Detected} {i : SourceInfo} (hi : sourceInfo d.occ.source.toNat = some i) (hc : i.cls = 1)

include hi hc

/-- An occurrence of class C, classified: counted, logged and shown on ERR_N. -/
theorem classify_classC_fst : ∃ b, (classify s d).1 =
    qualify { shown s i d with dev := { (shown s i d).dev with bootFatal := b } } i (sourceOf s i.code).mask := by
  obtain ⟨-, -, -, -, h6, -⟩ := classC_code hi hc
  obtain ⟨b, hb⟩ := classify_plain (s := s) hi (reported_classC hi hc) (fun h => h6 (by rw [h]; rfl))
  exact ⟨b, congrArg Prod.fst hb⟩

/-- ERR_N after an occurrence of class C: only an unmasked one with C_ENABLE = 1 qualifies (14, R295). -/
theorem classify_classC_errN :
    let falls := !(sourceOf s i.code).mask && s.faults.cEnable && !s.faults.errHeld
    (classify s d).1.pins = { s.pins with errN := s.pins.errN && !falls } ∧
      (classify s d).1.faults.errHeld = (s.faults.errHeld || falls) := by
  obtain ⟨b, hb⟩ := classify_classC_fst (s := s) hi hc
  obtain ⟨hp, -, l, x, hf⟩ := shown_rest s i d
  obtain ⟨herr, hheld, -⟩ := qualify_errN { shown s i d with dev := { (shown s i d).dev with bootFatal := b } } i
    (sourceOf s i.code).mask
  rw [hb, herr, hheld]
  simp only [hp, hf, countOccurrence_faults_classC hc, hc, beq_self_eq_true, Bool.true_and, Bool.not_or, Bool.not_not, and_self]

/-- The other entries of the faults after an occurrence of class C: its counts, and the log. -/
theorem classify_classC_faults : ∃ x p e, (classify s d).1.faults = { s.faults with
      countC := satInc s.faults.countC
      sources := smod {} s.faults.sources i.code (fun x => { x with count := satInc x.count })
      log := (shown s i d).faults.log, lastFault := x, pulsing := p, errHeld := e } := by
  obtain ⟨b, hb⟩ := classify_classC_fst (s := s) hi hc
  obtain ⟨-, -, l, x, hf⟩ := shown_rest s i d
  obtain ⟨e, p, hq⟩ := qualify_faults { shown s i d with dev := { (shown s i d).dev with bootFatal := b } } i
    (sourceOf s i.code).mask
  rw [hb, hq]
  simp only [hf, countOccurrence_faults_classC hc]
  exact ⟨x, p, e, rfl⟩

theorem classify_classC_hearths (hw : swf {} s.hearths = true) (h : Nat) : hearthOf (classify s d).1 h =
    if hearthAt d.occ = some h ∧ i.code = 0x0102 then { hearthOf s h with spCorrected := satInc (hearthOf s h).spCorrected }
    else hearthOf s h := by
  obtain ⟨b, hb⟩ := classify_classC_fst (s := s) hi hc
  obtain ⟨-, hh, -⟩ := shown_rest s i d
  rw [hb, hearthOf, (qualify_errN _ _ _).2.2]
  dsimp only
  rw [hh]
  exact hearthOf_countOccurrence hc d.occ hw h

end ClassC

/-- Settles O16: the oldest occurrence is counted, logged and shown on ERR_N as its class says, and has no reaction. -/
theorem classCIsCountedLoggedAndNoReaction : Obligations.ClassCIsCountedLoggedAndNoReaction := by
  unfold Obligations.ClassCIsCountedLoggedAndNoReaction
  intro d rest i s hd hi hc hr hwh hws
  obtain ⟨hcode, hlt, -, -, -, h503⟩ := classC_code hi hc
  have hexec : exec (.faultOccurrence none) s =
      .next (collect { s with faults := { s.faults with detected := rest } } d (!d.forced)) := by
    show execFaultOccurrence none s = _
    rw [execFaultOccurrence, hd]
  generalize hs0 : { s with faults := { s.faults with detected := rest } } = s0 at hexec
  have hws0 : swf {} s0.faults.sources = true := by rw [← hs0]; exact hws
  obtain ⟨t, ht, -⟩ := classify_classC (s := s0) hi hc (by rw [← hs0]; exact hr) hws0
  have hfst : (classify s0 d).1 = t := congrArg Prod.fst ht
  have honly := classify_only (s := s0) (d := d)
  obtain ⟨hpins, hheld⟩ := classify_classC_errN (s := s0) hi hc
  obtain ⟨x, p, e, hf⟩ := classify_classC_faults (s := s0) hi hc
  have hhearths := classify_classC_hearths (s := s0) hi hc (by rw [← hs0]; exact hwh)
  obtain ⟨hquiet, hlogged⟩ := shown_log (s := s0) hc d
  rw [hfst] at honly hpins hheld hf hhearths
  have hsources (c : Nat) : (sourceOf t c).count =
      if c = i.code then satInc (sourceOf s0 c).count else (sourceOf s0 c).count := by
    simp only [sourceOf, hf, smod, sget_sput hws0]
    by_cases hcc : c = i.code
    · simp only [hcc, if_true]
    · simp only [hcc, if_false]
  rw [collect_of_no_reaction ht rfl (hcode ▸ h503)] at hexec
  subst hs0
  refine ⟨t, hexec, by rw [hf], by rw [hf], by rw [hf], by rw [hf], hsources, fun h => ?_, fun h h2 h1 => ?_, hpins, hheld,
    hhearths, ?_⟩
  · rw [hf]; exact hquiet h
  · obtain ⟨r, hr⟩ := hlogged h h2 h1
    have hsrc : BitVec.ofNat 16 i.code = d.occ.source := by rw [hcode, BitVec.ofNat_toNat, BitVec.setWidth_eq]
    rw [hsrc] at hr
    rw [hf]
    exact ⟨r, hr⟩
  · rw [honly]
    exact ⟨rfl, rfl, rfl, rfl, rfl, rfl⟩

end Sys2Proof.Machine
end

section
/-! The entry into FAULTED (14, R290, R296, R298, R308). -/

namespace Sys2Proof.Machine
open Sys2Proof.Claims

/-! Occurrences of class F -/

/-- A key written with another value than the default reads that value, in any table. -/
theorem sget_sput_self {α : Type} [DecidableEq α] {d v : α} (hv : v ≠ d) (i : Nat) : ∀ t : Sparse α, sget d (sput d t i v) i = v
  | [] => by simp [sput, sget, hv]
  | (k, w) :: t => by
    unfold sput
    split
    case isTrue h => simp [sget]
    case isFalse h =>
      split
      case isTrue hk => simp [sget]
      case isFalse hk => simpa [sget, h, hk] using sget_sput_self hv i t

/-- A count that has risen is not 0. -/
theorem satInc_ne_zero (x : BitVec 64) : satInc x ≠ 0 := by
  unfold satInc
  split
  case isTrue h => rw [h]; decide
  case isFalse h =>
    intro h0
    exact h (eq_sub_of_add_eq h0)

/-- The reaction of a source stays when an occurrence of it is counted. -/
theorem reactionOf_counted (s : State) (i : SourceInfo) (o : Occ) : reactionOf (countOccurrence s i o) i = reactionOf s i := by
  have hs : (countOccurrence s i o).faults.sources =
      smod {} s.faults.sources i.code (fun x => { x with count := satInc x.count }) := by
    unfold countOccurrence
    cases hearthAt o <;> rfl
  have hne : ({ sourceOf s i.code with count := satInc (sourceOf s i.code).count } : Source) ≠ {} :=
    fun h => satInc_ne_zero _ (congrArg Source.count h)
  have hx : sourceOf (countOccurrence s i o) i.code = { sourceOf s i.code with count := satInc (sourceOf s i.code).count } := by
    rw [sourceOf, hs]
    exact sget_sput_self hne _ _
  rw [reactionOf, hx, reactionOf]

/-- What the classification of an occurrence of class F asks of the sources (Table 14.1). -/
theorem classF_code {c : Nat} {i : SourceInfo} (hi : sourceInfo c = some i) (hc : i.cls = 3) :
    i.code = c ∧ isMemoryError c = false ∧ c ≠ 0x0205 ∧ c ≠ 0x0206 := by
  have hcode := code_of_sourceInfo hi
  have htab : ∀ x ∈ sourceTable, x.cls = 3 → isMemoryError x.code = false ∧ x.code ≠ 0x0205 ∧ x.code ≠ 0x0206 := by decide
  exact ⟨hcode, hcode ▸ htab i (List.mem_of_find?_eq_some hi) hc⟩

/-- An occurrence of class F is classified with its source's reaction and counted in COUNT_F. -/
theorem classify_classF {s : State} {d : Detected} {i : SourceInfo} (hi : sourceInfo d.occ.source.toNat = some i)
    (hc : i.cls = 3) : ∃ t, classify s d = (t, some ⟨i, d.occ, reactionOf s i, d.kind, d.planEntry.toNat, d.forced⟩) ∧
      t.faults.countF = satInc s.faults.countF ∧ t.faults.mgmtWatchdog = s.faults.mgmtWatchdog := by
  obtain ⟨-, hm, h5, h6⟩ := classF_code hi hc
  have hrep : reported s d = d.occ := by simp [reported, hm, h5, h6]
  obtain ⟨b, hb⟩ := classify_plain (s := s) hi hrep (fun h => h6 (by rw [h]; rfl))
  have htaken : takenReaction (countOccurrence s i d.occ) i d.occ = reactionOf s i := by
    rw [← reactionOf_counted s i d.occ]
    unfold takenReaction
    cases hearthAt d.occ <;> simp [hc]
  have hcount : (countOccurrence s i d.occ).faults.countF = satInc s.faults.countF ∧
      (countOccurrence s i d.occ).faults.mgmtWatchdog = s.faults.mgmtWatchdog := by
    unfold countOccurrence
    cases hearthAt d.occ <;> simp [hc, countHearth, modSource]
  refine ⟨_, htaken ▸ hb, ?_⟩
  obtain ⟨-, -, l, x, hf⟩ := shown_rest s i d
  obtain ⟨e, p, hq⟩ := qualify_faults { shown s i d with dev := { (shown s i d).dev with bootFatal := b } } i
    (sourceOf s i.code).mask
  rw [hq]
  simpa only [hf] using hcount

/-! FAULTED -/

/-- Between s and t a HALT has been raised: the sequencer, the step and the fabric are marked, and it waits on the links. -/
def HaltOnly (s t : State) : Prop :=
  t = { s with seq := t.seq, train := t.train, rng := t.rng, upd := t.upd, links := t.links, fabric := t.fabric } ∧
    t.fabric.id = s.fabric.id

theorem HaltOnly.refl (s : State) : HaltOnly s s := ⟨rfl, rfl⟩

theorem HaltOnly.trans {r s t : State} (h : HaltOnly r s) (k : HaltOnly s t) : HaltOnly r t := by
  obtain ⟨h, hi⟩ := h
  obtain ⟨k, ki⟩ := k
  refine ⟨?_, ki.trans hi⟩
  rw [h] at k
  rw [k]

theorem modLink_haltOnly (s : State) (k : Nat) (f : Link → Link) : HaltOnly s (modLink s k f) := ⟨rfl, rfl⟩

theorem queueHalt_haltOnly (c : Cell) (s : State) : HaltOnly s (queueHalt c s) :=
  List.foldlRecOn (upLinks s) _ (motive := HaltOnly s) (HaltOnly.refl s) (fun _ h _ _ => h.trans (modLink_haltOnly _ _ _))

theorem noteHalt_haltOnly (s : State) (h : Halt) : HaltOnly s (noteHalt s h) := by
  obtain ⟨q, a, r, w, he⟩ : ∃ q a r w, noteHalt s h =
      { s with seq := q, train := a, rng := r, fabric := { s.fabric with haltStatus := w } } := ⟨_, _, _, _, rfl⟩
  rw [he]
  exact ⟨rfl, rfl⟩

theorem startDiag_haltOnly (s : State) : HaltOnly s (startDiag s) := by
  unfold startDiag
  split <;> exact ⟨rfl, rfl⟩

theorem raiseHalt_haltOnly (h : Halt) (s : State) : HaltOnly s (raiseHalt h s) := by
  have hnote : HaltOnly s (noteHalt (if h.diag then startDiag s else s) h) := by
    split
    · exact (startDiag_haltOnly s).trans (noteHalt_haltOnly _ h)
    · exact noteHalt_haltOnly s h
  have hsent (t : State) (x : Option Nat) : HaltOnly t { t with fabric := { t.fabric with haltSent := x } } := ⟨rfl, rfl⟩
  unfold raiseHalt
  dsimp only
  split
  · exact HaltOnly.refl s
  · split
    · exact hnote
    · exact (hnote.trans (hsent _ _)).trans (queueHalt_haltOnly _ _)

theorem haltFor_haltOnly (c : Classified) (s : State) : HaltOnly s (haltFor c s) :=
  HaltOnly.trans (s := { s with upd := _ }) ⟨rfl, rfl⟩ (raiseHalt_haltOnly _ _)

/-- What ends with a job that is left: its record written, its context operation and channel ended, every stack in
self-refresh and every hash cut short. -/
theorem leftJob_eq (s : State) : ∃ j d p h c, cutHashes (endContext 7 (closeContext (selfRefreshAll (recordJob s)))) =
    cutHashes (selfRefreshAll { s with jobRecord := j, dev := { s.dev with lastCode := d }, port := p, host := h, ctx := c }) := by
  obtain ⟨j, hj, -⟩ := recordJob_eq s
  have hc := closeContext_only (selfRefreshAll { s with jobRecord := j })
  unfold HostOnly at hc
  obtain ⟨c, he⟩ := endContext_eq 7 (closeContext (selfRefreshAll { s with jobRecord := j }))
  rw [hj, he, hc]
  exact ⟨j, _, _, _, c, rfl⟩

/-- What a device that enters FAULTED writes of what is read here. -/
theorem enterFaulted_writes {s : State} (code : Nat) (hm : s.dev.mode ≠ .faulted) :
    let t := enterFaulted code s
    let lower := code == 0x0503 || code == 0x0504
    t.dev.mode = .faulted ∧ t.dev.activity = 0 ∧ t.dev.restarting = s.dev.restarting ∧
      t.pins = { s.pins with
        railEnA := s.pins.railEnA && !lower, railEnB := s.pins.railEnB && !lower, errN := false } ∧
      t.faults = { s.faults with errHeld := true } ∧ t.mem.dram = s.mem.dram ∧
      t.mem.stackTable = allStacks (fun _ k => { k with selfRefresh := true }) s.mem.stackTable ∧ t.fence = s.fence ∧
      t.fabric.id = s.fabric.id ∧ t.assay = s.assay := by
  unfold enterFaulted leaveJob
  rw [if_neg hm]
  obtain ⟨k, hk⟩ := pushEnd_eq 4 s
  rw [hk]
  obtain ⟨j, d, p, h, c, he⟩ := leftJob_eq { s with markers := k }
  rw [he]
  dsimp only
  obtain ⟨y, hy⟩ := diesOff_eq _
  rw [hy]
  exact ⟨rfl, rfl, rfl, rfl, rfl, rfl, rfl, rfl, rfl, rfl⟩

/-- A thermal trip, besides FAULTED: THERMTRIP_N low, and noted (14, R296). -/
def TripShown (t : State) : Prop := t.pins.thermtripN = false ∧ t.faults.thermTripped = true

/-- What a thermal trip marks before its reaction (14, R296). -/
theorem tripped_eq (code : Nat) (s : State) : ∃ m f p, (if code = 0x0503 then tripEffects s else s) =
    { s with mem := m, faults := { s.faults with thermTripped := f }, pins := { s.pins with thermtripN := p } } ∧
      m.dram = s.mem.dram ∧ (code = 0x0503 → p = false ∧ f = true) := by
  split
  case isTrue => exact ⟨_, _, _, rfl, rfl, fun _ => ⟨rfl, rfl⟩⟩
  case isFalse h => exact ⟨s.mem, s.faults.thermTripped, s.pins.thermtripN, rfl, rfl, fun hc => absurd hc h⟩

/-- Reaction 7 outside boot enters FAULTED, after what a thermal trip and the halt mark. -/
theorem react_fault {c : Classified} {s : State} (b : Bool) (hr : c.reaction = 7) (ho : s.dev.mode ≠ .off)
    (hb : s.dev.mode ≠ .boot) : react b c s =
      enterFaulted c.info.code (haltFor c (if c.info.code = 0x0503 then tripEffects s else s)) := by
  unfold react
  obtain ⟨m, f, p, hu, -⟩ := tripped_eq c.info.code s
  rw [hu]
  simp only [hr, show ¬(7 = 0) by decide, if_false]
  obtain ⟨hh, -⟩ := haltFor_haltOnly c { s with
    mem := m, faults := { s.faults with thermTripped := f }, pins := { s.pins with thermtripN := p } }
  unfold reactFault
  split
  case h_1 h => rw [hh] at h; exact absurd h ho
  case h_2 h => rw [hh] at h; exact absurd h hb
  case h_3 => rfl

section Fault

variable {s : State} {d : Detected} {i : SourceInfo} (b : Bool) (hi : sourceInfo d.occ.source.toNat = some i)
  (hc : i.cls = 3) (hr : reactionOf s i = 7) (ho : s.dev.mode ≠ .off) (hb : s.dev.mode ≠ .boot)

include hi hc hr ho hb

/-- The state from which an occurrence of class F enters FAULTED: counted, and marked by a trip and the halt. -/
theorem collect_classF_enters : ∃ v, collect s d b = enterFaulted i.code v ∧ v.dev.mode = s.dev.mode ∧
    v.dev.restarting = s.dev.restarting ∧ v.pins.railEnA = s.pins.railEnA ∧ v.pins.railEnB = s.pins.railEnB ∧
    v.faults.countF = satInc s.faults.countF ∧ v.faults.mgmtWatchdog = s.faults.mgmtWatchdog ∧
    v.mem.dram = s.mem.dram ∧ v.fence = s.fence ∧ v.fabric.id = s.fabric.id ∧ v.assay = s.assay ∧
    (i.code = 0x0503 → TripShown v) := by
  obtain ⟨u, hu, hcount, hwatch⟩ := classify_classF (s := s) hi hc
  have honly : OnlyCollected s u := by
    have h := classify_only (s := s) (d := d)
    rwa [hu] at h
  have hmode : u.dev.mode = s.dev.mode := by rw [honly]
  have hcollect : collect s d b = react b ⟨i, d.occ, reactionOf s i, d.kind, d.planEntry.toNat, d.forced⟩ u := by
    rw [collect, hu]
  obtain ⟨m, f, p, hv, hdram, htrip⟩ := tripped_eq i.code u
  rw [react_fault b hr (hmode ▸ ho) (hmode ▸ hb), hv] at hcollect
  obtain ⟨hw, hid⟩ := haltFor_haltOnly ⟨i, d.occ, reactionOf s i, d.kind, d.planEntry.toNat, d.forced⟩ { u with
    mem := m, faults := { u.faults with thermTripped := f }, pins := { u.pins with thermtripN := p } }
  refine ⟨_, hcollect, ?_⟩
  rw [hw]
  unfold OnlyCollected at honly
  refine ⟨hmode, ?_, ?_, ?_, hcount, hwatch, ?_, ?_, hid.trans ?_, ?_, htrip⟩
  · rw [honly]
  · rw [honly]
  · rw [honly]
  · exact hdram.trans (by rw [honly])
  · rw [honly]
  · rw [honly]
  · rw [honly]

/-- An occurrence of class F with reaction 7 takes a device that has left boot to FAULTED. -/
theorem collect_classF (hf : s.dev.mode ≠ .faulted) :
    let t := collect s d b
    let lower := i.code == 0x0503 || i.code == 0x0504
    FaultedFrom s t ∧ t.pins.railEnA = (s.pins.railEnA && !lower) ∧ t.pins.railEnB = (s.pins.railEnB && !lower) ∧
      t.dev.restarting = s.dev.restarting ∧ t.faults.mgmtWatchdog = s.faults.mgmtWatchdog ∧
      (∀ n < 16, (stackOf t n).selfRefresh = true) ∧ (i.code = 0x0503 → TripShown t) := by
  obtain ⟨v, hv, vmode, vrestart, vrailA, vrailB, vcount, vwatch, vdram, vfence, vid, vassay, vtrip⟩ :=
    collect_classF_enters b hi hc hr ho hb
  obtain ⟨hmode, hact, hrestart, hpins, hfaults, hdram, hstacks, hfence, hid, hassay⟩ :=
    enterFaulted_writes i.code (vmode ▸ hf)
  rw [hv]
  generalize enterFaulted i.code v = t at *
  dsimp only
  rw [hpins, hfaults, hrestart, vrailA, vrailB, vrestart, vwatch]
  refine ⟨⟨hmode, by rw [hpins], by rw [hfaults], by rw [hfaults]; exact vcount, hact, hdram.trans vdram, hfence.trans vfence,
    hid.trans vid, hassay.trans vassay⟩, rfl, rfl, rfl, rfl, fun n hn => ?_, fun h => ?_⟩
  · rw [stackOf, hstacks, sget_allStacks _ _ hn]
  · rw [TripShown, hpins, hfaults]
    exact vtrip h

end Fault

/-- The firmware is verified in the security entries alone. -/
theorem verifyFirmware_sec (s : State) : ∃ x, verifyFirmware s = { s with sec := x } := by
  unfold verifyFirmware
  dsimp only
  repeat' split
  all_goals exact ⟨_, rfl⟩

/-- Settles O17: each of the three is an occurrence of class F, which enters FAULTED. -/
theorem classFEntersFaulted : Obligations.ClassFEntersFaulted := by
  unfold Obligations.ClassFEntersFaulted
  intro s ho hb hf
  refine ⟨fun d rest i hd hi hc hr => ?_, fun u hu hr => ?_, fun hrs hr => ?_⟩
  · obtain ⟨h, ha, hb, -⟩ := collect_classF (s := { s with faults := { s.faults with detected := rest } }) (!d.forced) hi hc hr
      ho hb hf
    refine ⟨_, ?_, h, ha, hb⟩
    show execFaultOccurrence none s = _
    rw [execFaultOccurrence, hd]
  · have hi : sourceInfo (detectedNow s (tripOcc u) false).occ.source.toNat = some ⟨0x0503, 3, 7, [5, 6, 7, 8, 3, 4, 0]⟩ := by
      cases u <;> rfl
    obtain ⟨h, ha, hb, -, -, hstacks, htrip⟩ := collect_classF false hi rfl hr ho hb hf
    exact ⟨_, if_pos hu, h, ha.trans (Bool.and_false _), hb.trans (Bool.and_false _), (htrip rfl).1, (htrip rfl).2, hstacks⟩
  · obtain ⟨x, hx⟩ := verifyFirmware_sec { s with
      dev := { s.dev with restarting := false }, faults := { s.faults with mgmtWatchdog := true } }
    have hi : sourceInfo (occNone 0x0609).source.toNat = some ⟨0x0609, 3, 7, [0]⟩ := rfl
    have hexec : exec .mgmtRestartDone s = _ := (if_neg (by rw [hrs]; decide) : execMgmtRestartDone s = _)
    dsimp only at hexec
    rw [hx] at hexec
    obtain ⟨h, ha, hb, hd, hw, -⟩ := collect_classF (s := { s with
      dev := { s.dev with restarting := false }, faults := { s.faults with mgmtWatchdog := true }, sec := x })
      (d := detectedNow _ (occNone 0x0609) false) false hi rfl hr ho hb hf
    exact ⟨_, hexec, h, hw, hd, ha.trans (Bool.and_true _), hb.trans (Bool.and_true _)⟩

end Sys2Proof.Machine
end

section
/-! The management processor's watchdog and the pulse of ERR_N (14, R295, R298; 12, R261; 16, R338). -/

namespace Sys2Proof.Machine
open Sys2Proof.Claims

/-- A watchdog that expires ends the processor's sessions and hashes, refreshes the stacks, and clears mailboxes. -/
theorem exec_mgmtWatchdogExpiry {s : State} (hm : mgmtRuns s = true) : ∃ x, exec .mgmtWatchdogExpiry s = .next { s with
    dev := { s.dev with restarting := true }, host := { bulkSeq := s.host.bulkSeq }
    tele := { s.tele with chimneySending := none, chimneyWaiting := none }, mail := x
    mem := { s.mem with
      retained := smap {} cutHash s.mem.retained
      stackTable := allStacks (fun _ k => { k with selfRefresh := true }) s.mem.stackTable } } := by
  have hmail (u : State) : MailOnly u (clearAbsent (releaseSender 16 (releaseSender 15 (releaseSender 1 u)))) :=
    ((releaseSender_mailOnly.trans releaseSender_mailOnly).trans releaseSender_mailOnly).trans clearAbsent_mailOnly
  refine ⟨_, (if_neg (by rw [hm]; decide) : execMgmtWatchdogExpiry s = _).trans (congrArg _ (hmail _))⟩

/-- Settles O18: each event acts under its condition alone. -/
theorem watchdogAndPulseEvents : Obligations.WatchdogAndPulseEvents := by
  unfold Obligations.WatchdogAndPulseEvents
  intro s
  refine ⟨fun hm => ?_, fun hm => if_pos (by rw [hm]; rfl), fun hr hl => if_pos (by rw [hr, hl]; rfl), fun h => if_neg ?_,
    fun hp hb hf => ?_, fun hp h => ?_, fun hp => if_pos (by rw [hp]; rfl)⟩
  · obtain ⟨x, hx⟩ := exec_mgmtWatchdogExpiry hm
    refine ⟨_, hx, rfl, rfl, rfl, rfl, fun n hn => ?_, fun hw r => ?_, rfl, rfl, rfl, rfl, rfl, rfl⟩
    · rw [stackOf, sget_allStacks _ _ hn]
    · rw [retainedOf, sget_smap rfl r hw]
      exact cutHash_state _
  · rcases h with h | h <;> simp [h]
  · refine (if_neg (by rw [hp]; decide) : execErrPulseEnd s = _).trans ?_
    simp only [hb, hf, or_self, if_false]
  · refine (if_neg (by rw [hp]; decide) : execErrPulseEnd s = _).trans ?_
    simp only [h, if_true]

end Sys2Proof.Machine
end

section
/-! Ilutrisil messages (16, R327 to R329, R333 to R339): which of them reach their command, what a command answers outside a
session and within one, and what the bodies of READ, WRITE and their blocks name. -/

namespace Sys2Proof.Machine
open Sys2Proof.Claims

/-! Which messages are taken -/

section Taken

variable {s : State} {m : Msg} {typ : BitVec 8} (f : Option Session → State → State)

theorem takeMsg_of_stopped (h : mgmtRuns s = false) : takeMsg typ m f s = s := if_pos (by rw [h]; rfl)

theorem takeMsg_of_discarded (h : mgmtRuns s = true) (hf : frameTaken s m.frame = false) : takeMsg typ m f s = discard s :=
  (if_neg (by rw [h]; decide)).trans (if_pos (by rw [hf]; rfl))

theorem takeMsg_of_other (h : mgmtRuns s = true) (hf : frameTaken s m.frame = true)
    (ho : m.dstPort.toNat ≠ udpPort s ∨ ipActive s m.src = false ∨ headerOk m = false) : takeMsg typ m f s = s := by
  refine (if_neg (by rw [h]; decide)).trans ((if_neg (by rw [hf]; decide)).trans (if_pos ?_))
  simpa only [Bool.not_eq_true'] using ho

/-- A delivered message goes to its command without a session, or to the session that it names. -/
theorem takeMsg_of_delivered (h : Delivered s m) : takeMsg typ m f s = if m.session = 0 then f none s else
    match sessionOf s m.session with
    | some x => if m.tag = msgTag x.key typ m.session m.seq m.flags m.body then f (some x) s else authFail s
    | none => authFail s := by
  obtain ⟨hm, hf, hp, hi, hh⟩ := h
  refine (if_neg (by rw [hm]; decide)).trans ((if_neg (by rw [hf]; decide)).trans ((if_neg ?_).trans rfl))
  simp [hp, hi, hh]

theorem takeMsg_of_noSession (h : Delivered s m) (h0 : m.session = 0) : takeMsg typ m f s = f none s :=
  (takeMsg_of_delivered f h).trans (if_pos h0)

theorem takeMsg_of_inSession {x : Session} (h : InSession s typ m x) : takeMsg typ m f s = f (some x) s := by
  obtain ⟨hd, h0, hx, ht, -⟩ := h
  rw [takeMsg_of_delivered f hd, if_neg h0, hx]
  exact if_pos ht

theorem takeMsg_of_authFail (h : Delivered s m) (h0 : m.session ≠ 0) (hx : sessionOf s m.session = none ∨
    ∃ x, sessionOf s m.session = some x ∧ m.tag ≠ msgTag x.key typ m.session m.seq m.flags m.body) :
    takeMsg typ m f s = authFail s := by
  rw [takeMsg_of_delivered f h, if_neg h0]
  rcases hx with hx | ⟨x, hx, ht⟩
  · rw [hx]
  · rw [hx]
    exact if_neg ht

end Taken

/-- Every message command is taken as a message of its TYPE. -/
theorem exec_message {c : (Msg → Instr) × BitVec 8} (hc : c ∈ messages) (m : Msg) (s : State) :
    ∃ f, exec (c.1 m) s = .next (takeMsg c.2 m f s) := by
  simp only [messages, List.mem_cons, List.not_mem_nil, or_false] at hc
  rcases hc with rfl | rfl | rfl | rfl | rfl | rfl | rfl | rfl | rfl | rfl | rfl
  all_goals exact ⟨_, rfl⟩

/-- Settles O28: what stops a message before its command, in the order in which it is checked. -/
theorem messagesThatAreNotTakenChangeNothing : Obligations.MessagesThatAreNotTakenChangeNothing := by
  unfold Obligations.MessagesThatAreNotTakenChangeNothing
  intro c hc m s
  obtain ⟨f, hf⟩ := exec_message hc m s
  dsimp only
  rw [hf]
  exact ⟨fun h => congrArg _ (takeMsg_of_stopped f h), fun h hd => congrArg _ (takeMsg_of_discarded f h hd),
    fun h ht ho => congrArg _ (takeMsg_of_other f h ht ho), fun h h0 hx => congrArg _ (takeMsg_of_authFail f h h0 hx)⟩

/-! Answers -/

/-- The value of the bytes of a number that stand first. -/
theorem beAt_natBe {n x : Nat} (h : x < 256 ^ n) (l : Bytes) : beAt (natBe n x ++ l) 0 n = x := by
  have hl : (natBe n x).length = n := by rw [natBe, List.length_reverse, length_natLe]
  rw [beAt, List.drop_zero, List.take_append_of_le_length (by omega), List.take_of_length_le (by omega), beNat_eq, natBe,
    List.reverse_reverse, leNat_natLe, Nat.mod_eq_of_lt h]

/-- A value behind other bytes stands at its offset from their end. -/
theorem beAt_append (a l : Bytes) (o n : Nat) : beAt (a ++ l) (a.length + o) n = beAt l o n := by
  rw [beAt, beAt, List.drop_append, List.drop_eq_nil_of_le (by omega), List.nil_append, Nat.add_sub_cancel_left]

theorem beAt_replyBody (c : BitVec 16) (rest : Bytes) : BitVec.ofNat 16 (beAt (replyBody c rest) 0 2) = c := by
  rw [replyBody, beAt_natBe c.isLt, BitVec.ofNat_toNat, BitVec.setWidth_eq]

section Request

variable {s t : State} {m : Msg} {typ : BitVec 8} {f : Option Session → State → State × Bytes} {c : BitVec 16} {rest : Bytes}

/-- A request outside a session answers the code and the body of its effect. -/
theorem request_noSession (h : Delivered s m) (h0 : m.session = 0) (hv : s.sec.bootVerified = true)
    (hf : f none s = (t, replyBody c rest)) : request typ m f s =
      .next (send (coded t c) (.datagram m.src (sendVlan s) (controlPcp s) typ 0 m.seq 0x80 (replyBody c rest) [])) := by
  refine (congrArg _ (takeMsg_of_noSession _ h h0)).trans ?_
  simp only [hv, Bool.not_true, Bool.false_and, Bool.false_eq_true, if_false, hf, Option.elim_none, answer, ownReply,
    beAt_replyBody, response, h0, Option.map_none]
  rfl

/-- A request that changes nothing but what it answers. -/
theorem request_answered (h : Delivered s m) (h0 : m.session = 0) (hv : s.sec.bootVerified = true)
    (hf : f none s = (s, replyBody c rest)) : request typ m f s = .next (answered s m typ c (natBe 2 c.toNat ++ rest)) :=
  request_noSession h h0 hv hf

end Request

/-! Bodies that name one entry -/

section Bodies

variable (i : BitVec 16) (sub : BitVec 8) (l : Bytes)

/-- A body that names a subentry first. -/
def named : Bytes := natBe 2 i.toNat ++ natBe 1 sub.toNat ++ l

theorem beAt_named_index : beAt (named i sub l) 0 2 = i.toNat := by
  rw [named, List.append_assoc, beAt_natBe i.isLt]

theorem beAt_named_sub : beAt (named i sub l) 2 1 = sub.toNat := by
  rw [named, List.append_assoc]
  exact (beAt_append (natBe 2 i.toNat) _ 0 1).trans (beAt_natBe sub.isLt l)

theorem length_named : (named i sub l).length = 3 + l.length := by
  simp only [named, natBe, List.length_append, List.length_reverse, length_natLe]

theorem beAt_named (o n : Nat) : beAt (named i sub l) (3 + o) n = beAt l o n :=
  beAt_append (natBe 2 i.toNat ++ natBe 1 sub.toNat) l o n

end Bodies

/-! Public entries (16, R339) -/

/-- A subentry is one of its entry's, or the number of them. -/
theorem acc_of_subOf {i sub : Nat} {e : Entry} {x : Sub} (h : subOf i e sub = some x) :
    x ∈ e.subs ∨ (x.acc ≠ .wo ∧ x.size = 1) := by
  unfold subOf at h
  split at h
  · split at h
    · exact .inl (List.mem_of_getElem? h)
    · exact absurd h (by simp)
  · split at h
    · cases h
      refine .inr ⟨?_, rfl⟩
      simp only [u8]
      split <;> decide
    · exact .inl (List.mem_of_getElem? h)

/-- Every public entry may be read, and is shorter than 4 GiB. -/
theorem readable_of_public {i sub : Nat} {e : Entry} {x : Sub} (hi : isPublic i = true) (he : entryOf i = some e)
    (hx : subOf i e sub = some x) : x.acc ≠ .wo ∧ x.size < 2 ^ 32 := by
  have hb : 0x1000 ≤ i ∧ i < 0x2000 := by simpa [isPublic, within] using hi
  have hw {b n : Nat} (h : 0x2000 ≤ b) : within b n i = false := by simp [within, show ¬b ≤ i by omega]
  have hlow : entryOf i = entryLow i := by
    rw [entryOf, hw (by decide), hw (by decide), hw (by decide), hw (by decide), hw (by decide), hw (by decide),
      hw (by decide), if_pos (show i < 0x3000 by omega)]
    rfl
  have hall : ∀ y ∈ e.subs, y.acc ≠ .wo ∧ y.size < 2 ^ 32 := by
    rw [hlow] at he
    unfold entryLow at he
    split at he
    case h_14 => exact absurd he (by simp)
    iterate 4
      · cases he
        decide
    all_goals omega
  rcases acc_of_subOf hx with h | ⟨h, h1⟩
  · exact hall x h
  · exact ⟨h, by omega⟩

section Reads

variable {a : Agent} {i sub : Nat} {e : Entry} {x : Sub} (he : entryOf i = some e) (hx : subOf i e sub = some x)

include he hx

/-- A host without a session reads every public entry. -/
theorem readCheck_of_public (hi : isPublic i = true) : readCheck (.host false) i sub = (0, some (e, x)) := by
  have hr : mayRead (.host false) i = true := by rw [mayRead, hi, Bool.or_true]
  simp only [readCheck, he, hx, hr, (readable_of_public hi he hx).1, Bool.not_true, Bool.false_eq_true, if_false]

theorem readCheck_of_closed (hi : isPublic i = false) : readCheck (.host false) i sub = (0x0401, none) := by
  have hr : mayRead (.host false) i = false := by rw [mayRead, hi, Bool.or_false]
  simp only [readCheck, he, hx, hr, Bool.not_false, if_true]

end Reads

theorem readPiece_of_long {a : Agent} {i sub : Nat} {e : Entry} {x : Sub} (s : State)
    (hc : readCheck a i sub = (0, some (e, x))) (hl : isLock i sub = false)
    (ht : isLong x.typ = true) {o n : Nat} (h1 : 1 ≤ n) (hn : n ≤ 4096) (ho : o + n ≤ x.size) :
    readPiece s a i sub o n = (s, 0, x.typ, ((valueOf s a i sub e).drop o).take n) := by
  have hb : ¬(n < 1 ∨ 4096 < n ∨ x.size < o + n) := by omega
  simp only [readPiece, hc, ht, if_true, hb, if_false, readWhole_of_readable hc hl]

theorem isLock_of_public {i : Nat} (h : isPublic i = true) (sub : Nat) : isLock i sub = false := by
  have hb : 0x1000 ≤ i ∧ i < 0x2000 := by simpa [isPublic, within] using h
  simp [isLock, within, show ¬0x5800 ≤ i by omega]

/-- Bytes of the length of one piece are one piece. -/
theorem pieces_of_length {n : Nat} {bs : Bytes} (hl : bs.length = n) (hn : 0 < n) : pieces n bs = [bs] := by
  have hne : bs.isEmpty = false := by rw [List.isEmpty_eq_false_iff, ← List.length_pos_iff]; omega
  obtain ⟨k, rfl⟩ : ∃ k, n = k + 1 := ⟨n - 1, by omega⟩
  rw [pieces, hl]
  cases k with
  | zero => simp [piecesAux, hne, List.take_of_length_le (Nat.le_of_eq hl)]
  | succ k =>
    simp [piecesAux, hne, List.take_of_length_le (Nat.le_of_eq hl), List.drop_eq_nil_of_le (Nat.le_of_eq hl)]

section Bodies

variable (s : State) (a : Agent) (i : BitVec 16) (sub : BitVec 8)

/-- READ of a body of 12 bytes with its reserved bytes 0 reads the piece that it names. -/
theorem readRequest_named {l : Bytes} (hl : l.length = 9) (h0 : beAt l 0 1 = 0) (h7 : beAt l 7 2 = 0) :
    readRequest a (named i sub l) s =
      let r := readPiece s a i.toNat sub.toNat (beAt l 1 4) (beAt l 5 2)
      if r.2.1 = 0 then (r.1, replyBody 0 ([BitVec.ofNat 8 r.2.2.1, 0] ++ onWire r.2.2.1 r.2.2.2)) else (r.1, replyBody r.2.1) := by
  have hlen : (named i sub l).length = 12 := by rw [length_named, hl]
  have h3 : beAt (named i sub l) 3 1 = 0 := (beAt_named i sub l 0 1).trans h0
  have h10 : beAt (named i sub l) 10 2 = 0 := (beAt_named i sub l 7 2).trans h7
  have h4 : beAt (named i sub l) 4 4 = beAt l 1 4 := beAt_named i sub l 1 4
  have h8 : beAt (named i sub l) 8 2 = beAt l 5 2 := beAt_named i sub l 5 2
  rw [readRequest, if_neg (by simp [hlen, h3, h10]), beAt_named_index, beAt_named_sub, h4, h8]

/-- A READ_BLOCK body of one item. -/
def oneItem : Bytes := [0, 1, 0, 0] ++ named i sub [0]

theorem blockItems_oneItem : blockItems 4 (oneItem i sub) = [named i sub [0]] :=
  pieces_of_length (length_named i sub [0]) (by decide)

theorem blockOk_oneItem : blockOk 4 (oneItem i sub) = true := by
  have hl : (oneItem i sub).length = 8 := by rw [oneItem, List.length_append, length_named]; rfl
  have h0 : beAt (oneItem i sub) 0 2 = 1 := rfl
  have h2 : beAt (oneItem i sub) 2 2 = 0 := rfl
  simp [blockOk, hl, h0, h2]

/-- READ_BLOCK of one readable scalar but LOCK answers its TYPE and its value in eight bytes. -/
theorem blockRead_oneItem {e : Entry} {x : Sub} (hc : readCheck a i.toNat sub.toNat = (0, some (e, x)))
    (hr : mayRead a i.toNat = true) (hx : isLong x.typ = false) (hl : isLock i.toNat sub.toNat = false) :
    blockRead a (oneItem i sub) s = (s, replyBody 0 (natBe 2 0 ++ natBe 1 x.typ ++ [0] ++
      natBe 8 (leNat (valueOf s a i.toNat sub.toNat e)))) := by
  have h3 : beAt (named i sub [0]) 3 1 = 0 := beAt_named i sub [0] 0 1
  have hclosed : closedItems a (oneItem i sub) = [] := by
    simp only [closedItems, blockItems_oneItem, List.filter_cons, beAt_named_index, hr, Bool.not_true, Bool.and_false,
      Bool.false_eq_true, if_false, List.filter_nil, List.map_nil]
  have hcode : blockCode a (oneItem i sub) = 0 := by
    simp only [blockCode, hclosed, List.isEmpty_nil, Bool.not_true, Bool.false_eq_true, if_false, blockOk_oneItem, if_true]
  have hcheck : itemCheck a (named i sub [0]) = 0 := by
    simp only [itemCheck, beAt_named_index, beAt_named_sub, hc, hx, h3, Bool.false_eq_true, if_false, ne_eq, not_true_eq_false]
  simp only [blockRead, hcode, ne_eq, not_true_eq_false, if_false, blockItems_oneItem, List.foldl_cons, List.foldl_nil, readItem,
    hcheck, if_true, beAt_named_index, beAt_named_sub, readWhole_of_readable hc hl]
  rfl

/-- READ_BLOCK of an entry that the agent may not read is refused whole. -/
theorem blockRead_oneItem_closed (hc : readCheck a i.toNat sub.toNat = (0x0401, none)) (hr : mayRead a i.toNat = false) :
    blockRead a (oneItem i sub) s = (s, replyBody 0x0401) := by
  have hclosed : closedItems a (oneItem i sub) = [0x0401] := by
    have hl : 3 ≤ (named i sub [0]).length := by rw [length_named]; exact Nat.le_add_right _ _
    simp only [closedItems, blockItems_oneItem, List.filter_cons, beAt_named_index, beAt_named_sub, hr, hl, decide_true,
      Bool.not_false, Bool.and_true, if_true, List.filter_nil, List.map_cons, List.map_nil, hc]
  have hcode : blockCode a (oneItem i sub) = 0x0401 := by
    simp only [blockCode, hclosed]
    rfl
  rw [blockRead, hcode, if_pos (by decide)]

/-- WRITE of an existing subentry by an agent that may not write. -/
theorem writeRequest_closed {e : Entry} {x : Sub} (he : entryOf i.toNat = some e) (hx : subOf i.toNat e sub.toNat = some x)
    (ha : mayWrite a = false) {l : Bytes} (hl : 9 ≤ l.length) : writeRequest a (named i sub l) s = (s, replyBody 0x0401) := by
  have hlen : ¬(named i sub l).length < 12 := by rw [length_named]; omega
  rw [writeRequest, if_neg hlen]
  simp only [beAt_named_index, beAt_named_sub, dictWrite_of_refused (writeCheck_noSession _ he hx ha)]

end Bodies

section Commands

variable (m : Msg) (s : State)

theorem exec_readEntry : exec (.readEntry m) s = request 0x01 m (fun x s => readRequest (hostOf x) m.body s) s := rfl
theorem exec_writeEntry : exec (.writeEntry m) s = request 0x02 m (fun x s => writeRequest (hostOf x) m.body s) s := rfl
theorem exec_readBlock : exec (.readBlock m) s = request 0x03 m (fun x s => blockRead (hostOf x) m.body s) s := rfl
theorem exec_writeBlock : exec (.writeBlock m) s = request 0x04 m (fun x s => blockWrite (hostOf x) m.body s) s := rfl
theorem exec_sessionNonce : exec (.sessionNonce m) s =
    request 0x10 m (fun x s => if x.isSome ∨ m.body ≠ [] then (s, replyBody 0x0202) else drawNonce s) s := rfl
theorem exec_sessionOpen : exec (.sessionOpen m) s = .next (takeMsg 0x11 m (fun x s => match x with
    | none => answer s m 0x11 (openRequest m s)
    | some y => inSession 0x11 m y (fun s => (s, ownReply m x (replyBody 0x0202))) s) s) := rfl
theorem exec_sessionClose : exec (.sessionClose m) s = request 0x12 m (fun x s =>
    if x.isNone then (s, replyBody 0x0401)
    else if m.body ≠ [] then (s, replyBody 0x0202)
    else (closeSession m.session s, replyBody 0)) s := rfl
theorem exec_bulkOpen : exec (.bulkOpen m) s = request 0x20 m (fun x s => openChannel x.isSome m s) s := rfl

end Commands

/-- The piece of a READ: OFFSET and COUNT, between reserved bytes. -/
def pieceBytes (o n : Nat) : Bytes := [0] ++ natBe 4 o ++ natBe 2 n ++ [0, 0]

theorem pieceBytes_fields {o n : Nat} (ho : o < 2 ^ 32) (hn : n < 65536) : (pieceBytes o n).length = 9 ∧
    beAt (pieceBytes o n) 0 1 = 0 ∧ beAt (pieceBytes o n) 1 4 = o ∧ beAt (pieceBytes o n) 5 2 = n ∧
    beAt (pieceBytes o n) 7 2 = 0 := by
  refine ⟨rfl, rfl, ?_, ?_, ?_⟩
  · rw [pieceBytes, List.append_assoc, List.append_assoc]
    exact (beAt_append [0] _ 0 4).trans (beAt_natBe ho _)
  · rw [pieceBytes, List.append_assoc]
    exact (beAt_append ([0] ++ natBe 4 o) _ 0 2).trans (beAt_natBe hn _)
  · exact beAt_append ([0] ++ natBe 4 o ++ natBe 2 n) [0, 0] 0 2

/-- Settles O26: what READ, WRITE and their blocks answer a host without a session. -/
theorem publicEntriesAreReadWithoutASession : Obligations.PublicEntriesAreReadWithoutASession := by
  unfold Obligations.PublicEntriesAreReadWithoutASession
  intro m s hd h0 hv i sub e x he hx a
  rw [exec_readEntry, exec_writeEntry, exec_readBlock, exec_writeBlock]
  have hread {l : Bytes} (hb : m.body = named i sub l) : readRequest a m.body s = readRequest a (named i sub l) s := by rw [hb]
  refine ⟨fun hi ht hb => request_answered hd h0 hv ?_, fun hi ht o n h1 hn ho hb => request_answered hd h0 hv ?_,
    fun hi ht hb => request_answered hd h0 hv ?_, fun hi hb => request_answered hd h0 hv ?_,
    fun hi hb => request_answered hd h0 hv ?_, fun l hb hl => request_answered hd h0 hv ?_, request_answered hd h0 hv ?_⟩
  · refine (hread hb).trans ((readRequest_named s a i sub rfl rfl rfl).trans ?_)
    have hp : readPiece s a i.toNat sub.toNat (beAt (zeros 9) 1 4) (beAt (zeros 9) 5 2) = _ :=
      readPiece_of_scalar (readCheck_of_public he hx hi) ht (isLock_of_public hi _)
    simp only [hp, onWire, ht]
    rfl
  · have hb : m.body = named i sub (pieceBytes o n) := by rw [hb, named, pieceBytes]; simp only [List.append_assoc]
    obtain ⟨hl, hz, hfo, hfn, hr⟩ := pieceBytes_fields (show o < 2 ^ 32 from
      Nat.lt_of_le_of_lt (by omega) (readable_of_public hi he hx).2) (show n < 65536 by omega)
    have hp := readPiece_of_long s (readCheck_of_public he hx hi) (isLock_of_public hi _) ht h1 hn ho
    refine (hread hb).trans ((readRequest_named s a i sub hl hz hr).trans ?_)
    rw [hfo, hfn, hp]
    simp only [onWire, ht]
    rfl
  · have hb : m.body = oneItem i sub := by rw [hb, oneItem, named]; simp only [List.append_assoc]
    rw [hb]
    refine (blockRead_oneItem s a i sub (readCheck_of_public he hx hi) (by rw [mayRead, hi]; rfl) ht
      (isLock_of_public hi _)).trans ?_
    simp only [replyBody, List.append_assoc]
    rfl
  · refine (hread hb).trans ((readRequest_named s a i sub rfl rfl rfl).trans ?_)
    simp only [readPiece, readCheck_of_closed he hx hi, a]
    rfl
  · have hb : m.body = oneItem i sub := by rw [hb, oneItem, named]; simp only [List.append_assoc]
    rw [hb]
    exact blockRead_oneItem_closed s a i sub (readCheck_of_closed he hx hi) (by rw [mayRead, hi]; rfl)
  · have hb : m.body = named i sub l := hb
    rw [hb]
    exact writeRequest_closed s a i sub he hx rfl hl
  · exact if_pos rfl

end Sys2Proof.Machine
end

section
/-! Requests of a session (16, R334, R337, R339; 13, R271): a new SEQ runs and is noted with its response, an old one is
answered from the store or discarded. -/

namespace Sys2Proof.Machine
open Sys2Proof.Claims

theorem number_of_sessionOf {s : State} {n : BitVec 32} {x : Session} (h : sessionOf s n = some x) : x.number = n :=
  beq_iff_eq.mp (List.find?_some h :)

/-- A session that is open is read as it is changed. -/
theorem sessionOf_modSession {s : State} {n : BitVec 32} {x : Session} (h : sessionOf s n = some x) {f : Session → Session}
    (hf : ∀ y, (f y).number = y.number) : sessionOf (modSession s n f) n = some (f x) := by
  have hx := number_of_sessionOf h
  unfold sessionOf modSession at *
  rw [List.find?_map]
  have hp : (fun y : Session => y.number == n) ∘ (fun y => if (y.number == n) = true then f y else y) = fun y => y.number == n := by
    funext y
    simp only [Function.comp]
    split
    · rw [hf]
    · rfl
  rw [hp, h, Option.map_some, hx]
  simp

/-- The state after a request of a new SEQ: u is what its command left, c and rest what it answers. -/
def ran (s u : State) (m : Msg) (typ : BitVec 8) (x : Session) (c : BitVec 16) (rest : Bytes) : State :=
  modSession (send (coded u c) (.datagram m.src (sendVlan s) (controlPcp s) typ m.session m.seq 0x80 (replyBody c rest)
    (msgTag x.key typ m.session m.seq 0x80 (replyBody c rest)))) m.session (noteRequest m.seq.toNat (replyBody c rest))

/-- What the port sends, or keeps waiting, is a matter of the port alone. -/
theorem send_port_congr {a s : State} (ha : a.port = s.port) (t : Tx) : (send a t).port = (send s t).port := by
  have hw : txWaits a t = txWaits s t := by simp only [txWaits, ha]
  unfold send
  rw [hw]
  split <;> rw [ha]

section InSession

variable {s u : State} {m : Msg} {typ : BitVec 8} {x : Session} {c : BitVec 16} {rest : Bytes} (h : InSession s typ m x)

include h

theorem request_ran {f : Option Session → State → State × Bytes} (hn : isNew x m.seq.toNat = true)
    (hf : f (some x) s = (u, replyBody c rest)) : request typ m f s = .next (ran s u m typ x c rest) := by
  refine (congrArg _ (takeMsg_of_inSession _ h)).trans ?_
  obtain ⟨-, -, hx, -, hv⟩ := h
  simp only [hv, Bool.not_true, Bool.false_and, Bool.false_eq_true, if_false, hf, Option.elim_some, inSession, hn, if_true,
    answer, ownReply, beAt_replyBody, response, Option.map_some, number_of_sessionOf hx]
  rfl

omit h in
/-- The SEQ of a request that has run is noted, with its response. -/
theorem noteRequest_noted {q : Nat} (hn : isNew x q = true) (body : Bytes) : q ∈ (noteRequest q body x).executed ∧
    (q, body) ∈ (noteRequest q body x).responses := by
  have hq : max x.highest q ≤ q + 64 := by
    simp only [isNew, Bool.or_eq_true, Bool.and_eq_true, decide_eq_true_eq] at hn
    omega
  refine ⟨List.mem_filter.mpr ⟨List.mem_cons_self .., decide_eq_true hq⟩, ?_⟩
  have hl : (x.responses ++ [(q, body)]).length - 64 ≤ x.responses.length := by
    rw [List.length_append, List.length_singleton]; omega
  show (q, body) ∈ (x.responses ++ [(q, body)]).drop _
  rw [List.drop_append_of_le_length hl]
  exact List.mem_append_right _ (List.mem_singleton.mpr rfl)

/-- A request that leaves the port, the sessions, memory, links, faults and the image has run once. -/
theorem ran_ranOnce (hn : isNew x m.seq.toNat = true) (hp : u.port = s.port) (hs : u.host.sessions = s.host.sessions)
    (hmem : u.mem = s.mem) (hl : u.links = s.links) (hf : u.faults = s.faults) (hi : u.image = s.image) :
    RanOnce s (ran s u m typ x c rest) m typ x c rest ∧ (ran s u m typ x c rest).dev = { u.dev with lastCode := c } := by
  obtain ⟨-, -, hx, -⟩ := h
  obtain ⟨hexec, hresp⟩ := noteRequest_noted hn (replyBody c rest)
  refine ⟨⟨?_, send_port_congr (a := coded u c) hp _, ⟨_, sessionOf_modSession ?_ (fun _ => rfl), rfl, rfl, hexec, hresp⟩,
    ?_, ?_, ?_, ?_⟩, ?_⟩
  · exact congrArg Device.lastCode (send_dev ..)
  · rw [sessionOf, send_host]
    exact (congrArg (List.find? _) hs).trans hx
  · exact (send_mem ..).trans hmem
  · exact (send_links ..).trans hl
  · exact (send_faults ..).trans hf
  · exact (send_image ..).trans hi
  · exact send_dev ..

end InSession

/-! HOLD_AFTER in the bodies of the four requests -/

section HoldAfter

variable (s : State) (n : BitVec 64)

/-- The state with HOLD_AFTER set. -/
def holdingAfter : State := { s with dev := { s.dev with holdAfter := n } }

theorem dictWrite_holdAfter (hm : s.dev.mode ∈ [Mode.loaded, .armed, .running, .held]) :
    dictWrite s (.host true) (0x2000 : BitVec 16).toNat (6 : BitVec 8).toNat ⟨5, 0, natLe 8 n.toNat⟩ = (holdingAfter s n, 0) := by
  rw [show (0x2000 : BitVec 16).toNat = 0x2000 from rfl, show (6 : BitVec 8).toNat = 6 from rfl]
  have hput : putOf (u64 .rw) ⟨5, 0, natLe 8 n.toNat⟩ = _ := putOf_scalar (x := u64 .rw) 5 rfl n.isLt
  rw [dictWrite_of_writable (x := u64 .rw) rfl rfl rfl (.inl rfl) rfl, hput, writeSub_holdAfter _ hm rfl, holdingAfter,
    BitVec.ofNat_toNat, BitVec.setWidth_eq]

theorem writeRequest_holdAfter (hm : s.dev.mode ∈ [Mode.loaded, .armed, .running, .held]) :
    writeRequest (.host true) ([0x20, 0x00, 0x06, 0x05] ++ zeros 8 ++ natBe 8 n.toNat) s = (holdingAfter s n, replyBody 0) := by
  have hb : ([0x20, 0x00, 0x06, 0x05] ++ zeros 8 ++ natBe 8 n.toNat : Bytes) =
      named 0x2000 6 ([5] ++ zeros 8 ++ natBe 8 n.toNat) := rfl
  have hv : writeValue ([0x20, 0x00, 0x06, 0x05] ++ zeros 8 ++ natBe 8 n.toNat) = ⟨5, 0, natLe 8 n.toNat⟩ := by
    have h3 : beAt ([0x20, 0x00, 0x06, 0x05] ++ zeros 8 ++ natBe 8 n.toNat) 3 1 = 5 := rfl
    have h4 : beAt ([0x20, 0x00, 0x06, 0x05] ++ zeros 8 ++ natBe 8 n.toNat) 4 4 = 0 := rfl
    have h8 : beAt ([0x20, 0x00, 0x06, 0x05] ++ zeros 8 ++ natBe 8 n.toNat) 8 2 = 0 := rfl
    have h10 : beAt ([0x20, 0x00, 0x06, 0x05] ++ zeros 8 ++ natBe 8 n.toNat) 10 2 = 0 := rfl
    have hd : ([0x20, 0x00, 0x06, 0x05] ++ zeros 8 ++ natBe 8 n.toNat : Bytes).drop 12 = natBe 8 n.toNat := rfl
    have hw : onWire 5 (natBe 8 n.toNat) = natLe 8 n.toNat := List.reverse_reverse _
    simp only [writeValue, h3, h4, h8, h10, hd, isLong, hw]
    rfl
  have hlen : ¬(named 0x2000 6 ([5] ++ zeros 8 ++ natBe 8 n.toNat)).length < 12 := by
    rw [length_named, List.length_append]
    have h9 : ([5] ++ zeros 8 : Bytes).length = 9 := rfl
    omega
  rw [hb] at hv ⊢
  rw [writeRequest, if_neg hlen, beAt_named_index, beAt_named_sub, hv, dictWrite_holdAfter s n hm]

/-- HOLD_AFTER in an item of a WRITE_BLOCK. -/
theorem itemValue_holdAfter : itemValue (named 0x2000 6 ([5] ++ natBe 8 n.toNat)) = ⟨5, 0, natLe 8 n.toNat⟩ := by
  have hnum : beAt (named 0x2000 6 ([5] ++ natBe 8 n.toNat)) 4 8 = n.toNat := by
    refine (beAt_named 0x2000 6 _ 1 8).trans ((beAt_append [5] _ 0 8).trans ?_)
    have h := beAt_natBe (n := 8) n.isLt []
    rwa [List.append_nil] at h
  have hsub : (entryOf 0x2000).bind (fun e => subOf 0x2000 e 6) = some (u64 .rw) := rfl
  have htyp : beAt (named 0x2000 6 ([5] ++ natBe 8 n.toNat)) 3 1 = 5 := rfl
  have hfits : n.toNat < 256 ^ (u64 .rw).size := n.isLt
  simp only [itemValue, beAt_named_index, beAt_named_sub, hnum, htyp, show (0x2000 : BitVec 16).toNat = 0x2000 from rfl,
    show (6 : BitVec 8).toNat = 6 from rfl, hsub, if_pos hfits]
  rfl

theorem blockWrite_holdAfter (hr : mgmtRuns s = true) (hm : s.dev.mode ∈ [Mode.loaded, .armed, .running, .held]) :
    blockWrite (.host true) ([0, 1, 0, 0, 0x20, 0x00, 0x06, 0x05] ++ natBe 8 n.toNat) s =
      (holdingAfter s n, replyBody 0 (natBe 2 1 ++ natBe 2 0)) := by
  have hitems : blockItems 12 ([0, 1, 0, 0, 0x20, 0x00, 0x06, 0x05] ++ natBe 8 n.toNat) =
      [named 0x2000 6 ([5] ++ natBe 8 n.toNat)] := pieces_of_length rfl (by decide)
  have hok : blockOk 12 ([0, 1, 0, 0, 0x20, 0x00, 0x06, 0x05] ++ natBe 8 n.toNat) = true := by
    have hl : ([0, 1, 0, 0, 0x20, 0x00, 0x06, 0x05] ++ natBe 8 n.toNat : Bytes).length = 16 := rfl
    have h0 : beAt ([0, 1, 0, 0, 0x20, 0x00, 0x06, 0x05] ++ natBe 8 n.toNat) 0 2 = 1 := rfl
    have h2 : beAt ([0, 1, 0, 0, 0x20, 0x00, 0x06, 0x05] ++ natBe 8 n.toNat) 2 2 = 0 := rfl
    simp only [blockOk, hl, h0, h2]
    rfl
  have hruns : mgmtRuns (holdingAfter s n) = true := hr
  simp only [blockWrite, hok, hitems, writeItems, beAt_named_index, beAt_named_sub, itemValue_holdAfter,
    dictWrite_holdAfter s n hm, hruns]
  rfl

theorem readCheck_holdAfter : ∃ e,
    readCheck (.host true) (0x2000 : BitVec 16).toNat (6 : BitVec 8).toNat = (0, some (e, u64 .rw)) ∧
      valueOf s (.host true) (0x2000 : BitVec 16).toNat (6 : BitVec 8).toNat e = natLe 8 s.dev.holdAfter.toNat :=
  ⟨⟨false, [u32 .ro, u32 .ro, u32 .ro, u32 .ro, u64 .ro, u64 .rw]⟩, rfl, rfl⟩

theorem readRequest_holdAfter : readRequest (.host true) ([0x20, 0x00, 0x06] ++ zeros 9) s =
    (s, replyBody 0 ([5, 0] ++ natBe 8 s.dev.holdAfter.toNat)) := by
  obtain ⟨e, he, hv⟩ := readCheck_holdAfter s
  have hp : readPiece s (.host true) (0x2000 : BitVec 16).toNat (6 : BitVec 8).toNat 0 0 = _ := readPiece_of_scalar he rfl rfl
  have hr := readRequest_named s (.host true) 0x2000 6 (l := zeros 9) rfl rfl rfl
  rw [show beAt (zeros 9) 1 4 = 0 from rfl, show beAt (zeros 9) 5 2 = 0 from rfl, hp, hv] at hr
  exact hr

theorem blockRead_holdAfter : blockRead (.host true) [0, 1, 0, 0, 0x20, 0x00, 0x06, 0] s =
    (s, replyBody 0 (natBe 2 0 ++ [5, 0] ++ natBe 8 s.dev.holdAfter.toNat)) := by
  obtain ⟨e, he, hv⟩ := readCheck_holdAfter s
  have hr := blockRead_oneItem s (.host true) 0x2000 6 he rfl rfl rfl
  rw [hv, leNat_natLe, Nat.mod_eq_of_lt (show s.dev.holdAfter.toNat < 256 ^ 8 from s.dev.holdAfter.isLt)] at hr
  exact hr

end HoldAfter

/-! Repeats -/

theorem request_inSession {s : State} {m : Msg} {typ : BitVec 8} {x : Session} (h : InSession s typ m x)
    (f : Option Session → State → State × Bytes) : ∃ g, request typ m f s = .next (inSession typ m x g s) := by
  refine Exists.imp (fun g hg => (congrArg Host.Outcome.next (takeMsg_of_inSession _ h)).trans hg) ?_
  simp only [Option.elim_some]
  exact ⟨_, rfl⟩

/-- A request of an open session reaches the session's rule for its SEQ. -/
theorem exec_message_inSession {c : (Msg → Instr) × BitVec 8} (hc : c ∈ messages) (ht : c.2.toNat ≤ 0x20) {s : State} {m : Msg}
    {x : Session} (h : InSession s c.2 m x) : ∃ g, exec (c.1 m) s = .next (inSession c.2 m x g s) := by
  simp only [messages, List.mem_cons, List.not_mem_nil, or_false] at hc
  rcases hc with rfl | rfl | rfl | rfl | rfl | rfl | rfl | rfl | rfl | rfl | rfl
  all_goals dsimp only at h ⊢
  · rw [exec_readEntry]; exact request_inSession h _
  · rw [exec_writeEntry]; exact request_inSession h _
  · rw [exec_readBlock]; exact request_inSession h _
  · rw [exec_writeBlock]; exact request_inSession h _
  · rw [exec_sessionNonce]; exact request_inSession h _
  · rw [exec_sessionOpen]; exact ⟨_, congrArg Host.Outcome.next (takeMsg_of_inSession _ h)⟩
  · rw [exec_sessionClose]; exact request_inSession h _
  · rw [exec_bulkOpen]; exact request_inSession h _
  all_goals exact absurd ht (by decide)

section Repeats

variable {s : State} {m : Msg} {typ : BitVec 8} {x : Session} (g : State → State × Reply) (hn : isNew x m.seq.toNat = false)

include hn

theorem inSession_stored {p : Nat × Bytes} (hx : x.number = m.session)
    (hp : x.responses.find? (fun r => r.1 == m.seq.toNat) = some p) (hr : m.flags.getLsbD 6 = true) :
    inSession typ m x g s = replied s m typ x p.2 := by
  simp only [inSession, hn, hp, hr, Bool.false_eq_true, if_false, if_true, hx]
  rfl

theorem inSession_discarded
    (h : m.flags.getLsbD 6 = false ∨ x.responses.find? (fun r => r.1 == m.seq.toNat) = none) :
    inSession typ m x g s = discard s := by
  rcases h with h | h
  · simp only [inSession, hn, h, Bool.false_eq_true, if_false]
    split <;> rfl
  · simp only [inSession, hn, h, Bool.false_eq_true, if_false]

end Repeats

/-- Settles O27: each of the four requests runs once, and a repeat finds the stored response or none. -/
theorem sessionRequestsRunOnce : Obligations.SessionRequestsRunOnce := by
  unfold Obligations.SessionRequestsRunOnce
  intro m x s n
  rw [exec_readEntry, exec_writeEntry, exec_readBlock, exec_writeBlock]
  refine ⟨fun hn hm => ⟨fun h hb => ?_, fun h hb => ?_⟩, fun hn => ⟨fun h hb => ?_, fun h hb => ?_⟩, fun hn c hc ht h => ?_⟩
  · exact ⟨_, request_ran h hn (by rw [hb]; exact writeRequest_holdAfter s n hm),
      ran_ranOnce (u := holdingAfter s n) h hn rfl rfl rfl rfl rfl rfl⟩
  · have ⟨⟨hr, _⟩, _⟩ := h
    exact ⟨_, request_ran h hn (by rw [hb]; exact blockWrite_holdAfter s n hr hm),
      ran_ranOnce (u := holdingAfter s n) h hn rfl rfl rfl rfl rfl rfl⟩
  · exact ⟨_, request_ran h hn (by rw [hb]; exact readRequest_holdAfter s), ran_ranOnce h hn rfl rfl rfl rfl rfl rfl⟩
  · exact ⟨_, request_ran h hn (by rw [hb]; exact blockRead_holdAfter s), ran_ranOnce h hn rfl rfl rfl rfl rfl rfl⟩
  · obtain ⟨g, hg⟩ := exec_message_inSession hc ht h
    obtain ⟨-, -, hx, -⟩ := h
    rw [hg]
    exact ⟨fun p hp hr => congrArg _ (inSession_stored g hn (number_of_sessionOf hx) hp hr),
      fun hd => congrArg _ (inSession_discarded g hn hd)⟩

end Sys2Proof.Machine
end

section
/-! Sessions (16, R336, R338; 15, R320; 18, R372): a nonce, a number that is free, and what the end of a session ends. -/

namespace Sys2Proof.Machine
open Sys2Proof.Claims

/-! Numbers that are not used -/

/-- The number drawn is neither 0 nor in use, and fits where one of the numbers does. -/
theorem freeNumber_free {pick n : Nat} {used : List Nat} (hp : pick < n) (hu : used.length + 1 < n) :
    freeNumber pick used ≠ 0 ∧ freeNumber pick used < n ∧ freeNumber pick used ∉ used := by
  unfold freeNumber
  split
  case isTrue =>
    cases hf : ((List.range (used.length + 1)).map (· + 1)).find? (fun k => !used.contains k) with
    | some k =>
      have hm := List.mem_of_find?_eq_some hf
      have hk := List.find?_some hf
      obtain ⟨j, hj, rfl⟩ := List.mem_map.mp hm
      rw [List.mem_range] at hj
      refine ⟨by simp, ?_, by simpa using hk⟩
      simp only [Option.getD_some]
      omega
    | none =>
      have hall : ∀ k ∈ (List.range (used.length + 1)).map (· + 1), k ∈ used := by
        simpa only [List.find?_eq_none, Bool.not_eq_true', Bool.not_eq_false, List.contains_iff_mem] using hf
      have hnodup : ((List.range (used.length + 1)).map (· + 1)).Nodup := List.nodup_range.map (fun a b h => by simpa using h)
      have hle := (List.subperm_of_subset hnodup hall).length_le
      simp at hle
  case isFalse h =>
    simp only [Bool.or_eq_true, decide_eq_true_eq, List.contains_iff_mem, not_or] at h
    exact ⟨h.1, hp, h.2⟩

/-- So is the word of it. -/
theorem ofNat_freeNumber {w pick : Nat} {used : List (BitVec w)} (hu : used.length + 1 < 2 ^ w) :
    let n := BitVec.ofNat w (freeNumber (pick % 2 ^ w) (used.map BitVec.toNat))
    n ≠ 0 ∧ n ∉ used := by
  obtain ⟨h0, hlt, hn⟩ := freeNumber_free (Nat.mod_lt pick (Nat.two_pow_pos w)) (used := used.map BitVec.toNat)
    (by rwa [List.length_map])
  have ht : (BitVec.ofNat w (freeNumber (pick % 2 ^ w) (used.map BitVec.toNat))).toNat =
      freeNumber (pick % 2 ^ w) (used.map BitVec.toNat) := by
    rw [BitVec.toNat_ofNat, Nat.mod_eq_of_lt hlt]
  refine ⟨fun h => h0 ?_, fun h => hn ?_⟩
  · rw [← ht, h]
    rfl
  · rw [← ht]
    exact List.mem_map_of_mem h

/-! The end of a session -/

/-- Between s and t channels have ended: the port, the channels, and the operation or record that ended with one. -/
def ChannelsOnly (s t : State) : Prop :=
  t = { s with dev := t.dev, ctx := t.ctx, tele := t.tele, port := t.port, host := t.host } ∧
    t.host.sessions = s.host.sessions

theorem endChannel_only (reason : Nat) (s : State) (c : Channel) : ChannelsOnly s (endChannel reason s c) ∧
    (endChannel reason s c).host.channels = s.host.channels.filter (·.id != c.id) := by
  obtain ⟨p, h, hc, hch⟩ := closeChannel_eq reason 0 s c
  have hs := closeChannel_sessions reason 0 s c
  rw [hc] at hs
  unfold endChannel afterChannel endOperation endContext
  rw [hc]
  repeat' split
  all_goals exact ⟨⟨rfl, hs⟩, hch⟩

theorem ChannelsOnly.trans {r s t : State} (h : ChannelsOnly r s) (k : ChannelsOnly s t) : ChannelsOnly r t := by
  obtain ⟨h, hs⟩ := h
  obtain ⟨k, ks⟩ := k
  refine ⟨?_, ks.trans hs⟩
  rw [h] at k
  rw [k]

/-- Ending channels leaves those of the other numbers. -/
theorem endChannels_only (reason : Nat) : ∀ (l : List Channel) (s : State), ChannelsOnly s (l.foldl (endChannel reason) s) ∧
    ∀ x ∈ (l.foldl (endChannel reason) s).host.channels, x ∈ s.host.channels ∧ ∀ c ∈ l, x.id ≠ c.id
  | [], s => ⟨⟨rfl, rfl⟩, fun _ h => ⟨h, nofun⟩⟩
  | c :: l, s => by
    obtain ⟨ho, hc⟩ := endChannel_only reason s c
    obtain ⟨hl, hx⟩ := endChannels_only reason l (endChannel reason s c)
    refine ⟨ho.trans hl, fun x h => ?_⟩
    obtain ⟨hm, hn⟩ := hx x h
    rw [hc, List.mem_filter, bne_iff_ne] at hm
    exact ⟨hm.1, List.forall_mem_cons.mpr ⟨hm.2, hn⟩⟩

theorem closeSession_ended {s : State} (n : BitVec 32) (hw : swf {} s.mail = true) : SessionEnded s (closeSession n s) n := by
  obtain ⟨⟨hu, hs⟩, hc⟩ := endChannels_only 3 (s.host.channels.filter (fun c => c.session == n)) s
  unfold closeSession
  generalize (s.host.channels.filter (fun c => c.session == n)).foldl (endChannel 3) s = u at *
  have hmail : u.mail = s.mail := by rw [hu]
  obtain ⟨-, hm⟩ := mailOf_releaseSender (a := 15) (s := u) (by rw [hmail]; exact hw)
  obtain ⟨y, hy⟩ : ∃ y, releaseSender 15 u = { u with mail := y } := ⟨_, releaseSender_mailOnly⟩
  rw [hy] at hm ⊢
  refine ⟨congrArg (List.filter _) hs, fun c h => ?_, fun i hi h15 => ?_, ?_, ?_, ?_⟩
  · obtain ⟨hm, hn⟩ := hc c h
    exact ⟨hm, fun hcn => hn c (List.mem_filter.mpr ⟨hm, beq_iff_eq.mpr hcn⟩) rfl⟩
  · have hi' := hm i hi
    unfold releasedMail at hi'
    split at hi'
    case isTrue =>
      split at hi'
      case isTrue h2 => exact (congrArg Mailbox.status hi').trans h2
      case isFalse => exact absurd (h15.symm.trans (congrArg Mailbox.owner hi')) (by decide)
    case isFalse h1 => exact absurd ((congrArg Mailbox.owner hi').symm.trans h15) h1
  all_goals
    dsimp only
    rw [hu]

theorem ran_host (s u : State) (m : Msg) (typ : BitVec 8) (x : Session) (c : BitVec 16) (rest : Bytes) :
    (ran s u m typ x c rest).host = { u.host with sessions := u.host.sessions.map (fun y =>
      if y.number == m.session then noteRequest m.seq.toNat (replyBody c rest) y else y) } := by
  unfold ran modSession
  dsimp only
  rw [send_host]
  rfl

/-- A session that closes at its own request ends, though the request is noted. -/
theorem ran_ended {s u : State} {m : Msg} {typ : BitVec 8} {x : Session} {c : BitVec 16} {rest : Bytes}
    (h : SessionEnded s u m.session) : SessionEnded s (ran s u m typ x c rest) m.session := by
  obtain ⟨hs, hc, hm, hi, hd, hl⟩ := h
  rw [SessionEnded, ran_host]
  refine ⟨?_, hc, fun i hi => ?_, ?_, ?_, ?_⟩
  · refine (List.map_congr_left (g := id) fun y hy => ?_).trans ((List.map_id _).trans hs)
    rw [hs, List.mem_filter, bne_iff_ne] at hy
    exact if_neg (by rw [beq_iff_eq]; exact hy.2)
  · have he : (ran s u m typ x c rest).mail = u.mail := send_mail ..
    rw [mailOf, he]
    exact hm i hi
  · exact (congrArg ImageUnit.loaded (send_image ..)).trans hi
  · exact (congrArg Memory.dram (send_mem ..)).trans hd
  · exact (send_links ..).trans hl

/-! SESSION_OPEN -/

section Open

variable {s : State} {m : Msg}

theorem exec_sessionOpen_noSession (hd : Delivered s m) (h0 : m.session = 0) :
    exec (.sessionOpen m) s = .next (answer s m 0x11 (openRequest m s)) := by
  rw [exec_sessionOpen]
  exact congrArg Host.Outcome.next (takeMsg_of_noSession _ hd h0)

variable (hv : s.sec.bootVerified = true) (hl : m.body.length = 832)

include hv hl

theorem openRequest_of_key {key : Bytes} (hk : openKey s m = some key) : openRequest m s =
    if 8 ≤ s.host.sessions.length then (s, ownReply m none (replyBody 0x0302)) else openSession m key s := by
  simp only [openRequest, hv, Bool.not_true, Bool.false_eq_true, if_false, hl, ne_eq, not_true_eq_false, hk]

theorem openRequest_of_none (hk : openKey s m = none) : openRequest m s =
    ({ s with port := { s.port with authFailures := satInc s.port.authFailures } }, ownReply m none (replyBody 0x0401)) := by
  simp only [openRequest, hv, Bool.not_true, Bool.false_eq_true, if_false, hl, ne_eq, not_true_eq_false, hk]

end Open

/-- An answer outside a session. -/
theorem answer_noSession (s t : State) {m : Msg} (h0 : m.session = 0) (typ : BitVec 8) (c : BitVec 16) :
    answer s m typ (t, ownReply m none (replyBody c)) =
      send (coded t c) (.datagram m.src (sendVlan s) (controlPcp s) typ 0 m.seq 0x80 (natBe 2 c.toNat) []) := by
  simp only [answer, ownReply, beAt_replyBody, response, h0, Option.map_none]
  rfl

/-- A session that opens: its number is free, and nothing else but the nonce and the count of free values changes. -/
theorem answer_openSession {s : State} (m : Msg) (key : Bytes) (h8 : s.host.sessions.length < 8) :
    ∃ n, n ≠ 0 ∧ n ∉ s.host.sessions.map (·.number) ∧
      let t := answer s m 0x11 (openSession m key s)
      t.host = { s.host with
        nonces := s.host.nonces.filter (· != slice m.body 0 32)
        sessions := s.host.sessions ++ [⟨n, key, m.src, 0, [], []⟩] } ∧
      t.dev.lastCode = 0 ∧ t.image = s.image ∧ t.mem = s.mem ∧ t.links = s.links := by
  obtain ⟨hn0, hn⟩ := ofNat_freeNumber (w := 32) (pick := Config.pick s.fresh) (used := s.host.sessions.map (·.number))
    (by rw [List.length_map]; omega)
  rw [List.map_map] at hn0 hn
  refine ⟨_, hn0, hn, ?_⟩
  refine ⟨send_host .., (congrArg Device.lastCode (send_dev ..)).trans (beAt_replyBody _ _), send_image ..,
    send_mem .., send_links ..⟩

/-- Settles O29: the answer of each request, and what the end of a session leaves. -/
theorem sessionsOpenAndClose : Obligations.SessionsOpenAndClose := by
  unfold Obligations.SessionsOpenAndClose
  intro m s
  refine ⟨fun hd h0 hv hb => ?_, fun hd h0 hv hl => ⟨fun key hk h8 => ?_, fun key hk h8 => ?_, fun hk => ?_⟩,
    fun x h hn hb hw => ?_, fun n x hx hw => ?_, fun nonce => rfl⟩
  · rw [exec_sessionNonce]
    refine request_noSession hd h0 hv ?_
    simp only [hb, Option.isSome_none, Bool.false_eq_true, ne_eq, not_true_eq_false, or_self, if_false, drawNonce,
      List.length_append, List.length_singleton]
  · obtain ⟨n, hn0, hn, hhost, hrest⟩ := answer_openSession m key h8
    refine ⟨_, n, exec_sessionOpen_noSession hd h0, hn0, hn, ?_⟩
    rw [openRequest_of_key hv hl hk, if_neg (by omega), hhost]
    exact ⟨rfl, rfl, rfl, hrest⟩
  · rw [exec_sessionOpen_noSession hd h0, openRequest_of_key hv hl hk, if_pos h8, answer_noSession s s h0]
    rfl
  · rw [exec_sessionOpen_noSession hd h0, openRequest_of_none hv hl hk, answer_noSession s _ h0]
    rfl
  · rw [exec_sessionClose]
    refine ⟨_, request_ran (u := closeSession m.session s) (c := 0) (rest := []) h hn ?_, ran_ended (closeSession_ended _ hw),
      congrArg Device.lastCode (send_dev ..)⟩
    simp only [hb, Option.isNone_some, Bool.false_eq_true, ne_eq, not_true_eq_false, if_false]
  · exact ⟨_, if_pos (by rw [hx]; rfl), closeSession_ended n hw⟩

end Sys2Proof.Machine
end

section
/-! Bulk channels that the host fills (16, R340 to R343, R404; 07, R397): what BULK_OPEN opens, what BULK_DATA stores and marks, and
what is sent on the way. -/

namespace Sys2Proof.Machine
open Sys2Proof.Claims

/-! Messages that the device sends -/

/-- Between s and t messages have been sent, or wait, and the count of bulk messages may have risen; nothing else has changed. -/
def SentOnly (s t : State) : Prop :=
  t = { s with
    port := { s.port with tx := t.port.tx, waitTx := t.port.waitTx }
    host := { s.host with bulkSeq := t.host.bulkSeq } }

theorem SentOnly.refl (s : State) : SentOnly s s := rfl

theorem SentOnly.trans {r s t : State} (h : SentOnly r s) (k : SentOnly s t) : SentOnly r t := by
  unfold SentOnly at *
  rw [h] at k
  rw [k]

theorem send_sentOnly (s : State) (x : Tx) : SentOnly s (send s x) := by
  unfold send
  split <;> rfl

theorem sendBulk_sentOnly (s : State) (c : Channel) (typ flags : BitVec 8) (body : Bytes) :
    SentOnly s (sendBulk s c typ flags body) :=
  SentOnly.trans (s := { s with host := { s.host with bulkSeq := s.host.bulkSeq + 1 } }) rfl (send_sentOnly _ _)

theorem SentOnly.channels {s t : State} (h : SentOnly s t) : t.host.channels = s.host.channels := by
  unfold SentOnly at h
  rw [h]

theorem SentOnly.discards {s t : State} (h : SentOnly s t) : t.port.discards = s.port.discards := by
  unfold SentOnly at h
  rw [h]

/-! Channels -/

theorem id_of_channelOf {s : State} {id : BitVec 16} {c : Channel} (h : channelOf s id = some c) : c.id = id :=
  beq_iff_eq.mp (List.find?_some h :)

/-- A channel that is open is read as it is changed. -/
theorem channelOf_modChannel {s : State} {id : BitVec 16} {f : Channel → Channel} (hf : ∀ y, y.id = id → (f y).id = id) :
    channelOf (modChannel s id f) id = (channelOf s id).map f := by
  unfold channelOf modChannel
  rw [List.find?_map]
  have hp : (fun y : Channel => y.id == id) ∘ (fun y => if (y.id == id) = true then f y else y) = fun y => y.id == id := by
    funext y
    simp only [Function.comp]
    split
    case isTrue h => rw [hf y (beq_iff_eq.mp h), beq_self_eq_true, h]
    case isFalse => rfl
  rw [hp]
  cases h : s.host.channels.find? (fun y => y.id == id) with
  | none => rfl
  | some c =>
    have hc : (c.id == id) = true := (List.find?_some h :)
    rw [Option.map_some, Option.map_some, if_pos hc]

/-- A channel that has been closed is open no more. -/
theorem channelOf_filter {s t : State} {id : BitVec 16} (h : t.host.channels = s.host.channels.filter (·.id != id)) :
    channelOf t id = none := by
  rw [channelOf, h, List.find?_eq_none]
  intro x hx
  simpa using (List.mem_filter.mp hx).2

section OnChannel

variable {s : State} {m : Msg} {c : Channel} {typ : BitVec 8} (h : OnChannel s typ m c)

include h

theorem bulkMsg_of_onChannel {dir : Option Bool} (hd : dir.all (· == c.toHost) = true) (f : Channel → State → State) :
    bulkMsg typ m dir f s = f c s := by
  obtain ⟨hc, hs, x, hx⟩ := h
  rw [bulkMsg, takeMsg_of_inSession _ hx, hc]
  exact if_pos ⟨hs, hd⟩

theorem channelOf_of_onChannel : channelOf s c.id = some c := by
  obtain ⟨hc, -⟩ := h
  rw [id_of_channelOf hc, hc]

end OnChannel

/-! BULK_OPEN -/

/-- The fields of the body of a BULK_OPEN of an image. -/
theorem openBodyOf_image {w n : Nat} (hw : w ≤ 256) (hn : n ≤ 2 ^ 33) : openBodyOf (imageOpenBody w n) = ⟨1, 0, w, 0, 0, n⟩ := by
  have h2 : beAt (imageOpenBody w n) 2 2 = w := by
    rw [imageOpenBody, List.append_assoc, List.append_assoc]
    exact (beAt_append [1, 0] _ 0 2).trans (beAt_natBe (by omega) _)
  have h16 : beAt (imageOpenBody w n) 16 8 = n := by
    have h := beAt_natBe (n := 8) (x := n) (by omega) []
    rw [List.append_nil] at h
    exact (beAt_append ([1, 0] ++ natBe 2 w ++ zeros 12) _ 0 8).trans h
  have h0 : beAt (imageOpenBody w n) 0 1 = 1 := rfl
  have h1 : beAt (imageOpenBody w n) 1 1 = 0 := rfl
  have h4 : beAt (imageOpenBody w n) 4 2 = 0 := rfl
  have h8 : beAt (imageOpenBody w n) 8 8 = 0 := rfl
  rw [openBodyOf, h0, h1, h2, h4, h8, h16]

/-- The state with one channel more. -/
def withChannel (s : State) (c : Channel) : State :=
  { s with fresh := s.fresh + 1, host := { s.host with channels := s.host.channels ++ [c] } }

theorem openChannel_image {s : State} {m : Msg} {w n : Nat} (hm : s.dev.mode = .idle) (hj : s.dev.jobSuspended = false)
    (hw1 : 1 ≤ w) (hw : w ≤ 256) (hn1 : 512 ≤ n) (hn : n ≤ 2 ^ 33) (hb : m.body = imageOpenBody w n)
    (hl : s.host.channels.length < 4) (hk : ∀ c ∈ s.host.channels, c.kind ≠ 1) : openChannel true m s =
      (withChannel s (newChannel s m ⟨1, 0, w, 0, 0, n⟩),
        replyBody 0 (natBe 2 (newChannel s m ⟨1, 0, w, 0, 0, n⟩).id.toNat)) := by
  have hx : openBodyOf m.body = ⟨1, 0, w, 0, 0, n⟩ := by rw [hb, openBodyOf_image hw hn]
  have hshape : openShape m.body = true := by
    have hlen : (imageOpenBody w n).length = 24 := rfl
    have h6 : beAt (imageOpenBody w n) 6 2 = 0 := rfl
    rw [hb, openShape, hlen, h6]
    rfl
  have hstate : kindState s ⟨1, 0, w, 0, 0, n⟩ = true := by simp [kindState, hm, hj]
  have hbusy : targetBusy s ⟨1, 0, w, 0, 0, n⟩ = false := rfl
  have htarget : targetOk s ⟨1, 0, w, 0, 0, n⟩ = true := by simp [targetOk, hn1]; omega
  have hfull : channelsFull s m.session 1 = false := by
    have hle := List.length_filter_le (fun c : Channel => c.session == m.session) s.host.channels
    have hkind : s.host.channels.any (fun c => c.kind == 1) = false := by simpa using hk
    rw [channelsFull, hkind, Bool.or_false, decide_eq_false_iff_not]
    omega
  have hw0 : ¬w = 0 := by omega
  have hw2 : ¬256 < w := by omega
  simp only [openChannel, hx, hshape, hstate, hbusy, htarget, hfull, Bool.not_true, Bool.false_and, Bool.or_false, Bool.and_false,
    hw2, decide_false, beq_eq_false_iff_ne.mpr hw0, Bool.false_eq_true, if_false, guarded_of_free, if_true]
  rfl

theorem id_newChannel {s : State} (m : Msg) (x : OpenBody) (hl : s.host.channels.length < 4) :
    ∀ d ∈ s.host.channels, d.id ≠ (newChannel s m x).id := by
  obtain ⟨-, hn⟩ := ofNat_freeNumber (w := 16) (pick := Config.pick s.fresh) (used := s.host.channels.map (·.id))
    (by rw [List.length_map]; omega)
  rw [List.map_map] at hn
  intro d hd he
  have hid : d.id ∈ s.host.channels.map (·.id) := List.mem_map_of_mem hd
  rw [he] at hid
  exact hn hid

/-! BULK_DATA of an image -/

/-- Between s and t a channel has answered, and may have closed with the image complete: no other channel reads otherwise. -/
def Settled (id : BitVec 16) (s t : State) : Prop :=
  t = { s with port := t.port, host := t.host, image := { s.image with complete := t.image.complete } } ∧
    t.port.discards = s.port.discards ∧ ∀ d, channelOf t id = some d → channelOf s id = some d

theorem Settled.trans {id : BitVec 16} {r s t : State} (h : Settled id r s) (k : Settled id s t) : Settled id r t := by
  obtain ⟨h, hd, hc⟩ := h
  obtain ⟨k, kd, kc⟩ := k
  refine ⟨?_, kd.trans hd, fun d hx => hc d (kc d hx)⟩
  rw [h] at k
  rw [k]

theorem Settled.refl (id : BitVec 16) (s : State) : Settled id s s := ⟨rfl, rfl, fun _ h => h⟩

theorem SentOnly.settled {s t : State} (h : SentOnly s t) (id : BitVec 16) : Settled id s t := by
  have hc := h.channels
  refine ⟨?_, h.discards, fun d hd => ?_⟩
  · unfold SentOnly at h
    rw [h]
  · rwa [channelOf, hc] at hd

theorem closeChannel_settled (reason : Nat) (code : BitVec 16) (s : State) (c : Channel) :
    Settled c.id s (closeChannel reason code s c) := by
  obtain ⟨p, h, he, hc⟩ := closeChannel_eq reason code s c
  have hd : (closeChannel reason code s c).port.discards = s.port.discards :=
    (sendBulk_sentOnly s c 0x23 0 (natBe 2 c.id.toNat ++ natBe 1 reason ++ [0] ++ natBe 2 code.toNat)).discards
  rw [he] at hd ⊢
  refine ⟨rfl, hd, fun d hx => ?_⟩
  rw [channelOf_filter hc] at hx
  cases hx

/-- What follows units on an image channel: once its stream is whole the channel closes. -/
theorem afterUnits_settled {s : State} {id : BitVec 16} (hk : ∀ c, channelOf s id = some c → c.kind = 1) :
    Settled id s (afterUnits s id) := by
  unfold afterUnits
  split
  case h_1 c hc =>
    have hk1 : c.kind = 1 := hk c hc
    have hid : c.id = id := id_of_channelOf hc
    simp only [hk1, show ¬(1 = 2) by decide, if_false, if_true]
    split
    · exact Settled.refl id s
    · subst hid
      exact Settled.trans (s := { s with image := { s.image with complete := true } }) ⟨rfl, rfl, fun _ h => h⟩
        (closeChannel_settled 0 0 _ c)
  case h_2 => exact Settled.refl id s

theorem pauseBulk_settled (id : BitVec 16) (s : State) : Settled id s (pauseBulk s) := by
  unfold pauseBulk
  split
  · exact Settled.trans (s := { s with port := { s.port with pausing := true } }) ⟨rfl, rfl, fun _ h => h⟩
      ((send_sentOnly _ _).settled id)
  · exact Settled.refl id s

theorem channelOf_stored {s : State} {c : Channel} (hc : channelOf s c.id = some c) (u : Nat) (x : DataBody) :
    channelOf (modChannel (storeData s c u x.bytes) c.id (fun _ => settle (withUnits c u x false))) c.id =
      some (settle (withUnits c u x false)) := by
  have hstore : channelOf (storeData s c u x.bytes) c.id = some c := by
    unfold storeData
    split <;> exact hc
  exact (channelOf_modChannel (id := c.id) (f := fun _ => settle (withUnits c u x false)) (fun _ _ => rfl)).trans
    (by rw [hstore]; rfl)

/-- Units that an image channel takes: their bytes in the image store, themselves in the channel, and what follows. -/
theorem takeUnits_settled {s : State} {c : Channel} (hc : channelOf s c.id = some c) (hk : c.kind = 1) (w u : Nat) (x : DataBody)
    (b : Bool) : Settled c.id (modChannel (storeData s c u x.bytes) c.id (fun _ => settle (withUnits c u x false)))
      (takeUnits c w u x b s) := by
  have hwait : mustWait s c = false := by simp [mustWait, hk]
  have hn : (withUnits c u x false).waiting.length - c.waiting.length = 0 := Nat.sub_self _
  unfold takeUnits
  dsimp only
  rw [hwait, hn]
  have hopen := channelOf_stored hc u x
  generalize modChannel (storeData s c u x.bytes) c.id (fun _ => settle (withUnits c u x false)) = s1 at hopen ⊢
  have hack : Settled c.id { s1 with port := { s1.port with rxLevel := s1.port.rxLevel + 1024 * 0 } }
      (if (windowDone (settle (withUnits c u x false)) w || b) = true then
        sendAck { s1 with port := { s1.port with rxLevel := s1.port.rxLevel + 1024 * 0 } } (settle (withUnits c u x false)) w
      else { s1 with port := { s1.port with rxLevel := s1.port.rxLevel + 1024 * 0 } }) := by
    split
    · exact (sendBulk_sentOnly _ _ _ _ _).settled c.id
    · exact Settled.refl _ _
  have h2 := Settled.trans (id := c.id) (r := s1) ⟨rfl, rfl, fun _ h => h⟩ hack
  refine (h2.trans (afterUnits_settled fun d hd => ?_)).trans (pauseBulk_settled _ _)
  obtain ⟨-, -, h3⟩ := h2
  have h4 := h3 d hd
  rw [hopen] at h4
  cases h4
  exact hk

/-! Units received -/

theorem le_lowestFrom (c : Channel) : ∀ f w, w ≤ lowestFrom c f w
  | 0, w => Nat.le_refl w
  | f + 1, w => by
    rw [lowestFrom]
    split
    · exact Nat.le_of_succ_le (le_lowestFrom c f (w + 1))
    · exact Nat.le_refl w

theorem hasUnit_settle {c : Channel} {v : Nat} (h : hasUnit c v = true) : hasUnit (settle c) v = true := by
  have hle := le_lowestFrom c (c.units.length + 1) c.lowest
  simp only [hasUnit, Bool.or_eq_true, decide_eq_true_eq, List.contains_iff_mem] at h ⊢
  rcases h with h | h
  · exact .inl (by show v < 64 * lowestFrom c (c.units.length + 1) c.lowest; omega)
  · by_cases hv : 64 * (settle c).lowest ≤ v
    · exact .inr (List.mem_filter.mpr ⟨h, decide_eq_true hv⟩)
    · exact .inl (Nat.not_le.mp hv)

theorem hasUnit_withUnits {c : Channel} {u : Nat} {x : DataBody} {b : Bool} {i : Nat} (hi : i < x.units) :
    hasUnit (withUnits c u x b) (u + i) = true := by
  by_cases h : hasUnit c (u + i) = true
  · simp only [hasUnit, Bool.or_eq_true, decide_eq_true_eq, List.contains_iff_mem] at h ⊢
    exact h.imp id (List.mem_append_left _)
  · simp only [hasUnit, Bool.or_eq_true, List.contains_iff_mem]
    refine .inr (List.mem_append_right _ (List.mem_filter.mpr ⟨List.mem_map.mpr ⟨i, List.mem_range.mpr hi, Nat.add_comm i u⟩, ?_⟩))
    rw [Bool.not_eq_true']
    exact Bool.eq_false_iff.mpr h

/-! The obligation -/

section Data

variable {s : State} {m : Msg} {c : Channel} {w : Nat} (hk : c.kind = 1) (hs : dataShape m.body = true)
  (hw : absWindow c.lowest (dataBodyOf m.body).window = some w) (hl : c.lowest ≤ w)

include hs hw hl

/-- Data beyond the window is discarded by its units. -/
theorem dataOn_beyond (hb : c.lowest + c.windows ≤ w) : dataOn m c s = discard s (dataBodyOf m.body).units := by
  simp only [dataOn, hs, hw, Bool.not_true, Bool.false_eq_true, if_false, Option.elim_some, unitsAt, Nat.not_lt.mpr hl, hb, if_true]

include hk in
/-- Whole data of an image within the window and LENGTH is taken. -/
theorem dataOn_image (hb : w < c.lowest + c.windows)
    (hg : lengthBroken c (64 * w + (dataBodyOf m.body).first) (dataBodyOf m.body) = false) : dataOn m c s =
      takeUnits c w (64 * w + (dataBodyOf m.body).first) (dataBodyOf m.body) (m.flags.getLsbD 5) s := by
  have hwait : mustWait s c = false := by simp [mustWait, hk]
  have hk2 : ¬(c.kind = 2 ∧ stageRefused s c = true) := by simp [hk]
  simp only [dataOn, hs, hw, Bool.not_true, Bool.false_eq_true, if_false, Option.elim_some, unitsAt, Nat.not_lt.mpr hl,
    Nat.not_le.mpr hb, hg, hk2, hwait, Bool.false_and]

end Data

theorem exec_ackDelayExpiry {s : State} {id : BitVec 16} {w : Nat} {c : Channel} (hc : channelOf s id = some c)
    (hd : c.toHost = false) (hn : windowDone c w = false) (hb : ∃ i < 64, hasUnit c (64 * w + i) = true) :
    exec (.ackDelayExpiry id w) s = .next (sendAck s c w) := by
  have hany : (List.range 64).any (fun i => hasUnit c (64 * w + i)) = true := by
    obtain ⟨i, hi, h⟩ := hb
    exact List.any_eq_true.mpr ⟨i, List.mem_range.mpr hi, h⟩
  have he : exec (.ackDelayExpiry id w) s = execAckDelayExpiry id w s := rfl
  rw [he, execAckDelayExpiry, hc]
  exact if_pos (by rw [hd, hany, hn]; rfl)

/-- Settles O30: an image channel opens, takes its units into the image store, and acknowledges a window. -/
theorem bulkChannelsOpenAndReceive : Obligations.BulkChannelsOpenAndReceive := by
  unfold Obligations.BulkChannelsOpenAndReceive
  intro m s
  refine ⟨fun x w n h hn hm hj hw1 hw hn1 hn2 hb hl hk => ?_, fun c w h hk hd hs hw hl => ⟨fun hb => ?_, fun hb hg hwf => ?_⟩,
    fun id w => ⟨fun c hc hd hn hb => exec_ackDelayExpiry hc hd hn hb, fun hc => ?_⟩⟩
  · have hopen := openChannel_image hm hj hw1 hw hn1 hn2 hb hl hk
    obtain ⟨hran, -⟩ := ran_ranOnce (u := withChannel s (newChannel s m ⟨1, 0, w, 0, 0, n⟩)) (c := 0)
      (rest := natBe 2 (newChannel s m ⟨1, 0, w, 0, 0, n⟩).id.toNat) h hn rfl rfl rfl rfl rfl rfl
    rw [exec_bulkOpen]
    exact ⟨_, newChannel s m ⟨1, 0, w, 0, 0, n⟩, request_ran h hn hopen, congrArg HostLink.channels (ran_host ..), rfl, rfl, rfl,
      rfl, rfl, rfl, rfl, id_newChannel m _ hl, hran⟩
  · have he : exec (.bulkData m) s = .next (bulkMsg 0x21 m (some false) (dataOn m) s) := rfl
    rw [he, bulkMsg_of_onChannel h (by rw [hd]; rfl), dataOn_beyond hs hw hl hb]
    rfl
  · have he : exec (.bulkData m) s = .next (bulkMsg 0x21 m (some false) (dataOn m) s) := rfl
    rw [he, bulkMsg_of_onChannel h (by rw [hd]; rfl), dataOn_image hk hs hw hl hb hg]
    have hc := channelOf_of_onChannel h
    obtain ⟨ht, hdis, hch⟩ := takeUnits_settled hc hk w (64 * w + (dataBodyOf m.body).first) (dataBodyOf m.body) (m.flags.getLsbD 5)
    generalize takeUnits c w (64 * w + (dataBodyOf m.body).first) (dataBodyOf m.body) (m.flags.getLsbD 5) s = t at ht hdis hch
    refine ⟨t, rfl, fun a => ?_, fun i hi d hx => ?_, ?_⟩
    · rw [ht, storeData, if_pos hk]
      exact mget_mwrite hwf a
    · have hd := hch d hx
      rw [channelOf_stored hc] at hd
      cases hd
      exact hasUnit_settle (hasUnit_withUnits hi)
    · rw [hdis, ht, storeData, if_pos hk]
      exact ⟨rfl, rfl, rfl, rfl, rfl⟩
  · have he : exec (.ackDelayExpiry id w) s = execAckDelayExpiry id w s := rfl
    rw [he, execAckDelayExpiry, hc]

end Sys2Proof.Machine
end

section
/-! Bulk channels that the device fills (16, R342, R343; 13, R287): what a BULK_ACK marks and sends, what a timeout sends again, and
what the end of a channel ends. -/

namespace Sys2Proof.Machine
open Sys2Proof.Claims

/-! What an acknowledgement changes -/

/-- Between s and t a channel has gone on: the port, the channels, and what of a context sent or of a chimney record goes on with
them. -/
def StreamOnly (s t : State) : Prop :=
  t = { s with dev := { s.dev with activity := t.dev.activity }, ctx := t.ctx, tele := t.tele, port := t.port, host := t.host } ∧
    t.host.sessions = s.host.sessions

/-- The channel of a number, while it is open, keeps what an acknowledgement has made of it: its window, its acknowledged units,
no timeouts, and at least the units sent that c had. -/
def KeepsAck (id : BitVec 16) (c x : Channel) (s : State) : Prop :=
  ∀ d, channelOf s id = some d → d.lowest = x.lowest ∧ d.acked = x.acked ∧ d.timeouts = 0 ∧ c.sentUnits ≤ d.sentUnits

/-- A step of a stream: it changes what a stream changes, and keeps what acknowledgements have made of its channel. -/
def StreamStep (id : BitVec 16) (s t : State) : Prop := StreamOnly s t ∧ ∀ c x, KeepsAck id c x s → KeepsAck id c x t

section Steps

variable {id : BitVec 16} {r s t : State}

theorem StreamOnly.trans (h : StreamOnly r s) (k : StreamOnly s t) : StreamOnly r t := by
  obtain ⟨h, hs⟩ := h
  obtain ⟨k, ks⟩ := k
  refine ⟨?_, ks.trans hs⟩
  rw [h] at k
  rw [k]

theorem StreamStep.trans (h : StreamStep id r s) (k : StreamStep id s t) : StreamStep id r t :=
  ⟨h.1.trans k.1, fun c x hc => k.2 c x (h.2 c x hc)⟩

theorem StreamStep.refl (id : BitVec 16) (s : State) : StreamStep id s s := ⟨⟨rfl, rfl⟩, fun _ _ h => h⟩

/-- Where the host port stays, so does the channel. -/
theorem streamStep_of_host (h : StreamOnly s t) (hh : t.host = s.host) : StreamStep id s t :=
  ⟨h, fun c x hk d hd => hk d (by rwa [channelOf, hh] at hd)⟩

theorem SentOnly.streamStep (h : SentOnly s t) (id : BitVec 16) : StreamStep id s t := by
  have hc := h.channels
  refine ⟨?_, fun c x hk d hd => hk d (by rwa [channelOf, hc] at hd)⟩
  unfold SentOnly at h
  rw [h]
  exact ⟨rfl, rfl⟩

/-- A change of the channel that keeps its acknowledgements and takes no sent unit back. -/
theorem modChannel_streamStep {f : Channel → Channel} (hf : ∀ d, (f d).id = d.id ∧ (f d).lowest = d.lowest ∧ (f d).acked = d.acked ∧
    (f d).timeouts = d.timeouts) (hs : ∀ d, channelOf s id = some d → d.sentUnits ≤ (f d).sentUnits) :
    StreamStep id s (modChannel s id f) := by
  refine ⟨⟨rfl, rfl⟩, fun c x hk d hd => ?_⟩
  rw [channelOf_modChannel (fun y hy => (hf y).1.trans hy), Option.map_eq_some_iff] at hd
  obtain ⟨y, hy, rfl⟩ := hd
  obtain ⟨hl, ha, ht, hu⟩ := hk y hy
  obtain ⟨-, fl, fa, ft⟩ := hf y
  exact ⟨fl.trans hl, fa.trans ha, ft.trans ht, Nat.le_trans hu (hs y hy)⟩

end Steps

theorem sendUnits_sentOnly (c : Channel) (flags : BitVec 8) : ∀ (f u n : Nat) (s : State), SentOnly s (sendUnits c flags f u n s)
  | 0, _, _, s => SentOnly.refl s
  | f + 1, u, n, s => by
    rw [sendUnits]
    split
    · exact SentOnly.refl s
    · exact (sendBulk_sentOnly _ _ _ _ _).trans (sendUnits_sentOnly c flags f _ _ _)

theorem resend_sentOnly (c : Channel) (w received : Nat) (s : State) : SentOnly s (resend c w received s) :=
  List.foldlRecOn _ _ (motive := SentOnly s) (SentOnly.refl s) (fun _ h _ _ => h.trans (sendUnits_sentOnly ..))

theorem pump_streamStep (s : State) (id : BitVec 16) : StreamStep id s (pump s id) := by
  unfold pump
  split
  case h_1 => exact StreamStep.refl id s
  case h_2 c hc =>
    dsimp only
    split
    case isTrue h =>
      have hsent := sendUnits_sentOnly c 0 (min (unitCount c) (64 * (c.lowest + c.windows)) - c.sentUnits + 1) c.sentUnits
        (min (unitCount c) (64 * (c.lowest + c.windows)) - c.sentUnits) s
      refine (hsent.streamStep id).trans (modChannel_streamStep (fun _ => ⟨rfl, rfl, rfl, rfl⟩) fun d hd => ?_)
      rw [channelOf, hsent.channels] at hd
      cases hd.symm.trans hc
      simp only [Bool.and_eq_true, decide_eq_true_eq] at h
      dsimp only
      omega
    case isFalse => exact StreamStep.refl id s

theorem noteSent_streamStep (id : BitVec 16) (s : State) : StreamStep id s (noteSent s) := by
  unfold noteSent
  repeat' split
  · exact streamStep_of_host ⟨rfl, rfl⟩ rfl
  · exact StreamStep.refl id s
  · exact StreamStep.refl id s

theorem closeChannel_streamStep (reason : Nat) (code : BitVec 16) (s : State) (c : Channel) :
    StreamStep c.id s (closeChannel reason code s c) := by
  obtain ⟨p, h, he, hc⟩ := closeChannel_eq reason code s c
  have hs := closeChannel_sessions reason code s c
  rw [he] at hs ⊢
  refine ⟨⟨rfl, hs⟩, fun _ _ _ d hd => ?_⟩
  rw [channelOf_filter hc] at hd
  cases hd

theorem exportDone_streamStep (id : BitVec 16) (s : State) : StreamStep id s (exportDone s) := by
  unfold exportDone endOperation endContext
  repeat' split
  all_goals exact streamStep_of_host ⟨rfl, rfl⟩ rfl

theorem chimneyDone_streamStep (s : State) (c : Channel) : StreamStep c.id s (chimneyDone s c) := by
  have hstart (s : State) (r : Bytes) : StreamStep c.id s (chimneyStart s c r) := by
    have hmod : StreamStep c.id s (modChannel { s with tele := { s.tele with chimneySending := some r } } c.id
        (fun x => { x with stream := x.stream ++ padUnit r })) :=
      StreamStep.trans (s := { s with tele := { s.tele with chimneySending := some r } }) (streamStep_of_host ⟨rfl, rfl⟩ rfl)
        (modChannel_streamStep (fun _ => ⟨rfl, rfl, rfl, rfl⟩) (fun _ _ => Nat.le_refl _))
    unfold chimneyStart
    dsimp only
    split
    · exact hmod.trans (pump_streamStep _ _)
    · exact hmod
  have hnone : StreamStep c.id s { s with tele := { s.tele with chimneySending := none, chimneyWaiting := none } } :=
    streamStep_of_host ⟨rfl, rfl⟩ rfl
  unfold chimneyDone
  dsimp only
  split
  · exact hnone.trans (hstart _ _)
  · exact hnone

theorem acknowledged_streamStep (s : State) (id : BitVec 16) : StreamStep id s (acknowledged s id) := by
  unfold acknowledged
  split
  case h_1 c hc =>
    have hid : c.id = id := id_of_channelOf hc
    subst hid
    split
    · split
      · refine StreamStep.trans ?_ (closeChannel_streamStep 0 0 _ c)
        split
        · exact exportDone_streamStep _ s
        · exact StreamStep.refl _ s
      · split
        · exact chimneyDone_streamStep s c
        · exact StreamStep.refl _ s
    · exact StreamStep.refl _ s
  case h_2 => exact StreamStep.refl id s

/-! BULK_ACK -/

theorem le_ackLowest (c : Channel) : ∀ f w, w ≤ ackLowest c f w
  | 0, w => Nat.le_refl w
  | f + 1, w => by
    rw [ackLowest]
    split
    · exact Nat.le_of_succ_le (le_ackLowest c f (w + 1))
    · exact Nat.le_refl w

theorem lowest_le_takeAck (c : Channel) (w r : Nat) : c.lowest ≤ (takeAck c w r).lowest := le_ackLowest _ _ _

/-- Every unit sent whose bit is 1 is acknowledged. -/
theorem takeAck_acked {c : Channel} {w r i : Nat} (hi : i < 64) (hb : r.testBit i = true) (hs : 64 * w + i < c.sentUnits) :
    64 * w + i < 64 * (takeAck c w r).lowest ∨ 64 * w + i ∈ (takeAck c w r).acked := by
  have hle := lowest_le_takeAck c w r
  by_cases hl : 64 * (takeAck c w r).lowest ≤ 64 * w + i
  · refine .inr (List.mem_filter.mpr ⟨?_, decide_eq_true hl⟩)
    by_cases ha : 64 * w + i ∈ c.acked
    · exact List.mem_append_left _ ha
    · refine List.mem_append_right _ (List.mem_filter.mpr ⟨List.mem_map.mpr ⟨i, ?_, rfl⟩, ?_⟩)
      · exact List.mem_filter.mpr ⟨List.mem_range.mpr hi, hb⟩
      · have hlow : 64 * c.lowest ≤ 64 * w + i := by omega
        simp [hs, ha, hlow]
  · exact .inl (by omega)

/-- An acknowledgement of a window: its channel takes it, and sends and ends what it lets. -/
theorem ackOn_streamStep {s : State} {m : Msg} {c : Channel} {w : Nat} (hc : channelOf s c.id = some c) (hl : m.body.length = 16)
    (h2 : beAt m.body 2 2 = 0) (hw : absWindow c.lowest (beAt m.body 4 4) = some w) :
    StreamOnly s (ackOn m c s) ∧ KeepsAck c.id c (takeAck c w (beAt m.body 8 8)) (ackOn m c s) := by
  have hone : StreamOnly s (modChannel s c.id (fun c => takeAck c w (beAt m.body 8 8))) ∧
      KeepsAck c.id c (takeAck c w (beAt m.body 8 8)) (modChannel s c.id (fun c => takeAck c w (beAt m.body 8 8))) := by
    refine ⟨⟨rfl, rfl⟩, fun d hd => ?_⟩
    rw [channelOf_modChannel (f := fun c => takeAck c w (beAt m.body 8 8)) (fun _ h => h), hc, Option.map_some] at hd
    cases hd
    exact ⟨rfl, rfl, rfl, Nat.le_refl _⟩
  have hon : ackOn m c s = acknowledged (noteSent (if maySend s c then pump (resend c w (beAt m.body 8 8)
      (modChannel s c.id (fun c => takeAck c w (beAt m.body 8 8)))) c.id
        else modChannel s c.id (fun c => takeAck c w (beAt m.body 8 8)))) c.id := by
    simp only [ackOn, hl, h2, hw, ne_eq, not_true_eq_false, or_self, if_false]
  rw [hon]
  generalize modChannel s c.id (fun c => takeAck c w (beAt m.body 8 8)) = s1 at hone ⊢
  have hsend : StreamStep c.id s1 (if maySend s c then pump (resend c w (beAt m.body 8 8) s1) c.id else s1) := by
    split
    · exact ((resend_sentOnly ..).streamStep _).trans (pump_streamStep _ _)
    · exact StreamStep.refl _ _
  have hstep := (hsend.trans (noteSent_streamStep _ _)).trans (acknowledged_streamStep _ _)
  exact ⟨hone.1.trans hstep.1, hstep.2 _ _ hone.2⟩

/-! Timeouts and the end of a channel -/

/-- The last message of a window is sent again as one message. -/
theorem sendUnits_lastMessage (c : Channel) (flags : BitVec 8) (w : Nat) (s : State) :
    sendUnits c flags 2 (lastMessage c w).1 (lastMessage c w).2 s =
      sendBulk s c 0x21 flags (dataBody c (lastMessage c w).1 (lastMessage c w).2) := by
  have hn : (lastMessage c w).2 ≠ 0 := Nat.succ_ne_zero _
  have hk : min (min (lastMessage c w).2 8) (64 - (lastMessage c w).1 % 64) = (lastMessage c w).2 := by
    unfold lastMessage
    dsimp only
    omega
  rw [sendUnits, if_neg hn]
  dsimp only
  rw [hk, Nat.sub_self, sendUnits, if_pos rfl]

section Retransmission

variable {s : State} {id : BitVec 16} {w : Nat} {c : Channel} (hc : channelOf s id = some c) (hd : c.toHost = true)
  (hl : c.lowest ≤ w) (hs : 64 * w < c.sentUnits)

include hc hd hl hs

theorem exec_retxTimeout : exec (.retxTimeout id w) s =
    if s.port.retryLimit.toNat ≤ c.timeouts + 1 then .next (endChannel 2 s c)
    else .next (if maySend s c then sendUnits c 0x20 2 (lastMessage c w).1 (lastMessage c w).2
      (modChannel s id (fun c => { c with timeouts := c.timeouts + 1 }))
      else modChannel s id (fun c => { c with timeouts := c.timeouts + 1 })) := by
  have he : exec (.retxTimeout id w) s = execRetxTimeout id w s := rfl
  rw [he, execRetxTimeout, hc]
  refine if_neg ?_
  simp [hd]
  omega

end Retransmission

/-- The end of a channel ends the operation of the context that runs on it. -/
theorem afterChannel_ends (c : Channel) (s : State) : (afterChannel c s).host = s.host ∧ (afterChannel c s).mem = s.mem ∧
    (c.kind = 3 → s.ctx.inProgress = true → (afterChannel c s).ctx.result = 8 ∧ (afterChannel c s).ctx.inProgress = false ∧
      (afterChannel c s).dev.activity = 0) ∧
    (c.kind ≠ 3 → (afterChannel c s).ctx = s.ctx ∧ (afterChannel c s).dev = s.dev) := by
  by_cases h3 : c.kind = 3
  · cases hp : s.ctx.inProgress <;> simp [afterChannel, endOperation, endContext, h3, hp]
  · by_cases h4 : c.kind = 4 <;> simp [afterChannel, h3, h4]

/-- Settles O31: what an acknowledgement leaves of its channel, the message that a timeout sends, and the end of a channel. -/
theorem bulkChannelsAcknowledgeAndClose : Obligations.BulkChannelsAcknowledgeAndClose := by
  unfold Obligations.BulkChannelsAcknowledgeAndClose
  intro m s
  refine ⟨fun c w h hd hl h2 hw => ?_, fun id w c hc hd hl hs => ⟨fun hr hk => ?_, fun hr => ?_⟩, fun c h hl hb => ?_⟩
  · have he : exec (.bulkAck m) s = .next (bulkMsg 0x22 m (some true) (ackOn m) s) := rfl
    rw [he, bulkMsg_of_onChannel h (by rw [hd]; rfl)]
    obtain ⟨⟨ho, hs⟩, hk⟩ := ackOn_streamStep (channelOf_of_onChannel h) hl h2 hw
    refine ⟨_, rfl, fun i hi hb hs d hx => ?_, fun d hx => ?_, ?_, ?_, hs, ?_⟩
    · obtain ⟨hlow, hack, -⟩ := hk d hx
      rw [hlow, hack]
      exact takeAck_acked hi hb hs
    · obtain ⟨hlow, -, htime, hsent⟩ := hk d hx
      exact ⟨htime, hlow ▸ lowest_le_takeAck c w _, hsent⟩
    all_goals rw [ho]
  · rw [exec_retxTimeout hc hd hl hs, if_neg (by omega), if_pos (by simp [maySend, hk]), sendUnits_lastMessage]
  · rw [exec_retxTimeout hc hd hl hs, if_pos hr]
    obtain ⟨⟨ho, hsess⟩, hch⟩ := endChannel_only 2 s c
    exact ⟨_, rfl, hch, by rw [ho], hsess⟩
  · have he : exec (.bulkClose m) s = .next (bulkMsg 0x23 m none (fun c s =>
        if m.body.length = 6 ∧ beAt m.body 3 1 = 0 then afterChannel c (dropChannel s c.id) else s) s) := rfl
    rw [he, bulkMsg_of_onChannel h rfl, if_pos ⟨hl, hb⟩]
    obtain ⟨hhost, hmem, h3, hn⟩ := afterChannel_ends c (dropChannel s c.id)
    exact ⟨_, rfl, congrArg HostLink.channels hhost, h3, hn, hmem,
      (congrArg HostLink.sessions hhost : _ = (dropChannel s c.id).host.sessions)⟩

end Sys2Proof.Machine
end

section
/-! Priority flow control, PTP and PPS (16, R329 to R331; 07, R128, R133; 19, R388): what each frame, edge and timeout writes of the
port and of the time base. -/

namespace Sys2Proof.Machine
open Sys2Proof.Claims

/-! Pauses -/

/-- Pauses of several priorities, one after another, set the quanta of each of them. -/
theorem pausePriorities_eq (q : Nat → BitVec 16) : ∀ (l : List Nat) (s : State), swf 0 s.port.paused = true → ∃ x,
    l.foldl (fun s p => pausePriority (q p) s p) s = { s with port := { s.port with paused := x } } ∧
      ∀ i, sget 0 x i = if i ∈ l then q i else sget 0 s.port.paused i
  | [], s, _ => ⟨s.port.paused, rfl, fun i => by simp⟩
  | p :: l, s, hw => by
    obtain ⟨x, hx, hi⟩ := pausePriorities_eq q l (pausePriority (q p) s p) (sput_swf hw)
    refine ⟨x, hx, fun i => ?_⟩
    rw [hi]
    by_cases hl : i ∈ l
    · rw [if_pos hl, if_pos (List.mem_cons_of_mem p hl)]
    · rw [if_neg hl]
      refine (sget_sput hw).trans ?_
      by_cases hp : i = p
      · rw [if_pos hp, if_pos (hp ▸ List.mem_cons_self ..), hp]
      · rw [if_neg hp, if_neg (by simp [hp, hl])]

theorem mem_honoured {s : State} {enables : BitVec 8} {p : Nat} (hp : p < 8) :
    p ∈ honoured s enables ↔ (enables.getLsbD p && s.port.pfcConfig.getLsbD p) = true := by
  rw [honoured, List.mem_filter, List.mem_range]
  exact ⟨fun h => h.2, fun h => ⟨hp, h⟩⟩

/-- Once the pauses have changed, the frames whose priority is paused no more are sent. -/
theorem releaseTx_pausesOnly (s : State) (x : Sparse (BitVec 16)) :
    PausesOnly s (releaseTx { s with port := { s.port with paused := x } }) := rfl

section Port

variable {s : State} (hr : portRuns s = true) (hp : pfcEnabled s = true)

include hr hp

theorem exec_pfcFrame {f : Frame} (hl : f.length ≤ 9216) (hf : f.fcsOk = true) (enables : BitVec 8) (quanta : List (BitVec 16)) :
    exec (.pfcFrame f enables quanta) s =
      .next (releaseTx ((honoured s enables).foldl (fun s p => pausePriority (quanta.getD p 0) s p) s)) := by
  have he : exec (.pfcFrame f enables quanta) s = execPfcFrame f enables quanta s := rfl
  rw [he, execPfcFrame, hr, hp, hf, decide_eq_true hl]
  rfl

theorem exec_pfcRepeat : exec .pfcRepeat s = .next (if 25165824 ≤ s.port.rxLevel then
    { s with port := { s.port with pausing := true, tx := s.port.tx ++ [.pfc (bulkPcp s) 0xFFFF] } } else s) := by
  have he : exec .pfcRepeat s = execPfcRepeat s := rfl
  rw [he, execPfcRepeat, hr, hp]
  by_cases h : 25165824 ≤ s.port.rxLevel
  · rw [if_pos (by simpa using h), if_pos h]
    rfl
  · rw [if_neg (by simpa using h), if_neg h]

theorem exec_pfcResume (n : Nat) : exec (.pfcResume n) s = .next (
    if s.port.pausing ∧ s.port.rxLevel - n < 16777216 then { s with port := { s.port with
      rxLevel := s.port.rxLevel - n, pausing := false, tx := s.port.tx ++ [.pfc (bulkPcp s) 0] } }
    else { s with port := { s.port with rxLevel := s.port.rxLevel - n } }) := by
  have he : exec (.pfcResume n) s = execPfcResume n s := rfl
  rw [he, execPfcResume]
  dsimp only
  by_cases h : s.port.pausing ∧ s.port.rxLevel - n < 16777216
  · rw [if_pos (by simpa using h), if_pos h, hr, hp]
    rfl
  · rw [if_neg (by simpa using h), if_neg h]

end Port

/-! The master's sources -/

section Master

variable {s : State}

theorem usesPtp_of_source (hm : s.time.master = true) (hs : s.time.source = 1) : usesPtp s = true ∧ usesPps s = false := by
  simp [usesPtp, usesPps, hm, hs]

theorem usesPps_of_source (hm : s.time.master = true) (hs : s.time.source = 2) : usesPps s = true := by
  simp [usesPps, hm, hs]

theorem uses_of_not_master (hm : s.time.master = false) : usesPtp s = false ∧ usesPps s = false := by
  simp [usesPtp, usesPps, hm]

end Master

/-- An Announce of the PTP timescale: a master under PTP locks on it. -/
theorem ptpAnnounce_found {s : State} (hl : linksPowered s = true) : let t := ptpAnnounce true s
    t.port.ptpReceiving = true ∧
      (s.time.master = true → s.time.source = 1 → t.time.lock = 2 ∧ t.time.sourcePresent = true) ∧
      t.time.now = s.time.now ∧ ClockOnly s t := by
  simp only [ptpAnnounce, if_true]
  split
  · refine ⟨rfl, fun _ _ => ⟨?_, rfl⟩, rfl, rfl⟩
    exact if_pos hl
  · next h =>
    refine ⟨rfl, fun hm hs => absurd ?_ h, rfl, rfl⟩
    obtain ⟨hp, hn⟩ := usesPtp_of_source hm hs
    rw [hp, hn]
    rfl

/-- A Sync whose times are known: they are noted, and the delay of the path is asked for. -/
theorem ptpSynced_writes (origin rx : Nat) (s : State) : let t := ptpSynced origin rx s
    t.time = { s.time with ptpSync := some (origin, rx), ptpAwait := none } ∧
      t.port = (send s (.ptpDelayReq (sendVlan s) (ptpPcp s) s.time.now)).port ∧ ClockOnly s t := by
  refine ⟨send_time .., send_port_congr
    (a := { s with time := { s.time with ptpSync := some (origin, rx), ptpAwait := none } }) (s := s) rfl _, ?_⟩
  obtain ⟨p, hp⟩ := send_eq { s with time := { s.time with ptpSync := some (origin, rx), ptpAwait := none } }
    (.ptpDelayReq (sendVlan s) (ptpPcp s) s.time.now)
  rw [ptpSynced, hp]
  rfl

section Running

variable {s : State} (ho : s.dev.mode ≠ .off) (hb : s.dev.mode ≠ .boot)

include ho hb

theorem exec_ptpMessage {f : Frame} (hf : frameTaken s f = true) (hc : s.port.config.getLsbD 3 = true) (p : Ptp) :
    exec (.ptpMessage f p) s = .next (ptpTake p s) := by
  have he : exec (.ptpMessage f p) s = execPtpMessage f p s := rfl
  have hr : portRuns s = true := by simp [portRuns, ho, hb]
  rw [he, execPtpMessage, hr, hf, hc]
  rfl

theorem exec_timePpsEdge (hp : usesPps s = true) (early : Int) :
    exec (.timePpsEdge early) s = if 100000 < early.natAbs then .next s else .next (acceptPps early s) := by
  have he : exec (.timePpsEdge early) s = execTimePpsEdge early s := rfl
  rw [he, execTimePpsEdge]
  simp only [ho, hb, hp, Bool.not_true, Bool.false_eq_true, false_or]

theorem exec_ppsTimeout (hp : usesPps s = true) :
    exec .ppsTimeout s = .next (sourceLost { s with time := { s.time with lastPps := none } }) := by
  have he : exec .ppsTimeout s = execPpsTimeout s := rfl
  rw [he, execPpsTimeout]
  simp only [ho, hb, hp, Bool.not_true, Bool.false_eq_true, or_self, if_false]

/-- A lost transmitter: a master under PTP is in holdover. -/
theorem exec_ptpSourceLoss (hl : linksPowered s = true) : ∃ t, exec .ptpSourceLoss s = .next t ∧ t.port.ptpReceiving = false ∧
    (s.time.master = true → s.time.source = 1 → t.time.lock = 3 ∧ t.time.refLost = true) ∧
    (s.time.master = false → t.time.lock = s.time.lock) ∧ ClockOnly s t := by
  have he : exec .ptpSourceLoss s = execPtpSourceLoss s := rfl
  rw [he, execPtpSourceLoss]
  simp only [ho, hb, or_self, if_false]
  split
  case isTrue h =>
    refine ⟨_, rfl, rfl, fun _ _ => ⟨if_pos hl, rfl⟩, fun hm => ?_, rfl⟩
    rw [(uses_of_not_master hm).1] at h
    exact absurd h (by decide)
  case isFalse h => exact ⟨_, rfl, rfl, fun hm hs => absurd (usesPtp_of_source hm hs).1 h, fun _ => rfl, rfl⟩

end Running

/-- An accepted edge of a master under PPS takes a pending TAI_SET, or else the second that it marks. -/
theorem acceptPps_pps {s : State} (hs : s.time.source = 2) (hl : linksPowered s = true) (early : Int) :
    let t := acceptPps early s
    t.time.now = clock64 (s.time.taiPending.elim (edgeSecond early s) (·.toNat)) ∧ t.time.lastPps = some t.time.now ∧
      t.time.taiPending = none ∧ t.time.lock = 2 ∧ t.time.sourcePresent = true ∧ ClockOnly s t := by
  have hnow : ((s.time.taiPending.map (·.toNat)).getD (edgeSecond early s)) =
      s.time.taiPending.elim (edgeSecond early s) (·.toNat) := by
    cases s.time.taiPending <;> rfl
  simp only [acceptPps, hs, if_true, true_or, hnow]
  exact ⟨rfl, rfl, rfl, if_pos hl, rfl, rfl⟩

/-- Settles O33: the pauses, the pause that the device asks for, and the sources of the master one by one. -/
theorem flowControlAndPtp : Obligations.FlowControlAndPtp := by
  unfold Obligations.FlowControlAndPtp
  refine ⟨fun s hr hp hw => ⟨fun f enables quanta hl hf => ?_, fun p => ?_, fun h => ?_, fun h => ?_, exec_pfcResume hr hp⟩,
    fun s ho hb hl => ⟨fun f hf hc => ⟨fun d hd x => ?_, ?_, fun hy origin rx => ?_⟩,
      fun hm hs => ⟨fun early he => ?_, fun early he => ?_, ?_⟩, fun hm => ⟨fun early => ?_, ?_⟩, ?_⟩⟩
  · obtain ⟨x, hx, hi⟩ := pausePriorities_eq (fun p => quanta.getD p 0) (honoured s enables) s hw
    refine ⟨_, exec_pfcFrame hr hp hl hf enables quanta, ?_⟩
    rw [hx]
    refine ⟨releaseTx_pausesOnly s x, fun p hp8 => (hi p).trans ?_⟩
    simp only [mem_honoured hp8]
  · exact ⟨_, rfl, releaseTx_pausesOnly s _, fun q _ => sget_sput hw⟩
  · rw [exec_pfcRepeat hr hp, if_pos h]
  · rw [exec_pfcRepeat hr hp, if_neg (by omega)]
  · rw [exec_ptpMessage ho hb hf hc]
    exact congrArg Host.Outcome.next (if_neg (by simpa using hd))
  · refine ⟨_, exec_ptpMessage ho hb hf hc _, ?_⟩
    have ht : ptpTake (.announce s.time.ptpDomain true) s = ptpAnnounce true s := if_pos (beq_self_eq_true _)
    rw [ht]
    exact ptpAnnounce_found hl
  · refine ⟨_, exec_ptpMessage ho hb hf hc _, ?_⟩
    have ht : ptpTake (.sync s.time.ptpDomain false origin rx) s = ptpSynced origin rx s :=
      if_pos (by simp [hy])
    rw [ht]
    exact ptpSynced_writes origin rx s
  · rw [exec_timePpsEdge ho hb (usesPps_of_source hm hs), if_neg (by omega)]
    exact ⟨_, rfl, acceptPps_pps hs hl early⟩
  · rw [exec_timePpsEdge ho hb (usesPps_of_source hm hs), if_pos he]
  · exact ⟨_, exec_ppsTimeout ho hb (usesPps_of_source hm hs), rfl, if_pos hl, rfl, rfl, rfl, rfl⟩
  · exact if_pos (by simp [(uses_of_not_master hm).2])
  · exact if_pos (by simp [(uses_of_not_master hm).2])
  · exact exec_ptpSourceLoss ho hb hl

end Sys2Proof.Machine
end
